-- ==== Sys2Proof/Word.lean ====
section
/-! DEFINITION. The word types of the GK-8512 model and their plainest arithmetic. -/

namespace Sys2Proof

/-- An object word (R56). -/
abbrev Word := BitVec 32
/-- One byte of a packet, a frame or a reply. -/
abbrev Byte := BitVec 8

/-- Bits `[lo + n - 1 : lo]` of a word, as a number. -/
abbrev fld (w : Word) (lo n : Nat) : Nat := (w.toNat >>> lo) % 2 ^ n
/-- Bit `i` of a word. -/
abbrev bit (w : Word) (i : Nat) : Bool := w.getLsbD i
/-- The number `v` placed at bit `lo` of a word. -/
abbrev at_ (lo v : Nat) : Word := BitVec.ofNat 32 (v * 2 ^ lo)
/-- 1 for true, 0 for false. -/
abbrev b2n (b : Bool) : Nat := if b then 1 else 0
/-- A mask of `n` ones from bit `lo`. -/
abbrev ones (lo n : Nat) : Word := at_ lo (2 ^ n - 1)
/-- The value of a two's-complement field of `n` bits. -/
abbrev sgn (n v : Nat) : Int := (BitVec.ofNat n v).toInt

end Sys2Proof
end

