-- ==== Sys2Proof/Syntax.lean ====
section
/-! DEFINITION. The commands of the block: one constructor of `Instr` per row of spec/opcode_table.json, with the
structured operands a row needs. Message formats that the manual leaves to other documents (PLOAM, BWmap, XGEM, LLDP,
WM-4410 payloads) are structured operands here: see the assumption log. -/

namespace Sys2Proof

/-- The two optical channels (Table SCOPE-2). -/
inductive Chan | a | b
deriving DecidableEq, Repr

/-- The two command transports (R36). -/
inductive Transport | twi | alanov
deriving DecidableEq, Repr

/-- The test-port instructions that are always available (R414). -/
inductive TapInstr | bypass | sample | extest | idcode | clamp | highz
deriving DecidableEq, Repr

/-- An instruction that comes into the test port's instruction register, and the bits then shifted through the data register
that it selects (R414). -/
structure TapScan where
  instr : TapInstr
  scan : List Bool
deriving DecidableEq, Repr

/-- A transmitter whose TEC has failed to lock in time; `lost` says that its lock was lost in SYNC (R115). -/
structure TecCase where
  c : Chan
  lost : Bool
deriving DecidableEq, Repr

/-- What the monitors measure: VIN_12V in mV, the die temperature in tenths of a degree (R497). -/
structure Conditions where
  vin : BitVec 16
  die : BitVec 12
deriving DecidableEq, Repr

/-- An accepted-format command packet's fields (Table CMD-1), after the checks of R48. -/
structure Req where
  t : Transport
  seq : BitVec 16
  flags : BitVec 8
  addr : BitVec 32
  param : BitVec 32
  payload : List Byte
deriving DecidableEq, Repr

/-- A burst profile (Table VONU-9). -/
structure Profile where
  version : BitVec 4
  rate : BitVec 2
  fec : Bool
  valid : Bool
  fromHost : Bool
  preLen : BitVec 8
  preRep : BitVec 8
  delLen : BitVec 8
  preamble : BitVec 64
  delimiter : BitVec 64
deriving DecidableEq, Repr

/-- A wavelength pair as a Channel_Profile message identifies it (R164). -/
inductive Pair | ofChan (c : Chan) | other
deriving DecidableEq, Repr

/-- The downstream PLOAM messages of Table VONU-5, with the fields the manual names. -/
inductive PloamBody
  | burstProfile (idx : BitVec 2) (p : Profile)
  | assignOnuId (sn : BitVec 64) (onuId : BitVec 10)
  | rangingTime (value : BitVec 32) (relative : Bool) (ackRequired : Bool)
  | deactivateOnuId
  | disableSerialNumber (sn : Option (BitVec 64)) (disable : Bool)
  | requestRegistration
  | assignAllocId (allocId : BitVec 14) (release : Bool)
  | keyControl (k : BitVec 2) (generate : Bool)
  | sleepAllow (value : Byte) (ackRequired : Bool)
  | systemProfile (content : List Byte)
  | channelProfile (id : Byte) (pair : Pair)
  | tuningControl (id : Byte) (sfc : BitVec 51)
  | protectionControl
  | changePowerLevel
  | adjustTxWavelength
  | calibrationRequest
  | unknown (type : Byte)
deriving DecidableEq, Repr

/-- A downstream PLOAM message: the ONU-ID it is addressed to (1,023 is broadcast), its content and its MIC. -/
structure PloamMsg where
  onuId : BitVec 10
  body : PloamBody
  mic : BitVec 64
deriving DecidableEq, Repr

/-- FEC figures of one downstream frame (R92, Table CH-9). -/
structure FecStat where
  total : Nat
  corrected : Nat
  bits : Nat
  uncorrectable : Nat
  iterations : Nat
deriving DecidableEq, Repr

/-- One downstream frame at the predicted PSBd: PSync bit errors, the SFC where its structure is HEC-valid, whether
HLend is HEC-valid and whether it lies in FEC-marked bits (R91), the FEC figures, the PLOAMd messages and the TIME count at the PSBd (R97, R104, R361). -/
structure DsFrame where
  psyncErrs : Nat
  sfc : Option (BitVec 51)
  hlendOk : Bool
  hlendMarked : Bool
  fec : FecStat
  ploam : List PloamMsg
  timeCount : BitVec 64
deriving DecidableEq, Repr

/-- The header check of an XGEM frame (R105). -/
inductive Hec | good | corrected | bad
deriving DecidableEq, Repr

/-- A downstream XGEM frame (R105 to R107): `marked` says that a payload byte lies in FEC-marked bits, `hdrMarked` that
the header does (R91). `data` is the payload as on the line. -/
structure XgemRx where
  hec : Hec
  hdrMarked : Bool
  marked : Bool
  idle : Bool
  offset : Nat
  port : BitVec 16
  keyIndex : BitVec 2
  first : Bool
  last : Bool
  data : List Byte
deriving DecidableEq, Repr

/-- One allocation structure of a BWmap partition (R168 to R171). `start` counts bit periods of R145 from the start of
the upstream frame; `size` is GrantSize in bytes; `cont` marks a continuation of the previous allocation of the ONU;
`marked` says that a field of it lies in FEC-marked bits (R91). -/
structure AllocStruct where
  allocId : BitVec 14
  start : Nat
  size : Nat
  dbru : Bool
  ploamu : Bool
  profile : BitVec 2
  cont : Bool
  snGrant : Bool
  preassigned : Nat
  marked : Bool
deriving DecidableEq, Repr

/-- A completion code of an Acknowledgement, by its name in the manual. -/
inductive AckCode | ok | parameterError | unknownType
deriving DecidableEq, Repr

/-- An upstream PLOAM message, by what it says (R153 to R155, R403). -/
inductive UpMsg
  | acknowledge (code : AckCode)
  | registration (regId : BitVec 288)
  | keyReport (k : BitVec 2) (wrapped : Option (List Byte))
  | tuningResponse (accepted : Bool)
  | serialNumber (sn : BitVec 64)
deriving DecidableEq, Repr

/-- The samples of CH_MON (Table CH-8). -/
structure MonSample where
  rxPower : BitVec 16
  txPower : BitVec 16
  laserBias : BitVec 16
  laserTemp : BitVec 16
  tecCurrent : BitVec 16
  apdBias : BitVec 16
deriving DecidableEq, Repr

/-- A request of one requester to the pool allocator (R277, R279). -/
inductive PoolWant | size (bytes : Nat) | pool (p : Nat)
deriving DecidableEq, Repr

/-- A requester's owner class with its request. -/
structure PoolReq where
  cls : BitVec 6
  want : PoolWant
deriving DecidableEq, Repr

/-- An ALIGN block (Table ALINK-2); `bipErrs` is the number of BIP-8 errors it shows, `skew` the lane's skew in UI, `shErrs`
the number of invalid sync headers that the lane met since its block before. -/
structure AlignBlk where
  logical : BitVec 4
  period : BitVec 16
  bipErrs : Nat
  rxReady : Bool
  repairReq : BitVec 4
  skew : Nat
  shErrs : Nat
deriving DecidableEq, Repr

/-- How an Alanov frame ends: whole, cut short (check 6 of R315), cut short by a DESC block; `noDesc`: data blocks that
arrive without a DESC, outside a frame (R306, R315). -/
inductive FrameEnd | whole | cutShort | cutByDesc | noDesc
deriving DecidableEq, Repr

/-- A frame on the Alanov Link: its DESC (Table ALINK-4) and data. `bytes` holds the L bytes and the 4 CRC bytes; `afterIdle`
tells whether an IDLE block stood between the data blocks before it and it. -/
structure AlFrame where
  desc : BitVec 56
  ending : FrameEnd
  afterIdle : Bool
  bytes : List Byte
deriving DecidableEq, Repr

/-- An uncorrectable memory error (R427): `index` names the flow, cell, queue, counter, pair, slot or record concerned. In
region 6, a BWmap buffer is named by its channel, a hatch list by an index below 64, another table by one above. In region
10, `pool` names a part of Table BPM-2: 0 a live counter, 1 a word of the stipple bank, 2 a jitter buffer (`word` is the
position), 3 the OMCI ring, 4 the event mirror, others the rest. In region 11, it names an MRAM region: 0 and 1 the
banks, 2 the configuration store, 3 the log. -/
structure EccErr where
  region : BitVec 4
  addrMismatch : Bool
  byScrub : Bool
  word : BitVec 26
  pool : Nat
  index : Nat
  chan : Option Chan
deriving DecidableEq, Repr

/-- A control state machine of R434. -/
inductive Ctl
  | receiver (c : Chan)
  | transmitter (c : Chan)
  | burin (c : Chan)
  | shadow (c : Chan)
  | activation (v : BitVec 9) (c : Chan)
  | link
  | port (e : BitVec 2)
  | allocator (pool : Nat)
deriving DecidableEq, Repr

/-- What the scrub and comparison slices of one tick find (R198, R236, R425, R428): single-bit errors corrected in a
region, a configuration sixteenth that misses its CRC, a rule entry that differs from its golden image, a rule entry whose
stored bits have flipped without yet being compared, a twin entry that differs (tables of Table BURIN-8). -/
inductive Finding
  | corrected (region : BitVec 4) (n : Nat)
  | crc (block : Byte) (sixteenth : BitVec 4)
  | rule (plate : Bool) (e : BitVec 14)
  | upset (plate : Bool) (e : BitVec 14)
  | twin (c : Chan) (table : BitVec 2) (index : BitVec 13)
deriving DecidableEq, Repr

/-- The command and event packets of the block: one constructor per row of the opcode table. -/
inductive Instr
  -- host opcodes (Table CMD-4)
  | read (r : Req)
  | write (r : Req)
  | modify (r : Req)
  | bulkRead (r : Req)
  | tableLoad (r : Req)
  | objectWordWrite (addr val : Word)
  | commitPlate (r : Req)
  | commitHatch (r : Req)
  | commitProfile (r : Req)
  | vonuCreate (r : Req)
  | vonuEnable (r : Req)
  | vonuRetire (r : Req)
  | subscribe (r : Req)
  | fetch (r : Req)
  | ack (r : Req)
  | vote (r : Req)
  | unvote (r : Req)
  | sleep (r : Req)
  | imageBegin (r : Req)
  | imageData (r : Req)
  | imageVerify (r : Req)
  | imageActivate (r : Req)
  | loopSet (r : Req)
  | prbsCtl (r : Req)
  | prbsRead (r : Req)
  | resync (r : Req)
  | servoMode (r : Req)
  | timeStep (r : Req)
  | timeRate (r : Req)
  -- transports
  | twiWriteTransaction (target : BitVec 7) (bytes : List Byte)
  | twiReadTransaction (target : BitVec 7) (count : Nat)
  | twiBusRecovery
  | twiWriteAbandoned
  | managementFrame (bytes : List Byte)
  | interimReply (t : Transport) (seq : BitVec 16)
  | chainTimeout (t : Transport)
  | atTickEffect
  | tickBoundEffect
  -- the tick and its work
  | tick (interval : Nat) (found : List Finding)
  | refFallbackTick (found : List Finding)
  | workWindowClose (cls : BitVec 4) (n : BitVec 64) (complete : Bool) (items : BitVec 24)
  | stippleCopy (complete : Bool)
  | stippleCopyComplete
  | cfgCrcRewrite (block : Byte) (sixteenth : BitVec 4)
  | crossingDisturbance (group : BitVec 4) (index : BitVec 12) (diff : Byte)
  | crossingFifoFault (group : BitVec 4) (index : BitVec 12) (overflow : Bool)
  | firmwareResync (group : BitVec 4)
  -- optical channels
  | chRestart (c : Chan)
  | resetEq (c : Chan)
  | chEnable (c : Chan)
  | chDisable (c : Chan)
  | cdrLock (c : Chan)
  | cdrLockLoss (c : Chan)
  | cdrRelockTimeout (c : Chan)
  | psbdSighting (c : Chan) (pos : Nat) (errs : Nat) (sfc : Option (BitVec 51))
  | candidatePredictedPsbd (c : Chan) (pos : Nat) (f : DsFrame)
  | downstreamFrame (c : Chan) (f : DsFrame)
  | xgemFrameReceived (c : Chan) (x : XgemRx)
  | xgemReassemblyTimeout (c : Chan) (port : BitVec 16)
  | losAssert (c : Chan)
  | losClear (c : Chan)
  | channelLossTimeout (c : Chan)
  | sdSfWindowEnd (c : Chan)
  | eqConvergedChange (c : Chan) (v : Bool)
  | tecLockChange (c : Chan) (v : Bool)
  | tecFault (e : TecCase)
  | monitorSample (c : Chan) (m : MonSample)
  -- PLOAM service
  | burstProfile (c : Chan)
  | assignOnuId (c : Chan)
  | rangingTime (c : Chan)
  | deactivateOnuId (c : Chan)
  | disableSerialNumber (c : Chan)
  | requestRegistration (c : Chan)
  | assignAllocId (c : Chan)
  | keyControl (c : Chan)
  | sleepAllow (c : Chan)
  | systemProfile (c : Chan)
  | channelProfile (c : Chan)
  | tuningControl (c : Chan)
  | protectionControl (c : Chan)
  | changePowerLevel (c : Chan)
  | adjustTxWavelength (c : Chan)
  | calibrationRequest (c : Chan)
  | unknownPloamType (c : Chan)
  | tuningSuperframe (v : BitVec 9)
  | tuningTargetSync (v : BitVec 9)
  | to1Expiry (c : Chan) (v : BitVec 9)
  | to2Expiry (c : Chan) (v : BitVec 9)
  | to4Expiry (c : Chan) (v : BitVec 9)
  | to5Expiry (c : Chan) (v : BitVec 9)
  | vonuRetired (v : BitVec 9)
  | omciDownstreamMessage (c : Chan) (v : BitVec 9) (msg : List Byte) (mic : BitVec 32)
  | omciRxConsumerWrite (val : Word)
  | vonuOmciTx (words : List Word)
  | vonuFlowBind (f : BitVec 18) (val : Word)
  -- upstream bursts and the laser guard
  | bwmapPartition (c : Chan) (structs : List AllocStruct) (inTime : Bool) (decodeTime : Nat)
  | shadowPartitionDecode (c : Chan) (structs : List AllocStruct) (inTime : Bool)
  | snapshotComplete
  | burstAssembly (c : Chan)
  | commitDeadline (c : Chan)
  | burstStart (c : Chan)
  | burstEnd (c : Chan)
  | refillFrameStaged (i : BitVec 13)
  | guardDisagreement (c : Chan) (snEpisode : Bool)
  | lightCheckTrip (c : Chan)
  | biasSwitchClose (c : Chan)
  | twinRewrite (c : Chan)
  | twinReload (c : Chan)
  | rearm (c : Chan)
  | testTrip (c : Chan)
  -- classifier
  | classifierFirstPass (kind : BitVec 2) (index : BitVec 9)
  | decap
  | macsecVerify (e : BitVec 2)
  | classifierSecondPass
  | plateSwap
  | plateRetired
  | copyActive
  | copyDone
  | fragExpired
  | fragCarriedDiscard
  | ruleEntryRepair (plate : Bool) (e : BitVec 14)
  -- queues
  | queueAdmission
  | nodeRelease (n : Nat)
  | flush (q : BitVec 16)
  | flushComplete
  | hatchCopyStart (l : BitVec 6)
  | hatchStarted (l : BitVec 6)
  | gateChange (l : BitVec 6)
  | pktConfigRestore
  -- buffer pools
  | allocRequest (reqs : List PoolReq)
  | free (cls : BitVec 6) (ptr : BitVec 40)
  | transfer (cls : BitVec 6) (ptr : BitVec 40) (newOwner : BitVec 6)
  | share (cls : BitVec 6) (ptr : BitVec 40) (n : Nat)
  | release (cls : BitVec 6) (ptr : BitVec 40)
  | dramRetrain (i : BitVec 2) (temp : BitVec 16)
  -- Alanov Link
  | laneBlockLock (lane : Nat)
  | lockLoss (lane : Nat)
  | alignBlock (lane : Nat) (blk : AlignBlk)
  | alinkRetrain
  | alinkRepair (k : BitVec 3)
  | alinkRestore
  | arxcValid
  | arxcLoss
  | clockStateTimeout
  | adaptDone
  | lockStateEnd
  | deskewDone
  | deskewTimeout
  | waitPeerTimeout
  | failedRetry
  | alanovFrameReceived (f : AlFrame)
  | creditBlockReceived (group : Nat) (l0 l1 l2 l3 : BitVec 12)
  | calendarRound
  | creditLoss (group : Nat)
  | cesLateDrop (k : BitVec 7)
  -- Ethernet
  | ethRestart (e : BitVec 2)
  | ethRerate (e : BitVec 2) (val : Word)
  | kr4Change (v : Bool)
  | anComplete (e : BitVec 2) (fec : BitVec 2)
  | trainingComplete (e : BitVec 2)
  | trainingFailed (e : BitVec 2)
  | ethLinkUp (e : BitVec 2) (skew : BitVec 32)
  | linkWaitTimeout (e : BitVec 2)
  | ethLinkDown (e : BitVec 2)
  | ethFrameReceived (e : BitVec 2) (bytes : List Byte) (fcsOk : Bool) (timeCount : BitVec 64)
  | pauseFrameReceived (e : BitVec 2) (quanta : BitVec 16)
  | pfcFrameReceived (e : BitVec 2) (vec : Byte) (quanta : List (BitVec 16))
  | pauseHoldExpiry (e : BitVec 2) (prio : Option (BitVec 3))
  | pauseRepeat (e : BitVec 2)
  | lpiEntry (e : BitVec 2)
  | lpiExit (e : BitVec 2)
  | lldpTransmit (e : BitVec 2)
  | lldpduReceived (e : BitVec 2) (partnerRxTw : BitVec 16)
  -- time
  | todInputWrite (c : Chan) (words : List Word)
  | todInput (bytes : List Byte)
  | todResult (c : Chan)
  | servoHoldover
  | eecLocked
  | ppsOutEdge
  | ppsInEdge (timeCount : BitVec 64)
  | ppsInLoss
  | tsDescriptorDelivery
  | tsConsumerWrite (val : Word)
  -- circuit emulation
  | slotStreamFrame (k : BitVec 7) (bytes : List Byte)
  | cesSsLoss (k : BitVec 7)
  | cesPacketBuild (k : BitVec 7)
  | pwPacketReceived (k : BitVec 7)
  | jbStartTimer (k : BitVec 7)
  | playoutPosition (k : BitVec 7)
  | cesLops (k : BitVec 7)
  | cesSlip (k : BitVec 7) (drop : Bool)
  | slotStreamFrameSend (k : BitVec 7)
  | tributaryEnable (k : BitVec 7)
  | tributaryDisable (k : BitVec 7)
  -- cipher engine, key store, fuses, test port
  | keyLoadErase (slot : BitVec 12)
  | keyLoadMsk (slot : BitVec 12) (material : List Word)
  | keyLoadBroadcast (slot : BitVec 12) (v : BitVec 9) (c : Chan) (material : List Word)
  | keyLoadMacsec (slot : BitVec 12) (material : List Word)
  | keySoftLimit (slot : BitVec 12)
  | keyRetired (slot : BitVec 12)
  | eraseAll
  | keyStoreAlarm (source : Fin 4)
  | rngFault
  | reseedRetry (pass : Bool)
  | drypointOpened
  | bscanActive (x : TapScan)
  | trstNAssert
  | fuseArm (val : Word)
  | fuseBlow (t : Transport) (val : Word)
  -- fault coverage and in-service change
  | eccUncorrectable (e : EccErr)
  | goldenRewrite
  | lockstepMismatch (service : Bool)
  | corePairResume (service : Bool)
  | clockFault (group : Fin 11) (permille : BitVec 16) (ports : BitVec 4)
  | clockFaultClear (group : Fin 11)
  | burstClockActivityLoss (c : Chan)
  | railFault (d : Fin 13)
  | railFaultClear (d : Fin 13)
  | safeStateReset
  | illegalState (m : Ctl)
  | operatingConditionsChange (now : Conditions)
  | handoverPhaseStart
  | handoverSelfTestPass
  | handoverFailure
  -- power, reset, boot
  | quiesceEnd (d : Fin 13)
  | powerDieAck
  | domainResetRelease (d : Fin 13)
  | powerDieTimeout
  | railFaultRetry (d : Fin 13)
  | domainRetry (d : Fin 13)
  | sleepWaitEnd
  | wakeAddressMatch
  | wakeN
  | aonTimerWake
  | powerOnReset
  | resetNAssert
  | resetNRelease (modeSel : Bool) (madr : BitVec 3)
  | modeSelChange (v : Bool)
  | commandReset (val : Word)
  | internalResetEnd
  | bootWatchdogExpiry
  | readyAssert
  -- legacy mode
  | legacyCommandTransaction (bytes : List Byte)
  | legacyReadTransaction (count : Nat)
  | pacingRelease
  | getIdentity (tag : Byte)
  | getStatus (tag : Byte)
  | reset (tag : Byte)
  | getTemperature (tag : Byte)
  | setAlarmMask (tag : Byte) (mask : Word)
  | getAlarms (tag : Byte)
  | clearAlarms (tag : Byte)
  | getVersion (tag : Byte)
  | setSerial (tag : Byte) (sn : BitVec 64)
  | getSerial (tag : Byte)
  | setRegId (tag : Byte) (regId : BitVec 288)
  | enablePon (tag : Byte)
  | disablePon (tag : Byte)
  | getOnuState (tag : Byte)
  | getOnuId (tag : Byte)
  | getEqd (tag : Byte)
  | getOptical (tag : Byte)
  | setTxEnable (tag : Byte) (on : Bool)
  | getFecStats (tag : Byte) (clear : Bool)
  | omciRxFetch (tag : Byte)
  | omciTx (tag : Byte) (msg : List Byte)
  | omciStatus (tag : Byte)
  | setMsk (tag : Byte) (msk : BitVec 128)
  | addGemPort (tag : Byte) (index : Byte) (port : BitVec 16)
  | delGemPort (tag : Byte) (index : Byte)
  | getGemPort (tag : Byte) (index : Byte)
  | mapTcont (tag : Byte) (index : Byte) (allocId : BitVec 14)
  | unmapTcont (tag : Byte) (index : Byte)
  | getTcont (tag : Byte) (index : Byte)
  | setTcontQueue (tag : Byte) (index : Byte) (queue : BitVec 16)
  | getGemCounters (tag : Byte) (index : Byte) (clear : Bool)
  | addRule (tag : Byte) (index : BitVec 16) (words : List Word)
  | delRule (tag : Byte) (index : BitVec 16)
  | getRule (tag : Byte) (index : BitVec 16)
  | clearRules (tag : Byte)
  | setDefaultAction (tag : Byte) (kind : BitVec 2) (words : List Word)
  | getRuleCounters (tag : Byte) (index : BitVec 16) (clear : Bool)
  | setMeter (tag : Byte) (index : Byte) (words : List Word)
  | getMeter (tag : Byte) (index : Byte)
  | setQueue (tag : Byte) (index : BitVec 16) (words : List Word)
  | getQueue (tag : Byte) (index : BitVec 16)
  | setShaper (tag : Byte) (node : BitVec 14) (rate burst : Word)
  | getQueueCounters (tag : Byte) (index : BitVec 16) (clear : Bool)
  | setEthCfg (tag : Byte) (val : Word)
  | getEthStatus (tag : Byte)
  | getEthCounters (tag : Byte) (clear : Bool)
  | setPause (tag : Byte) (words : List Word)
  | setMacAddr (tag : Byte) (mac : BitVec 48)
  | getTod (tag : Byte)
  | setTod (tag : Byte) (seconds ns : Word)
  | setPps (tag : Byte) (val : Word)
  | setTodSf (tag : Byte) (sfc seconds ns teqd : Word)
  | fwBegin (tag : Byte) (length : Word)
  | fwData (tag : Byte) (offset : Word) (bytes : List Byte)
  | fwActivate (tag : Byte)
  | factoryCal (tag : Byte)
  | factoryTest (tag : Byte)
  | factoryFuse (tag : Byte)
  | identify (tag : Byte)
  | pacingOff (tag : Byte)
  | pacingOn (tag : Byte)
  -- writes and events listed last in the table
  | txPermitWrite (c : Chan) (v : Bool)
  | biasCalibrated (c : Chan)
  | ethPortEnableWrite (e : BitVec 2) (enable hold : Bool)
  | alinkEnableWrite (enable hold : Bool)
  | receiveLpiChange (e : BitVec 2) (v : Bool)
  | prbsCheckerSyncChange (lane : Nat) (v : Bool)
  | fuseArmExpiry
  | alarmSourceCleared (source : Fin 5)
  | poolReinitComplete (p : Nat)
  | refreshRateChange (i : BitVec 2) (temp : BitVec 16)
  | ppsPulseEnd
  | commandCompletion (t : Transport) (seq : BitVec 16)
deriving DecidableEq, Repr

end Sys2Proof
end

