-- ==== Sys2Proof/Decode.lean ====
section
/-! DEFINITION. The words of the table. This block has no instruction words: spec/opcode_table.json gives no row any
bits, so no word spells a command. Commands arrive as packets (Machine/Operands.lean) and as events. -/

namespace Sys2Proof

/-- The command that a word of the table's bits spells: none, since no row has bits. [DESIGN CHOICE, safe: log 1] -/
def decodeTableWord (_nbits _w : Nat) : Option Instr := none

end Sys2Proof
end

