-- ==== Sys2Proof/Config.lean ====
section
/-! DEFINITION. What the manual leaves open or leaves to other documents, as constants without a body: nothing can be
proved about their values, so a claim holds whatever they are. Each is named in the assumption log. -/

namespace Sys2Proof.Config

/-- A fresh free value: applied to the state's counter of free values. Every use bounds it as the manual bounds the
value it stands for. [DESIGN CHOICE, safe: log 4, 5] -/
opaque freeValue : Nat → Nat

/-! ## Cryptography (FIPS and ITU-T algorithms that the manual names and does not restate) -/

/-- AES-CMAC over bytes under a key (PLOAM and OMCI integrity, Table CRYPTO-1). [DESIGN CHOICE, safe: log 11] -/
opaque cmac : (key data : List Byte) → BitVec 64
/-- The bytes of a downstream PLOAM message as its integrity check covers them. [DESIGN CHOICE, safe: log 12] -/
opaque ploamBytes : PloamMsg → Chan → List Byte
/-- A key of the management set derived from the MSK and the serial number: label 0 PLOAM_IK, 1 OMCI_IK, 2 KEK (R402).
[DESIGN CHOICE, safe: log 11] -/
opaque deriveKey : (material : List Byte) → (label : Nat) → List Byte
/-- The default keys that the specification prescribes, by the same labels (R400). [DESIGN CHOICE, safe: log 11] -/
opaque defaultKey : (label : Nat) → List Byte
/-- Wrapping of a data key under the KEK into a Key_Report (AES-128 ECB, Table CRYPTO-1).
[DESIGN CHOICE, safe: log 11] -/
opaque keyWrap : (kek key : List Byte) → List Byte
/-- Unwrapping of a broadcast key under the KEK (Table CRYPTO-1, R404). [DESIGN CHOICE, safe: log 11] -/
opaque keyUnwrap : (kek wrapped : List Byte) → List Byte
/-- AES-CTR over the payload of an XGEM frame, under a key and the counter block that the mode's specification defines from
the superframe counter and the position in the frame (Table CRYPTO-1). [DESIGN CHOICE, safe: log 11] -/
opaque cipherCtr : (key : List Byte) → (sfc position : Nat) → (data : List Byte) → List Byte
/-- AES-GCM sealing of a MACsec frame: key, SCI, packet number and frame (R344). [DESIGN CHOICE, safe: log 11] -/
opaque gcmSeal : (key : List Byte) → (sci : Nat) → (pn : Nat) → (data : List Byte) → List Byte
/-- AES-GCM opening of a MACsec frame; none when the ICV fails. [DESIGN CHOICE, safe: log 11] -/
opaque gcmOpen : (key : List Byte) → (sci : Nat) → (pn : Nat) → (data : List Byte) → Option (List Byte)
/-- The standard's minimum system wake time of a port rate (0 10G, 1 25G, 2 100G), in µs (R343; IEEE 802.3 clause 78).
[DESIGN CHOICE, safe: log 16] -/
opaque eeeMinTw : (rate : Nat) → BitVec 16
/-- Bits of an upstream burst after its PSBu: header, PLOAMu, DBRus, payload, trailer and FEC parity, as the
transmission-convergence specification of the mode lays them out (R175, R179). [DESIGN CHOICE, safe: log 13] -/
opaque burstBits : (xgs : Bool) → (rate : BitVec 2) → (fec ploamu : Bool) → (dbrus payload : Nat) → Nat
/-- The response time of an ONU, in units of 1/31,104 ns, as the transmission-convergence specification of the mode sets
it (R176). [DEDUCED, unsafe: log 61] -/
opaque responseTime : (xgs : Bool) → Nat
/-- Bits of an upstream burst from its header to the byte at `payload`, with the PLOAMu, the DBRus and the parity that go
before it: where a frame begins or ends on the line (R263, Table TIME-3). [DESIGN CHOICE, safe: log 13] -/
opaque bitsTo : (xgs : Bool) → (rate : BitVec 2) → (fec ploamu : Bool) → (dbrus payload : Nat) → Nat
/-- The bytes of an upstream PLOAM message as its integrity check covers them. [DESIGN CHOICE, safe: log 12] -/
opaque upPloamBytes : UpMsg → (onuId : Option (BitVec 10)) → List Byte
/-- The output of the random generator for one draw of n bytes (R408). [DESIGN CHOICE, safe: log 11] -/
opaque random : (draw n : Nat) → List Byte
/-- The result code of verifying a stored image, with the index of the key hash it is signed under: the bank's bytes and
length, the fuses and their key hashes (R412, R473). [DESIGN CHOICE, safe: log 15] -/
opaque imageCheck : (image : List (Nat × Byte)) → (length : Nat) → (revoked valid : BitVec 4) → (hashes : List (BitVec 384)) →
  BitVec 8 × BitVec 2
/-- The SHA-384 digest of a stored image (R461, R465). [DESIGN CHOICE, safe: log 15] -/
opaque imageDigest : (image : List (Nat × Byte)) → (length : Nat) → BitVec 384
/-- The version word of an image's header. [DESIGN CHOICE, safe: log 15] -/
opaque imageVersion : List (Nat × Byte) → BitVec 32
/-- The port ID subtype of the agent's LLDPDU (R343 names the identifier alone). [DESIGN CHOICE, safe: log 16] -/
opaque lldpPortSubtype : Byte
/-- The three fields of the EEE TLV that R343 does not name, fallback and echoes, from the partner's wake time.
[DESIGN CHOICE, safe: log 16] -/
opaque lldpEeeRest : (field : BitVec 2) → (partnerTw : BitVec 16) → BitVec 16
/-- The fields of a legacy payload, in order, where its length is the one its opcode requires (R485: the formats are those
of the WM-4410 host interface, which the manual does not restate). [DESIGN CHOICE, safe: log 17] -/
opaque legacyFields : (opcode : Byte) → (payload : List Byte) → Option (List Nat)
/-- Whether the fields of a legacy payload lie in the ranges of the WM-4410 host interface (R483, R485).
[DESIGN CHOICE, safe: log 17] -/
opaque legacyRange : (opcode : Byte) → (fields : List Nat) → Bool
/-- The payload of a legacy reply, from the values it reports (R485). [DESIGN CHOICE, safe: log 17] -/
opaque legacyReply : (opcode : Byte) → (values : List Nat) → List Byte
/-- Cells of the boundary register (R414; the BSDL description holds their number and order).
[PRESUMED, unsafe: log 98] -/
opaque boundaryCells : Nat
/-- Whether an image is legacy-capable (R491). [DESIGN CHOICE, safe: log 15] -/
opaque imageLegacy : List (Nat × Byte) → Bool

end Sys2Proof.Config
end

