-- ==== Sys2Proof/Machine/Objects.lean ====
section
/-! DEFINITION. The object space (R56): one row per object word or run of equal words, from the object tables and field
maps of every chapter. A row gives the object's name, the word offset within it, its first index within the block, its
strides, the power domain that holds it, the bits a write can reach, and its reset value. -/

namespace Sys2Proof.Machine

/-- The objects, by name. -/
inductive Obj
  | reserved | counter | rcCounter
  -- SYS
  | sysId | cmdCfg | cmdStatus | cmdErrors | stippleInfo
  -- TICK
  | tickCfg | tickStatus | tickNumber | tickChange | tickOverrun | tickBudget | tickXgroup
  -- CHA, CHB
  | chCfg | chCtl | chStatus | chHuntCfg | chCondCfg | chSdsfCfg | chSfc | chEqCfg | chEqTap | chTxCfg | chTxStatus
  | chMon
  -- VONU
  | vonuChCfg | vonuTuneCfg | vonuEstop | vonuChStatus | vonuEqdRef | vonuOmciProd | vonuOmciCons | vonuSn | vonuRegId
  | vonuState | vonuOnuId | vonuEqd | vonuRes | vonuProfile | vonuShadow | vonuAlloc | vonuFlowBind | vonuOmciTx
  | vonuOmciRx
  -- BURIN
  | burinStageCfg | burinStagePool | burinChStatus | burinGuardCfg | burinGuardCtl | burinGuardStatus | burinStageStatus
  -- CLASS
  | classCfg | classCtl | classStatus | classParseCfg | classMiss | classExc | classPattern | classRule
  -- QSCHED
  | qAdmitCfg | qQueueCtl | qStatus | qQueue | qDepth | qMeter | qNode | qCbs | hShadowEntry | hActiveEntry | hShadowCfg
  | hActiveCfg | hStatus | qTcontMap
  -- BPM
  | bpmCfg | bpmPoolStatus | bpmPoolCfg | bpmLastRefusal | bpmDram | bpmMram
  -- ALINK
  | alCfg | alCtl | alStatus | alTxEq | alLane | alCredit
  -- ETH
  | ethGroup | ethCfg | ethCtl | ethStatus | ethMac | ethFc | ethEee | ethEeeStatus | ethAddr | ethSecCfg | ethTxSc
  | ethTxPn | ethRxSc | ethRxPn
  -- TIME
  | timeCfg | timeStatus | timeInc | timeNow | timeServoCfg | timeOutCfg | timePpsIn | timeTsProd | timeTsCons | timeTodIn
  | timeTodResult | timeTodCfg | timePort | timeTsRing
  -- CES
  | cesCfg | cesStatus | cesTxHdr
  -- CRYPTO, FUSE
  | cryCfg | cryCtl | cryStatus | cryLatch | cryKeyLoad | crySlot | cryFlowMode | fuseStatus | fuseArm | fuseBlow
  | fuseHash
  -- PWR, FW
  | pwrCause | pwrSleepCfg | pwrResetCtl | pwrDomStatus | pwrDomCtl | fwBoot | fwUpdate | fwBank
  -- FAULT
  | fltSub | fltRing | fltPending | fltIndex | fltMask | fltMirror | fltCfg | fltStatus | fltLastEcc
deriving DecidableEq, Repr

/-- One row: `dims` lists (count, stride) pairs, the largest stride first. -/
structure ObjRow where
  obj : Obj
  w : Nat
  base : Nat
  dims : List (Nat × Nat)
  dom : Nat
  mask : Word
  reset : Word
deriving DecidableEq, Repr

/-- What an address names: the object, the word offset, the indices, the domain, the writable bits and reset value. -/
structure Found where
  obj : Obj
  w : Nat
  ix : List Nat
  dom : Nat
  mask : Word
  reset : Word
deriving DecidableEq, Repr

/-- The indices that offset `o` has under the strides, if it lies on them. -/
def strideIx : List (Nat × Nat) → Nat → Option (List Nat)
  | [], o => if o = 0 then some [] else none
  | (n, st) :: r, o => if o / st < n then (strideIx r (o % st)).map (o / st :: ·) else none

/-- The row's reading of an index of its block. -/
def ObjRow.find (r : ObjRow) (i : Nat) : Option Found :=
  if i < r.base then none
  else (strideIx r.dims (i - r.base)).map fun ix => ⟨r.obj, r.w, ix, r.dom, r.mask, r.reset⟩

abbrev all32 : Word := 0xFFFFFFFF

/-- SYS (Table CMD-8). -/
def rowsSys : List ObjRow :=
  [ ⟨.sysId, 0, 0, [(2, 1)], 1, 0, 0⟩, ⟨.cmdCfg, 0, 0x10, [], 1, 3, 3⟩, ⟨.cmdStatus, 0, 0x11, [], 1, 0, 0⟩,
    ⟨.cmdErrors, 0, 0x12, [(2, 1)], 1, 0, 0⟩, ⟨.stippleInfo, 0, 0x20, [], 1, 0, 0⟩ ]

/-- TICK (Table TICK-6). -/
def rowsTick : List ObjRow :=
  [ ⟨.tickCfg, 0, 0, [], 1, 7, 3⟩, ⟨.tickStatus, 0, 1, [], 1, 0, 0⟩, ⟨.tickNumber, 0, 2, [(2, 1)], 1, 0, 0⟩,
    ⟨.tickChange, 0, 4, [], 1, 0, 0⟩, ⟨.tickOverrun, 0, 0x10, [(16, 1)], 1, 0, 0⟩,
    ⟨.tickBudget, 0, 0x20, [], 1, 0x3FFF, 0⟩, ⟨.tickXgroup, 0, 0x30, [], 1, 0xFFFF, 0⟩ ]

/-- CHA or CHB (Table CH-5): `a` tells the channel; `rx` is its receive domain. LOS_THRESH stands at the N1 factory
value of the channel's reset mode (Table PHYS-7); the value of an N2 part is put there at reset. -/
def rowsCh (a : Bool) (rx : Nat) : List ObjRow :=
  [ ⟨.chCfg, 0, 0, [], 1, if a then 0xF7F else 0xF3F, if a then 0xC78 else 0xC38⟩, ⟨.chCtl, 0, 1, [], 1, 3, 0⟩,
    ⟨.chStatus, 0, 2, [], 1, 0, 0⟩, ⟨.chHuntCfg, 0, 3, [], 1, 0xFF, 0x42⟩,
    ⟨.chCondCfg, 0, 4, [], 1, all32, if a then 0x00642EE8 else 0x00642ECA⟩,
    ⟨.chSdsfCfg, 0, 5, [], 1, all32, if a then 2488320 else 99533⟩,
    ⟨.chSdsfCfg, 1, 6, [], 1, all32, if a then 248832 else 9953⟩, ⟨.chSfc, 0, 8, [(2, 1)], rx, 0, 0⟩,
    ⟨.chEqCfg, 0, 0x10, [], 1, 0x1F, 3⟩, ⟨.chEqTap, 0, 0x11, [(if a then 10 else 7, 1)], rx, 0, 0⟩,
    ⟨.chTxCfg, 0, 0x20, [], 1, 0xFF01FF, 0⟩, ⟨.chTxStatus, 0, 0x21, [], 1, 0, 0⟩, ⟨.chMon, 0, 0x28, [(3, 1)], rx, 0, 0⟩,
    ⟨.counter, 0, 0x40, [(36, 1)], 1, 0, 0⟩ ]

/-- VONU (Table VONU-6). -/
def rowsVonu : List ObjRow :=
  [ ⟨.vonuChCfg, 0, 0, [(2, 1)], 1, 0x03FF0FFF, 0x006400A4⟩, ⟨.vonuTuneCfg, 0, 2, [], 1, all32, 0x03E803E8⟩,
    ⟨.vonuEstop, 0, 3, [], 1, 0, 0⟩, ⟨.vonuChStatus, 0, 4, [(2, 1)], 1, 0, 0⟩, ⟨.vonuEqdRef, 0, 6, [(2, 1)], 1, 0, 0⟩,
    ⟨.vonuOmciProd, 0, 0x10, [], 1, 0, 0⟩, ⟨.vonuOmciCons, 0, 0x11, [], 1, all32, 0⟩,
    ⟨.counter, 0, 0x20, [(12, 1)], 1, 0, 0⟩,
    ⟨.vonuSn, 0, 0x10000, [(512, 64), (2, 1)], 1, 0, 0⟩, ⟨.vonuRegId, 0, 0x10002, [(512, 64), (9, 1)], 1, 0, 0⟩,
    ⟨.vonuState, 0, 0x1000B, [(512, 64)], 1, 0, 0⟩, ⟨.vonuOnuId, 0, 0x1000C, [(512, 64)], 1, 0, 0⟩,
    ⟨.vonuEqd, 0, 0x1000D, [(512, 64), (2, 1)], 1, 0, 0⟩, ⟨.vonuRes, 0, 0x1000F, [(512, 64)], 1, 0, 0⟩,
    ⟨.reserved, 0, 0x10010, [(512, 64), (16, 1)], 1, 0, 0⟩, ⟨.counter, 0, 0x10020, [(512, 64), (16, 1)], 1, 0, 0⟩,
    ⟨.reserved, 0, 0x10030, [(512, 64), (16, 1)], 1, 0, 0⟩,
    ⟨.vonuProfile, 0, 0x20000, [(512, 64), (2, 32), (4, 8), (8, 1)], 1, 0, 0⟩,
    ⟨.vonuShadow, 0, 0x30000, [(512, 64), (2, 32), (4, 8)], 1, 0xFF, 0⟩,
    ⟨.vonuShadow, 1, 0x30001, [(512, 64), (2, 32), (4, 8)], 1, 0xFFFFFF, 0⟩,
    ⟨.vonuShadow, 2, 0x30002, [(512, 64), (2, 32), (4, 8), (4, 1)], 1, all32, 0⟩,
    ⟨.vonuShadow, 6, 0x30006, [(512, 64), (2, 32), (4, 8), (2, 1)], 1, 0, 0⟩,
    ⟨.vonuAlloc, 0, 0x40000, [(8192, 1)], 1, 0, 0⟩, ⟨.vonuFlowBind, 0, 0x80000, [(262144, 1)], 1, 0x07FFFFFF, 0⟩,
    ⟨.vonuOmciTx, 0, 0x100000, [], 1, 0x1FFFFF, 0⟩, ⟨.vonuOmciTx, 1, 0x100001, [(511, 1)], 1, all32, 0⟩,
    ⟨.vonuOmciRx, 0, 0x200000, [(1024, 512), (512, 1)], 1, 0, 0⟩ ]

/-- BURIN (Table BURIN-4). -/
def rowsBurin : List ObjRow :=
  [ ⟨.burinStageCfg, 0, 0, [], 1, 0x0FFFFFFF, 0x08040008⟩, ⟨.burinStagePool, 0, 1, [(2, 1)], 6, 0, 0⟩,
    ⟨.burinChStatus, 0, 4, [(2, 1)], 1, 0, 0⟩, ⟨.burinGuardCfg, 0, 6, [(2, 1)], 1, 0x3F, 10⟩,
    ⟨.burinGuardCtl, 0, 8, [(2, 1)], 1, 3, 0⟩, ⟨.burinGuardStatus, 0, 0xA, [(2, 1)], 1, 0, 0⟩,
    ⟨.counter, 0, 0x100, [(2, 64), (40, 1)], 1, 0, 0⟩, ⟨.reserved, 0, 0x128, [(2, 64), (24, 1)], 1, 0, 0⟩,
    ⟨.burinStageStatus, 0, 0x10000, [(8192, 1)], 6, 0, 0⟩ ]

/-- CLASS (Table CLASS-7). -/
def rowsClass : List ObjRow :=
  [ ⟨.classCfg, 0, 0, [], 6, 0xFF, 8⟩, ⟨.classCtl, 0, 1, [], 6, 1, 0⟩, ⟨.classStatus, 0, 2, [(2, 1)], 6, 0, 0⟩,
    ⟨.classParseCfg, 0, 4, [], 6, all32, 4789⟩, ⟨.classParseCfg, 1, 5, [], 6, 0xFFFF, 0⟩,
    ⟨.classMiss, 0, 0x10, [(4, 4)], 6, 0xFFFFF, 0x400⟩, ⟨.classMiss, 1, 0x11, [(4, 4)], 6, all32, 0⟩,
    ⟨.classMiss, 2, 0x12, [(4, 4)], 6, 0x3FFFF, 0⟩, ⟨.classMiss, 3, 0x13, [(4, 4)], 6, 0, 0⟩,
    ⟨.classExc, 0, 0x20, [(3, 4)], 6, 0xFFFFF, 0x400⟩, ⟨.classExc, 0, 0x2C, [], 6, 0xFFFFF, 0x1800⟩,
    ⟨.classExc, 0, 0x30, [(2, 4)], 6, 0xFFFFF, 0⟩, ⟨.classExc, 1, 0x21, [(6, 4)], 6, all32, 0⟩,
    ⟨.classExc, 2, 0x22, [(6, 4)], 6, 0x3FFFF, 0⟩, ⟨.classExc, 3, 0x23, [(6, 4)], 6, 0, 0⟩,
    ⟨.counter, 0, 0x100, [(44, 1)], 6, 0, 0⟩, ⟨.reserved, 0, 0x12C, [(20, 1)], 6, 0, 0⟩,
    ⟨.classPattern, 0, 0x10000, [(2, 0x2000), (256, 32), (16, 1)], 6, all32, 0⟩,
    ⟨.classPattern, 16, 0x10010, [(2, 0x2000), (256, 32)], 6, 0x03FFFFFF, 0⟩,
    ⟨.reserved, 0, 0x10011, [(2, 0x2000), (256, 32), (15, 1)], 6, 0, 0⟩,
    ⟨.classRule, 0, 0x100000, [(2, 0x100000), (16384, 64), (40, 1)], 6, all32, 0⟩,
    ⟨.classRule, 40, 0x100028, [(2, 0x100000), (16384, 64)], 6, 0xFFFFF, 0⟩,
    ⟨.classRule, 41, 0x100029, [(2, 0x100000), (16384, 64)], 6, all32, 0⟩,
    ⟨.classRule, 42, 0x10002A, [(2, 0x100000), (16384, 64)], 6, 0x3FFFF, 0⟩,
    ⟨.classRule, 43, 0x10002B, [(2, 0x100000), (16384, 64)], 6, 0, 0⟩,
    ⟨.classRule, 44, 0x10002C, [(2, 0x100000), (16384, 64)], 6, 1, 0⟩,
    ⟨.reserved, 0, 0x10002D, [(2, 0x100000), (16384, 64), (19, 1)], 6, 0, 0⟩,
    ⟨.counter, 0, 0x400000, [(262144, 4), (4, 1)], 6, 0, 0⟩ ]

/-- QSCHED (Table QSCHED-2). Node OVERHEAD resets by kind (R249). -/
def rowsQ : List ObjRow :=
  [ ⟨.qAdmitCfg, 0, 0, [], 6, 0xFFFF, 0x4020⟩, ⟨.qQueueCtl, 0, 1, [], 6, 0x1FFFF, 0⟩, ⟨.qStatus, 0, 2, [], 6, 0, 0⟩,
    ⟨.counter, 0, 0x100, [(16, 1)], 6, 0, 0⟩, ⟨.reserved, 0, 0x110, [(48, 1)], 6, 0, 0⟩,
    ⟨.qQueue, 0, 0x10000, [(65536, 4)], 6, all32, 0x00030000⟩, ⟨.qQueue, 1, 0x10001, [(65536, 4)], 6, all32, 1048576⟩,
    ⟨.qQueue, 2, 0x10002, [(65536, 4)], 6, all32, 524288⟩, ⟨.qQueue, 3, 0x10003, [(65536, 4)], 6, all32, 0⟩,
    ⟨.qDepth, 0, 0x50000, [(65536, 1)], 6, 0, 0⟩,
    ⟨.qMeter, 0, 0x100000, [(65536, 8)], 6, 0xF, 0⟩, ⟨.qMeter, 1, 0x100001, [(65536, 8)], 6, 0x07FFFFFF, 0⟩,
    ⟨.qMeter, 2, 0x100002, [(65536, 8)], 6, 0xFFFFFF, 0⟩, ⟨.qMeter, 3, 0x100003, [(65536, 8)], 6, 0x07FFFFFF, 0⟩,
    ⟨.qMeter, 4, 0x100004, [(65536, 8)], 6, 0xFFFFFF, 0⟩, ⟨.reserved, 0, 0x100005, [(65536, 8), (3, 1)], 6, 0, 0⟩,
    ⟨.qNode, 0, 0x200000, [(8836, 4)], 6, 0x07FFFFFF, 0⟩, ⟨.qNode, 1, 0x200001, [(8836, 4)], 6, 0xFFFFFF, 16384⟩,
    ⟨.qNode, 2, 0x200002, [(8704, 4)], 6, 0x1FFFF, 0x2000⟩, ⟨.qNode, 2, 0x208802, [(4, 4)], 6, 0x1FFFF, 0x5000⟩,
    ⟨.qNode, 2, 0x208812, [(128, 4)], 6, 0x1FFFF, 0⟩, ⟨.qNode, 3, 0x200003, [(8836, 4)], 6, 0, 0⟩,
    ⟨.qCbs, 0, 0x300000, [(4, 4), (4, 1)], 6, 0x07FFFFFF, 0⟩,
    ⟨.hShadowEntry, 0, 0x380000, [(64, 0x400), (256, 1)], 6, all32, 0⟩,
    ⟨.hActiveEntry, 0, 0x380100, [(64, 0x400), (256, 1)], 6, 0, 0⟩,
    ⟨.hShadowCfg, 0, 0x380200, [(64, 0x400), (3, 1)], 6, all32, 0⟩,
    ⟨.hShadowCfg, 3, 0x380203, [(64, 0x400)], 6, 0x1FF, 0⟩,
    ⟨.hActiveCfg, 0, 0x380208, [(64, 0x400), (4, 1)], 6, 0, 0⟩, ⟨.hStatus, 0, 0x380210, [(64, 0x400), (3, 1)], 6, 0, 0⟩,
    ⟨.qTcontMap, 0, 0x3C0000, [(8192, 1)], 6, 0x03FFFFFF, 0⟩,
    ⟨.counter, 0, 0x400000, [(65536, 8), (8, 1)], 6, 0, 0⟩, ⟨.counter, 0, 0x500000, [(65536, 8), (6, 1)], 6, 0, 0⟩,
    ⟨.reserved, 0, 0x500006, [(65536, 8), (2, 1)], 6, 0, 0⟩, ⟨.counter, 0, 0x600000, [(8836, 4), (4, 1)], 6, 0, 0⟩ ]

/-- BPM (Table BPM-6). P7 has no cells: its objects read as zero and refuse writes. -/
def rowsBpm : List ObjRow :=
  [ ⟨.bpmCfg, 0, 0, [], 1, 0xF, 8⟩, ⟨.bpmPoolStatus, 0, 0x10, [(9, 2), (2, 1)], 6, 0, 0⟩,
    ⟨.bpmPoolStatus, 9, 0x22, [(3, 2), (2, 1)], 1, 0, 0⟩, ⟨.bpmPoolCfg, 0, 0x30, [(7, 1)], 1, 0x1FFFFF, 0⟩,
    ⟨.reserved, 0, 0x37, [], 1, 0, 0⟩, ⟨.bpmPoolCfg, 8, 0x38, [(4, 1)], 1, 0x1FFFFF, 0⟩,
    ⟨.bpmLastRefusal, 0, 0x40, [(3, 1)], 1, 0, 0⟩, ⟨.bpmDram, 0, 0x48, [], 1, 0, 0⟩, ⟨.bpmMram, 0, 0x49, [(2, 1)], 1, 0, 0⟩,
    ⟨.counter, 0, 0x100, [(10, 1)], 1, 0, 0⟩, ⟨.reserved, 0, 0x10A, [(22, 1)], 1, 0, 0⟩,
    ⟨.counter, 0, 0x1000, [(9, 32), (22, 1)], 6, 0, 0⟩, ⟨.reserved, 0, 0x1016, [(9, 32), (10, 1)], 6, 0, 0⟩,
    ⟨.counter, 0, 0x1120, [(3, 32), (22, 1)], 1, 0, 0⟩, ⟨.reserved, 0, 0x1136, [(3, 32), (10, 1)], 1, 0, 0⟩ ]

/-- ALINK (Table ALINK-8). ADVERTISE resets by channel (Table ALINK-5). -/
def rowsAl : List ObjRow :=
  [ ⟨.alCfg, 0, 0, [], 1, 0xFFFFFF, 0x064183⟩, ⟨.alCtl, 0, 1, [], 1, 0x77, 0⟩, ⟨.alStatus, 0, 2, [], 1, 0, 0⟩,
    ⟨.alTxEq, 0, 0x10, [(9, 1)], 1, 0x1F1F, 0x0804⟩, ⟨.alLane, 0, 0x20, [(9, 2), (2, 1)], 9, 0, 0⟩,
    ⟨.counter, 0, 0x100, [(24, 1)], 1, 0, 0⟩, ⟨.reserved, 0, 0x118, [(40, 1)], 1, 0, 0⟩,
    ⟨.counter, 0, 0x200, [(9, 8), (6, 1)], 1, 0, 0⟩, ⟨.reserved, 0, 0x206, [(9, 8), (2, 1)], 1, 0, 0⟩,
    ⟨.alCredit, 0, 0x10000, [(512, 2)], 1, 0xFFF, 256⟩, ⟨.alCredit, 512, 0x10400, [(128, 2)], 1, 0xFFF, 16⟩,
    ⟨.alCredit, 640, 0x10500, [], 1, 0xFFF, 520⟩, ⟨.alCredit, 641, 0x10502, [], 1, 0xFFF, 32⟩,
    ⟨.alCredit, 642, 0x10504, [(6, 2)], 1, 0, 0⟩, ⟨.alCredit, 1000, 0x10001, [(648, 2)], 9, 0, 0⟩,
    ⟨.counter, 0, 0x20000, [(648, 8), (8, 1)], 1, 0, 0⟩ ]

/-- ETH (Table ETH-3). -/
def rowsEth : List ObjRow :=
  [ ⟨.ethGroup, 0, 0, [], 1, 1, 0⟩, ⟨.ethCfg, 0, 0x10000, [(4, 0x1000)], 1, 0x7F, 0x30⟩,
    ⟨.ethCtl, 0, 0x10001, [(4, 0x1000)], 1, 1, 0⟩, ⟨.ethStatus, 0, 0x10002, [(4, 0x1000)], 10, 0, 0⟩,
    ⟨.ethMac, 0, 0x10003, [(4, 0x1000)], 1, 0x1FFFF, 0x105F2⟩, ⟨.ethFc, 0, 0x10004, [(4, 0x1000)], 1, 0x7FFFF, 0x7FFF8⟩,
    ⟨.ethFc, 1, 0x10005, [(4, 0x1000)], 1, all32, 0x80C0FFFF⟩,
    ⟨.ethEee, 0, 0x10006, [(4, 0x1000)], 1, 0xFFFFFF03, 0x1002⟩, ⟨.ethEee, 1, 0x10007, [(4, 0x1000)], 1, 0xFFFF, 0⟩,
    ⟨.ethEeeStatus, 0, 0x10008, [(4, 0x1000)], 10, 0, 0⟩,
    ⟨.ethAddr, 0, 0x10010, [(4, 0x1000), (16, 2)], 1, all32, 0⟩,
    ⟨.ethAddr, 1, 0x10011, [(4, 0x1000), (16, 2)], 1, 0x1FFFF, 0⟩,
    ⟨.ethSecCfg, 0, 0x10040, [(4, 0x1000)], 1, 0xF, 0xC⟩, ⟨.ethSecCfg, 1, 0x10041, [(4, 0x1000)], 1, all32, 0⟩,
    ⟨.ethTxSc, 0, 0x10044, [(4, 0x1000), (2, 1)], 1, all32, 0⟩, ⟨.ethTxSc, 2, 0x10046, [(4, 0x1000)], 1, 3, 0⟩,
    ⟨.ethTxSc, 3, 0x10047, [(4, 0x1000), (4, 1)], 1, 0x1FFF, 0⟩,
    ⟨.ethTxPn, 0, 0x10050, [(4, 0x1000), (4, 2), (2, 1)], 1, all32, 0⟩,
    ⟨.ethRxSc, 0, 0x10100, [(4, 0x1000), (16, 8), (2, 1)], 1, all32, 0⟩,
    ⟨.ethRxSc, 2, 0x10102, [(4, 0x1000), (16, 8)], 1, 1, 0⟩,
    ⟨.ethRxSc, 3, 0x10103, [(4, 0x1000), (16, 8), (4, 1)], 1, 0x1FFF, 0⟩,
    ⟨.reserved, 0, 0x10107, [(4, 0x1000), (16, 8)], 1, 0, 0⟩,
    ⟨.ethRxPn, 0, 0x10200, [(4, 0x1000), (16, 8), (4, 2), (2, 1)], 1, all32, 0⟩,
    ⟨.rcCounter, 0, 0x10400, [(4, 0x1000), (74, 1)], 10, 0, 0⟩, ⟨.reserved, 0, 0x1044A, [(4, 0x1000), (54, 1)], 10, 0, 0⟩,
    ⟨.counter, 0, 0x10800, [(4, 0x1000), (74, 1)], 1, 0, 0⟩, ⟨.reserved, 0, 0x1084A, [(4, 0x1000), (54, 1)], 1, 0, 0⟩ ]

/-- TIME (Table TIME-6). -/
def rowsTime : List ObjRow :=
  [ ⟨.timeCfg, 0, 0, [], 1, 3, 0⟩, ⟨.timeStatus, 0, 1, [], 1, 0, 0⟩, ⟨.timeInc, 0, 2, [(2, 1)], 1, 0, 0⟩,
    ⟨.timeNow, 0, 4, [(3, 1)], 12, 0, 0⟩, ⟨.timeServoCfg, 0, 8, [], 1, all32, 0x006403E8⟩,
    ⟨.timeServoCfg, 1, 9, [], 1, 0x01FFFFFF, 0x00201388⟩, ⟨.timeOutCfg, 0, 0xA, [], 1, 0x7FFF, 0x1927⟩,
    ⟨.timePpsIn, 0, 0xC, [(3, 1)], 12, 0, 0⟩, ⟨.timeTsProd, 0, 0x10, [], 1, 0, 0⟩, ⟨.timeTsCons, 0, 0x11, [], 1, all32, 0⟩,
    ⟨.timeTodIn, 0, 0x20, [(2, 8)], 1, all32, 0⟩, ⟨.timeTodIn, 1, 0x21, [(2, 8)], 1, 0x7FFFF, 0⟩,
    ⟨.timeTodIn, 2, 0x22, [(2, 8)], 1, all32, 0⟩, ⟨.timeTodIn, 3, 0x23, [(2, 8)], 1, 0xFFFF, 0⟩,
    ⟨.timeTodIn, 4, 0x24, [(2, 8), (2, 1)], 1, all32, 0⟩, ⟨.timeTodResult, 0, 0x30, [(2, 8), (6, 1)], 1, 0, 0⟩,
    ⟨.timeTodCfg, 0, 0x40, [], 1, all32, 0x8000218E⟩, ⟨.timeTodCfg, 0, 0x44, [], 1, all32, 0x800F66A5⟩,
    ⟨.timeTodCfg, 1, 0x41, [(2, 4)], 1, all32, 0⟩, ⟨.timeTodCfg, 2, 0x42, [], 1, 0xFFFFFF, 1000⟩,
    ⟨.reserved, 0, 0x46, [], 1, 0, 0⟩, ⟨.timePort, 0, 0x80, [(6, 8)], 1, 1, 0⟩, ⟨.timePort, 1, 0x81, [(6, 8), (2, 1)], 1, 0, 0⟩,
    ⟨.timePort, 3, 0x83, [(6, 8), (2, 1)], 1, all32, 0⟩, ⟨.timePort, 5, 0x85, [(6, 8)], 1, 0, 0⟩,
    ⟨.counter, 0, 0x100, [(16, 1)], 1, 0, 0⟩, ⟨.reserved, 0, 0x110, [(48, 1)], 1, 0, 0⟩,
    ⟨.timeTsRing, 0, 0x10000, [(256, 8), (5, 1)], 1, 0, 0⟩ ]

/-- CES (R395). -/
def rowsCes : List ObjRow :=
  [ ⟨.counter, 0, 0x100, [(2, 1)], 1, 0, 0⟩,
    ⟨.cesCfg, 0, 0x10000, [(128, 64)], 1, 0x03FFFFFF, 0x00800880⟩, ⟨.cesCfg, 1, 0x10001, [(128, 64)], 1, 0x07FFFFFF, 0x00088020⟩,
    ⟨.cesCfg, 2, 0x10002, [(128, 64)], 1, 0x007FFF7F, 0x1000⟩, ⟨.cesCfg, 3, 0x10003, [(128, 64)], 1, all32, 0⟩,
    ⟨.cesCfg, 4, 0x10004, [(128, 64)], 1, 0xFFFF, 0⟩, ⟨.cesCfg, 5, 0x10005, [(128, 64)], 1, 0x3FFFF, 0⟩,
    ⟨.cesCfg, 6, 0x10006, [(128, 64)], 1, all32, 0⟩, ⟨.cesCfg, 7, 0x10007, [(128, 64)], 1, 0, 0⟩,
    ⟨.cesStatus, 0, 0x10008, [(128, 64)], 11, 0, 0⟩, ⟨.reserved, 0, 0x10009, [(128, 64), (7, 1)], 1, 0, 0⟩,
    ⟨.cesTxHdr, 0, 0x10010, [(128, 64), (16, 1)], 1, all32, 0⟩, ⟨.counter, 0, 0x10020, [(128, 64), (32, 1)], 1, 0, 0⟩ ]

/-- CRYPTO (Table CRYPTO-4). -/
def rowsCry : List ObjRow :=
  [ ⟨.cryCfg, 0, 0, [], 1, 0x3F3F, 0x2826⟩, ⟨.cryCtl, 0, 1, [], 1, 1, 0⟩, ⟨.cryStatus, 0, 2, [], 1, 0, 0⟩,
    ⟨.cryLatch, 0, 3, [], 1, 0x3F, 0⟩, ⟨.cryKeyLoad, 0, 0x10, [], 1, 0xFFFFFF, 0⟩,
    ⟨.cryKeyLoad, 1, 0x11, [(12, 1)], 1, all32, 0⟩, ⟨.counter, 0, 0x100, [(14, 1)], 1, 0, 0⟩,
    ⟨.reserved, 0, 0x10E, [(50, 1)], 1, 0, 0⟩, ⟨.crySlot, 0, 0x10000, [(4096, 4), (4, 1)], 1, 0, 0⟩,
    ⟨.cryFlowMode, 0, 0x20000, [(16384, 1)], 1, all32, 0⟩ ]

/-- PWR (Table PWR-6). -/
def rowsPwr : List ObjRow :=
  [ ⟨.pwrCause, 0, 0, [], 0, 0x3F00, 0⟩, ⟨.pwrSleepCfg, 0, 1, [], 0, 0xFFFFFF, 0⟩, ⟨.pwrResetCtl, 0, 2, [], 1, all32, 0⟩,
    ⟨.pwrDomStatus, 0, 0x10, [(13, 1)], 1, 0, 0⟩, ⟨.pwrDomCtl, 0, 0x21, [(12, 1)], 1, 1, 0⟩,
    ⟨.counter, 0, 0x100, [(13, 16), (8, 1)], 1, 0, 0⟩, ⟨.reserved, 0, 0x108, [(13, 16), (8, 1)], 1, 0, 0⟩ ]

/-- FAULT (Tables CMD-8 and FAULT-7). -/
def rowsFlt : List ObjRow :=
  [ ⟨.fltSub, 0, 0, [(2, 1)], 1, 0xFFFE, 0⟩, ⟨.fltRing, 0, 8, [(2, 1)], 1, 0, 0⟩, ⟨.fltPending, 0, 0x10, [], 1, 0, 0⟩,
    ⟨.fltIndex, 0, 0x11, [], 1, 0, 0⟩, ⟨.fltMask, 0, 0x108, [(15, 8), (8, 1)], 1, all32, 0⟩,
    ⟨.fltCfg, 0, 0x200, [], 1, 0xF, 0xF⟩, ⟨.fltStatus, 0, 0x201, [], 1, 0, 0⟩, ⟨.fltLastEcc, 0, 0x202, [(2, 1)], 1, 0, 0⟩,
    ⟨.counter, 0, 0x210, [(22, 1)], 1, 0, 0⟩, ⟨.reserved, 0, 0x226, [(26, 1)], 1, 0, 0⟩,
    ⟨.fltMirror, 0, 0x800000, [(1048576, 4), (4, 1)], 8, 0, 0⟩ ]

/-- FW (Table PWR-6). -/
def rowsFw : List ObjRow :=
  [ ⟨.fwBoot, 0, 0, [], 1, 0, 0⟩, ⟨.fwUpdate, 0, 1, [(2, 1)], 1, 0, 0⟩, ⟨.fwBank, 0, 0x10, [(2, 8), (4, 1)], 1, 0, 0⟩ ]

/-- FUSE (Table CRYPTO-4). -/
def rowsFuse : List ObjRow :=
  [ ⟨.fuseStatus, 0, 0, [], 1, 0, 0⟩, ⟨.fuseArm, 0, 1, [], 1, all32, 0⟩, ⟨.fuseBlow, 0, 2, [], 1, 7, 0⟩,
    ⟨.fuseHash, 0, 0x10, [(4, 16), (12, 1)], 1, 0, 0⟩ ]

/-- The rows of a block (Table CMD-5). -/
def blockRows (code : Nat) : List ObjRow :=
  match code with
  | 0x01 => rowsSys | 0x02 => rowsTick | 0x10 => rowsCh true 2 | 0x11 => rowsCh false 4 | 0x20 => rowsVonu
  | 0x28 => rowsBurin | 0x30 => rowsClass | 0x38 => rowsQ | 0x40 => rowsBpm | 0x48 => rowsAl | 0x50 => rowsEth
  | 0x58 => rowsTime | 0x60 => rowsCes | 0x68 => rowsCry | 0x70 => rowsPwr | 0x78 => rowsFlt | 0x7C => rowsFw
  | 0x7E => rowsFuse | _ => []

/-- What an object address names (R56); none: it names no object word. Stipple copies (R78) are found apart. -/
def findObj (a : Nat) : Option Found := (blockRows (a / 2 ^ 24)).findSome? (·.find (a % 2 ^ 24))

/-- A counter of the per-second set, named by the address of either word (R77, R350). -/
def isPerSecond (a : Nat) : Bool := (findObj a).any (·.obj = .counter)

/-- The live counter whose stipple copy an address names (R78). [DESIGN CHOICE, unsafe: log 142] -/
def stippleOf (a : Nat) : Option Nat :=
  if a / 2 ^ 23 % 2 = 1 ∧ (findObj a).isNone ∧ isPerSecond (a - 2 ^ 23) then some (a - 2 ^ 23) else none

/-- The value of a stored word that nothing has written: its reset value (R10). [DESIGN CHOICE, safe: log 19] -/
def resetWord (a : Nat) : Word := ((findObj a).map (·.reset)).getD 0

/-- The address of word `i` of a block. -/
abbrev addrOf (block i : Nat) : Nat := block * 2 ^ 24 + i

end Sys2Proof.Machine
end

