-- ==== Sys2Proof/Machine/State.lean ====
section
/-! DEFINITION. The state of the block, as plain data, and the state right after reset. Object words that only hold what
the host wrote live in `words`, keyed by object address, with the reset value unlisted; every 64-bit counter lives in
`counters`, keyed by the address of its low word, with 0 unlisted. Everything else the manual names has a field. -/

namespace Sys2Proof.Machine

/-- A sparse map in canonical form: keys strictly rising, and no entry equal to what an unlisted key reads as.
[DESIGN CHOICE, safe: log 19] -/
abbrev SMap (α : Type) := List (Nat × α)

/-- One value for each channel. -/
structure Two (α : Type) where
  a : α
  b : α
deriving DecidableEq, Repr

/-- One value for each transport. -/
structure PerT (α : Type) where
  twi : α
  alanov : α
deriving DecidableEq, Repr

/-- A tick source (Table TICK-8). -/
inductive Src | ref | chan (c : Chan)
deriving DecidableEq, Repr

/-- Where the device is between resets: held in reset from outside, in an internal reset of 100 µs, booting, ready, in
recovery, on the way into deep sleep, in deep sleep, or in the safe state (R433, R459, R463, R468, R469). -/
inductive Phase | inReset | internalReset | booting | ready | recovery | sleeping | asleep | safe
deriving DecidableEq, Repr

/-- The 64-bit counters by address, and, while a late stipple copy runs, the values they have taken since its tick,
latest first (R77). -/
structure Ctrs where
  now : SMap (BitVec 64)
  trail : Option (List (Nat × BitVec 64))
deriving DecidableEq, Repr

/-! ## Tick -/

/-- Work of one class found incomplete at the close of its window, to be reported at the next tick (R17). -/
structure Overrun where
  cls : Nat
  tick : BitVec 64
  items : BitVec 24
deriving DecidableEq, Repr

structure TickSt where
  started : Bool
  number : BitVec 64
  source : Src
  selected : Src
  lastPeriod : BitVec 16
  stretched : Bool
  changes : BitVec 32
  overrunCount : SMap (BitVec 32)
  budget : BitVec 14
  overran : List Overrun
  disturbed : BitVec 16
  suspect : BitVec 16
  suspectSecond : Bool
  second : BitVec 30
  incomplete : Bool
  secondSuspect : Bool
  snap : Option (SMap (BitVec 64))
  copying : Option (SMap (BitVec 64))
  snapSuspect : Bool
  startedEvent : Bool
  resyncs : List (BitVec 64 × BitVec 4)
  judged : List (Nat × BitVec 64)
  foldLag : Nat
  folds : List (SMap (BitVec 64))
  spurious : BitVec 16
  transit : List (Nat × Nat)
deriving DecidableEq, Repr

/-! ## Commands, replies, events -/

/-- A command packet with its opcode. -/
structure Pkt where
  op : Byte
  r : Req
deriving DecidableEq, Repr

/-- A reply (Table CMD-1). -/
structure Reply where
  op : Byte
  seq : BitVec 16
  flags : BitVec 8
  status : Byte
  addr : BitVec 32
  param : BitVec 32
  payload : List Byte
deriving DecidableEq, Repr

/-- One of the last 32 accepted commands of a transport, whether its interim reply has been sent (R53), and its final
reply once sent (R50). -/
structure Past where
  seq : BitVec 16
  posted : Bool
  interim : Bool
  reply : Option Reply
deriving DecidableEq, Repr

/-- Work that a command started and that takes time (R53): the final reply follows at COMMAND_COMPLETION.
[DESIGN CHOICE, safe: log 32] -/
inductive Work
  | imageVerify (bank : Bool)
  | imageData (bank : Bool)
  | imageActivate (bank : Bool)
  | fuseBlow (fuse : Nat)
  | plateSwap (tick : BitVec 32)
deriving DecidableEq, Repr

/-- A command in execution (R40). -/
structure Running where
  pkt : Pkt
  work : Work
deriving DecidableEq, Repr

/-- Accepted commands that wait for a tick: one command, or a whole chain (R62, R63, R65); `verdict` holds the status of
each by the second check, once APPLY has prepared them (R62). -/
structure Held where
  pkts : List Pkt
  due : BitVec 64
  atTick : Bool
  verdict : Option (List Nat)
deriving DecidableEq, Repr

structure PortSt where
  expected : Option (BitVec 16)
  history : List Past
  running : List Running
  chain : List Pkt
  chainRefused : Bool
  replies : List Reply
  badCrc : Byte
  seqErr : Byte
  runt : Byte
  recovered : Byte
deriving DecidableEq, Repr

/-- What an accepted SLEEP or command reset waits for (R459, R463). -/
inductive WaitFor | sleep | reset
deriving DecidableEq, Repr

structure WaitSt where
  what : WaitFor
  t : Transport
  seq : BitVec 16
deriving DecidableEq, Repr

structure CmdSt where
  port : PerT PortSt
  held : List Held
  wait : Option WaitSt
deriving DecidableEq, Repr

/-- An event record (Table CMD-6), and whether it counted on its contact. -/
structure EvRec where
  code : BitVec 16
  time : BitVec 48
  p : BitVec 64
  unmasked : Bool
deriving DecidableEq, Repr

structure EvSt where
  ring : List EvRec
  mirror : SMap EvRec
  next : BitVec 32
  pos : PerT (BitVec 32)
  lost : PerT (BitVec 18)
  lossRun : PerT Bool
  alarm : BitVec 16
  attn : BitVec 16
deriving DecidableEq, Repr

/-! ## Optical channels -/

inductive Hunt | off | hunt | candidate | sync
deriving DecidableEq, Repr

/-- A tracked candidate position of the registration hunt (R95). -/
structure Cand where
  pos : Nat
  sfc : BitVec 51
  advances : Nat
deriving DecidableEq, Repr

inductive TxState | off | warmup | ready | fault | latched
deriving DecidableEq, Repr

/-- One fragment of an XGEM SDU as received, with the SFC64 of its frame, its place there and its key index. -/
structure Piece where
  sfc : BitVec 64
  pos : Nat
  keyIndex : BitVec 2
  data : List Byte
deriving DecidableEq, Repr

/-- A partly reassembled XGEM SDU (R107): its fragments in order, its P9 cells, and Stylus time T at the
time-stamp point of its first (Table TIME-3). -/
structure Partial where
  pieces : List Piece
  cells : List (Nat × Nat)
  first : BitVec 96
deriving DecidableEq, Repr

/-- A PLOAM message waiting for service, with the vONUs it reaches and the tick of its arrival. -/
structure PloamWait where
  msg : PloamMsg
  targets : List (BitVec 9)
  arrived : BitVec 64
  cell : Option Nat
deriving DecidableEq, Repr

structure ChanSt where
  modeActive : BitVec 2
  hunt : Hunt
  cands : List Cand
  promotedPos : Nat
  badCount : BitVec 4
  sfc64 : BitVec 64
  mismatched : Bool
  los : Bool
  lof : Bool
  chLoss : Bool
  sd : Bool
  sf : Bool
  cdr : Bool
  eqConverged : Bool
  relocking : Bool
  restarting : Bool
  running : Bool
  winFrames : Nat
  winBits : Nat
  winUncorr : Nat
  sdGood : Nat
  sfGood : Nat
  seenLos : Bool
  seenLof : Bool
  seenLoss : Bool
  taps : List (BitVec 16)
  keptTaps : List (BitVec 16)
  tx : TxState
  tecLocked : Bool
  biasCal : Bool
  warmFromReady : Bool
  rateLast : BitVec 2
  mon : MonSample
  reasm : SMap (Option Partial)
  ploamQ : List PloamWait
  micFails : Nat
  keyMissingRaised : Bool
  holdCrc : Bool
  holdClock : Bool
  holdRail : Bool
  holdReload : Bool
  fsOk : Bool
  payloadDrop : Bool
  burstDone : Bool
  frameTime : BitVec 64
  /-- SYNC has ended by its counts at the frame boundary just passed, where a tick may still occur (R13). -/
  lossEdge : Bool
deriving DecidableEq, Repr

/-! ## vONUs -/

inductive Life | free | created | active | retiring
deriving DecidableEq, Repr

/-- The activation states of Table VONU-2. -/
inductive Act | idle | o1 | o23 | o4 | o5 | o6 | o7 | o8 | o9
deriving DecidableEq, Repr

/-- A queued upstream PLOAM message with the MIC it was given (R153, R402), in the order of queueing. -/
structure UpPloam where
  msg : UpMsg
  mic : BitVec 64
  seq : Nat
deriving DecidableEq, Repr

/-- A queued upstream OMCI message with its MIC (R159), in the order of queueing. -/
structure UpOmci where
  data : List Byte
  seq : Nat
deriving DecidableEq, Repr

/-- One vONU on one channel. -/
structure VCh where
  act : Act
  onuId : Option (BitVec 10)
  eqd : Option (BitVec 32)
  eqdOrder : Nat
  expiry : Option (BitVec 64)
  profiles : List Profile
  upQ : List UpPloam
  omciQ : List UpOmci
  /-- The number of the next message to be queued. -/
  upSeq : Nat
  tuneAt : Option (BitVec 51)
  answered : Bool
  upKey : BitVec 2
  sleepAllow : Byte
deriving DecidableEq, Repr

structure Vonu where
  sn : BitVec 64
  regId : BitVec 288
  life : Life
  enable : Two Bool
  standby : Two Bool
  ch : Two VCh
deriving DecidableEq, Repr

/-- A VALID entry of VONU_ALLOC. -/
structure AllocE where
  allocId : BitVec 14
  vonu : BitVec 9
  chan : Chan
deriving DecidableEq, Repr

/-- A message of the OMCI receive ring. -/
structure OmciMsg where
  vonu : BitVec 9
  chan : Chan
  tick : BitVec 32
  data : List Byte
deriving DecidableEq, Repr

/-- A vONU that has moved in this tick, and is still to be reported: its state before, the cause of its latest
transition, and which moves share that cause (R134, R137). [DESIGN CHOICE, safe: log 131] -/
structure Moved where
  chan : Chan
  vonu : Nat
  old : Act
  cause : Nat
  batch : Nat
deriving DecidableEq, Repr

structure VonuSt where
  vonus : SMap Vonu
  alloc : SMap (Option AllocE)
  eqdSeq : Nat
  lastAnswer : Two (BitVec 9)
  windowEnd : Two Nat
  omciProd : BitVec 32
  omciRing : SMap (Option OmciMsg)
  omciWrote : Bool
  lastEvicted : Bool
  sysProfile : Two (List Byte)
  chProfile : Two (SMap Pair)
  moved : List Moved
  batch : Nat
deriving DecidableEq, Repr

/-! ## Bursts and the laser guard -/

inductive BurstKind | data | ranging | serial
deriving DecidableEq, Repr

/-- One allocation of a burst: the VONU_ALLOC entry, its size and the reports it asks for. -/
structure BAlloc where
  entry : Nat
  size : Nat
  dbru : Bool
deriving DecidableEq, Repr

/-- What a time-stamp descriptor says of a PTP event message (Table TIME-5). -/
structure Ptp where
  msgType : BitVec 4
  domain : Byte
  sequence : BitVec 16
  portNumber : BitVec 16
deriving DecidableEq, Repr

/-- An upstream XGEM frame of a burst: the payload in clear, and as sent; `last` says that it ends its SDU, whose cells
go free when the burst has left. -/
structure UpXgem where
  vonu : BitVec 9
  flow : Option Nat
  port : BitVec 16
  keyIndex : BitVec 2
  first : Bool
  last : Bool
  plain : List Byte
  sent : List Byte
  ptp : Option Ptp
  cells : List Nat
  seq : Nat
  off : Nat
deriving DecidableEq, Repr

/-- The content of one allocation as committed: OMCI messages, XGEM frames, idle bytes and the DBRu (none: not asked;
`some none`: the invalid-report value). -/
structure BContent where
  entry : Nat
  omci : List UpOmci
  xgems : List UpXgem
  idle : Nat
  dbru : Option (Option Nat)
deriving DecidableEq, Repr

/-- An admitted burst (R171 to R180). Times count units of 1/31,104 ns: 625 units are one bit period at 49.7664 Gbit/s. -/
structure Burst where
  vonu : BitVec 9
  kind : BurstKind
  /-- StartTime of its first allocation, and SFC64 of the frame whose BWmap granted it. -/
  startTime : Nat
  frame : BitVec 64
  start : Int
  stop : Int
  profile : Profile
  ploamu : Bool
  allocs : List BAlloc
  tick : BitVec 64
  committed : Bool
  judged : Bool
  content : List BContent
  up : Option UpPloam
  onuId : Option (BitVec 10)
deriving DecidableEq, Repr

/-- A shadow window (R193, R194), from and to a cycle of the transmit-burst clock, and its end by the transmit-symbol clock
in units (R431). -/
structure Win where
  start : Int
  stop : Int
  serial : Bool
  symStop : Int
deriving DecidableEq, Repr

/-- The window of a serial-number grant: with the slot length, in units, and the laser-on episodes so far (R194). -/
structure SnWin where
  tick : BitVec 64
  start : Int
  stop : Int
  symStop : Int
  slot : Nat
  episodes : Nat
deriving DecidableEq, Repr

/-- What a decoder's tables hold of a vONU on their channel (R197). -/
structure TabV where
  enabled : Bool
  act : Act
  onuId : Option (BitVec 10)
  eqd : Option (BitVec 32)
  profiles : List Profile
deriving DecidableEq, Repr

/-- A channel's decoder tables, the Burin's own or the guard's twin copy, as they apply to the partition of the tick
(R192, R197). -/
structure Tab where
  alloc : SMap (Option AllocE)
  vonus : SMap TabV
  perWindow : Nat
deriving DecidableEq, Repr

/-- A marked twin entry: its table (Table BURIN-8) and index. -/
structure Mark where
  table : BitVec 2
  index : BitVec 13
deriving DecidableEq, Repr

structure BCh where
  structsLast : Nat
  ownLast : Nat
  decodeLast : Nat
  bursts : List Burst
  current : Option Burst
  trips : List (BitVec 64)
  lastCause : BitVec 2
  marks : List Mark
  switchOpen : Bool
  twinPass : BitVec 16
  /-- The shadow lists of the latest partitions, by tick and frame. -/
  shadow : List (BitVec 64 × BitVec 64 × Option (List Win))
  testTrip : Bool
  /-- The events already raised in this tick that come once for a channel and tick. -/
  told : List Nat
  /-- Own allocations decoded in this tick, by the Burin and by the shadow decoder (R170, R192). -/
  partOwn : Nat
  shadowOwn : Nat
  own : Tab
  twin : Tab
  serials : List SnWin
  lit : Bool
  /-- Where the laser-on episode in progress began. -/
  litFrom : Int
deriving DecidableEq, Repr

/-! ## Packets -/

/-- A packet in the datapath: where it came from, its colour, its bytes (FCS excluded), the cells
that hold it, the Alanov channel whose credit it holds, and the flow context it is bound for where that is known.
[DESIGN CHOICE, safe: log 20] -/
structure Packet where
  kind : BitVec 2
  index : BitVec 9
  xgemPort : BitVec 16
  colour : BitVec 2
  bytes : List Byte
  cells : List (Nat × Nat)
  creditCh : Option Nat
  flow : Option Nat
deriving DecidableEq, Repr

/-- A final action (R220, Table CLASS-5). -/
structure Action where
  cls : BitVec 3
  colour : BitVec 2
  queue : Option (BitVec 16)
  meter : Option (BitVec 16)
  counter : Option (BitVec 18)
  dispose : BitVec 2
  recircKind : BitVec 1
  decapLayer : BitVec 2
  metaTag : BitVec 5
deriving DecidableEq, Repr

/-- The header a pass begins with (R211); `other`: one that Table CLASS-1 does not list. -/
inductive StartHdr | ethernet | ipv4 | ipv6 | other
deriving DecidableEq, Repr

/-- A packet between its passes: its stamp (the plate of its first pass), its action, the bytes the last pass counted
(R222), the bytes of the layer that a DECAP strips, as the pass found them, and the header its next pass begins with. -/
structure InFlight where
  pkt : Packet
  plate : Bool
  act : Action
  counted : Nat
  cut : Nat
  start : StartHdr
deriving DecidableEq, Repr

/-- An entry of the fragment table (R232, R235). -/
structure Frag where
  key : List Nat
  act : Action
  plate : Bool
  generation : BitVec 16
  carried : Bool
  usedAt : BitVec 64
deriving DecidableEq, Repr

structure ClassSt where
  active : Bool
  retiring : Bool
  swapDue : Option Bool
  copyBusy : Bool
  generation : BitVec 16
  frags : List Frag
  fragFullRun : Bool
  ruleBad : List (Bool × BitVec 14)
  ruleMarks : List (Bool × BitVec 14)
  stale : Nat
  ingress : List Packet
  toDecap : List InFlight
  toDecrypt : List InFlight
  second : List InFlight
  toAdmit : List InFlight
  restoring : Bool
deriving DecidableEq, Repr

/-! ## Queues -/

structure Queue where
  pkts : List Packet
  start : BitVec 48
  finish : BitVec 48
  prevFinish : BitVec 48
  wasEligible : Bool
  kept : Option (BitVec 3 × BitVec 10)
deriving DecidableEq, Repr

/-- A node's shaper (tokens in 1/256 byte) and the virtual time of its weighted group. -/
structure Node where
  tokens : Int
  at_ : BitVec 64
  virt : BitVec 48
deriving DecidableEq, Repr

/-- A meter's two buckets, in bits times 10^6 (bytes, kbit/s and ns meet exactly), and when they were last filled. -/
structure Meter where
  c : Int
  e : Int
  at_ : BitVec 64
deriving DecidableEq, Repr

/-- A credit-based shaper's credit, in bits times 10^6, and when it was last brought up to date (R264). -/
structure Cbs where
  credit : Int
  at_ : BitVec 64
deriving DecidableEq, Repr

/-- A copy of a hatch list: BASE, CYCLE and its entries (gate mask, interval). -/
structure HCopy where
  base : BitVec 64
  cycle : Nat
  entries : List (BitVec 8 × Nat)
deriving DecidableEq, Repr

/-- A start of a copy: its instant, and the tick and the Stylus time Tc from which it was counted (R260). -/
structure HStart where
  at_ : BitVec 64
  tick : BitVec 64
  ns : BitVec 64
deriving DecidableEq, Repr

/-- A list's copies: the active one, one that a commit holds, and an active one that awaits its restart after PD_PKT's
entry while a commit holds another (R260, R267). `begun` is the start that HATCH_STARTED reports. -/
structure Hatch where
  active : Option HCopy
  pending : Option HCopy
  again : Option (HCopy × HStart)
  begun : HStart
  start : BitVec 64
  commitTick : BitVec 64
  commitNs : BitVec 64
  copying : Bool
  current : BitVec 8
deriving DecidableEq, Repr

structure QSt where
  queues : SMap Queue
  nodes : SMap (Option Node)
  meters : SMap (Option Meter)
  credits : SMap (Option Cbs)
  hatch : SMap Hatch
  yGuard : BitVec 12
  rGuard : BitVec 12
  flushing : Option (BitVec 16)
  oversize : List (BitVec 6)
  eccShut : List (BitVec 6)
  rearm : Bool
deriving DecidableEq, Repr

/-! ## Staging -/

/-- A frame staged in P8 for a VONU_ALLOC entry: what is still to be sent of it, its cells, and its flow; its number among
the entry's frames, the bytes of it that lie before, and whether it ends its SDU. -/
structure SFrame where
  data : List Byte
  cells : List Nat
  vonu : BitVec 9
  flow : Option Nat
  port : BitVec 16
  seq : Nat
  off : Nat
  ends : Bool
deriving DecidableEq, Repr

/-- The staging of one VONU_ALLOC entry: its frames, its recent grants, the snapshot in use with what was removed since
it was taken, and the latest tick's snapshot, not yet complete (R187 to R189). -/
structure Stage where
  frames : List SFrame
  peaks : List (BitVec 64 × Nat)
  snapshot : Nat
  removed : Nat
  snapOk : Bool
  taken : Option Nat
  takenRemoved : Nat
  /-- The number of the next frame to be staged. -/
  nextSeq : Nat
deriving DecidableEq, Repr

structure BurinSt where
  ch : Two BCh
  stage : SMap Stage
  urgent : List (Nat × Nat)
  poolEmptyRun : Bool
  stageFloor : Nat
  stageCap : Nat
  stagePeak : Nat
  lowWater : Nat
  turn : Nat
deriving DecidableEq, Repr

/-! ## Buffer pools -/

/-- The state byte and reference count of a cell that is not free (R281, R284). [DESIGN CHOICE, safe: log 20] -/
structure Cell where
  state : BitVec 2
  owner : BitVec 6
  refs : BitVec 10
deriving DecidableEq, Repr

structure Pool where
  cells : SMap Cell
  lowWater : Nat
  emptyRun : Bool
  lowRun : Bool
  reinit : Bool
  carried : List PoolReq
deriving DecidableEq, Repr

structure BpmSt where
  pools : SMap Pool
  lastRefusal : BitVec 96
  trained : BitVec 4
  refresh2x : Bool
  dramTemp : BitVec 16
  temps : List (BitVec 16)
  trainedAt : List (BitVec 16)
deriving DecidableEq, Repr

/-! ## Alanov Link -/

inductive LinkState | down | clock | adapt | lock | deskew | waitPeer | active | loop | failed
deriving DecidableEq, Repr

structure Lane where
  locked : Bool
  deskewed : Bool
  failed : Bool
  logical : BitVec 4
  skew : BitVec 7
  bip : List Nat
  ctle : BitVec 4
  dfe : BitVec 30
  ready : Bool
  readyRun : Nat
  period : Option (BitVec 16)
deriving DecidableEq, Repr

structure Credit where
  peerLimit : BitVec 12
  consumed : BitVec 12
  limit : BitVec 12
  seen : BitVec 12
  held : BitVec 12
  /-- The ADVERTISE in force, that of the latest calendar round (R319). -/
  adv : BitVec 12
deriving DecidableEq, Repr

structure Prbs where
  pattern : BitVec 2
  invert : Bool
  gen : Bool
  chk : Bool
  sync : Bool
  errors : BitVec 32
  bits : BitVec 64
deriving DecidableEq, Repr

/-- The fields of an ALIGN block that the device's state decides (Table ALINK-2). -/
structure AlignTx where
  logical : BitVec 4
  rxReady : Bool
  repairReq : BitVec 4
deriving DecidableEq, Repr

structure AlinkSt where
  state : LinkState
  failCause : BitVec 4
  peerReady : Bool
  loopKind : BitVec 2
  lanes : SMap Lane
  rxUse : Option (BitVec 3)
  txUse : Option (BitVec 3)
  request : Option (BitVec 3)
  commanded : Bool
  peerRequest : BitVec 4
  credits : SMap (Option Credit)
  prbs : SMap Prbs
  lossRun : List Nat
  badRun : Bool
  cesWait : List (BitVec 7 × List Byte)
  period : Option (BitVec 16)
  /-- The alignment period in which the last move towards the device was made: in it the old lane still marks the logical lane
  (R307). -/
  movedAt : Option (BitVec 16)
  /-- The frame sent last may still be in transmission. -/
  sending : Bool
  /-- What the ALIGN blocks of each physical lane carry; none: the lane sends none. -/
  sentAlign : SMap (Option AlignTx)
deriving DecidableEq, Repr

/-! ## Ethernet -/

inductive EthState | down | an | train | linkWait | up | loop
deriving DecidableEq, Repr

structure EthPort where
  state : EthState
  rateActive : BitVec 2
  fecActive : BitVec 2
  lpiTx : Bool
  lpiRx : Bool
  paused : Bool
  pfcHeld : BitVec 8
  loopKind : BitVec 2
  txTw : BitVec 16
  rxTw : BitVec 16
  partnerTw : BitVec 16
  xoffSent : Bool
  overflowRun : Bool
  noSaRun : Bool
  skew : BitVec 32
  txFrame : Option (List Byte)
  returned : List (List Byte)
  /-- An LLDPDU waits for a hold to end. -/
  lldpDue : Bool
deriving DecidableEq, Repr

structure EthSt where
  ports : SMap EthPort
deriving DecidableEq, Repr

/-! ## Time -/

inductive Servo | free | acquiring | locked | holdover | host
deriving DecidableEq, Repr

inductive Eec | freeRun | locked | holdover
deriving DecidableEq, Repr

/-- A time-of-day input (R362). -/
structure TodIn where
  sfc : BitVec 51
  seconds : BitVec 48
  ns : BitVec 32
  teqd : BitVec 32
deriving DecidableEq, Repr

/-- A time-of-day result (Table TIME-8). -/
structure TodOut where
  status : BitVec 2
  sfc : BitVec 51
  errorPs : BitVec 64
  dPs : BitVec 32
deriving DecidableEq, Repr

structure TimeSt where
  count : BitVec 64
  offset : BitVec 96
  inc : BitVec 64
  hostOwner : Bool
  servo : Servo
  eec : Eec
  stepSeq : BitVec 4
  good : Nat
  integ : Int
  lastUsable : BitVec 64
  eecSince : BitVec 64
  /-- The tick since which a channel has been tick source, and PD_TIME on. -/
  chanSince : Option (BitVec 64)
  /-- The frequency over each second of LOCKED, in 2⁻³² TIME cycles a REF cycle, the latest first (R359). -/
  lockedRates : List Nat
  /-- The frequency that HOLDOVER holds, in the same units, and the fraction of a cycle it has come to. -/
  holdRate : Nat
  holdFrac : Nat
  ppsOk : Bool
  ppsEdge : BitVec 64
  ppsDev : BitVec 32
  ppsDevRun : Bool
  ppsHigh : Bool
  ppsLast : Option (BitVec 64)
  ppsEnd : BitVec 64
  producer : BitVec 32
  tsQueue : List (List Byte)
  tsRing : SMap (List Byte)
  tsDropRun : Bool
  heldErr : List Int
  todIn : Two (Option TodIn)
  todOut : Two TodOut
  latches : Two (SMap (Option (BitVec 96)))
deriving DecidableEq, Repr

/-! ## Circuit emulation -/

/-- A stored jitter-buffer position: its payload and its L bit. -/
structure JPos where
  data : List Byte
  l : Bool
deriving DecidableEq, Repr

/-- A tributary framer (R380): the latest frame periods of line bits, newest last; in frame, the bit offset of the framing
and the number of the frame due next; its latest checks, newest first; for CRC-4, whether the multiframe is found, the
first bits of the latest frames without the alignment signal, and the blocks checked and failed.
[PRESUMED, unsafe: log 14] -/
structure Framer where
  periods : List (List Bool)
  offset : Option Nat
  frame : Nat
  errs : List Bool
  multi : Bool
  first : List Bool
  blocks : Nat
  failed : Nat
deriving DecidableEq, Repr

/-- A framing generator (R390): the number of the next frame, the place in the data link's flag, the check value of the
block before and the bits of the block so far. [PRESUMED, unsafe: log 14] -/
structure Gen where
  frame : Nat
  link : Nat
  crc : Nat
  block : List Bool
deriving DecidableEq, Repr

/-- A frame towards the tributary after Table CES-2's choice: the content of its timeslots, whether the row is marked AIS, and
whether it is unframed all ones. -/
structure PlayFrame where
  content : List Byte
  ais : Bool
  unframed : Bool
deriving DecidableEq, Repr

/-- One tributary; `owed` counts the line bits that packets of all ones have already stood for. -/
structure Trib where
  upLof : Bool
  ssLoss : Bool
  lops : Bool
  aisTx : Bool
  lRx : Bool
  rRx : Bool
  playing : Bool
  monLof : Bool
  framer : Framer
  monitor : Framer
  generator : Gen
  nextPlay : BitVec 16
  jb : SMap (Option JPos)
  timer : Bool
  inSeq : Nat
  lastSeq : BitVec 16
  seqTx : BitVec 16
  rtpBase : BitVec 32
  txBits : Nat
  ssSeq : Option Byte
  hostLos : Bool
  lineBits : List Bool
  owed : Nat
  ssTxSeq : Byte
  toPlay : List (List Byte × Bool)
  playOff : Nat
  /-- The slip buffer of two frames, and the frame that it gave last (R389). -/
  slipBuf : List PlayFrame
  lastFrame : Option PlayFrame
  slipAt : Option (BitVec 64)
  ncoPpm : BitVec 12
deriving DecidableEq, Repr

structure CesSt where
  tribs : SMap Trib
  rx : SMap (List Packet)
deriving DecidableEq, Repr

/-! ## Key store, cipher engine, test port -/

structure Slot where
  state : BitVec 2
  isDefault : Bool
  key : List Byte
  usage : BitVec 64
  loadTick : BitVec 32
deriving DecidableEq, Repr

/-- The key store and the test port; `ir` is the test port's instruction, none while a drypoint instruction is loaded
(R414, R416). -/
structure CryptoSt where
  slots : SMap Slot
  alarmActive : BitVec 5
  alarmLatch : BitVec 6
  rngOk : Bool
  lockedOut : Bool
  ir : Option TapInstr
  boundary : List Bool
  armed : Bool
deriving DecidableEq, Repr

structure Fuses where
  dbgLock : Bool
  legacyLock : Bool
  revoked : BitVec 4
  hashValid : BitVec 4
  hashes : List (BitVec 384)
deriving DecidableEq, Repr

/-! ## Fault coverage -/

structure Handover where
  phase : BitVec 2
  bank : Bool
  from_ : BitVec 64
  passed : Bool
  /-- A pair has failed on the new image: the handover is abandoned, and ends when that pair is back (R440). -/
  failing : Bool
deriving DecidableEq, Repr

/-- A scrub pass under way: slices done, ticks taken, and whether this tick's slice is held over (R425). -/
structure Scrub where
  done : Nat
  ticks : Nat
  held : Bool
deriving DecidableEq, Repr

/-- The scrub passes: burnisher, rule-memory check, configuration CRC, DRAM patrol. -/
structure Scrubs where
  burnish : Scrub
  rule : Scrub
  crc : Scrub
  patrol : Scrub
deriving DecidableEq, Repr

structure FaultSt where
  outside : Bool
  supplyOut : Bool
  guarantee : Bool
  rtOk : Bool
  svcOk : Bool
  rtFailed : Bool
  svcFailed : Bool
  rtMismatches : List (BitVec 64)
  svcMismatches : List (BitVec 64)
  clockGroups : BitVec 11
  /-- The group of each failing domain beyond the first of its group (R430). -/
  clockMore : List (BitVec 4)
  clockPorts : BitVec 4
  lastEcc : BitVec 64
  handover : Option Handover
  crcBad : List (BitVec 8 × BitVec 4)
  goldenBad : List EccErr
  scrubs : Scrubs
deriving DecidableEq, Repr

/-! ## Power -/

inductive DomSt | off | poweringUp | on | shuttingDown | failed
deriving DecidableEq, Repr

structure Dom where
  st : DomSt
  votes : BitVec 9
  isolated : Bool
  acked : Bool
  offAsked : Bool
  lastRefuser : BitVec 4
  lastAborter : BitVec 4
  railAt : Option (BitVec 64)
  railBad : Bool
  retryOk : Bool
deriving DecidableEq, Repr

/-- A request to the power die, the first of the list awaiting its acknowledgement (R455, R456). -/
structure DieReq where
  dom : Nat
  on : Bool
  reissued : Bool
deriving DecidableEq, Repr

/-- The lifetime counters: power-on time in ticks, laser-on time of each channel in ns, guard trips (Table BPM-5). -/
structure Lifetimes where
  power : BitVec 64
  laser : Two (BitVec 64)
  trips : BitVec 64
deriving DecidableEq, Repr

structure PowerSt where
  doms : SMap Dom
  die : List DieReq
  cause : BitVec 3
  wakeSrc : BitVec 3
  safeCause : BitVec 2
  history : BitVec 6
  wakeMask : BitVec 3
  wakeArmed : Bool
  wakeLow : Bool
  safePending : Bool
  life : Lifetimes
  lifeDue : Bool
deriving DecidableEq, Repr

/-! ## Firmware banks, MRAM, part, legacy -/

inductive BankSt | empty | writing | installed | verified | running
deriving DecidableEq, Repr

structure Bank where
  st : BankSt
  version : BitVec 32
  length : BitVec 24
  lastVerify : BitVec 10
  image : SMap Byte
deriving DecidableEq, Repr

structure FwSt where
  runningBank : Bool
  pref : Bool
  fallback : Bool
  keyIndex : BitVec 2
  failedMark : BitVec 2
  banks : Two Bank
  open_ : Option (Bool × BitVec 24)
  digest : Option (BitVec 384 × BitVec 2)
deriving DecidableEq, Repr

structure Estop where
  sn : BitVec 64
  chan : Chan
deriving DecidableEq, Repr

/-- A record of the log region: of a fault, of the lifetime counters, or one that an uncorrectable error took. -/
inductive LogRec | fault (r : EvRec) | life (l : Lifetimes) | lost
deriving DecidableEq, Repr

structure Mram where
  estops : List Estop
  prefBank : Option Bool
  pacing : Bool
  log : List LogRec
  logTimes : List (BitVec 64)
  logTotal : Nat
  life : Lifetimes
  pageWrites : SMap Nat
  wearSeen : List Nat
  wear : List (BitVec 16)
  safeStates : BitVec 64
  safeLog : Option (BitVec 2 × BitVec 32)
deriving DecidableEq, Repr

structure Part where
  stepping : BitVec 8
  grade : BitVec 2
  budget : BitVec 2
deriving DecidableEq, Repr

structure LegacySt where
  reply : List Byte
  tag : Byte
  busy : Bool
  paced : Option (List Byte)
  alarmMask : BitVec 32
  deviceFault : Bool
  bases : SMap (BitVec 64)
  tconts : SMap (Option (BitVec 14))
  restart : Bool
  late : Bool
  editing : Option Byte
deriving DecidableEq, Repr

/-- What has left the device at its contacts, in order: the model's own record (see the assumption log).
[DESIGN CHOICE, safe: log 6, 120] -/
inductive Output
  | bytes (t : Transport) (data : List Byte)
  | writeStatus (status : Byte)
  | twiNack
  | twiByteNack
  | legacyBytes (data : List Byte)
  | burst (c : Chan) (b : Burst)
  | alanov (desc : BitVec 56) (data : List Byte)
  | alanovCut
  | align (lane : Nat) (a : AlignTx)
  | credit (group : Nat) (limits : List (BitVec 12))
  | ethernet (e : BitVec 2) (data : List Byte)
  | control (e : BitVec 2) (pfc : BitVec 8) (quanta : BitVec 16)
  | pps
  | tdo (bits : List Bool)
deriving DecidableEq, Repr

/-- The levels of the strap contacts, and MADR as sampled. -/
structure Pins where
  modeSel : Bool
  madr : BitVec 3
  madrSampled : BitVec 3
deriving DecidableEq, Repr

/-- The whole block. -/
structure State where
  pending : List Instr
  phase : Phase
  legacy : Bool
  pins : Pins
  part : Part
  fuses : Fuses
  mram : Mram
  words : SMap Word
  counters : Ctrs
  stipple : SMap (BitVec 64)
  tick : TickSt
  cmd : CmdSt
  ev : EvSt
  chans : Two ChanSt
  vonu : VonuSt
  burin : BurinSt
  cls : ClassSt
  qs : QSt
  bpm : BpmSt
  alink : AlinkSt
  eth : EthSt
  time : TimeSt
  ces : CesSt
  crypto : CryptoSt
  fault : FaultSt
  power : PowerSt
  fw : FwSt
  leg : LegacySt
  freeCount : Nat
  out : List Output
deriving DecidableEq, Repr

/-- Why the machine stops with a fault. No command of this block stops with a fault: every error the manual describes is
a reply, a count or an event. The one reason below is kept so that the type is inhabited; nothing raises it (safe).
[DEDUCED, safe: log 18] -/
inductive Fault
  /-- Raised by nothing: the manual describes no stop. Safe. -/
  | noFault
deriving DecidableEq, Repr

/-- Why a command has no meaning. [DEDUCED, safe: log 18] -/
inductive Refusal
  /-- Raised by an arm of `exec` that has no meaning yet. Safe: nothing is claimed of the command. -/
  | notModelled (mnemonic : String)
deriving DecidableEq, Repr

/-! ## Reset -/

/-- [DESIGN CHOICE, unsafe: log 7] -/
def TickSt.reset : TickSt :=
  { started := false, number := 0, source := .ref, selected := .ref, lastPeriod := 19440, stretched := false
    changes := 0, overrunCount := [], budget := 0, overran := [], disturbed := 0, suspect := 0, suspectSecond := false
    second := 0, incomplete := false, secondSuspect := false, snap := none, copying := none, snapSuspect := false
    startedEvent := false, resyncs := [], judged := [], foldLag := 0, folds := [], spurious := 0, transit := [] }

def PortSt.reset : PortSt :=
  { expected := none, history := [], running := [], chain := [], chainRefused := false, replies := []
    badCrc := 0, seqErr := 0, runt := 0, recovered := 0 }

def CmdSt.reset : CmdSt := { port := ⟨.reset, .reset⟩, held := [], wait := none }

def EvSt.reset : EvSt :=
  { ring := [], mirror := [], next := 0, pos := ⟨0, 0⟩, lost := ⟨0, 0⟩, lossRun := ⟨false, false⟩, alarm := 0, attn := 0 }

/-- The equaliser preset (R87): main cursor 1.0 at the centre FFE tap, all other taps 0. -/
def presetTaps : Chan → List (BitVec 16)
  | .a => [0, 0, 0, 0x2000, 0, 0, 0, 0, 0, 0]
  | .b => [0, 0, 0x2000, 0, 0, 0, 0]

/-- [DESIGN CHOICE, unsafe: log 7] -/
def ChanSt.reset (c : Chan) : ChanSt :=
  { modeActive := 0, hunt := .off, cands := [], promotedPos := 0, badCount := 0, sfc64 := 0, mismatched := false
    los := true, lof := true, chLoss := true, sd := false, sf := false, cdr := false, eqConverged := false
    relocking := false, restarting := false, running := false, winFrames := 0, winBits := 0, winUncorr := 0
    sdGood := 0, sfGood := 0, seenLos := true, seenLof := true, seenLoss := true, taps := presetTaps c
    keptTaps := presetTaps c, tx := .off, tecLocked := false, biasCal := false, warmFromReady := false, rateLast := 0
    mon := ⟨0, 0, 0, 0, 0, 0⟩, reasm := [], ploamQ := [], micFails := 0, keyMissingRaised := false, holdCrc := false
    holdClock := false, holdRail := false, holdReload := true, fsOk := false, payloadDrop := false, burstDone := false, frameTime := 0
    lossEdge := false }

def noProfile : Profile :=
  { version := 0, rate := 0, fec := false, valid := false, fromHost := false, preLen := 0, preRep := 0, delLen := 0
    preamble := 0, delimiter := 0 }

def VCh.none : VCh :=
  { act := .idle, onuId := Option.none, eqd := Option.none, eqdOrder := 0, expiry := Option.none
    profiles := [noProfile, noProfile, noProfile, noProfile], upQ := [], omciQ := [], upSeq := 0, tuneAt := Option.none
    answered := false, upKey := 0, sleepAllow := 0 }

/-- A vONU without an identity (R127). -/
def Vonu.none : Vonu :=
  { sn := 0, regId := 0, life := .free, enable := ⟨false, false⟩, standby := ⟨false, false⟩, ch := ⟨.none, .none⟩ }

def VonuSt.reset : VonuSt :=
  { vonus := [], alloc := [], eqdSeq := 0, lastAnswer := ⟨511, 511⟩, windowEnd := ⟨0, 0⟩, omciProd := 0, omciRing := []
    omciWrote := false, lastEvicted := false, sysProfile := ⟨[], []⟩, chProfile := ⟨[], []⟩, moved := [], batch := 0 }

/-- Tables with nothing in them (R197). -/
def Tab.empty : Tab := { alloc := [], vonus := [], perWindow := 0 }

def TabV.empty : TabV :=
  { enabled := false, act := .idle, onuId := Option.none, eqd := Option.none
    profiles := [noProfile, noProfile, noProfile, noProfile] }

def BCh.reset : BCh :=
  { structsLast := 0, ownLast := 0, decodeLast := 0, bursts := [], current := none, trips := [], lastCause := 0
    marks := [], switchOpen := false, twinPass := 0, shadow := [], testTrip := false, told := []
    partOwn := 0, shadowOwn := 0, own := .empty, twin := .empty, serials := [], lit := false, litFrom := 0 }

def Stage.none : Stage :=
  { frames := [], peaks := [], snapshot := 0, removed := 0, snapOk := false, taken := Option.none, takenRemoved := 0
    nextSeq := 0 }

def BurinSt.reset : BurinSt :=
  { ch := ⟨.reset, .reset⟩, stage := [], urgent := [], poolEmptyRun := false, stageFloor := 8, stageCap := 1024
    stagePeak := 8, lowWater := 65536, turn := 0 }

def ClassSt.reset : ClassSt :=
  { active := false, retiring := false, swapDue := none, copyBusy := false, generation := 0, frags := [], fragFullRun := false
    ruleBad := [], ruleMarks := [], stale := 0, ingress := [], toDecap := [], toDecrypt := [], second := []
    toAdmit := [], restoring := true }

def Queue.none : Queue := { pkts := [], start := 0, finish := 0, prevFinish := 0, wasEligible := false, kept := Option.none }

def Hatch.none : Hatch :=
  { active := Option.none, pending := Option.none, again := Option.none, begun := ⟨0, 0, 0⟩, start := 0, commitTick := 0
    commitNs := 0, copying := false, current := 0 }

/-- [DESIGN CHOICE, unsafe: log 7] -/
def QSt.reset : QSt :=
  { queues := [], nodes := [], meters := [], credits := [], hatch := [], yGuard := 0, rGuard := 0, flushing := none
    oversize := [], eccShut := [], rearm := false }

/-- The cell count of each pool (Table BPM-3). -/
def poolCells (p : Nat) : Nat :=
  match p with
  | 0 => 1048576 | 1 => 1048576 | 2 => 524288 | 3 => 262144 | 4 => 65536 | 5 => 16384 | 6 => 8192 | 8 => 65536
  | 9 => 1536 | 10 => 1024 | 11 => 512 | _ => 0

/-- A pool with every cell free; what an unlisted pool reads as has `lowWater` 0 and is never used. -/
def Pool.fresh (p : Nat) : Pool :=
  { cells := [], lowWater := poolCells p, emptyRun := false, lowRun := false, reinit := false, carried := [] }

def Pool.none : Pool := .fresh 7

def BpmSt.reset : BpmSt :=
  { pools := [0, 1, 2, 3, 4, 5, 6, 8, 9, 10, 11].map (fun p => (p, .fresh p)), lastRefusal := 0, trained := 0
    refresh2x := false, dramTemp := 0, temps := [0, 0, 0, 0], trainedAt := [0, 0, 0, 0] }

def Lane.reset : Lane :=
  { locked := false, deskewed := false, failed := false, logical := 15, skew := 0, bip := [], ctle := 0, dfe := 0
    ready := false, readyRun := 0, period := none }

def Prbs.off : Prbs :=
  { pattern := 0, invert := false, gen := false, chk := false, sync := false, errors := 0, bits := 0 }

def AlinkSt.reset : AlinkSt :=
  { state := .down, failCause := 0, peerReady := false, loopKind := 0, lanes := [], rxUse := none, txUse := none
    request := none, commanded := false, peerRequest := 15, credits := [], prbs := [], lossRun := [], badRun := false
    cesWait := [], period := none, movedAt := none, sending := false, sentAlign := [] }

def EthPort.reset : EthPort :=
  { state := .down, rateActive := 0, fecActive := 0, lpiTx := false, lpiRx := false, paused := false, pfcHeld := 0
    loopKind := 0, txTw := 0, rxTw := 0, partnerTw := 0, xoffSent := false, overflowRun := false, noSaRun := false
    skew := 0, txFrame := none, returned := [], lldpDue := false }

def TodOut.zero : TodOut := { status := 0, sfc := 0, errorPs := 0, dPs := 0 }

/-- The nominal increment of the Stylus (R352). -/
def incNominal : BitVec 64 := 0x00000000CDC2E5A9

def TimeSt.reset : TimeSt :=
  { count := 0, offset := 0, inc := incNominal, hostOwner := false, servo := .free, eec := .freeRun
    stepSeq := 0, good := 0, integ := 0, lastUsable := 0, eecSince := 0, chanSince := none, lockedRates := [], holdRate := 0, holdFrac := 0
    ppsOk := false, ppsEdge := 0, ppsDev := 0, ppsDevRun := false, ppsHigh := false, ppsLast := none, ppsEnd := 0, producer := 0, tsQueue := [], tsRing := [], tsDropRun := false
    heldErr := [], todIn := ⟨none, none⟩, todOut := ⟨.zero, .zero⟩, latches := ⟨[], []⟩ }

/-- [PRESUMED, unsafe: log 14] -/
def Framer.hunt : Framer :=
  { periods := [], offset := none, frame := 0, errs := [], multi := false, first := [], blocks := 0, failed := 0 }

/-- [PRESUMED, unsafe: log 14] -/
def Gen.start : Gen := { frame := 0, link := 0, crc := 0, block := [] }

/-- [PRESUMED, unsafe: log 14] -/
def Trib.none : Trib :=
  { upLof := false, ssLoss := false, lops := false, aisTx := false, lRx := false, rRx := false, playing := false
    monLof := false, framer := .hunt, monitor := .hunt, generator := .start, nextPlay := 0, jb := [], timer := false, inSeq := 0
    lastSeq := 0, seqTx := 0, rtpBase := 0, txBits := 0, ssSeq := Option.none, hostLos := false, lineBits := []
    owed := 0, ssTxSeq := 0, toPlay := [], playOff := 0, slipBuf := [], lastFrame := Option.none, slipAt := Option.none
    ncoPpm := 0 }

/-- An empty key slot (Table CRYPTO-6). -/
def Slot.empty : Slot := { state := 0, isDefault := false, key := [], usage := 0, loadTick := 0 }

/-- [PRESUMED, unsafe: log 10, 98] -/
def CryptoSt.reset : CryptoSt :=
  { slots := [], alarmActive := 0, alarmLatch := 0, rngOk := true, lockedOut := false, ir := some .idcode
    boundary := [], armed := false }

def Scrub.none : Scrub := { done := 0, ticks := 0, held := false }

def FaultSt.reset : FaultSt :=
  { outside := false, supplyOut := false, guarantee := true, rtOk := true, svcOk := true, rtFailed := false, svcFailed := false
    rtMismatches := [], svcMismatches := [], clockGroups := 0, clockMore := [], clockPorts := 0, lastEcc := 0, handover := none
    crcBad := [], goldenBad := [], scrubs := ⟨.none, .none, .none, .none⟩ }

/-- A domain that is off, with nothing recorded (Table PWR-7). -/
def Dom.off : Dom :=
  { st := .off, votes := 0, isolated := false, acked := false, offAsked := false, lastRefuser := 14, lastAborter := 14
    railAt := none, railBad := false, retryOk := false }

def Lifetimes.zero : Lifetimes := { power := 0, laser := ⟨0, 0⟩, trips := 0 }

/-- [DESIGN CHOICE, unsafe: log 7] -/
def PowerSt.reset : PowerSt :=
  { doms := [(0, { Dom.off with st := .on })], die := [], cause := 0, wakeSrc := 0, safeCause := 0, history := 0
    wakeMask := 0, wakeArmed := false, wakeLow := false, safePending := false, life := .zero, lifeDue := false }

def Bank.empty : Bank := { st := .empty, version := 0, length := 0, lastVerify := 0, image := [] }

/-- [DESIGN CHOICE, unsafe: log 8] -/
def FwSt.reset : FwSt :=
  { runningBank := false, pref := false, fallback := false, keyIndex := 0, failedMark := 0
    banks := ⟨{ Bank.empty with st := .installed }, .empty⟩, open_ := none, digest := none }

/-- [DESIGN CHOICE, unsafe: log 8] -/
def Mram.reset : Mram :=
  { estops := [], prefBank := none, pacing := false, log := [], logTimes := [], logTotal := 0, life := .zero, pageWrites := [], wearSeen := []
    wear := [0, 0, 0, 0], safeStates := 0, safeLog := none }

/-- [DEDUCED, unsafe: log 110] -/
def LegacySt.reset : LegacySt :=
  { reply := [], tag := 0, busy := true, paced := none, alarmMask := 0x10000, deviceFault := false, bases := []
    tconts := [], restart := false, late := false, editing := none }

/-- The device as a power-on reset leaves it, still held in reset: the release follows by RESET_N_RELEASE.
[DEDUCED, unsafe: log 2; DESIGN CHOICE, unsafe: log 7, 8; DEDUCED, safe: log 9] -/
def State.reset : State :=
  { pending := [], phase := .inReset, legacy := false, pins := { modeSel := true, madr := 0, madrSampled := 0 }
    part := { stepping := 0x11, grade := 0, budget := 0 }
    fuses := { dbgLock := false, legacyLock := false, revoked := 0, hashValid := 15, hashes := [0, 0, 0, 0] }
    mram := .reset, words := [], counters := ⟨[], none⟩, stipple := [], tick := .reset, cmd := .reset, ev := .reset
    chans := ⟨.reset .a, .reset .b⟩, vonu := .reset, burin := .reset, cls := .reset, qs := .reset, bpm := .reset
    alink := .reset, eth := { ports := [] }, time := .reset, ces := { tribs := [], rx := [] }
    crypto := .reset, fault := .reset, power := .reset, fw := .reset, leg := .reset, freeCount := 0, out := [] }

end Sys2Proof.Machine
end

