-- ==== Sys2Proof/Machine/Ops.lean ====
section
/-! DEFINITION. The shared operations: sparse maps, stored words, counters, free values, the instant within a tick,
power-domain tests, the event ring with its contacts, and the log in MRAM. -/

namespace Sys2Proof.Machine

/-! ## Sparse maps -/

/-- The value at a key; unlisted keys read as `d`. [DESIGN CHOICE, safe: log 19] -/
def mget {α : Type} (d : α) : SMap α → Nat → α
  | [], _ => d
  | (k, v) :: r, i => if k = i then v else mget d r i

/-- Put a value at a key, in rising order, with no entry equal to `d`. [DESIGN CHOICE, safe: log 19] -/
def mput {α : Type} [DecidableEq α] (d : α) : SMap α → Nat → α → SMap α
  | [], i, v => if v = d then [] else [(i, v)]
  | (k, w) :: r, i, v =>
    if k < i then (k, w) :: mput d r i v
    else if k = i then (if v = d then r else (k, v) :: r)
    else if v = d then (k, w) :: r else (i, v) :: (k, w) :: r

/-- Change the value at a key. -/
def mmod {α : Type} [DecidableEq α] (d : α) (m : SMap α) (i : Nat) (f : α → α) : SMap α := mput d m i (f (mget d m i))

/-- The canonical form: keys strictly rising, and no entry equal to `d`. -/
def SMap.wf {α : Type} [DecidableEq α] (d : α) (m : SMap α) : Bool :=
  m.all (fun e => e.2 ≠ d) && (m.map (·.1)).Pairwise (· < ·)

/-- The canonical form of a map whose unlisted keys read as a function of the key. -/
def SMap.wfBy {α : Type} [DecidableEq α] (d : Nat → α) (m : SMap α) : Bool :=
  m.all (fun e => e.2 ≠ d e.1) && (m.map (·.1)).Pairwise (· < ·)

/-! ## Pairs -/

def Two.get {α : Type} (t : Two α) : Chan → α
  | .a => t.a
  | .b => t.b

def Two.set {α : Type} (t : Two α) (c : Chan) (v : α) : Two α :=
  match c with
  | .a => { t with a := v }
  | .b => { t with b := v }

def PerT.get {α : Type} (t : PerT α) : Transport → α
  | .twi => t.twi
  | .alanov => t.alanov

def PerT.set {α : Type} (t : PerT α) (x : Transport) (v : α) : PerT α :=
  match x with
  | .twi => { t with twi := v }
  | .alanov => { t with alanov := v }

/-- 0 for channel A, 1 for channel B. -/
def chanN : Chan → Nat
  | .a => 0
  | .b => 1

def chanOf (n : Nat) : Chan := if n = 0 then .a else .b

def otherCh : Chan → Chan
  | .a => .b
  | .b => .a

/-- 0 for the two-wire port, 1 for the Alanov Link. -/
def transN : Transport → Nat
  | .twi => 0
  | .alanov => 1

def transOf (n : Nat) : Transport := if n = 0 then .twi else .alanov

/-- A status or event parameter field: `v` limited to `n` bits, at bit `lo`. -/
def put (lo n v : Nat) : Nat := v % 2 ^ n * 2 ^ lo

/-- Saturating limit. -/
def sat (limit v : Nat) : Nat := if v > limit then limit else v

/-- The `n`-bit two's-complement pattern of an integer. -/
def twos (n : Nat) (v : Int) : Nat := (BitVec.ofInt n v).toNat

/-- Saturate an integer to plus or minus `limit`. -/
def satInt (limit : Int) (v : Int) : Int := if v > limit then limit else if v < -limit then -limit else v

def minN (a b : Nat) : Nat := if a < b then a else b
def maxN (a b : Nat) : Nat := if a < b then b else a

/-! ## Stored words -/

/-- The word stored at an object address: the last value written, or its reset value (R8, R10). -/
def State.cfg (s : State) (a : Nat) : Word :=
  match s.words.find? (fun e => e.1 = a) with
  | some e => e.2
  | none => resetWord a

/-- Store a word at an object address, leaving the map canonical. -/
def State.putCfg (s : State) (a : Nat) (v : Word) : State := { s with words := mput (resetWord a) s.words a v }

/-- Forget every stored word in a range of addresses, so that they read as at reset. -/
def State.dropCfg (s : State) (keep : Nat → Bool) : State := { s with words := s.words.filter (fun e => keep e.1) }

/-- Field [lo + n - 1 : lo] of a stored word. -/
def State.cfgF (s : State) (a lo n : Nat) : Nat := fld (s.cfg a) lo n

/-- Bit `i` of a stored word. -/
def State.cfgB (s : State) (a i : Nat) : Bool := bit (s.cfg a) i

/-! ## Counters -/

/-- The value of a 64-bit counter. -/
def State.ctr (s : State) (a : Nat) : BitVec 64 := mget 0 s.counters.now a

/-- Give a counter a value, noting it while a late stipple copy runs. -/
def Ctrs.put (c : Ctrs) (a : Nat) (v : BitVec 64) : Ctrs :=
  { now := mput 0 c.now a v, trail := c.trail.map fun l => (a, v) :: l }

def State.setCtr (s : State) (a : Nat) (v : BitVec 64) : State := { s with counters := s.counters.put a v }

/-- Add to a 64-bit wrapping counter (R76). -/
def State.bump (s : State) (a n : Nat) : State :=
  { s with counters := s.counters.put a (s.ctr a + BitVec.ofNat 64 n) }

def State.bumpIf (s : State) (p : Bool) (a n : Nat) : State := if p then s.bump a n else s

/-! ## Free values and instants -/

/-- The next free value (never constrained), and the state that has used it. [DESIGN CHOICE, safe: log 5] -/
def State.fresh (s : State) : Nat × State := (Config.freeValue s.freeCount, { s with freeCount := s.freeCount + 1 })

/-- Append to what has left the device. [DESIGN CHOICE, safe: log 6] -/
def State.emit (s : State) (o : Output) : State := { s with out := s.out ++ [o] }

/-! ## The test port -/

/-- A boundary-scan instruction that holds both transmitters OFF is in the instruction register (R415). -/
def CryptoSt.bscan (c : CryptoSt) : Bool := c.ir = some .extest || c.ir = some .clamp || c.ir = some .highz

/-! ## Power domains -/

def State.dom (s : State) (d : Nat) : Dom := mget Dom.off s.power.doms d

def State.setDom (s : State) (d : Nat) (x : Dom) : State :=
  { s with power := { s.power with doms := mput Dom.off s.power.doms d x } }

/-- A domain is on while ON, and while SHUTTING_DOWN until isolation is applied (R445). [DESIGN CHOICE, safe: log 21] -/
def State.domOn (s : State) (d : Nat) : Bool :=
  let x := s.dom d
  d = 0 || ((x.st = .on || x.st = .shuttingDown) && !x.isolated)

/-! ## Time -/

/-- TIME cycles in 125 µs. -/
def tickCycles : Nat := 155520

/-- The longest time between ticks, in TIME cycles: one tick more while a change of source is under way (R14).
[DESIGN CHOICE, safe: log 4] -/
def State.tickSpan (s : State) : Nat := if s.tick.source = s.tick.selected then tickCycles else 2 * tickCycles

/-- Stylus time T at a count, in units of 2⁻³² ns modulo 2⁹⁶ (R352). -/
def State.timeAt (s : State) (c : BitVec 64) : BitVec 96 :=
  s.time.offset + BitVec.ofNat 96 (c.toNat * s.time.inc.toNat)

/-- The TIME count at this moment: after the latest tick by a free value below the tick's length.
[DESIGN CHOICE, safe: log 4, 119] -/
def State.instant (s : State) : BitVec 64 × State :=
  let (f, s) := s.fresh
  (s.time.count + BitVec.ofNat 64 (f % s.tickSpan), s)

/-- Whole Stylus nanoseconds at a count. -/
def State.nsAt (s : State) (c : BitVec 64) : Nat := (s.timeAt c).toNat / 2 ^ 32

/-- Tick number [31:0], as event parameters carry it. -/
def State.tickLow (s : State) : Nat := s.tick.number.toNat % 2 ^ 32

/-! ## Events -/

/-- The events of kind fault; every other event is of kind attention. -/
def isFault (code : Nat) : Bool :=
  [0x0102, 0x0F20, 0x0F21, 0x0201, 0x0202, 0x0204, 0x0206, 0x0209, 0x0307, 0x0407, 0x0408, 0x040A, 0x0503, 0x0703,
   0x0704, 0x0705, 0x0707, 0x0802, 0x0803, 0x0804, 0x0806, 0x0807, 0x0903, 0x0A05, 0x0B01, 0x0B03, 0x0C02, 0x0C05,
   0x0C06, 0x0C07, 0x0D03, 0x0D04, 0x0F02, 0x0F03, 0x0F04, 0x0F05, 0x0F06, 0x0F07, 0x0F08, 0x0F09, 0x0F0C].contains code

/-- FAULT_SUB[t] (Table CMD-14). -/
def subAddr (t : Nat) : Nat := addrOf 0x78 t

/-- Whether a transport subscribes to the class of an event code. -/
def State.subscribed (s : State) (t : Transport) (code : Nat) : Bool := s.cfgB (subAddr (transN t)) (code / 256)

/-- Whether FAULT_MASK masks an event code from its contact (R74). -/
def State.masked (s : State) (code : Nat) : Bool :=
  s.cfgB (addrOf 0x78 (0x100 + 8 * (code / 256) + code % 256 / 32)) (code % 32)

/-- The event ring runs while PD_MGMT is on in native mode, except in recovery (R468, R469, R491). -/
def State.ringRuns (s : State) : Bool := s.domOn 1 && !s.legacy && (s.phase = .booting || s.phase = .ready || s.phase = .sleeping)

/-- Ring index of the oldest record in the ring. -/
def EvSt.oldest (e : EvSt) : BitVec 32 := e.next - BitVec.ofNat 32 e.ring.length

/-- The record about to be overwritten, where the ring is full (R73): its loss to one transport.
[DEDUCED, unsafe: log 28] -/
def State.loseFor (s : State) (old : EvRec) (t : Transport) : State × Option (Transport × BitVec 32) :=
  let k := s.ev.oldest
  let unacked := (s.ev.pos.get t) = k
  let hit := unacked && s.subscribed t old.code.toNat
  let first := hit && !(s.ev.lossRun.get t)
  let pos := if unacked then s.ev.pos.set t (k + 1) else s.ev.pos
  let lost := if hit then s.ev.lost.set t (s.ev.lost.get t + 1) else s.ev.lost
  ({ s with ev := { s.ev with pos, lost, lossRun := s.ev.lossRun.set t hit } }, if first then some (t, k) else none)

/-- Make room for one record (R71, R73): what is lost to each transport. [DEDUCED, unsafe: log 28] -/
def State.ringRoom (s : State) : State × List (Transport × BitVec 32) :=
  match s.ev.ring with
  | old :: rest =>
    if s.ev.ring.length < 8192 then ({ s with ev := { s.ev with lossRun := ⟨false, false⟩ } }, [])
    else
      let (s1, l1) := s.loseFor old .twi
      let (s2, l2) := s1.loseFor old .alanov
      ({ s2 with ev := { s2.ev with ring := rest } }, l1.toList ++ l2.toList)
  | [] => ({ s with ev := { s.ev with lossRun := ⟨false, false⟩ } }, [])

/-- What an unwritten record of the mirror reads as. -/
def EvRec.blank : EvRec := ⟨0, 0, 0, false⟩

/-- Write one record to the ring and, with PD_DRAM on, the mirror, and count it on its contact where unmasked (R69, R71, R74).
[DEDUCED, unsafe: log 28] -/
def State.record (s : State) (code p : Nat) : State × List (Transport × BitVec 32) :=
  let (s, lost) := s.ringRoom
  let (c, s) := s.instant
  let unmasked := !s.masked code
  let r : EvRec := { code := BitVec.ofNat 16 code, time := if s.domOn 12 then BitVec.ofNat 48 (s.nsAt c) else 0
                     p := BitVec.ofNat 64 p, unmasked }
  let up (v : BitVec 16) : BitVec 16 := if v = 65535 then v else v + 1
  let alarm := if unmasked && isFault code then up s.ev.alarm else s.ev.alarm
  let attn := if unmasked && !isFault code then up s.ev.attn else s.ev.attn
  let mirror := if s.domOn 8 then mput EvRec.blank s.ev.mirror (s.ev.next.toNat % 1048576) r else s.ev.mirror
  ({ s with ev := { s.ev with ring := s.ev.ring ++ [r], next := s.ev.next + 1, alarm, attn, mirror } }, lost)

/-- Report each run of losses that has begun (EVENTS_LOST, R73). [DEDUCED, unsafe: log 28] -/
def reportLost : Nat → List (Transport × BitVec 32) → State → State
  | _, [], s => s
  | 0, _ :: _, s => s
  | n + 1, (t, i) :: r, s =>
    let (s, more) := s.record 0x0E03 (put 62 2 (transN t) + put 0 32 i.toNat)
    reportLost n (r ++ more) s

/-- Write an event to the ring, with the losses it causes. -/
def State.ringWrite (s : State) (code p : Nat) : State :=
  if s.ringRuns then
    let (s, lost) := s.record code p
    reportLost 8 lost s
  else s

/-! ## MRAM (Table BPM-5) -/

/-- Writes of a page that raise MRAM_WEAR (R294). -/
def wearLimit : Nat := 90000000

/-- The wear a page has: the writes this model has made, above the part's own figure for the region.
[DEDUCED, unsafe: log 77] -/
def State.pageWear (s : State) (region page : Nat) : Nat :=
  (s.mram.wear.getD region 0).toNat * 10000 + mget 0 s.mram.pageWrites (region * 4096 + page)

/-- Count one write of a page of a region; a fault of the NVM clock stops MRAM writes (Table FAULT-4). A region
is 0 for bank 0, 1 for bank 1, 2 for the configuration store, 3 for the log. Wear is reported once a page.
[DEDUCED, unsafe: log 77] -/
def State.mramWrite (s : State) (region page : Nat) : State :=
  if s.fault.clockGroups.getLsbD 9 then s else
  let k := region * 4096 + page
  let s := { s with mram := { s.mram with pageWrites := mmod 0 s.mram.pageWrites k (· + 1) } }
  if s.pageWear region page ≥ wearLimit ∧ ¬ s.mram.wearSeen.contains k then
    let s := { s with mram := { s.mram with wearSeen := s.mram.wearSeen ++ [k] } }
    s.ringWrite 0x0709 (put 56 2 region + put 32 16 page + s.tickLow)
  else s

/-- Records of 16 bytes that 64 KiB/s lets through in 60 s (R293). -/
def logLimit : Nat := 245760

/-- The lifetime counters move on; the log region has them from their next slot on (R293). -/
def State.lived (s : State) (f : Lifetimes → Lifetimes) : State := { s with power := { s.power with life := f s.power.life } }

/-- The moments of the last 60 s at which the log region was written. -/
def State.logRecent (s : State) : List (BitVec 64) :=
  s.mram.logTimes.filter (fun t => decide (s.tick.number.toNat < t.toNat + 480000 ∧ t.toNat ≤ s.tick.number.toNat))

/-- Append a record to the log region's circular sequence of pages: one that begins a page takes the place of that page's
256 records of the round before (R293). -/
def State.logAppend (s : State) (r : LogRec) : State :=
  let n := s.mram.logTotal
  let old := if n % 256 = 0 && s.mram.log.length ≥ 262144 then s.mram.log.drop 256 else s.mram.log
  let s := { s with mram := { s.mram with log := old ++ [r], logTotal := n + 1, logTimes := s.logRecent ++ [s.tick.number] } }
  s.mramWrite 3 (n / 256 % 1024)

/-- The rate limit lets one more record through (R293). -/
def State.logPermits (s : State) : Bool := decide (s.logRecent.length < logLimit)

/-- Write a record of a fault to the log region under the rate limit, or drop and count it (R293).
[DEDUCED, unsafe: log 28] -/
def State.logWrite (s : State) (r : EvRec) : State :=
  if s.fault.clockGroups.getLsbD 9 then s
  else if s.logPermits then s.logAppend (.fault r)
  else s.bump (addrOf 0x40 0x108) 1

/-- The slot of the lifetime counters: they are written once a second, or at the next tick at which the limit permits it
(R293). -/
def State.lifeSlot (s : State) : State :=
  if s.tick.number.toNat % 8000 ≠ 0 && !s.power.lifeDue then s
  else if s.fault.clockGroups.getLsbD 9 || !s.logPermits then { s with power := { s.power with lifeDue := true } }
  else
    let s := { s with power := { s.power with lifeDue := false }, mram := { s.mram with life := s.power.life } }
    s.logAppend (.life s.power.life)

/-- In legacy mode a fault of Table FAULT-3 sets DEVICE_FAULT (bit 17 of the alarm word, R491). -/
def State.noteFault (s : State) (code : Nat) : State :=
  if s.legacy && code / 32 = 0x0F00 / 32 && isFault code then { s with leg := { s.leg with deviceFault := true } } else s

/-- Raise an event: a ring record, and for a fault a record of the persistent log. -/
def State.raise (s : State) (code p : Nat) : State :=
  let s := (s.ringWrite code p).noteFault code
  if isFault code && s.domOn 1 then s.logWrite { code := BitVec.ofNat 16 code, time := 0, p := BitVec.ofNat 64 p, unmasked := false }
  else s

def State.raiseIf (s : State) (b : Bool) (code p : Nat) : State := if b then s.raise code p else s

/-! ## Accepted commands -/

/-- The accepted commands that wait: for their tick, or for the rest of their chain (R63, R64). -/
def State.waiting (s : State) : List Pkt :=
  s.cmd.held.flatMap (·.pkts) ++ s.cmd.port.twi.chain ++ s.cmd.port.alanov.chain

/-! ## Crossings (R22 to R29) -/

/-- The counts of a group are suspect until RESYNC (R27). -/
def State.suspectGroup (s : State) (g : Nat) : State :=
  { s with tick := { s.tick with suspect := s.tick.suspect ||| BitVec.ofNat 16 (2 ^ g), suspectSecond := true } }

/-- The FIFO crossings of a group are flushed: a frame that a fault had spoilt goes with the rest, and the counts are suspect
(R26, R27). `flushed` says which of its streams. -/
def State.flushStream (s : State) (g : Nat) (flushed : Nat → Bool) : State :=
  let s := s.suspectGroup g
  { s with tick := { s.tick with transit := s.tick.transit.filter fun e => !(e.1 = g && flushed e.2) } }

/-- Each event-count crossing of a group may show one spurious difference, which its next sample takes (R26, R454). -/
def State.spuriousOnce (s : State) (g : Nat) : State :=
  { s with tick := { s.tick with spurious := s.tick.spurious ||| BitVec.ofNat 16 (2 ^ g) } }

/-- A one-sided reset (R26, R27). [DEDUCED, unsafe: log 39] -/
def State.exposeStream (s : State) (g : Nat) (flushed : Nat → Bool) : State := (s.flushStream g flushed).spuriousOnce g

/-- [DEDUCED, unsafe: log 39] -/
def State.expose (s : State) (g : Nat) : State := s.exposeStream g fun _ => true

/-- The streams of frames or blocks that cross by FIFO in a group (Table TICK-5): the link's received and sent frames; the
four ports' received frames, and 4 on, the frames each sends; a tributary's packets in, and out; packets into the cipher
engine; packets out of the classifier; one in the other groups that carry frames. [DEDUCED, safe: log 127] -/
def streamsOf (g : Nat) : Nat :=
  match g with
  | 0 | 1 | 2 | 3 | 9 | 14 | 15 => 1
  | 4 | 7 => 2
  | 5 => 8
  | _ => 0

/-- Whether the next frame of a stream is the one that a FIFO fault has spoilt, which its consumer discards and counts
(R25). [DEDUCED, safe: log 127] -/
def State.spoilt (s : State) (g k : Nat) : Bool := s.tick.transit.contains (g, k)

def State.unspoil (s : State) (g k : Nat) : State :=
  { s with tick := { s.tick with transit := s.tick.transit.erase (g, k) } }

/-! ## Lists -/

/-- Replace the element at an index. -/
def setAt {α : Type} (l : List α) (i : Nat) (v : α) : List α := l.set i v

/-- Remove every element equal to a value. -/
def without {α : Type} [DecidableEq α] (l : List α) (v : α) : List α := l.filter (fun x => x ≠ v)

/-- Sum of a list of numbers. -/
def sumN (l : List Nat) : Nat := l.foldl (· + ·) 0

/-- The little-endian bytes of a word. -/
def wordBytes (w : Word) : List Byte := [w.extractLsb' 0 8, w.extractLsb' 8 8, w.extractLsb' 16 8, w.extractLsb' 24 8]

/-- Little-endian bytes of a number. -/
def leBytes : Nat → Nat → List Byte
  | 0, _ => []
  | n + 1, v => BitVec.ofNat 8 v :: leBytes n (v / 256)

/-- The number that little-endian bytes spell. -/
def leNat : List Byte → Nat
  | [] => 0
  | b :: r => b.toNat + 256 * leNat r

/-- The number that big-endian (network order) bytes spell. -/
def beNat (l : List Byte) : Nat := l.foldl (fun a b => a * 256 + b.toNat) 0

/-- Bytes as words, four at a time, least significant byte first. -/
def toWords : List Byte → List Word
  | a :: b :: c :: d :: r => BitVec.ofNat 32 (leNat [a, b, c, d]) :: toWords r
  | _ => []

/-- Word `i` of a wide value. -/
def wordOf (v i : Nat) : Word := BitVec.ofNat 32 (v / 2 ^ (32 * i))

/-- Bytes `[i, i + n)` of a list. -/
def slice {α : Type} (l : List α) (i n : Nat) : List α := (l.drop i).take n

end Sys2Proof.Machine
end

