-- ==== Sys2Proof/Machine/Operands.lean ====
section
/-! DEFINITION. Operand forms: the checksums of R47 and R313, the command packet of Table CMD-1 as bytes, its reading
back, and the reply packet. -/

namespace Sys2Proof.Machine

/-! ## Checksums -/

/-- One bit of the reflected CRC-32C (polynomial 0x82F63B78, R47). -/
def crcBit (c : BitVec 32) : BitVec 32 := if c.getLsbD 0 then (c >>> 1) ^^^ 0x82F63B78 else c >>> 1

/-- One byte of CRC-32C. -/
def crcByte (c : BitVec 32) (b : Byte) : BitVec 32 :=
  crcBit (crcBit (crcBit (crcBit (crcBit (crcBit (crcBit (crcBit (c ^^^ b.setWidth 32))))))))

/-- CRC-32C (R47). -/
def crc32c (l : List Byte) : BitVec 32 := (l.foldl crcByte 0xFFFFFFFF) ^^^ 0xFFFFFFFF

/-- The CRC trailer, least significant byte first. -/
def crcTrailer (l : List Byte) : List Byte := leBytes 4 (crc32c l).toNat

/-- One bit of CRC-8 with x⁸ + x² + x + 1 (Table ALINK-4). -/
def crc8Bit (c : BitVec 8) : BitVec 8 := if c.getLsbD 7 then (c <<< 1) ^^^ 0x07 else c <<< 1

def crc8Byte (c : BitVec 8) (b : Byte) : BitVec 8 :=
  crc8Bit (crc8Bit (crc8Bit (crc8Bit (crc8Bit (crc8Bit (crc8Bit (crc8Bit (c ^^^ b))))))))

/-- CRC-8 over bytes, initial value 0, no final XOR (Table ALINK-4). -/
def crc8 (l : List Byte) : BitVec 8 := l.foldl crc8Byte 0

/-! ## Command packets (Table CMD-1) -/

/-- The 16 header bytes. -/
def headerBytes (version op : Byte) (seq : BitVec 16) (len : Nat) (flags status : Byte) (addr param : BitVec 32) : List Byte :=
  [version, op] ++ leBytes 2 seq.toNat ++ leBytes 2 len ++ [flags, status] ++ leBytes 4 addr.toNat ++ leBytes 4 param.toNat

/-- A packet with its trailer. -/
def sealed (l : List Byte) : List Byte := l ++ crcTrailer l

/-- The data blocks of an Alanov frame: its bytes with their CRC-32C, and zero bytes up to the block boundary (R313). -/
def linkBytes (l : List Byte) : List Byte :=
  let b := sealed l
  b ++ List.replicate ((8 - b.length % 8) % 8) 0

/-- A command packet as it is sent. -/
def cmdBytes (op : Byte) (r : Req) : List Byte :=
  sealed (headerBytes 2 op r.seq r.payload.length r.flags 0 r.addr r.param ++ r.payload)

/-- A reply packet (Table CMD-1). -/
def replyBytes (r : Reply) : List Byte :=
  sealed (headerBytes 2 r.op r.seq r.payload.length r.flags r.status r.addr r.param ++ r.payload)

/-- Byte i of a packet; header bytes that were not received are zero (R48). -/
def pktByte (l : List Byte) (i : Nat) : Byte := l.getD i 0

/-- The fields of a received packet, and its payload as counted by LENGTH. -/
def pktReq (t : Transport) (l : List Byte) : Req :=
  { t, seq := BitVec.ofNat 16 (leNat (slice l 2 2)), flags := pktByte l 6, addr := BitVec.ofNat 32 (leNat (slice l 8 4))
    param := BitVec.ofNat 32 (leNat (slice l 12 4)), payload := slice l 16 (leNat (slice l 4 2)) }

/-- What a received packet turns out to be (R38, R43, R47, R48). -/
inductive Parsed
  | badCrc (op : Byte) (r : Req)
  | badVersion (op : Byte) (r : Req)
  | command (op : Byte) (r : Req)
deriving DecidableEq, Repr

/-- Read a packet: LENGTH is in range, the byte count agrees with it and the CRC is good, and then VERSION is 2. -/
def parsePacket (t : Transport) (l : List Byte) : Parsed :=
  let len := leNat (slice l 4 2)
  let r := pktReq t l
  let op := pktByte l 1
  if len > 4080 || l.length ≠ 20 + len || slice l (16 + len) 4 ≠ crcTrailer (l.take (16 + len)) then .badCrc op { r with payload := [] }
  else if pktByte l 0 ≠ 2 then .badVersion op { r with payload := [] }
  else .command op r

/-! ## Frames of the Alanov Link (Table ALINK-4) -/

/-- A DESC payload without its DCRC, as 6 bytes. -/
def descLow (ch len colour consumed : Nat) : Nat := put 0 10 ch + put 10 14 len + put 24 2 colour + put 26 12 consumed

/-- A DESC with its DCRC. -/
def descWord (ch len colour consumed : Nat) : BitVec 56 :=
  let lo := descLow ch len colour consumed
  BitVec.ofNat 56 (lo + (crc8 (leBytes 6 lo)).toNat * 2 ^ 48)

def descOk (d : BitVec 56) : Bool := crc8 (leBytes 6 (d.toNat % 2 ^ 48)) = BitVec.ofNat 8 (d.toNat / 2 ^ 48)

def descField (d : BitVec 56) (lo n : Nat) : Nat := d.toNat / 2 ^ lo % 2 ^ n

end Sys2Proof.Machine
end

