-- ==== Sys2Proof/Machine/PoolOps.lean ====
section
/-! DEFINITION. Buffer pools: cells, the allocator, the checks of FREE, TRANSFER, SHARE and RELEASE, pool guards and
runs, and reclamation (Buffer Pools and Memory). -/

namespace Sys2Proof.Machine

/-- Cell size in bytes (Table BPM-3). -/
def poolCellSize (p : Nat) : Nat :=
  match p with
  | 0 => 2048 | 1 => 256 | 2 => 512 | 3 => 1024 | 4 => 4096 | 5 => 9728 | 6 => 16384 | 8 => 256 | 9 => 2048 | 10 => 512
  | 11 => 1024 | _ => 0

/-- BASE of a pool (Table BPM-3). -/
def poolBase (p : Nat) : Nat :=
  match p with
  | 0 => 0x0000000000 | 1 => 0x0080000000 | 2 => 0x0090000000 | 3 => 0x00A0000000 | 4 => 0x00B0000000 | 5 => 0x00C0000000
  | 6 => 0x00C9800000 | 8 => 0x1000000000 | 9 => 0x1001000000 | 10 => 0x1001300000 | 11 => 0x1001380000 | _ => 0

/-- The pools that exist. -/
def poolList : List Nat := [0, 1, 2, 3, 4, 5, 6, 8, 9, 10, 11]

def Cell.free : Cell := { state := 0, owner := 0, refs := 0 }

def State.pool (s : State) (p : Nat) : Pool := mget Pool.none s.bpm.pools p
def State.setPool (s : State) (p : Nat) (x : Pool) : State :=
  { s with bpm := { s.bpm with pools := mput Pool.none s.bpm.pools p x } }

/-- Free cells of a pool. -/
def State.freeCells (s : State) (p : Nat) : Nat := poolCells p - (s.pool p).cells.length

/-- The domains that must be on, and no re-initialisation under way, for a pool to serve requests (R291). -/
def State.poolServes (s : State) (p : Nat) : Bool :=
  !(s.pool p).reinit && poolCells p ≠ 0 &&
    (if p ≤ 6 then s.domOn 8 && s.domOn 6 else if p = 8 then s.domOn 6 else s.domOn 1)

/-- Pool counter k of pool P, and global counter j (Table BPM-9). -/
def poolCtr (p k : Nat) : Nat := addrOf 0x40 (0x1000 + 32 * p + 2 * k)
def bpmCtr (j : Nat) : Nat := addrOf 0x40 (0x100 + 2 * j)

/-! ## Guards and runs -/

/-- One guard's new state from its threshold and the free cells (R255). -/
def guardNext (was : Bool) (threshold cells free : Nat) : Bool :=
  if free * 256 < threshold * cells then true
  else if free * 256 ≥ (threshold + 4) * cells || free = cells then false
  else was

def withBit {w : Nat} (v : BitVec w) (i : Nat) (b : Bool) : BitVec w :=
  if b then v ||| BitVec.ofNat w (2 ^ i) else v &&& ~~~ BitVec.ofNat w (2 ^ i)

/-- Judge the pool's two guards, reporting each change (R255). -/
def State.poolGuards (s : State) (p : Nat) : State :=
  let cells := poolCells p
  let free := s.freeCells p
  let y0 := s.qs.yGuard.getLsbD p
  let r0 := s.qs.rGuard.getLsbD p
  let y := guardNext y0 (s.cfgF (addrOf 0x38 0) 0 8) cells free
  let r := guardNext r0 (s.cfgF (addrOf 0x38 0) 8 8) cells free
  let s := { s with qs := { s.qs with yGuard := withBit s.qs.yGuard p y, rGuard := withBit s.qs.rGuard p r } }
  let s := s.raiseIf (y ≠ y0) 0x0603 (put 62 1 (b2n y) + put 56 4 p + s.tickLow)
  s.raiseIf (r ≠ r0) 0x0603 (put 62 1 (b2n r) + put 61 1 1 + put 56 4 p + s.tickLow)

/-- After a pool's free count has changed: LOW_WATER, the runs of R297 and the guards. -/
def State.poolChanged (s : State) (p : Nat) : State :=
  let x := s.pool p
  let free := s.freeCells p
  let cells := poolCells p
  let thresh := s.cfgF (addrOf 0x40 (0x30 + p)) 0 21
  let empty := if free = 0 then true else if free ≥ cells / 256 then false else x.emptyRun
  let low := if thresh ≠ 0 && free < thresh then true else if free ≥ thresh + cells / 256 || thresh = 0 then false else x.lowRun
  let s := s.setPool p { x with lowWater := minN x.lowWater free, emptyRun := empty, lowRun := low }
  let s := if p = 8 then
      ({ s with burin := { s.burin with lowWater := minN s.burin.lowWater free, poolEmptyRun := free = 0 } }).raiseIf
        (free = 0 && !s.burin.poolEmptyRun) 0x0406 s.tickLow
    else s
  let s := s.raiseIf (empty && !x.emptyRun) 0x0701 (put 56 4 p + s.tickLow)
  let s := s.raiseIf (low && !x.lowRun) 0x0702 (put 56 4 p + put 32 21 free + s.tickLow)
  s.poolGuards p

/-! ## Taking and freeing cells -/

/-- The first number at or after `h` that a rising list does not hold. -/
def gapFrom (h : Nat) : List Nat → Nat
  | [] => h
  | k :: r => if k < h then gapFrom h r else if k = h then gapFrom (h + 1) r else h

/-- A free cell of the pool: which of them is the allocator's choice, a free value. [DESIGN CHOICE, safe: log 56] -/
def State.pickCell (s : State) (p : Nat) : Nat × State :=
  let (f, s) := s.fresh
  let ks := (s.pool p).cells.map (·.1)
  let k := gapFrom (f % poolCells p) ks
  (if k < poolCells p then k else gapFrom 0 ks, s)

/-- Set a cell. -/
def State.setCell (s : State) (p k : Nat) (c : Cell) : State :=
  let x := s.pool p
  s.setPool p { x with cells := mput Cell.free x.cells k c }

def State.cell (s : State) (p k : Nat) : Cell := mget Cell.free (s.pool p).cells k

/-- Serve one request for a cell of a pool to an owner class. `began` tells whether the service cycle began with free
cells (R278, R279). -/
def State.grantCell (s : State) (p : Nat) (cls : BitVec 6) (began : Bool) : Option Nat × State :=
  if p = 7 then (none, s.bump (poolCtr 0 3) 1)
  else if !s.poolServes p then (none, s.bump (poolCtr p 1) 1)
  else if s.freeCells p = 0 then (none, s.bump (poolCtr p (if began then 2 else 1)) 1)
  else
    let (k, s) := s.pickCell p
    let s := s.setCell p k { state := 1, owner := cls, refs := 0 }
    (some k, (s.bump (poolCtr p 0) 1).poolChanged p)

/-- Serve a cycle's requests to one pool in order: at most 4, the rest carried to the next cycle (R279). -/
def servePool (p : Nat) (began : Bool) : Nat → List PoolReq → State → State
  | _, [], s => s
  | 0, r, s => let x := s.pool p; s.setPool p { x with carried := x.carried ++ r }
  | n + 1, r :: rest, s => servePool p began n rest (s.grantCell p r.cls began).2

/-- The cycles that serve what a pool has carried over, one after the other. -/
def State.serveCarried (p : Nat) : Nat → State → State
  | 0, s => s
  | n + 1, s =>
    let x := s.pool p
    if x.carried = [] then s
    else State.serveCarried p n (servePool p (s.freeCells p ≠ 0) 4 x.carried (s.setPool p { x with carried := [] }))

/-- Every request that a pool carries is served: cycles have passed since it came (R279).
[DESIGN CHOICE, safe: log 76] -/
def State.poolCatchUp (s : State) (p : Nat) : State := State.serveCarried p (s.pool p).carried.length s

def poolsCatchUp : List Nat → State → State
  | [], s => s
  | p :: r, s => poolsCatchUp r (s.poolCatchUp p)

/-- One request for a cell, in a later cycle than those that came before it (R279). -/
def State.takeCell (s : State) (p : Nat) (cls : BitVec 6) (began : Bool) : Option Nat × State :=
  (s.poolCatchUp p).grantCell p cls began

/-- Return one cell to its pool. -/
def State.releaseCell (s : State) (p k : Nat) : State :=
  ((s.setCell p k Cell.free).bump (poolCtr p 4) 1).poolChanged p

/-- Drop one reference of a shared cell; at 0 the cell becomes free (R284). -/
def State.dropRef (s : State) (p k : Nat) : State :=
  let c := s.cell p k
  if c.refs ≤ 1 then s.releaseCell p k else s.setCell p k { c with refs := c.refs - 1 }

/-- The pool that serves a known size (R277). -/
def poolForSize (n : Nat) : Option Nat := [1, 2, 3, 4, 5, 6].find? (fun p => n ≤ poolCellSize p)

/-! ## The checks of FREE, TRANSFER, SHARE and RELEASE (R283, R284) -/

/-- The privileged owner classes (Table BPM-4). -/
def privileged (cls : BitVec 6) : Bool := [0x0E, 0x0F, 0x10, 0x11, 0x3F].contains cls.toNat

/-- The pool whose range holds a buffer address. -/
def poolAt (ptr : Nat) : Option Nat :=
  poolList.find? (fun p => poolBase p ≤ ptr && ptr < poolBase p + poolCells p * poolCellSize p)

/-- A refused operation: counter, BPM_LAST_REFUSAL and event (R283). `kind`: 0 double, 1 foreign, 2 range, 3 alignment,
4 reference-count overflow. -/
def State.refuseCell (s : State) (cls : BitVec 6) (ptr : BitVec 40) (kind pool : Nat) (c : Cell) : State :=
  let v := ptr.toNat + put 40 6 cls.toNat + put 46 6 c.owner.toNat + put 52 2 c.state.toNat + put 54 3 kind +
    put 57 4 pool + put 64 32 s.tickLow
  let s := { s with bpm := { s.bpm with lastRefusal := BitVec.ofNat 96 v } }
  match kind with
  | 0 => (s.bump (poolCtr pool 5) 1).raise 0x0703 (put 56 4 pool + put 40 6 cls.toNat + put 32 8 c.owner.toNat + s.tickLow)
  | 1 => (s.bump (poolCtr pool 6) 1).raise 0x0704 (put 56 4 pool + put 40 6 cls.toNat + put 32 8 c.owner.toNat + s.tickLow)
  | 2 => (s.bump (bpmCtr 0) 1).raise 0x0705 (put 56 4 15 + put 40 6 cls.toNat + s.tickLow)
  | 3 => (s.bump (poolCtr pool 7) 1).raise 0x0705 (put 56 4 pool + put 55 1 1 + put 40 6 cls.toNat + s.tickLow)
  | _ => (s.bump (poolCtr pool 10) 1).raise 0x0706 (put 56 4 pool + put 40 6 cls.toNat + s.tickLow)

/-- What a buffer operation finds at its pointer: a cell, a refusal, or nothing (a pointer outside every pool from a
requester whose pointers come from the allocator). -/
inductive AtPtr | cell (p k : Nat) | refused (kind pool : Nat) | nothing
deriving DecidableEq, Repr

/-- Checks 1 and 2 of R283. -/
def atPtr (cls : BitVec 6) (ptr : BitVec 40) : AtPtr :=
  match poolAt ptr.toNat with
  | none => if privileged cls then .refused 2 15 else .nothing
  | some p =>
    let off := ptr.toNat - poolBase p
    if privileged cls && off % poolCellSize p ≠ 0 then .refused 3 p else .cell p (off / poolCellSize p)

/-- Checks 3 and 4 of a FREE, or RELEASE, of a cell: an owned cell becomes free, a shared one loses a reference (R283,
R284). -/
def State.freeAt (s : State) (cls : BitVec 6) (ptr : BitVec 40) (p k : Nat) : State :=
  let c := s.cell p k
  if c.state = 0 then s.refuseCell cls ptr 0 p c
  else if c.state = 2 then s.dropRef p k
  else if c.state = 1 && (c.owner = cls || cls = 0x3F) then s.releaseCell p k
  else s.refuseCell cls ptr 1 p c

/-- FREE, and RELEASE, which is the same operation on every state of a cell (R283, R284). -/
def State.cellFree (s : State) (cls : BitVec 6) (ptr : BitVec 40) : State :=
  match atPtr cls ptr with
  | .nothing => s
  | .refused kind pool => s.refuseCell cls ptr kind pool Cell.free
  | .cell p k => s.freeAt cls ptr p k

/-- A TRANSFER of a cell: accepted on an owned cell from its owner class or CUSTODIAN (R282, R283). -/
def State.passAt (s : State) (cls : BitVec 6) (ptr : BitVec 40) (newOwner : BitVec 6) (p k : Nat) : State :=
  let c := s.cell p k
  if c.state = 0 then s.refuseCell cls ptr 0 p c
  else if c.state = 1 && (c.owner = cls || cls = 0x3F) then s.setCell p k { c with owner := newOwner }
  else s.refuseCell cls ptr 1 p c

/-- TRANSFER (R282, R283). -/
def State.cellTransfer (s : State) (cls : BitVec 6) (ptr : BitVec 40) (newOwner : BitVec 6) : State :=
  match atPtr cls ptr with
  | .nothing => s
  | .refused kind pool => s.refuseCell cls ptr kind pool Cell.free
  | .cell p k => s.passAt cls ptr newOwner p k

/-- SHARE with a count (R284), which for an owned cell is 2 or more: a smaller one changes nothing.
[DESIGN CHOICE, unsafe: log 165] -/
def State.cellShare (s : State) (cls : BitVec 6) (ptr : BitVec 40) (n : Nat) : State :=
  match atPtr cls ptr with
  | .nothing => s
  | .refused kind pool => s.refuseCell cls ptr kind pool Cell.free
  | .cell p k =>
    let c := s.cell p k
    if c.state = 0 then s.refuseCell cls ptr 0 p c
    else if c.state = 2 then
      (if c.refs.toNat + n > 1023 then s.refuseCell cls ptr 4 p c
       else s.setCell p k { c with refs := c.refs + BitVec.ofNat 10 n })
    else if c.state = 1 && c.owner = cls then
      (if n > 1023 then s.refuseCell cls ptr 4 p c else if n < 2 then s
       else s.setCell p k { state := 2, owner := c.owner, refs := BitVec.ofNat 10 n })
    else s.refuseCell cls ptr 1 p c

/-! ## A packet's cells -/

/-- The buffer address of a cell (R275). -/
def cellPtr (p k : Nat) : BitVec 40 := BitVec.ofNat 40 (poolBase p + k * poolCellSize p)

/-- A requester of the datapath frees the cells of a packet, each with the checks of R283. -/
def State.freeAll (cls : BitVec 6) : List (Nat × Nat) → State → State
  | [], s => s
  | (p, k) :: r, s => State.freeAll cls r (s.freeAt cls (cellPtr p k) p k)

/-- A packet's cells pass from one owner class of the datapath to the next, each with the checks of R283 (R282). -/
def State.passAll (cls newOwner : BitVec 6) : List (Nat × Nat) → State → State
  | [], s => s
  | (p, k) :: r, s => State.passAll cls newOwner r (s.passAt cls (cellPtr p k) newOwner p k)

/-- Take `n` more cells of one pool for a chain, or none at all. -/
def State.takeChain (p : Nat) (cls : BitVec 6) : Nat → List (Nat × Nat) → State → Option (List (Nat × Nat)) × State
  | 0, got, s => (some got.reverse, s)
  | n + 1, got, s =>
    match s.takeCell p cls false with
    | (some k, s) => State.takeChain p cls n ((p, k) :: got) s
    | (none, s) => (none, s.freeAll cls got)

/-- Build a frame's chain up to `need` cells, from the cells that it has: a pool that is empty before the last byte, or a
frame that needs more than `limit` cells, drops it whole, frees its cells and is counted (R286). -/
def State.buildChain (p : Nat) (cls : BitVec 6) (limit need : Nat) (got : List (Nat × Nat)) (s : State) :
    Option (List (Nat × Nat)) × State :=
  match State.takeChain p cls (minN need limit - got.length) [] s with
  | (none, s) => (none, (s.freeAll cls got).bump (poolCtr p 8) 1)
  | (some l, s) =>
    if need > limit then (none, (s.freeAll cls (got ++ l)).bump (poolCtr p 9) 1) else (some (got ++ l), s)

/-! ## Requests -/

/-- The pools from which an owner class takes cells (Table BPM-4). -/
def classPools (cls : BitVec 6) : List Nat :=
  match cls.toNat with
  | 0x01 | 0x02 => [1, 2, 3, 4, 5, 6, 9]
  | 0x03 | 0x05 => [1, 2, 3, 4, 5, 6]
  | 0x04 => [0]
  | 0x08 => [8]
  | 0x0D | 0x10 => [10]
  | 0x0E => [11]
  | 0x0F => [1, 2, 3, 4, 5, 6, 10]
  | 0x11 => [10, 11]
  | _ => []

/-- A requester asks only for cells of its own pools (R276), or names P7, which no pool is (R275). -/
def asks (r : PoolReq) : Bool :=
  match r.want with
  | .size _ => (classPools r.cls).contains 1
  | .pool 7 => classPools r.cls ≠ []
  | .pool p => (classPools r.cls).contains p

/-- The pool a request goes to; none: it fits no pool (R277). -/
def wantPool : PoolWant → Option Nat
  | .size n => poolForSize n
  | .pool p => some p

/-- Requests of one cycle in ascending owner class, equal classes in their order (R279). -/
def insertReq (r : PoolReq) : List PoolReq → List PoolReq
  | [] => [r]
  | x :: xs => if r.cls < x.cls then r :: x :: xs else x :: insertReq r xs

def sortReqs (l : List PoolReq) : List PoolReq := l.foldl (fun acc r => insertReq r acc) []

/-- One service cycle of one pool: what was carried over first, then this cycle's arrivals.
[DESIGN CHOICE, safe: log 76] -/
def State.poolCycle (s : State) (reqs : List PoolReq) (p : Nat) : State :=
  let mine := reqs.filter (fun r => wantPool r.want = some p)
  let x := s.pool p
  let all := x.carried ++ sortReqs mine
  if all = [] then s
  else
    let s := if p = 7 then s else s.setPool p { x with carried := [] }
    servePool p (s.freeCells p ≠ 0) (if p = 7 then all.length else 4) all s

/-- One PKT cycle of the allocator. [DESIGN CHOICE, safe: log 76] -/
def State.allocCycle (s : State) (reqs : List PoolReq) : State :=
  let reqs := reqs.filter asks
  let big := reqs.filter (fun r => wantPool r.want = none)
  let s := s.bump (bpmCtr 1) big.length
  [0, 1, 2, 3, 4, 5, 6, 7, 8, 9, 10, 11].foldl (fun s p => s.poolCycle reqs p) s

/-! ## Re-initialisation and reclamation -/

/-- The requests that a pool carries fail at once when it stops serving (R291). -/
def State.failCarried (s : State) (p : Nat) : State :=
  let x := s.pool p
  (s.setPool p { x with carried := [] }).bump (poolCtr p 1) x.carried.length

/-- Some pools stop serving. -/
def stopPools : List Nat → State → State
  | [], s => s
  | p :: r, s => stopPools r (s.failCarried p)

/-- A pool's re-initialisation begins: every cell free, FREE at the pool's count (R291). -/
def State.poolInit (s : State) (p : Nat) : State :=
  let s := s.failCarried p
  let x := s.pool p
  (s.setPool p { x with cells := [], carried := [], reinit := true, lowWater := poolCells p, emptyRun := false, lowRun := false }).poolGuards p

/-- The owner classes that CUSTODIAN reclaims when a domain turns off (R287). -/
def domClasses (d : Nat) : List Nat :=
  match d with
  | 10 => [0x04, 0x0B] | 9 => [0x05, 0x0A] | 11 => [0x03, 0x0C] | 2 => [0x01] | 4 => [0x02] | 7 => [0x0E] | _ => []

/-- Free the cells of some classes in one pool, counting them. -/
def State.reclaimPool (s : State) (classes : List Nat) (p : Nat) : State × Nat :=
  let x := s.pool p
  let mine := x.cells.filter (fun e => classes.contains e.2.owner.toNat && (e.2.state = 1 || e.2.state = 2))
  if mine = [] then (s, 0)
  else
    let s := s.setPool p { x with cells := x.cells.filter (fun e => !(classes.contains e.2.owner.toNat && (e.2.state = 1 || e.2.state = 2))) }
    ((s.bump (poolCtr p 4) mine.length).poolChanged p, mine.length)

/-- CUSTODIAN reclaims the cells of a domain's requesters (R287). -/
def State.reclaim (s : State) (d : Nat) : State :=
  let classes := domClasses d
  if classes = [] then s
  else
    let (s, n) := poolList.foldl (fun (a : State × Nat) p => let (s, n) := a.1.reclaimPool classes p; (s, a.2 + n)) (s, 0)
    -- a packet that waits for its first pass in a reclaimed cell is gone
    let whole (x : Packet) : Bool := x.cells.all fun e => (s.cell e.1 e.2).state ≠ 0
    let s := { s with cls := { s.cls with ingress := s.cls.ingress.filter whole } }
    (s.bump (bpmCtr 3) n).raise 0x0708 (put 60 4 d + put 32 21 (sat 0x1FFFFF n) + s.tickLow)

/-! ## The DRAM interfaces (R289, R290) -/

/-- The highest of some signed temperatures. -/
def hottest : List (BitVec 16) → BitVec 16
  | [] => 0
  | [t] => t
  | t :: r => if (hottest r).toInt < t.toInt then t else hottest r

/-- An interface trains: it is in service at the end, and crossing group 6 has been exposed (R290). -/
def State.dramTrain (s : State) (i : Nat) : State :=
  let t := s.bpm.temps.getD i 0
  { s with bpm := { s.bpm with trained := s.bpm.trained ||| BitVec.ofNat 4 (2 ^ i), trainedAt := s.bpm.trainedAt.set i t } }.expose 6

/-- A reading of an interface's temperature: the highest of all is DRAM_TEMP, above 85 °C the refresh rate is doubled (R289),
and a change of 10 °C since the interface's last training trains it again (R290). [DEDUCED, safe: log 133] -/
def State.dramReading (s : State) (i : Nat) (temp : BitVec 16) : State :=
  let temps := s.bpm.temps.set i temp
  let top := hottest temps
  let s := { s with bpm := { s.bpm with temps, dramTemp := top, refresh2x := decide (170 < top.toInt) } }
  if (temp.toInt - (s.bpm.trainedAt.getD i 0).toInt).natAbs ≥ 20 then s.dramTrain i else s

/-! ## Reads -/

def readBpm (s : State) (f : Found) : Option Word :=
  let i := f.ix.getD 0 0
  match f.obj with
  | .bpmPoolStatus =>
    let p := f.w + i
    if p = 7 then some 0
    else if f.ix.getD 1 0 = 0 then some (BitVec.ofNat 32 (s.freeCells p)) else some (BitVec.ofNat 32 (s.pool p).lowWater)
  | .bpmLastRefusal => some (wordOf s.bpm.lastRefusal.toNat i)
  | .bpmDram => some (BitVec.ofNat 32 (put 0 4 s.bpm.trained.toNat + put 4 1 (b2n s.bpm.refresh2x) + put 16 16 s.bpm.dramTemp.toNat))
  | .bpmMram =>
    let worst (r : Nat) : Nat :=
      (s.mram.wear.getD r 0).toNat + (s.mram.pageWrites.foldl (fun m e => if e.1 / 4096 = r then maxN m e.2 else m) 0) / 10000
    some (BitVec.ofNat 32 (put 0 16 (worst (2 * i)) + put 16 16 (worst (2 * i + 1))))
  | _ => none

/-- The clearing that a read of LOW_WATER does (Table BPM-7). -/
def readSideBpm (s : State) (f : Found) : State :=
  let p := f.w + f.ix.getD 0 0
  if f.obj = .bpmPoolStatus && f.ix.getD 1 0 = 1 && p ≠ 7 then
    let x := s.pool p
    s.setPool p { x with lowWater := s.freeCells p }
  else s

def checkBpm (f : Found) (v : Word) : Nat :=
  match f.obj with
  | .bpmCfg => if 1 ≤ fld v 0 4 && fld v 0 4 ≤ 8 then 0 else 5
  | .bpmPoolCfg => if fld v 0 21 ≤ poolCells (f.w + f.ix.getD 0 0) then 0 else 5
  | _ => 0

def applyBpm (s : State) (f : Found) : State :=
  match f.obj with
  | .bpmPoolCfg => s.poolChanged (f.w + f.ix.getD 0 0)
  | _ => s

end Sys2Proof.Machine
end

