-- ==== Sys2Proof/Machine/QueueOps.lean ====
section
/-! DEFINITION. Queues, nodes, shapers, meters, hatch lists and credit-based shapers, with the checks, effects and reads
of QSCHED objects (Queues, Scheduling, Shaping and Hatch Lists). -/

namespace Sys2Proof.Machine

def qAddr (q w : Nat) : Nat := addrOf 0x38 (0x10000 + 4 * q + w)
def nodeAddr (n w : Nat) : Nat := addrOf 0x38 (0x200000 + 4 * n + w)
def meterAddr (m w : Nat) : Nat := addrOf 0x38 (0x100000 + 8 * m + w)
def cbsAddr (e p : Nat) : Nat := addrOf 0x38 (0x300000 + 4 * e + p)
def hEntryAddr (l j : Nat) : Nat := addrOf 0x38 (0x380000 + 0x400 * l + j)
def hCfgAddr (l w : Nat) : Nat := addrOf 0x38 (0x380200 + 0x400 * l + w)
/-- Drop counter j; queue, meter and node counters (Tables QSCHED-2 and QSCHED-7). -/
def qDropCtr (j : Nat) : Nat := addrOf 0x38 (0x100 + 2 * j)
def queueCtr (q k : Nat) : Nat := addrOf 0x38 (0x400000 + 8 * q + 2 * k)
def meterCtr (m k : Nat) : Nat := addrOf 0x38 (0x500000 + 8 * m + 2 * k)
def nodeCtr (n k : Nat) : Nat := addrOf 0x38 (0x600000 + 4 * n + 2 * k)

/-- The kinds of Table QSCHED-1, with their index. -/
inductive NodeKind | tcont (t : Nat) | port (p : Nat) | ethernet (e : Nat) | ces (k : Nat) | none
deriving DecidableEq, Repr

def nodeKind (n : Nat) : NodeKind :=
  if n < 8192 then .tcont n else if n < 8704 then .port (n - 8192) else if n < 8708 then .ethernet (n - 8704)
  else if n < 8836 then .ces (n - 8708) else .none

def State.queue (s : State) (q : Nat) : Queue := mget Queue.none s.qs.queues q
def State.setQueue (s : State) (q : Nat) (x : Queue) : State :=
  { s with qs := { s.qs with queues := mput Queue.none s.qs.queues q x } }

def State.qNode (s : State) (q : Nat) : Nat := s.cfgF (qAddr q 0) 0 14
def State.qPos (s : State) (q : Nat) : Nat := s.cfgF (qAddr q 0) 14 3
def State.qTc (s : State) (q : Nat) : Nat := s.cfgF (qAddr q 0) 27 3
/-- TC and WEIGHT of the packet at a queue's head: those from before a write that came after it reached the head (R244).
[DEDUCED, unsafe: log 123] -/
def State.headTc (s : State) (q : Nat) : Nat := match (s.queue q).kept with | some k => k.1.toNat | none => s.qTc q
/-- [DEDUCED, unsafe: log 123] -/
def State.headWeight (s : State) (q : Nat) : Nat :=
  match (s.queue q).kept with | some k => k.2.toNat | none => s.cfgF (qAddr q 0) 17 10
def State.qBound (s : State) (q : Nat) : Bool := s.cfgB (qAddr q 0) 31

/-- The queues bound to a node, rising. -/
def State.queuesOf (s : State) (n : Nat) : List Nat :=
  (s.words.filter fun e => qAddr 0 0 ≤ e.1 && e.1 < qAddr 65536 0 && (e.1 - qAddr 0 0) % 4 = 0 && bit e.2 31 &&
    fld e.2 0 14 = n).map fun e => (e.1 - qAddr 0 0) / 4

/-- DEPTH: bytes queued and not released. -/
def State.depth (s : State) (q : Nat) : Nat := sumN ((s.queue q).pkts.map fun p => p.bytes.length)

/-! ## Lengths and rates -/

def ethPort (s : State) (e : Nat) : EthPort := mget EthPort.reset s.eth.ports e

/-- MAC rate of a port in kbit/s. -/
def macRate (s : State) (e : Nat) : Nat :=
  if s.cfgB (addrOf 0x50 0) 0 then 100000000
  else if (ethPort s e).rateActive = 1 then 25000000 else 10000000

def ethAddr (e off : Nat) : Nat := addrOf 0x50 (0x10000 + 0x1000 * e + off)

/-- An EAPOL frame, which passes the SecY unprotected. -/
def isEapol (b : List Byte) : Bool := beNat (slice b 12 2) = 0x888E

/-- Bytes that MACsec adds to a frame of a port (R346). -/
def macsecExpansion (s : State) (e : Nat) (b : List Byte) : Nat :=
  if s.cfgB (ethAddr e 0x40) 0 && !isEapol b then (if s.cfgB (ethAddr e 0x40) 3 then 32 else 24) else 0

/-- OVERHEAD of a node. -/
def State.overhead (s : State) (n : Nat) : Int := sgn 7 (s.cfgF (nodeAddr n 2) 10 7)

/-- A packet's accounted length on a node (R249). -/
def State.accounted (s : State) (n : Nat) (p : Packet) : Nat :=
  let len := p.bytes.length + (match nodeKind n with | .ethernet e => macsecExpansion s e p.bytes | _ => 0)
  ((len : Int) + s.overhead n).toNat

/-! ## Shapers (R249, R250) -/

/-- Tokens in 1/256 byte that a rate in kbit/s gives in a number of TIME cycles. -/
def accrual (rate cycles : Nat) : Nat := rate * 125 * 256 * cycles / 1244160000

def State.burst (s : State) (n : Nat) : Int := 256 * (s.cfgF (nodeAddr n 1) 0 24 : Int)

def State.rate (s : State) (n : Nat) : Nat := s.cfgF (nodeAddr n 0) 0 27

/-- A node's bucket brought up to a moment under a rate and a burst; an unlisted bucket is full. -/
def bucketAt (x : Option Node) (rate : Nat) (burst : Int) (now : BitVec 64) : Node :=
  match x with
  | some b =>
    let t := b.tokens + accrual rate (now.toNat - b.at_.toNat)
    { b with tokens := if t > burst then burst else t, at_ := if now.toNat < b.at_.toNat then b.at_ else now }
  | none => { tokens := burst, at_ := now, virt := 0 }

def State.node (s : State) (n : Nat) : Option Node := mget none s.qs.nodes n
def State.setNode (s : State) (n : Nat) (x : Option Node) : State :=
  { s with qs := { s.qs with nodes := mput none s.qs.nodes n x } }

/-- [PRESUMED, unsafe: log 74] -/
def State.bucket (s : State) (n : Nat) (now : BitVec 64) : Node := bucketAt (s.node n) (s.rate n) (s.burst n) now

/-- Virtual time of a node's weighted group. -/
def State.virt (s : State) (n : Nat) : BitVec 48 := match s.node n with | some b => b.virt | none => 0

def State.setVirt (s : State) (n : Nat) (v : BitVec 48) (now : BitVec 64) : State :=
  s.setNode n (some { s.bucket n now with virt := v })

/-! ## Meters (R251 to R253) -/

/-- RFC time of a TIME count, in nanoseconds since the count was zero. -/
def countNs (c : BitVec 64) : Nat := c.toNat * 3125 / 3888

/-- One byte, in units of 10⁻⁶ bit. -/
def byteUnits : Nat := 8000000

/-- [PRESUMED, unsafe: log 74] -/
def State.meter (s : State) (m : Nat) : Option Meter := mget none s.qs.meters m
def State.setMeter (s : State) (m : Nat) (x : Option Meter) : State :=
  { s with qs := { s.qs with meters := mput none s.qs.meters m x } }

/-- A meter's parameters: mode, awareness, CIR, CBS, PIR, EBS or PBS. -/
structure MeterCfg where
  mode : Nat
  aware : Bool
  enable : Bool
  cir : Nat
  cbs : Nat
  pir : Nat
  ebs : Nat
deriving DecidableEq, Repr

def State.meterCfg (s : State) (m : Nat) : MeterCfg :=
  let w := s.cfg (meterAddr m 0)
  { mode := fld w 0 2, aware := bit w 2, enable := bit w 3, cir := s.cfgF (meterAddr m 1) 0 27
    cbs := s.cfgF (meterAddr m 2) 0 24, pir := s.cfgF (meterAddr m 3) 0 27, ebs := s.cfgF (meterAddr m 4) 0 24 }

/-- The buckets brought up to a moment; an unlisted meter is full. -/
def meterAt (g : MeterCfg) (x : Option Meter) (now : BitVec 64) : Meter :=
  let cmax : Int := g.cbs * byteUnits
  let emax : Int := g.ebs * byteUnits
  match x with
  | none => { c := cmax, e := emax, at_ := now }
  | some b =>
    let ns := countNs now - countNs b.at_
    let at_ := if now.toNat < b.at_.toNat then b.at_ else now
    let c := b.c + (g.cir * ns : Nat)
    let c' := if c > cmax then cmax else c
    let e := if g.mode = 0 then b.e + (c - c') else b.e + (g.pir * ns : Nat)
    { c := c', e := if e > emax then emax else e, at_ }

/-- The marker's colour for a packet of n bytes and a pre-colour, and the buckets after (RFC 2697, RFC 2698). -/
def meterMark (g : MeterCfg) (b : Meter) (bytes : Nat) (pre : BitVec 2) : BitVec 2 × Meter :=
  let n : Int := bytes * byteUnits
  let pre := if g.aware then pre else 0
  if g.mode = 0 then
    if pre = 0 && b.c ≥ n then (0, { b with c := b.c - n })
    else if pre ≠ 2 && b.e ≥ n then (1, { b with e := b.e - n })
    else (2, b)
  else
    if pre = 2 || b.e < n then (2, b)
    else if pre = 1 || b.c < n then (1, { b with e := b.e - n })
    else (0, { b with c := b.c - n, e := b.e - n })

/-- Parameters a meter may be enabled with (R251). -/
def meterOk (g : MeterCfg) : Bool :=
  let rate (r : Nat) : Bool := 64 ≤ r && r ≤ 100000000
  let size (b : Nat) : Bool := 64 ≤ b && b ≤ 16777215
  g.mode < 2 && rate g.cir && size g.cbs && size g.ebs && (g.mode = 0 || (rate g.pir && g.cir ≤ g.pir))

/-! ## Hatch lists (R258 to R263) -/

def State.hatch (s : State) (l : Nat) : Hatch := mget Hatch.none s.qs.hatch l
def State.setHatch (s : State) (l : Nat) (x : Hatch) : State :=
  { s with qs := { s.qs with hatch := mput Hatch.none s.qs.hatch l x } }

/-- One cycle of a copy as runs (gates, duration): entries past the cycle are cut, the last entry is held to its end. -/
def runsOf (cycle : Nat) : Nat → List (BitVec 8 × Nat) → List (BitVec 8 × Nat)
  | _, [] => []
  | at_, [(g, _)] => if at_ < cycle then [(g, cycle - at_)] else []
  | at_, (g, d) :: r => if at_ < cycle then (g, minN d (cycle - at_)) :: runsOf cycle (at_ + d) r else []

def HCopy.runs (c : HCopy) : List (BitVec 8 × Nat) := runsOf c.cycle 0 c.entries

/-- Where time t stands in a copy's cycle. -/
def HCopy.phase (c : HCopy) (t : Nat) : Nat := (((t : Int) - (c.base.toNat : Int)) % (maxN 1 c.cycle : Int)).toNat

/-- The run at a phase: its index, its gates, and what remains of it. -/
def runAt : Nat → List (BitVec 8 × Nat) → Nat → Nat × BitVec 8 × Nat
  | i, [], _ => (i, 255, 0)
  | i, (g, d) :: r, ph => if ph < d then (i, g, d - ph) else runAt (i + 1) r (ph - d)

/-- The copy that governs at a moment while no pending one has started: a copy that restarts governs from its start. -/
def Hatch.baseAt (h : Hatch) (t : Nat) : Option HCopy :=
  match h.again with
  | some (x, st) => if st.at_.toNat ≤ t then some x else h.active
  | .none => h.active

/-- The copy that governs at a moment. -/
def Hatch.copyAt (h : Hatch) (t : Nat) : Option HCopy :=
  match h.pending with
  | some p => if h.start.toNat ≤ t then some p else h.baseAt t
  | .none => h.baseAt t

/-- The starts still to come after a moment. -/
def Hatch.startsAfter (h : Hatch) (t : Nat) : List Nat :=
  ((h.pending.toList.map fun _ => h.start.toNat) ++ (h.again.toList.map fun e => e.2.at_.toNat)).filter fun x => decide (t < x)

/-- Gate g is open at a moment (R258: no copy, every gate open). -/
def Hatch.openAt (h : Hatch) (g t : Nat) : Bool :=
  match h.copyAt t with
  | .none => true
  | some c => (runAt 0 c.runs (c.phase t)).2.1.getLsbD g

/-- Gate g stays open from t until `until_` (R261), across entries, cycles and a pending start. -/
def Hatch.openThrough (h : Hatch) (g until_ : Nat) : Nat → Nat → Bool
  | 0, _ => true
  | n + 1, t =>
    if t ≥ until_ then true
    else if !h.openAt g t then false
    else
      let edge := (h.startsAfter t).foldl minN until_
      match h.copyAt t with
      | .none => h.openThrough g until_ n (minN edge until_)
      | some c =>
        if c.runs.all (fun r => r.1.getLsbD g) then h.openThrough g until_ n (minN edge until_)
        else h.openThrough g until_ n (minN edge (t + maxN 1 (runAt 0 c.runs (c.phase t)).2.2))

/-- The longest unbroken open span of a gate in a copy; none: unbounded (R262). -/
def HCopy.longest (c : HCopy) (g : Nat) : Option Nat :=
  if c.runs.all (fun r => r.1.getLsbD g) then Option.none
  else some ((c.runs ++ c.runs).foldl (fun (a : Nat × Nat) r =>
    let cur := if r.1.getLsbD g then a.1 + r.2 else 0
    (cur, maxN a.2 cur)) (0, 0)).2

/-- The open time of a gate in the first `ph` ns of a cycle. -/
def openUpTo (g : Nat) : List (BitVec 8 × Nat) → Nat → Nat
  | [], _ => 0
  | (m, d) :: r, ph => (if m.getLsbD g then minN d ph else 0) + openUpTo g r (ph - d)

/-- The open time of a gate of a copy from one moment to a later one. -/
def HCopy.openNs (c : HCopy) (g t0 t1 : Nat) : Nat :=
  let cyc : Int := maxN 1 c.cycle
  let k := ((t1 : Int) - c.base.toNat) / cyc - ((t0 : Int) - c.base.toNat) / cyc
  (k * openUpTo g c.runs c.cycle + openUpTo g c.runs (c.phase t1) - openUpTo g c.runs (c.phase t0)).toNat

/-- The same under what governs between two moments: nothing (the gate is open), or a copy. -/
def openUnder (x : Option HCopy) (g t0 t1 : Nat) : Nat :=
  match x with
  | some c => c.openNs g t0 t1
  | none => t1 - t0

/-- The open time of a gate of a list from one moment to a later one, across starts (R259, R265). -/
def Hatch.openNs (h : Hatch) (g : Nat) : Nat → Nat → Nat → Nat
  | 0, t0, t1 => openUnder (h.copyAt t0) g t0 t1
  | n + 1, t0, t1 =>
    if t1 ≤ t0 then 0
    else
      let edge := (h.startsAfter t0).foldl minN t1
      openUnder (h.copyAt t0) g t0 edge + h.openNs g n edge t1

/-- The list that governs a node, where HATCH_EN is set; with PD_TIME off every gate is open (R371). -/
def State.nodeHatch (s : State) (n : Nat) : Option Nat :=
  if s.cfgB (nodeAddr n 2) 6 && s.domOn 12 then some (s.cfgF (nodeAddr n 2) 0 6) else none

/-- Line rate of a port or Ethernet node in kbit/s (R261). -/
def State.lineRate (s : State) (n : Nat) : Nat :=
  match nodeKind n with
  | .ethernet e => macRate s e
  | _ => if s.rate n ≠ 0 then s.rate n else 218180000

/-- Line time of a packet in ns. -/
def State.lineTime (s : State) (n : Nat) (p : Packet) : Nat :=
  let r := s.lineRate n
  (s.accounted n p * byteUnits + r - 1) / r

/-- The gate of a queue lets its head go at Stylus time t (R246, R261); it is not asked on a T-CONT node. -/
def State.gateFits (s : State) (n q t : Nat) (p : Packet) : Bool :=
  match s.nodeHatch n with
  | none => true
  | some l =>
    -- an uncorrectable error in the list keeps its gates closed until the rewrite (Table FAULT-2)
    let shut := s.qs.eccShut.contains (BitVec.ofNat 6 l)
    let h := s.hatch l
    let g := s.headTc q
    match nodeKind n with
    | .tcont _ | .none => true
    | .ces _ => !shut && h.openAt g t
    | .port _ => !shut && h.openThrough g (t + s.lineTime n p) 2048 t
    | .ethernet e =>
      -- R342: open time counts only after a wake
      let wake := if (ethPort s e).lpiTx then 1000 * (ethPort s e).txTw.toNat else 0
      !shut && h.openThrough g (t + wake + s.lineTime n p) 2048 (t + wake)

/-- A head that can never fit its gate (R262). -/
def State.neverFits (s : State) (n q : Nat) (p : Packet) : Option Nat :=
  match nodeKind n, s.nodeHatch n with
  | .port _, some l | .ethernet _, some l =>
    match (s.hatch l).active with
    | some c => match c.longest (s.headTc q) with
      | some d => if s.lineTime n p > d then some l else none
      | none => none
    | none => none
  | _, _ => none

/-! ## Credit-based shaping (R264 to R266) -/

def State.cbs (s : State) (e p : Nat) : Option Cbs := mget none s.qs.credits (4 * e + p)
def State.setCbs (s : State) (e p : Nat) (x : Option Cbs) : State :=
  { s with qs := { s.qs with credits := mput none s.qs.credits (4 * e + p) x } }

def State.idleSlope (s : State) (e p : Nat) : Nat := s.cfgF (cbsAddr e p) 0 27

/-- The queue at a strict position of a node. -/
def State.strictQueue (s : State) (n p : Nat) : Option Nat := (s.queuesOf n).find? fun q => s.qPos q = p

/-- The largest frame of a port, in units of credit. -/
def State.maxFrameUnits (s : State) (e : Nat) : Nat := s.cfgF (ethAddr e 3) 0 14 * byteUnits

/-- hiCredit and loCredit, as IEEE 802.1Q derives them from the port's largest frame (R264, R335).
[PRESUMED, unsafe: log 74] -/
def State.hiCredit (s : State) (e p : Nat) : Int := (s.maxFrameUnits e * s.idleSlope e p / macRate s e : Nat)
/-- The least credit of a strict queue (R264, R335). [PRESUMED, unsafe: log 74] -/
def State.loCredit (s : State) (e p : Nat) : Int := -((s.maxFrameUnits e * (macRate s e - s.idleSlope e p) / macRate s e : Nat) : Int)

/-- The time, in ns, in which a strict queue's credit grows between two moments: not while its gate is closed or its class
held (R265). The hold is that of the whole span: a change of holds brings the credit up to date. -/
def State.creditTime (s : State) (e q : Nat) (from_ to_ : BitVec 64) : Nat :=
  let tc := s.headTc q
  if (ethPort s e).paused || (ethPort s e).pfcHeld.getLsbD tc then 0
  else match s.nodeHatch (8704 + e) with
    | some l => if s.qs.eccShut.contains (BitVec.ofNat 6 l) then 0 else (s.hatch l).openNs tc 2 (s.nsAt from_) (s.nsAt to_)
    | none => countNs to_ - countNs from_

/-- A strict queue's credit at a moment: it grows at IDLE_SLOPE, up to hiCredit, while a packet waits, and up to 0 while
none does; an idle queue loses positive credit (R264). [PRESUMED, unsafe: log 74] -/
def State.cbsAt (s : State) (e p : Nat) (now : BitVec 64) : Cbs :=
  let x := (s.cbs e p).getD { credit := 0, at_ := now }
  let at_ := if now.toNat < x.at_.toNat then x.at_ else now
  match s.strictQueue (8704 + e) p with
  | none => { credit := 0, at_ }
  | some q =>
    let c := x.credit + (s.idleSlope e p * s.creditTime e q x.at_ at_ : Nat)
    let top : Int := if (s.queue q).pkts ≠ [] then s.hiCredit e p else 0
    { credit := if c > top then top else c, at_ }

/-- Bring every credit of an Ethernet node up to a moment. [PRESUMED, unsafe: log 74] -/
def State.cbsUpdate (s : State) (e : Nat) (now : BitVec 64) : State :=
  [0, 1, 2, 3].foldl (fun s p => if s.idleSlope e p = 0 then s.setCbs e p none else s.setCbs e p (some (s.cbsAt e p now))) s

/-- The credits of a node are brought up to a moment. -/
def State.creditsNow (s : State) (n : Nat) (now : BitVec 64) : State :=
  match nodeKind n with
  | .ethernet e => s.cbsUpdate e now
  | _ => s

/-- The same at a free moment, where the node has a credit-based shaper: before one of its queues gains or loses packets
other than by release, so that credit grows with the packets that have waited. -/
def State.creditsHere (s : State) (n : Nat) : State :=
  match nodeKind n with
  | .ethernet e =>
    if [0, 1, 2, 3].all (fun p => s.idleSlope e p = 0) then s
    else let (now, s) := s.instant; s.cbsUpdate e now
  | _ => s

/-- The credit that a release of n bytes takes: it falls at sendSlope over the time of the frame, and grows again after
(R264). [PRESUMED, unsafe: log 74] -/
def State.cbsSpend (s : State) (e p bytes : Nat) : State :=
  match s.cbs e p with
  | none => s
  | some x =>
    let rate := macRate s e
    let c := x.credit - (bytes * byteUnits * (rate - s.idleSlope e p) / rate : Nat)
    let low := s.loCredit e p
    let cycles := bytes * byteUnits / rate * 3888 / 3125
    s.setCbs e p (some { credit := if c < low then low else c, at_ := x.at_ + BitVec.ofNat 64 cycles })

/-! ## Tags of the weighted group (R248) -/

/-- Comparison modulo 2⁴⁸. -/
def tagLt (a b : BitVec 48) : Bool := (b - a) ≠ 0 && (b - a).toNat < 2 ^ 47
def tagMax (a b : BitVec 48) : BitVec 48 := if tagLt a b then b else a

/-- F of a head with start tag S. -/
def State.finishTag (s : State) (n q : Nat) (p : Packet) (start : BitVec 48) : BitVec 48 :=
  let w := maxN 1 (s.headWeight q)
  start + BitVec.ofNat 48 ((s.accounted n p * 1048576 + w - 1) / w)

/-- Tag the head of a queue. -/
def State.tagHead (s : State) (n q : Nat) (start : BitVec 48) : State :=
  let x := s.queue q
  match x.pkts with
  | [] => s
  | p :: _ => s.setQueue q { x with start, finish := s.finishTag n q p start }

/-! ## Eligibility and selection (R246, R247) -/

/-- A queue is eligible at a TIME count. -/
def State.eligible (s : State) (n q : Nat) (now : BitVec 64) : Bool :=
  match (s.queue q).pkts with
  | [] => false
  | p :: _ =>
    s.gateFits n q (s.nsAt now) p &&
    match nodeKind n with
    | .ethernet e =>
      !(ethPort s e).pfcHeld.getLsbD (s.headTc q) &&
        (s.qPos q ≥ 4 || s.idleSlope e (s.qPos q) = 0 || (s.cbsAt e (s.qPos q) now).credit ≥ 0)
    | _ => true

/-- Bring the tags of one weighted queue up to date with its eligibility. -/
def State.requalifyOne (s : State) (n : Nat) (now : BitVec 64) (q : Nat) : State :=
  if s.qPos q ≠ 4 then s
  else
    let x := s.queue q
    let e := s.eligible n q now
    if x.pkts = [] then s
    else
      let s := s.setQueue q { x with wasEligible := e }
      if e && !x.wasEligible then s.tagHead n q (tagMax x.start (s.virt n)) else s

/-- Bring a node's weighted group up to a moment. -/
def State.requalify (s : State) (n : Nat) (now : BitVec 64) : State :=
  (s.queuesOf n).foldl (fun s q => s.requalifyOne n now q) s

/-- The eligible queue of a strict position. -/
def State.strictPick (s : State) (n : Nat) (now : BitVec 64) : List Nat → Option Nat
  | [] => none
  | p :: r =>
    match (s.queuesOf n).find? fun q => s.qPos q = p && s.eligible n q now with
    | some q => some q
    | none => s.strictPick n now r

/-- The queue that a node selects: the first eligible strict position, else the smallest finish tag. -/
def State.selectQueue (s : State) (n : Nat) (now : BitVec 64) : Option Nat :=
  match s.strictPick n now [0, 1, 2, 3] with
  | some q => some q
  | none =>
    ((s.queuesOf n).filter fun q => s.qPos q = 4 && s.eligible n q now).foldl (fun best q =>
      match best with
      | none => some q
      | some b => if tagLt (s.queue q).finish (s.queue b).finish then some q else some b) none

/-- Drop heads that can never fit (R262); each list reports once a tick. -/
def State.dropOversize (n q : Nat) : Nat → State → State
  | 0, s => s
  | fuel + 1, s =>
    match (s.queue q).pkts with
    | [] => s
    | p :: rest =>
      match s.neverFits n q p with
      | none => s
      | some l =>
        let x := s.queue q
        let s := (s.setQueue q { x with pkts := rest, kept := none }).freeAll 0x07 p.cells
        let s := s.bump (qDropCtr 5) 1
        let l6 := BitVec.ofNat 6 l
        let seen := s.qs.oversize.contains l6
        let s := if seen then s else { s with qs := { s.qs with oversize := l6 :: s.qs.oversize } }
        let s := s.raiseIf (!seen) 0x0602 (put 56 6 l + put 32 14 n + s.tickLow)
        State.dropOversize n q fuel (s.tagHead n q (tagMax x.prevFinish (s.virt n)))

def State.settleHead (s : State) (n q : Nat) : State := State.dropOversize n q (s.queue q).pkts.length s

/-- Take the head of the selected queue from its node: tags, tokens, counters (R247 to R249). -/
def State.releaseHead (s : State) (n q : Nat) (now : BitVec 64) : Option Packet × State :=
  let x := s.queue q
  match x.pkts with
  | [] => (none, s)
  | p :: rest =>
    let acc := s.accounted n p
    let weighted := s.qPos q = 4
    let s := if weighted then s.setVirt n x.finish now else s
    let s := s.setQueue q { x with pkts := rest, prevFinish := if weighted then x.finish else x.prevFinish
                                   wasEligible := x.wasEligible && rest ≠ [], kept := none }
    let s := s.tagHead n q (tagMax x.finish (s.virt n))
    let s := if s.rate n = 0 then s
      else let b := s.bucket n now; s.setNode n (some { b with tokens := b.tokens - 256 * (acc : Int) })
    let s := (s.bump (nodeCtr n 0) 1).bump (nodeCtr n 1) p.bytes.length
    (some p, s.settleHead n q)

/-- A node's own gate on release: its shaper tokens are not negative (R246). -/
def State.tokensOk (s : State) (n : Nat) (now : BitVec 64) : Bool := s.rate n = 0 || (s.bucket n now).tokens ≥ 0

/-- A node's credits and the tags of its weighted group are brought up to a moment. -/
def State.nodeTouch (s : State) (n : Nat) (now : BitVec 64) : State := (s.creditsNow n now).requalify n now

/-- The nodes that a list governs, rising: all with HATCH_EN, or those of one list. -/
def State.listNodes (s : State) (l : Option Nat) : List Nat :=
  (s.words.filter fun e => nodeAddr 0 0 ≤ e.1 && e.1 < nodeAddr 8836 0 && (e.1 - nodeAddr 0 0) % 4 = 2 && bit e.2 6 &&
    (l.all fun x => fld e.2 0 6 = x)).map fun e => (e.1 - nodeAddr 0 0) / 4

def nodesTouch (now : BitVec 64) : List Nat → State → State
  | [], s => s
  | n :: r, s => nodesTouch now r (s.nodeTouch n now)

/-- The nodes of a list are brought up to a moment at which its gates change: credits, and the tags of queues that lose or
gain their gate (R248, R265). -/
def State.gateTouch (s : State) (l : Nat) (now : BitVec 64) : State := nodesTouch now (s.listNodes (some l)) s

/-- The same for every list, as a step of the Stylus or PD_TIME's exit and entry change them all (R259, R371). -/
def State.gatesTouch (s : State) : State :=
  let (now, s) := s.instant
  nodesTouch now (s.listNodes none) s

/-- What a change of the Stylus does to the gates: every node that a list governs is brought up to date before and after it
(R248, R259, R265). -/
def State.regate (s : State) (f : State → State) : State := (f s.gatesTouch).gatesTouch

/-- TIME's count begins again (R353): what the buckets, meters and credits have accrued until then is kept, and their moments
count from there. [PRESUMED, unsafe: log 74] -/
def State.rebase (s : State) : State :=
  let (now, s) := s.instant
  let s := [0, 1, 2, 3].foldl (fun s e => s.cbsUpdate e now) (nodesTouch now (s.listNodes none) s)
  let nodes := s.qs.nodes.map fun e => (e.1, e.2.map fun _ => { s.bucket e.1 now with at_ := 0 })
  let meters := s.qs.meters.map fun e => (e.1, e.2.map fun _ => { meterAt (s.meterCfg e.1) (s.meter e.1) now with at_ := 0 })
  let credits := s.qs.credits.map fun e => (e.1, e.2.map fun x => { x with at_ := 0 })
  { s with qs := { s.qs with nodes, meters, credits } }

/-! ## Admission (R254) -/

/-- The pool's guard for a colour. -/
def State.poolGuarded (s : State) (p : Packet) (c : BitVec 2) : Bool :=
  match p.cells with
  | (pool, _) :: _ => if c = 1 then s.qs.yGuard.getLsbD pool else s.qs.rGuard.getLsbD pool
  | [] => false

/-- Drop a packet at its queue. -/
def State.dropAt (s : State) (q j : Nat) (p : Packet) : State :=
  let s := (s.bump (qDropCtr j) 1).bump (queueCtr q 2) 1
  (s.bump (queueCtr q 3) p.bytes.length).freeAll 0x06 p.cells

/-! ## Flow bindings and the packets that they carry upstream (R161, R163) -/

/-- Entry i of VONU_ALLOC. -/
def State.allocAt (s : State) (i : Nat) : Option AllocE := mget none s.vonu.alloc i

def flowAddr (f : Nat) : Nat := addrOf 0x20 (0x80000 + f)

/-- The valid flow bindings, as (flow, word). -/
def State.flows (s : State) : List (Nat × Word) :=
  (s.words.filter fun e => flowAddr 0 ≤ e.1 && e.1 < flowAddr 262144 && bit e.2 26).map fun e => (e.1 - flowAddr 0, e.2)

/-- A flow's context is lost until firmware rewrites it: its packets are dropped (region 0 of Table FAULT-2). -/
def State.flowBad (s : State) (f : Option Nat) : Bool :=
  f.any fun n => s.fault.goldenBad.any fun e => e.region = 0 && e.index = n

def flowPort (w : Word) : Nat := fld w 0 16
def flowVonu (w : Word) : Nat := fld w 16 9
def flowChan (w : Word) : Chan := chanOf (fld w 25 1)

def State.flowsOf (s : State) (v : Nat) : List (Nat × Word) := s.flows.filter fun e => flowVonu e.2 = v

/-- The flow whose frames a T-CONT carries: which of the vONU's bindings on the channel a packet belongs to is a free
value. [DESIGN CHOICE, safe: log 59] -/
def State.upFlow (s : State) (v : Nat) (c : Chan) : Option Nat × State :=
  let l := (s.flowsOf v).filter fun e => flowChan e.2 = c
  let (f, s) := s.fresh
  (((l.drop (f % maxN 1 l.length)).head?).map (·.1), s)

/-- A packet queued to a T-CONT with the flow that carries it upstream: its binding, and the XGEM port that the binding
names then, which a later write of the binding does not change (R163). -/
def State.bindPacket (s : State) (n : Nat) (p : Packet) : Packet × State :=
  match s.allocAt n, p.flow with
  | some a, none =>
    if n ≥ 8192 then (p, s)
    else
      let (flow, s) := s.upFlow a.vonu.toNat a.chan
      ({ p with flow, xgemPort := BitVec.ofNat 16 ((flow.map fun f => flowPort (s.cfg (flowAddr f))).getD 0) }, s)
  | _, _ => (p, s)

/-- Admit a packet of a colour to a queue, or drop it. -/
def State.admitTo (s : State) (q : Nat) (p : Packet) : State :=
  let c := p.colour
  let lim := (s.cfg (qAddr q (1 + minN 2 c.toNat))).toNat
  if !s.qBound q || !s.cfgB (qAddr q 0) 30 then s.dropAt q 0 p
  else if s.depth q + p.bytes.length > lim then s.dropAt q (1 + minN 2 c.toNat) p
  else if c ≠ 0 && s.poolGuarded p c then s.dropAt q 4 p
  else
    let x := s.queue q
    let n := s.qNode q
    let s := (s.passAll 0x06 0x07 p.cells).creditsHere n
    let (p, s) := s.bindPacket n p
    let s := s.setQueue q { x with pkts := x.pkts ++ [p] }
    let s := (s.bump (queueCtr q 0) 1).bump (queueCtr q 1) p.bytes.length
    if x.pkts = [] then (s.tagHead n q (s.virt n)).settleHead n q else s

/-- Meter a packet (R252): its colour, and the state with the meter's buckets and counters. -/
def State.meterPacket (s : State) (m : Option (BitVec 16)) (bytes : Nat) (colour : BitVec 2) : BitVec 2 × State :=
  match m with
  | none => (colour, s)
  | some m =>
    let g := s.meterCfg m.toNat
    if !g.enable then (colour, s)
    else
      let (now, s) := s.instant
      let (c, b) := meterMark g (meterAt g (s.meter m.toNat) now) bytes colour
      (c, (s.setMeter m.toNat (some b)).bump (meterCtr m.toNat c.toNat) 1)

/-! ## Writes -/

/-- A hatch list that a commit holds, from acceptance until its shadow copy completes (R260). -/
def State.hatchBusy (s : State) (l : Nat) : Bool :=
  let h := s.hatch l
  h.pending.isSome || h.copying || s.waiting.any fun p => p.op = 0x11 && p.r.param.toNat = l

/-- The shadow of a list as a copy, where complete (R260). -/
def State.shadowCopy (s : State) (l : Nat) : Option HCopy :=
  let cycle := (s.cfg (hCfgAddr l 2)).toNat
  let count := s.cfgF (hCfgAddr l 3) 0 9
  let entries := (List.range count).map fun j => (BitVec.ofNat 8 (s.cfgF (hEntryAddr l j) 0 8), s.cfgF (hEntryAddr l j) 8 24)
  if 1000 ≤ cycle && cycle ≤ 1000000000 && 1 ≤ count && count ≤ 256 && entries.all (fun e => 16 ≤ e.2) then
    some { base := BitVec.ofNat 64 ((s.cfg (hCfgAddr l 0)).toNat + 2 ^ 32 * (s.cfg (hCfgAddr l 1)).toNat), cycle, entries }
  else none

/-- The start of a new copy from Stylus time tc (R260): BASE, or the first BASE + k × CYCLE, at least 125 µs later. -/
def hatchStart (x : HCopy) (tc : Nat) : Nat :=
  let b := x.base.toNat
  if b ≥ tc + 125000 then b else b + (tc + 125000 - b + x.cycle - 1) / maxN 1 x.cycle * x.cycle

/-- A copy waits for its start, counted from Stylus time tc. [DEDUCED, unsafe: log 75] -/
def State.hatchArm (s : State) (l : Nat) (x : HCopy) (tc : Nat) : State :=
  s.setHatch l { s.hatch l with pending := some x, start := BitVec.ofNat 64 (hatchStart x tc) }

def checkQ (s : State) (f : Found) (a : Nat) (v : Word) : Nat :=
  let ok (b : Bool) : Nat := if b then 0 else 5
  let i := f.ix.getD 0 0
  match f.obj with
  | .qQueueCtl => if bit v 16 && s.qs.flushing.isSome then 1 else 0
  | .qQueue =>
    if f.w ≠ 0 then 0
    else
      let old := s.cfg a
      let moved := (bit old 31 && (fld old 0 14 ≠ fld v 0 14 || fld old 14 3 ≠ fld v 14 3)) || bit old 31 ≠ bit v 31
      ok (fld v 14 3 < 5 && fld v 17 10 ≠ 0 && fld v 0 14 < 8836 && (!moved || s.depth i = 0))
  | .qNode =>
    match f.w with
    | 0 => ok (fld v 0 27 = 0 || (64 ≤ fld v 0 27 && fld v 0 27 ≤ 100000000))
    | 1 => ok (64 ≤ fld v 0 24)
    | _ => 0
  | .hShadowEntry => if fld v 8 24 < 16 then 5 else b2n (s.hatchBusy i)
  | .hShadowCfg =>
    let good : Bool := match f.w + f.ix.getD 1 0 with
      | 2 => 1000 ≤ v.toNat && v.toNat ≤ 1000000000
      | 3 => 1 ≤ fld v 0 9 && fld v 0 9 ≤ 256
      | _ => true
    if good then b2n (s.hatchBusy i) else 5
  | .qTcontMap => ok (s.vonu.alloc.all fun e => e.1 ≠ i || e.2.isNone)
  | _ => 0

/-- What must hold of the words as the whole write leaves them. -/
def finalQ (s : State) (f : Found) : Nat :=
  let ok (b : Bool) : Nat := if b then 0 else 5
  let i := f.ix.getD 0 0
  match f.obj with
  | .qQueue =>
    if f.w ≠ 0 || !s.qBound i then 0
    else
      let others := (s.queuesOf (s.qNode i)).filter fun q => q ≠ i && s.qPos q = s.qPos i
      if others.length < (if s.qPos i < 4 then 1 else 60) then 0 else 9
  | .qMeter => ok (!(s.meterCfg i).enable || meterOk (s.meterCfg i))
  | .qCbs => ok (sumN ([0, 1, 2, 3].map fun p => s.idleSlope i p) ≤ macRate s i)
  | .qTcontMap =>
    let w := s.cfg (addrOf 0x38 (0x3C0000 + i))
    let clash (x : Word) : Bool := bit x 25 && fld x 14 9 = fld w 14 9 && bit x 23 = bit w 23 && bit x 24 = bit w 24 &&
      (bit w 24 || fld x 0 14 = fld w 0 14)
    ok (!bit w 25 || s.words.all fun e => !(addrOf 0x38 0x3C0000 ≤ e.1 && e.1 < addrOf 0x38 0x3C2000 &&
      e.1 ≠ addrOf 0x38 (0x3C0000 + i) && clash e.2))
  | _ => 0

/-- Bytes that leave a T-CONT's queue by a drop count towards D (R189, R256). -/
def State.tcontRemoved (s : State) (n : Nat) (bytes : Nat) : State :=
  if n < 8192 then
    let st := mget Stage.none s.burin.stage n
    let st' := { st with removed := st.removed + bytes, takenRemoved := st.takenRemoved + bytes }
    if st = Stage.none then s
    else { s with burin := { s.burin with stage := mput Stage.none s.burin.stage n st' } }
  else s

/-- Bytes of an XGEM frame that carries n payload bytes: an 8-byte header, and the payload padded to words.
[PRESUMED, unsafe: log 60] -/
def xgemLen (n : Nat) : Nat := 8 + (n + 3) / 4 * 4

/-- A FLUSH write (R257): every unreleased packet of the queue goes. -/
def State.flushQueue (s : State) (q : Nat) : State :=
  let x := s.queue q
  let s := (s.creditsHere (s.qNode q)).tcontRemoved (s.qNode q) (sumN (x.pkts.map fun p => xgemLen p.bytes.length))
  let s := (s.setQueue q { x with pkts := [], wasEligible := false, kept := none }).freeAll 0x07 (x.pkts.flatMap (·.cells))
  let s := s.bump (qDropCtr 6) x.pkts.length
  { s with qs := { s.qs with flushing := some (BitVec.ofNat 16 q) } }

/-- A node as it was under the words that stood before a write, brought up to a moment; then the words as written. -/
def State.touchAsBefore (before s : State) (n : Nat) (now : BitVec 64) : State :=
  let put (from_ s : State) : State := [0, 1, 2].foldl (fun s w => s.putCfg (nodeAddr n w) (from_.cfg (nodeAddr n w))) s
  put s ((put before s).nodeTouch n now)

/-- What a write does to a node's bucket, from the words before it to the words after it, at one instant (R58, R250).
[PRESUMED, unsafe: log 74] -/
def State.bucketRewrite (before s : State) (n : Nat) (now : BitVec 64) : State :=
  let virt := s.virt n
  let full : Node := { tokens := s.burst n, at_ := now, virt }
  if s.rate n = 0 then s.setNode n (if virt = 0 then none else some full)
  else if before.rate n = 0 then s.setNode n (some full)
  else
    let b := bucketAt (s.node n) (before.rate n) (before.burst n) now
    s.setNode n (some { b with tokens := if b.tokens > s.burst n then s.burst n else b.tokens })

/-- A write to a node: its bucket (R250), and the credits and tags of its queues where its gates change (R248, R265).
[PRESUMED, unsafe: log 74] -/
def State.nodeRewrite (before s : State) (n : Nat) : State :=
  let (now, s) := s.instant
  ((before.bucketRewrite (before.touchAsBefore s n now) n now).nodeTouch n now)

/-- What a write does to a meter's buckets, at one instant: enabling starts them full; a size that falls takes the tokens
above it (R58, R251). [PRESUMED, unsafe: log 74] -/
def State.meterRewrite (before s : State) (m : Nat) : State :=
  let was := before.meterCfg m
  let g := s.meterCfg m
  if !g.enable || !was.enable then s.setMeter m none
  else
    let (now, s) := s.instant
    let b := meterAt was (s.meter m) now
    let cut (t : Int) (size : Nat) : Int := if t > (size * byteUnits : Nat) then (size * byteUnits : Nat) else t
    s.setMeter m (some { b with c := cut b.c g.cbs, e := cut b.e g.ebs })

/-- What a write of IDLE_SLOPE values does to a port's credits: each has grown at its old slope until then (R264). -/
def State.cbsRewrite (before s : State) (e : Nat) : State :=
  let (now, s) := s.instant
  [0, 1, 2, 3].foldl (fun s p =>
    if s.idleSlope e p = 0 then s.setCbs e p none
    else if before.idleSlope e p = 0 then s.setCbs e p (some { credit := 0, at_ := now })
    else s.setCbs e p (some (before.cbsAt e p now))) s

/-- The packet at a queue's head keeps the TC and WEIGHT with which it got there (R244). [DEDUCED, unsafe: log 123] -/
def State.keepHead (s : State) (q : Nat) (old v : Word) : State :=
  let x := s.queue q
  if x.pkts = [] || x.kept.isSome || (fld old 27 3 = fld v 27 3 && fld old 17 10 = fld v 17 10) then s
  else s.setQueue q { x with kept := some (BitVec.ofNat 3 (fld old 27 3), BitVec.ofNat 10 (fld old 17 10)) }

def applyQ (s : State) (f : Found) (old v : Word) : State :=
  let i := f.ix.getD 0 0
  match f.obj with
  | .qQueue => if f.w = 0 then s.keepHead i old v else s
  | .qAdmitCfg => poolList.foldl (fun s p => s.poolGuards p) s
  | .qQueueCtl => if bit v 16 then s.flushQueue (fld v 0 16) else s
  | _ => s

/-- The objects whose words change together: a node's RATE, BURST and gate fields, a meter, a port's credit slopes. -/
inductive Group | node (n : Nat) | meter (m : Nat) | slopes (e : Nat)
deriving DecidableEq, Repr

def groupOf (f : Found) : Option Group :=
  let i := f.ix.getD 0 0
  match f.obj with
  | .qNode => if f.w ≤ 2 then some (.node i) else none
  | .qMeter => some (.meter i)
  | .qCbs => some (.slopes i)
  | _ => none

/-- The effect of a write on each group that it reaches (R58). -/
def rewriteGroups (before : State) : List Group → State → State
  | [], s => s
  | .node n :: r, s => rewriteGroups before r (before.nodeRewrite s n)
  | .meter m :: r, s => rewriteGroups before r (before.meterRewrite s m)
  | .slopes e :: r, s => rewriteGroups before r (before.cbsRewrite s e)

/-! ## Reads -/

/-- TOKENS and SHAPE_WAIT (Table QSCHED-4). -/
def State.nodeWord3 (s : State) (n : Nat) (now : BitVec 64) : Word :=
  let t : Int := if s.rate n = 0 then s.burst n / 256 else (s.bucket n now).tokens / 256
  let t := satInt 33554431 t
  let wait := s.rate n ≠ 0 && (s.bucket n now).tokens < 0 && (s.queuesOf n).any fun q => s.eligible n q now
  BitVec.ofNat 32 (put 0 26 (twos 26 t) + put 26 1 (b2n wait))

def readQ (s : State) (f : Found) : Option Word :=
  let i := f.ix.getD 0 0
  let j := f.ix.getD 1 0
  let copyWord (c : Option HCopy) (w : Nat) : Word := match c with
    | none => 0
    | some c => match w with
      | 0 | 1 => wordOf c.base.toNat w
      | 2 => BitVec.ofNat 32 c.cycle
      | _ => BitVec.ofNat 32 c.entries.length
  match f.obj with
  | .qQueueCtl => some 0
  | .qStatus => some (BitVec.ofNat 32 (put 0 1 (b2n s.qs.flushing.isSome) + put 1 12 s.qs.yGuard.toNat + put 13 12 s.qs.rGuard.toNat))
  | .qDepth => some (BitVec.ofNat 32 (sat 0xFFFFFFFF (s.depth i)))
  | .qNode => if f.w = 3 then some (s.nodeWord3 i s.instant.1) else none
  | .hActiveEntry =>
    some (match (s.hatch i).active with
      | some c => match c.entries[j]? with
        | some e => BitVec.ofNat 32 (put 0 8 e.1.toNat + put 8 24 e.2)
        | none => 0
      | none => 0)
  | .hActiveCfg => some (copyWord (s.hatch i).active j)
  | .hStatus =>
    let h := s.hatch i
    some (match j with
      | 0 => BitVec.ofNat 32 (put 0 1 (b2n h.pending.isSome) + put 1 1 (b2n h.active.isSome) + put 2 8 h.current.toNat)
      | w => wordOf h.start.toNat (w - 1))
  | _ => none

/-- A read whose value depends on the moment uses up the moment's free value. -/
def readSideQ (s : State) (f : Found) : State := if f.obj = .qNode && f.w = 3 then s.instant.2 else s

end Sys2Proof.Machine
end

