-- ==== Sys2Proof/Machine/LinkOps.lean ====
section
/-! DEFINITION. The Alanov Link: states, lanes, moves, credit, and the sending of frames, with the checks, effects and
reads of ALINK objects (The Alanov Link). -/

namespace Sys2Proof.Machine

def alAddr (i : Nat) : Nat := addrOf 0x48 i
def linkCtr (j : Nat) : Nat := alAddr (0x100 + 2 * j)
def laneCtr (n k : Nat) : Nat := alAddr (0x200 + 8 * n + 2 * k)
def chCtr (ch k : Nat) : Nat := alAddr (0x20000 + 8 * ch + 2 * k)

def State.modLink (s : State) (f : AlinkSt → AlinkSt) : State := { s with alink := f s.alink }
def State.lane (s : State) (n : Nat) : Lane := mget Lane.reset s.alink.lanes n
def State.setLane (s : State) (n : Nat) (x : Lane) : State :=
  s.modLink fun a => { a with lanes := mput Lane.reset a.lanes n x }

def linkCode : LinkState → Nat
  | .down => 0 | .clock => 1 | .adapt => 2 | .lock => 3 | .deskew => 4 | .waitPeer => 5 | .active => 6 | .loop => 7
  | .failed => 8

/-- Frames pass in ACTIVE, and in LOOP of kinds 1 and 2 (R310, R321). -/
def State.linkCarries (s : State) : Bool :=
  s.alink.state = .active || (s.alink.state = .loop && (s.alink.loopKind = 1 || s.alink.loopKind = 2))

/-! ## PRBS (R323 to R325) -/

def State.prbs (s : State) (n : Nat) : Prbs := mget Prbs.off s.alink.prbs n
def State.setPrbs (s : State) (n : Nat) (x : Prbs) : State :=
  s.modLink fun a => { a with prbs := mput Prbs.off a.prbs n x }

def prbsRuns (x : Prbs) : Bool := x.pattern ≠ 0 && (x.gen || x.chk)

/-- The logical lane on L8 towards the device, or the move to L8 under way. -/
def State.spareUsed (s : State) : Bool := s.alink.rxUse.isSome || s.alink.request.isSome

/-- RX_SPARE_OK: L8 is locked and deskewed as the spare, and runs no PRBS in ACTIVE (R306, R324). -/
def State.spareOk (s : State) : Bool :=
  let l := s.lane 8
  l.locked && l.deskewed && !l.failed && s.alink.rxUse.isNone && !(s.alink.state = .active && prbsRuns (s.prbs 8))

/-! ## State changes (Table ALINK-3) -/

/-- Return every lane home, with preset coefficients (R300, R310); a lane that is declared failed stays so (R306). -/
def homeLanes (a : AlinkSt) : AlinkSt :=
  let home (m : SMap Lane) (n : Nat) : SMap Lane := mput Lane.reset m n { Lane.reset with failed := (mget Lane.reset a.lanes n).failed }
  { a with rxUse := none, txUse := none, request := none, commanded := false, peerRequest := 15, peerReady := false
           lanes := (List.range 9).foldl home [], period := none, movedAt := none }

/-- Moves asked for end with the stay: in LOCK and FAILED the device sends REPAIR_REQ 15 (Table ALINK-3). -/
def noRequest (a : AlinkSt) : AlinkSt := { a with request := none, commanded := false }

/-- The link leaves ACTIVE: a frame that was being sent is abandoned (R312). Whether the last one still was is a free value.
[DESIGN CHOICE, safe: log 135] -/
def State.abortFrame (s : State) : State :=
  if !s.alink.sending then s
  else
    let (f, s) := s.fresh
    let s := s.modLink fun a => { a with sending := false }
    if f % 2 = 0 then s else (s.bump (linkCtr 7) 1).emit .alanovCut

/-- A lane's failure lasts until the link next enters LOCK (R306). -/
def clearFailed (a : AlinkSt) : AlinkSt :=
  let one (l : Lane) : Lane := { l with failed := false }
  { a with lanes := (List.range 9).foldl (fun m n => mmod Lane.reset m n one) a.lanes }

/-- Entry to ACTIVE or LOOP begins with empty credit state (R312, R322). -/
def freshCredit (a : AlinkSt) : AlinkSt := { a with credits := [], lossRun := [], badRun := false }

/-- Frames of an earlier stay in ACTIVE hold no credit of this one. -/
def State.creditForget (s : State) : State :=
  { s with cls := { s.cls with ingress := s.cls.ingress.map fun p => { p with creditCh := none } } }

/-- Enter a link state; `cause` is the LINK_DOWN cause of an exit from ACTIVE. A retrain exposes crossing group 4 (R29). -/
def State.setLink (s : State) (t : LinkState) (cause : Nat) : State :=
  let old : LinkState := s.alink.state
  if old = t then s
  else
    let s := (if old = .active then s.abortFrame else s).modLink fun a => { a with state := t }
    let s := match t with
      | .clock | .down => s.modLink homeLanes
      | .lock => (s.modLink clearFailed).modLink noRequest
      | .failed => s.modLink noRequest
      | .active | .loop => (s.modLink freshCredit).creditForget
      | _ => s
    let s := if old = .active && t = .lock then s.bump (linkCtr 10) 1 else s
    let s := if t = .lock && (old = .active || old = .failed) then s.expose 4 else s
    let s := s.raise 0x0801 (put 56 4 (linkCode t) + put 52 4 (linkCode old) + s.tickLow)
    s.raiseIf (old = .active && t ≠ .loop) 0x0802 (put 52 4 (linkCode t) + put 48 4 cause + s.tickLow)

/-- A state change of the link that ends a loop where one runs (R322). -/
def State.linkTo (s : State) (t : LinkState) (cause : Nat) : State :=
  let loop := s.alink.state = .loop
  let s := s.setLink t cause
  if loop && t ≠ .loop then ((s.modLink fun a => { a with loopKind := 0 }).raise 0x0808 s.tickLow).expose 4 else s

/-- Entry to FAILED with its cause. -/
def State.failLink (s : State) (cause : Nat) : State :=
  let s := s.linkTo .failed 0
  (s.modLink fun a => { a with failCause := BitVec.ofNat 4 cause }).raise 0x0803 (put 48 4 cause + s.tickLow)

/-- ENABLE, HOLD and the power domain decide DOWN (R310). No cause of Table ALINK-12 is a commanded DOWN: its code is a
free value. [DEDUCED, unsafe: log 81] -/
def State.linkSettle (s : State) : State :=
  let up := s.cfgB (alAddr 0) 0 && !s.cfgB (alAddr 0) 2 && s.domOn 9
  if up then (if s.alink.state = .down then s.setLink .clock 0 else s)
  else if s.alink.state = .down then s
  else
    let (f, s) := s.fresh
    s.linkTo .down f

/-! ## Lanes and moves (R306 to R309) -/

/-- A move of logical lane k to or from L8. `dir`: 0 towards the device, 1 from it. -/
def State.laneMoved (s : State) (dir : Nat) (toSpare : Bool) (k : BitVec 3) (commanded : Bool) : State :=
  let s := (s.bump (linkCtr 11) 1).raise 0x0805
    (put 63 1 dir + put 62 1 (b2n toSpare) + put 52 4 k.toNat + put 48 1 (b2n commanded) + s.tickLow)
  s.expose 4

/-- A lane fails (R306), with the repair of R308. `cause`: 0 lock or deskew, of a lane that carries a logical lane alone; 1
BIP-8, of any lane. The spare's failure clears RX_SPARE_OK and does nothing else. [DEDUCED, unsafe: log 80] -/
def State.laneFails (s : State) (n cause : Nat) : State :=
  let x := s.lane n
  if x.failed || (x.logical = 15 && cause = 0) then s
  else
    let s := s.setLane n { x with failed := true }
    if x.logical = 15 && n = 8 then s
    else
      let s := s.raise 0x0804 (put 56 4 n + put 52 4 x.logical.toNat + put 48 1 cause + s.tickLow)
      if x.logical = 15 || s.alink.state ≠ .active || !s.cfgB (alAddr 0) 1 then s
      else
        let ok := n ≠ 8 && s.spareOk
        -- a repair that is needed stops a checker on L8 at once (R324)
        let s := if n ≠ 8 && s.alink.rxUse.isNone then s.setPrbs 8 { s.prbs 8 with chk := false, sync := false } else s
        let k : BitVec 3 := x.logical.setWidth 3
        if ok then
          (if s.alink.request = some k then s else s.modLink fun a => { a with request := some k, commanded := false })
        else (s.raise 0x0806 (put 52 4 x.logical.toNat + s.tickLow)).setLink .lock 4

/-- In DESKEW, exactly one home lane that does not lock or deskew is asked to move to L8 (Table ALINK-3).
[DEDUCED, unsafe: log 80] -/
def State.deskewRequest (s : State) : State :=
  if s.alink.state ≠ .deskew || s.spareUsed || !(s.lane 8).locked || !(s.lane 8).deskewed then s
  else
    let bad := (List.range 8).filter fun n => !(s.lane n).locked || ((s.lane n).period.isSome && !(s.lane n).deskewed)
    match bad with
    | [n] => s.modLink fun a => { a with request := some (BitVec.ofNat 3 n), commanded := false }
    | _ => s

/-- The partner's request, acted on where it differs from the block before (R307 step 2). [DEDUCED, unsafe: log 80] -/
def State.peerRequests (s : State) (k : BitVec 4) : State :=
  if k = s.alink.peerRequest then s
  else
    let s := s.modLink fun a => { a with peerRequest := k }
    if k.toNat ≥ 8 then s
    else
      let k3 : BitVec 3 := k.setWidth 3
      match s.alink.txUse with
      | none =>
        let s := s.setPrbs 8 { s.prbs 8 with gen := false }
        (s.modLink fun a => { a with txUse := some k3 }).laneMoved 1 true k3 false
      | some j => if j = k3 then (s.modLink fun a => { a with txUse := none }).laneMoved 1 false k3 false else s

/-- Logical lanes that are locked and deskewed on some lane. -/
def State.lanesUp (s : State) : Nat :=
  ((List.range 8).filter fun k => (List.range 9).any fun n =>
    let x := s.lane n
    x.locked && x.deskewed && x.logical.toNat = k).length

/-- The coefficients adapt from LOCK on unless frozen: their values are free (R300). [DESIGN CHOICE, safe: log 78] -/
def State.laneAdapt (s : State) (n : Nat) : State :=
  match s.alink.state with
  | .down | .clock | .adapt => s
  | _ =>
    if s.cfgB (alAddr 0) 3 then s
    else
      let (a, s) := s.fresh
      let (b, s) := s.fresh
      s.setLane n { s.lane n with ctle := BitVec.ofNat 4 a, dfe := BitVec.ofNat 30 b }

/-- All nine lanes adapt, whatever each carries (R300). -/
def adaptLanes : List Nat → State → State
  | [], s => s
  | n :: r, s => adaptLanes r (s.laneAdapt n)

/-! ## The ALIGN blocks that the device sends (R303, Table ALINK-2) -/

/-- RX_READY as the link's state has the device send it: its receiver is deskewed on 8 logical lanes (Table ALINK-3). -/
def State.rxReadySent (s : State) : Bool :=
  match s.alink.state with
  | .waitPeer => true
  | .active | .loop => s.lanesUp = 8
  | _ => false

/-- What the ALIGN blocks of a physical lane carry; a lane in DOWN, in a far-end loop or under a PRBS generator sends none. -/
def State.alignTx (s : State) (n : Nat) : Option AlignTx :=
  let x := s.prbs n
  if s.alink.state = .down || (s.alink.state = .loop && s.alink.loopKind = 3) || (x.gen && x.pattern ≠ 0) then none
  else
    let logical : BitVec 4 :=
      if n = 8 then (match s.alink.txUse with | some k => k.setWidth 4 | none => 15)
      else if s.alink.txUse = some (BitVec.ofNat 3 n) then 15 else BitVec.ofNat 4 n
    some { logical, rxReady := s.rxReadySent, repairReq := match s.alink.request with | some k => k.setWidth 4 | none => 15 }

/-- The lanes' ALIGN blocks, listed in what the device sends where their content has changed.
[DESIGN CHOICE, safe: log 136] -/
def alignSend : List Nat → State → State
  | [], s => s
  | n :: r, s =>
    let x := s.alignTx n
    if mget none s.alink.sentAlign n = x then alignSend r s
    else
      let s := s.modLink fun a => { a with sentAlign := mput none a.sentAlign n x }
      alignSend r (match x with | some a => s.emit (.align n a) | none => s)

/-- The lanes that carry a logical lane first: in a move's first period both lanes carry it, and the old one carries none from the
next on (R307 steps 3 and 4). -/
def State.aligned (s : State) : State :=
  let (used, idle) := [8, 0, 1, 2, 3, 4, 5, 6, 7].partition fun n => (s.alignTx n).any fun a => decide (a.logical ≠ 15)
  alignSend idle (alignSend used s)

/-! ## Credit (R316, R317) -/

def advertise (s : State) (ch : Nat) : Nat := s.cfgF (alAddr (0x10000 + 2 * ch)) 0 12

/-- A channel's credit; unlisted, as at entry to ACTIVE. -/
def State.credit (s : State) (ch : Nat) : Credit :=
  (mget none s.alink.credits ch).getD
    { peerLimit := 0, consumed := 0, limit := BitVec.ofNat 12 (advertise s ch), seen := 0, held := 0
      adv := BitVec.ofNat 12 (advertise s ch) }

def State.setCredit (s : State) (ch : Nat) (x : Credit) : State :=
  s.modLink fun a => { a with credits := mput none a.credits ch (some x) }

/-- u(L): units of 64 bytes, at least 1. -/
def creditUnits (n : Nat) : Nat := maxN 1 ((n + 63) / 64)

/-- The sender's test of R316. -/
def State.creditFor (s : State) (ch n : Nat) : Bool :=
  let x := s.credit ch
  let avail := (x.peerLimit - x.consumed).toNat
  avail < 2048 && creditUnits n ≤ avail

/-- A frame's units are released to its channel. -/
def State.creditRelease (s : State) (ch n : Nat) : State :=
  let x := s.credit ch
  s.setCredit ch { x with held := x.held - BitVec.ofNat 12 (creditUnits n) }

/-- One channel at a calendar round, from which on ADVERTISE is in force: LIMIT never goes backwards (R319).
[DEDUCED, unsafe: log 84] -/
def creditRound (adv : Nat) (x : Credit) : Credit :=
  let x := { x with adv := BitVec.ofNat 12 adv }
  let new := x.seen + BitVec.ofNat 12 adv - x.held
  if (new - x.limit).toNat < 2048 then { x with limit := new } else x

/-- Send one frame where credit allows (R313, R316); none: it waits. One that a FIFO fault has spoilt is abandoned on the way, and
counted (R25). [DESIGN CHOICE, unsafe: log 162] -/
def State.sendFrame (s : State) (ch colour : Nat) (d : List Byte) : Option State :=
  if !s.linkCarries || !s.creditFor ch d.length then none
  else
    let x := s.credit ch
    let c := x.consumed + BitVec.ofNat 12 (creditUnits d.length)
    let s := s.setCredit ch { x with consumed := c }
    if s.spoilt 4 1 then some (((s.unspoil 4 1).bump (linkCtr 7) 1).emit .alanovCut)
    else
    let s := (s.bump (chCtr ch 2) 1).bump (chCtr ch 3) d.length
    some ((s.modLink fun a => { a with sending := true }).emit (.alanov (descWord ch d.length colour c.toNat) (linkBytes d)))

/-- The replies of channel 640 leave as credit allows (R320). -/
def sendReplies : List Reply → State → State
  | [], s => s
  | r :: rest, s =>
    match s.sendFrame 640 0 (replyBytes r) with
    | none => s
    | some s =>
      let p := s.cmd.port.alanov
      sendReplies rest { s with cmd := { s.cmd with port := { s.cmd.port with alanov := { p with replies := rest } } } }

def State.pumpReplies (s : State) : State := sendReplies s.cmd.port.alanov.replies s

/-- The CES frames that wait for credit leave in order (R320). -/
def sendWaiting : List (BitVec 7 × List Byte) → List (BitVec 7 × List Byte) → State → State
  | [], kept, s => s.modLink fun a => { a with cesWait := kept.reverse }
  | (k, d) :: r, kept, s =>
    match s.sendFrame (512 + k.toNat) 0 d with
    | some s => sendWaiting r kept s
    | none => sendWaiting r ((k, d) :: kept) s

def State.pumpCes (s : State) : State := sendWaiting s.alink.cesWait [] s

/-! ## Writes and reads -/

def checkAl (s : State) (f : Found) (v : Word) : Nat :=
  let ok (b : Bool) : Nat := if b then 0 else 5
  match f.obj with
  | .alCfg => ok (fld v 4 8 ≠ 0)
  | .alTxEq => ok (fld v 0 5 ≤ 16 && fld v 8 5 ≤ 24)
  | .alCtl =>
    let active := s.alink.state = .active
    ok ((!bit v 1 || (active && s.spareOk)) && (!bit v 2 || (active && s.alink.rxUse.isSome)))
  | .alCredit =>
    if f.w = 1000 then 0
    else ok (fld v 0 12 ≤ 2047 && (f.w ≠ 640 || 65 ≤ fld v 0 12))
  | _ => 0

/-- The effect of an accepted write to an ALINK object. -/
def applyAl (s : State) (f : Found) (old v : Word) : State :=
  match f.obj with
  -- coefficients that DFE_FREEZE holds are those of the moment of the write
  | .alCfg => (if bit old 3 then s else (adaptLanes (List.range 9) (s.putCfg (alAddr 0) old)).putCfg (alAddr 0) v).linkSettle
  | .alCtl =>
    let s := if bit v 1 then s.modLink fun a => { a with request := some (BitVec.ofNat 3 (fld v 4 3)), commanded := true } else s
    let s := if bit v 2 then s.modLink fun a => { a with request := a.rxUse, commanded := true } else s
    if bit v 0 then
      match s.alink.state with
      | .active => s.setLink .lock 3
      | .failed => (s.bump (linkCtr 10) 1).setLink .lock 3
      | _ => s
    else s
  | .alCredit =>
    let ch := f.w + f.ix.getD 0 0
    match mget none s.alink.credits ch with
    | some _ => s
    | none => s.setCredit ch { peerLimit := 0, consumed := 0, limit := BitVec.ofNat 12 (fld old 0 12), seen := 0, held := 0
                               adv := BitVec.ofNat 12 (fld old 0 12) }
  | _ => s

def readAl (s : State) (f : Found) : Option Word :=
  let i := f.ix.getD 0 0
  let lane4 (x : Option (BitVec 3)) : Nat := match x with | some k => k.toNat | none => 15
  match f.obj with
  | .alCtl => some 0
  | .alStatus => some (BitVec.ofNat 32 (put 0 4 (linkCode s.alink.state) + put 4 4 s.alink.failCause.toNat +
      put 8 1 (b2n s.alink.peerReady) + put 9 2 s.alink.loopKind.toNat + put 11 1 (b2n s.spareOk) +
      put 12 4 (lane4 s.alink.rxUse) + put 16 4 (lane4 s.alink.txUse)))
  | .alLane =>
    let x := s.lane i
    some (if f.ix.getD 1 0 = 0 then
      BitVec.ofNat 32 (put 0 1 (b2n x.locked) + put 1 1 (b2n x.deskewed) + put 2 1 (b2n x.failed) + put 4 4 x.logical.toNat +
        put 8 7 x.skew.toNat + put 16 4 x.ctle.toNat)
      else x.dfe.setWidth 32)
  | .alCredit =>
    if f.w = 1000 then
      let x := s.credit i
      some (BitVec.ofNat 32 (put 0 12 x.peerLimit.toNat + put 12 12 x.consumed.toNat))
    else none
  | _ => none

end Sys2Proof.Machine
end

