-- ==== Sys2Proof/Machine/ChannelOps.lean ====
section
/-! DEFINITION. The optical channels' own operations: line conditions, leaving SYNC, starting and restarting, the
transmitter's states, the checks and effects of writes, and the words they read (Optical Channels A and B). -/

namespace Sys2Proof.Machine

def chBlock (c : Chan) : Nat := 0x10 + chanN c
def chAddr (c : Chan) (i : Nat) : Nat := addrOf (chBlock c) i
/-- The receive and transmit power domains of a channel (Table PWR-1). -/
def rxDom (c : Chan) : Nat := 2 + 2 * chanN c
def txDom (c : Chan) : Nat := 3 + 2 * chanN c

def State.ch (s : State) (c : Chan) : ChanSt := s.chans.get c
def State.setCh (s : State) (c : Chan) (x : ChanSt) : State := { s with chans := s.chans.set c x }
def State.modCh (s : State) (c : Chan) (f : ChanSt → ChanSt) : State := s.setCh c (f (s.ch c))

/-- Count on a channel counter (Table CH-9), by its index. -/
def State.bumpCh (s : State) (c : Chan) (i n : Nat) : State := s.bump (chAddr c i) n

/-- p[63]: the channel. -/
def pCh (c : Chan) : Nat := put 63 1 (chanN c)

def State.chEnabled (s : State) (c : Chan) : Bool := s.cfgB (chAddr c 0) 0
def State.inSync (s : State) (c : Chan) : Bool := (s.ch c).hunt = .sync
def State.inB50 (s : State) (c : Chan) : Bool := c = .b && (s.ch c).modeActive = 1
/-- XGS-PON mode: channel B with MODE_ACTIVE 0 (Table CH-1). -/
def State.inXgs (s : State) (c : Chan) : Bool := c = .b && (s.ch c).modeActive = 0

/-- Frame length in bits (Table CH-1). -/
def State.frameBits (s : State) (c : Chan) : Nat := if s.inXgs c then 1244160 else 6220800

/-! ## The equaliser (R86 to R88) -/

/-- The most that a coefficient moves between two looks at it, in units of its 13 fractional bits: a step of 2^-(10 + MU)
for every 256 bits of two frames, rounded up (R86). -/
def State.tapReach (s : State) (c : Chan) : Nat :=
  ((2 * s.frameBits c / 256 + 1) * 8 + 2 ^ s.cfgF (chAddr c 0x10) 0 3 - 1) / 2 ^ s.cfgF (chAddr c 0x10) 0 3

/-- One coefficient after adaptation: within its reach of the old value, by a free value; what it becomes at the limits of
its format is not stated, a second free value. -/
def adaptTap (reach : Nat) (v : BitVec 16) (f g : Nat) : BitVec 16 :=
  let x := v.toInt + (f % (2 * reach + 1) : Nat) - (reach : Nat)
  if -32768 ≤ x && x ≤ 32767 then BitVec.ofInt 16 x else BitVec.ofNat 16 g

/-- The coefficients after adaptation. [DESIGN CHOICE, safe: log 44] -/
def adaptTaps (reach : Nat) : List (BitVec 16) → State → List (BitVec 16) × State
  | [], s => ([], s)
  | v :: r, s =>
    let (f, s) := s.fresh
    let (g, s) := s.fresh
    let (l, s) := adaptTaps reach r s
    (adaptTap reach v f g :: l, s)

/-- Adaptation runs from CDR lock in every hunt state, unless LOS, FREEZE or the receive domain freezes it (R86, R88).
[DESIGN CHOICE, safe: log 44] -/
def State.adapt (s : State) (c : Chan) : State :=
  let x := s.ch c
  if x.cdr && !x.los && !(s.cfgB (chAddr c 0x10) 4) && s.domOn (rxDom c) then
    let (t, s) := adaptTaps (s.tapReach c) x.taps s
    s.modCh c fun x => { x with taps := t }
  else s

/-! ## Conditions -/

/-- Assert CHANNEL_LOSS with a cause, raising it when it was clear (R110). -/
def State.assertLoss (s : State) (c : Chan) (cause : Nat) : State :=
  if (s.ch c).chLoss then s
  else (s.modCh c fun x => { x with chLoss := true }).raise 0x0204 (pCh c + put 62 1 1 + put 56 2 cause + s.tickLow)

/-- What of the frame in hand is still to be delivered goes, unless SYNC ended by the frame itself, which is processed
whole, and at whose boundary a tick may still occur (R13, R97). -/
def ChanSt.cutFrame (x : ChanSt) (cause : Nat) : ChanSt :=
  if cause ≥ 2 then { x with fsOk := false, payloadDrop := true, lossEdge := false } else { x with lossEdge := true }

/-- A window that SYNC ends before its 80th frame is discarded; a full one stays to be judged (R111). -/
def ChanSt.dropWindow (x : ChanSt) : ChanSt :=
  if x.winFrames ≥ 80 then x else { x with winFrames := 0, winBits := 0, winUncorr := 0 }

/-- Leave SYNC (R99): LOF is asserted and raised with its cause, candidates and windows are dropped, and the hunt goes to
HUNT, or to OFF where the CDR is not locked or the channel stops. A channel that leaves SYNC other than by its counts
stops being the tick source at once (R13). -/
def State.leaveSync (s : State) (c : Chan) (cause : Nat) (off : Bool) : State :=
  if !s.inSync c then
    s.modCh c fun x => (if off || !x.cdr then { x with cands := [], hunt := .off } else x).cutFrame cause
  else
    let s := s.modCh c fun x =>
      ({ x with hunt := if off || !x.cdr then .off else .hunt, lof := true, cands := [], badCount := 0, mismatched := false
                keptTaps := x.taps }.dropWindow).cutFrame cause
    let s := if cause ≥ 2 && s.tick.source = .chan c && s.tick.selected = .chan c then
        { s with tick := { s.tick with selected := .ref } } else s
    s.raise 0x0202 (pCh c + put 62 1 1 + put 56 2 cause + s.tickLow)

/-- Assert LOS, raising it when it was clear; assertion ends SYNC with cause LOS (R108). -/
def State.assertLos (s : State) (c : Chan) : State :=
  let s := if (s.ch c).los then s
    else (s.modCh c fun x => { x with los := true }).raise 0x0201 (pCh c + put 62 1 1 + s.tickLow)
  s.leaveSync c 2 false

/-- The channel stops running, by a disable or its receive domain turning off: LOF with cause 3, LOS and CHANNEL_LOSS
asserted, the hunt OFF (R99, R108, R110, R120, R123). -/
def State.stopCh (s : State) (c : Chan) (lossCause : Nat) : State :=
  let s := s.leaveSync c 3 true
  let s := s.assertLos c
  let s := s.modCh c fun x =>
    { x with running := false, cdr := false, relocking := false, restarting := false, hunt := .off, cands := []
             eqConverged := false }
  s.assertLoss c lossCause

/-! ## Modes -/

/-- The factory LOS_THRESH of the part's class in a mode, 12-bit two's complement in 0.1 dBm (Table PHYS-7).
[DEDUCED, unsafe: log 45] -/
def losFactory (budget : BitVec 2) (c : Chan) (mode : BitVec 2) : Nat :=
  let n2 := budget = 1
  twos 12 (match c with
    | .a => if n2 then -300 else -280
    | .b => if mode = 0 then (if n2 then -325 else -310) else (if n2 then -280 else -260))

/-- A pending MODE takes effect; a change of channel B's mode loads the new mode's SD and SF thresholds and LOS_THRESH
(R83, R119 step 3). [DEDUCED, unsafe: log 45] -/
def State.takeMode (s : State) (c : Chan) : State :=
  let m := BitVec.ofNat 2 (s.cfgF (chAddr c 0) 1 2)
  if (s.ch c).modeActive = m then s
  else
    let s := s.modCh c fun x => { x with modeActive := m }
    match c with
    | .a => s
    | .b =>
      let s := s.putCfg (chAddr c 5) (if m = 0 then 99533 else 2488320)
      let s := s.putCfg (chAddr c 6) (if m = 0 then 9953 else 248832)
      s.putCfg (chAddr c 4) (s.cfg (chAddr c 4) &&& 0xFFFFF000 ||| BitVec.ofNat 32 (losFactory s.part.budget c m))

/-- Steps 2 and 3 of a start (R119): the receiver clears, the equaliser starts, MODE takes effect. The coefficients kept
for KEEP = 1 are those of the last SYNC, a cycle of the receive domain in between or not.
[DESIGN CHOICE, unsafe: log 145, 153] -/
def State.clearCh (s : State) (c : Chan) : State :=
  let keep := s.cfgB (chAddr c 0x10) 3
  let s := s.freeAll (BitVec.ofNat 6 (1 + chanN c)) ((s.ch c).reasm.flatMap fun e => match e.2 with | some p => p.cells | none => [])
  let s := s.modCh c fun x =>
    { x with cands := [], reasm := [], taps := if keep then x.keptTaps else presetTaps c, hunt := .off
             eqConverged := false, badCount := 0 }
  s.takeMode c

/-- Steps 2 to 4 of a start (R119): from here the CDR relocks, and the hunt begins with its lock. -/
def State.startCh (s : State) (c : Chan) : State :=
  (s.clearCh c).modCh c fun x => { x with running := true, cdr := false, relocking := true, restarting := true }

def State.restarted (s : State) (c : Chan) : State :=
  s.raise 0x020B (pCh c + put 56 2 (s.ch c).modeActive.toNat + s.tickLow)

/-! ## The transmitter (R113 to R116) -/

def txCode : TxState → Nat
  | .off => 0 | .warmup => 1 | .ready => 2 | .fault => 3 | .latched => 4

/-- Enter a transmitter state, reporting a change, and noting a warm-up that READY has come to (R115). -/
def State.setTx (s : State) (c : Chan) (t : TxState) : State :=
  let old := (s.ch c).tx
  if old = t then s
  else (s.modCh c fun x => { x with tx := t, warmFromReady := t = .warmup && old = .ready }).raise 0x020A
    (pCh c + put 59 3 (txCode t) + put 56 3 (txCode old) + s.tickLow)

/-- The conditions that hold a transmitter OFF: ENABLE or TX_PERMIT 0, its domain off (Table CH-4); the guard tables not
loaded (R201), a configuration CRC mismatch (R428), a clock or rail fault (R430, R432), a boundary-scan instruction
(R415), or the safe state (R433). [DEDUCED, unsafe: log 47] -/
def State.txHeld (s : State) (c : Chan) : Bool :=
  let x := s.ch c
  !s.chEnabled c || !s.cfgB (chAddr c 0) 3 || !s.domOn (txDom c) || x.holdReload || x.holdCrc || x.holdClock ||
    x.holdRail || s.crypto.bscan || s.phase = .safe

/-- WARMUP passes to READY when the TEC is locked and the bias calibrated. -/
def State.txReady (s : State) (c : Chan) : State :=
  let x := s.ch c
  if x.tx = .warmup && x.tecLocked && x.biasCal then s.setTx c .ready else s

/-- Bring the transmitter's state up to date with its conditions. ENABLE = 0 lets a burst in progress end first (R120). -/
def State.txUpdate (s : State) (c : Chan) : State :=
  let x := s.ch c
  let busy := (s.burin.ch.get c).current.isSome
  match x.tx with
  | .off =>
    if s.txHeld c then s
    else ((s.modCh c fun x => { x with biasCal := false }).setTx c .warmup).txReady c
  | .warmup => if s.txHeld c then s.setTx c .off else s.txReady c
  | .ready =>
    if s.txHeld c then (if busy && !s.chEnabled c && s.domOn (txDom c) then s else s.setTx c .off)
    else if x.tecLocked then s
    else s.setTx c .warmup
  | .fault | .latched => s

/-! ## Restart, enable, disable -/

/-- A RESTART write (R119). A channel that is not enabled, or whose receive domain is off, stays OFF and has its steps
behind it at once. [DESIGN CHOICE, unsafe: log 144] -/
def State.restartCh (s : State) (c : Chan) : State :=
  let s := s.assertLoss c 2
  let s := s.leaveSync c 3 true
  let s := s.expose (2 * chanN c)
  let s := if (s.ch c).tx = .fault then s.setTx c .off else s
  let s := if s.chEnabled c && s.domOn (rxDom c) then s.startCh c else (s.clearCh c).restarted c
  s.txUpdate c

/-! ## Writes -/

/-- The checks of a write to a CH object: 0 when it passes, else the refusing status. -/
def checkCh (s : State) (c : Chan) (f : Found) (v : Word) : Nat :=
  let ok (b : Bool) : Nat := if b then 0 else 5
  match f.obj with
  | .chCfg =>
    ok ((match c with | .a => fld v 1 2 = 0 | .b => fld v 1 2 < 2) && 1 ≤ fld v 8 4 && fld v 8 4 ≤ 12 &&
      (!bit v 0 || (s.domOn (rxDom c) && s.domOn (txDom c))))
  | .chHuntCfg => ok (fld v 0 4 ≤ 8 && 1 ≤ fld v 4 4)
  | .chCondCfg => ok (10 ≤ fld v 16 16 && fld v 16 16 ≤ 10000)
  | .chTxCfg => ok (-200 ≤ sgn 9 (fld v 0 9) && sgn 9 (fld v 0 9) ≤ 200 && -80 ≤ sgn 8 (fld v 16 8) && sgn 8 (fld v 16 8) ≤ 80)
  | _ => 0

/-- The effect of an accepted write to a CH object; the word is stored by then. RESET_EQ acts before a RESTART of the same
write. [DESIGN CHOICE, unsafe: log 152] -/
def applyCh (s : State) (c : Chan) (f : Found) (old v : Word) : State :=
  match f.obj with
  | .chCfg =>
    let s := if bit v 0 && !bit old 0 then s.startCh c else s
    let s := if !bit v 0 && bit old 0 then s.stopCh c 1 else s
    s.txUpdate c
  | .chCtl =>
    let s := if bit v 1 then s.modCh c fun x => { x with taps := presetTaps c } else s
    if bit v 0 then s.restartCh c else s
  | _ => s

/-! ## Reads -/

def huntCode : Hunt → Nat
  | .off => 0 | .hunt => 1 | .candidate => 2 | .sync => 3

/-- CH_STATUS (Table CH-6). -/
def chStatusWord (x : ChanSt) : Word := BitVec.ofNat 32
  (put 0 2 x.modeActive.toNat + put 2 2 (huntCode x.hunt) + put 4 1 (b2n x.los) + put 5 1 (b2n x.lof) +
   put 6 1 (b2n x.chLoss) + put 7 1 (b2n x.sd) + put 8 1 (b2n x.sf) + put 9 1 (b2n x.cdr) + put 10 1 (b2n x.eqConverged) +
   put 11 4 x.badCount.toNat + put 15 4 x.cands.length)

/-- CH_TX_STATUS (Table CH-8). -/
def chTxStatusWord (x : ChanSt) : Word := BitVec.ofNat 32
  (put 0 3 (txCode x.tx) + put 3 1 (b2n x.tecLocked) + put 4 2 x.rateLast.toNat)

/-- CH_MON (Table CH-8). -/
def chMonWord (m : MonSample) (i : Nat) : Word :=
  match i with
  | 0 => m.txPower ++ m.rxPower
  | 1 => m.laserTemp ++ m.laserBias
  | _ => m.apdBias ++ m.tecCurrent

/-- A CH word that is not simply stored. -/
def readCh (s : State) (c : Chan) (f : Found) : Option Word :=
  let x := s.ch c
  match f.obj with
  | .chStatus => some (chStatusWord x)
  | .chSfc => some (wordOf x.sfc64.toNat (f.ix.getD 0 0))
  | .chEqTap => some ((x.taps.getD (f.ix.getD 0 0) 0).setWidth 32)
  | .chTxStatus => some (chTxStatusWord x)
  | .chMon => some (chMonWord x.mon (f.ix.getD 0 0))
  | .chCtl => some 0
  | _ => none

end Sys2Proof.Machine
end

