-- ==== Sys2Proof/Machine/CryptoOps.lean ====
section
/-! DEFINITION. The key store: slots, usage and its limits, loads, erasure and alarms (Cipher Engine, Key Store and
Debug Closure). The algorithms themselves are constants of Config. -/

namespace Sys2Proof.Machine

def vonuNone : Vonu := Vonu.none
def State.vonuAt (s : State) (n : Nat) : Vonu := mget Vonu.none s.vonu.vonus n

/-! ## The slot map (Table CRYPTO-2) -/

def mgmtSlot (v c : Nat) : Nat := 2 * v + c
def uniSlot (v c k : Nat) : Nat := 1024 + 4 * v + 2 * c + (k - 1)
def bcastSlot (c k : Nat) : Nat := 3072 + 2 * c + (k - 1)
/-- The kind of a slot's range: 1 management, 2 unicast, 3 broadcast, 4 MACsec. -/
def slotKind (i : Nat) : Nat := if i < 1024 then 1 else if i < 3072 then 2 else if i < 3076 then 3 else 4

def State.slot (s : State) (i : Nat) : Slot := mget Slot.empty s.crypto.slots i
def State.setSlot (s : State) (i : Nat) (x : Slot) : State :=
  { s with crypto := { s.crypto with slots := mput Slot.empty s.crypto.slots i x } }

/-- The default management set (R400). -/
def defaultSlot : Slot := { state := 1, isDefault := true, key := [], usage := 0, loadTick := 0 }

/-- A key placed in a slot: usage 0, state active (R403, R404). -/
def State.loadSlot (s : State) (i : Nat) (key : List Byte) : State :=
  s.setSlot i { state := 1, isDefault := false, key, usage := 0, loadTick := BitVec.ofNat 32 s.tickLow }

def State.eraseSlot (s : State) (i : Nat) : State := s.setSlot i Slot.empty

/-- Crypto counter j (Table CRYPTO-7). -/
def cryCtr (j : Nat) : Nat := addrOf 0x68 (0x100 + 2 * j)

/-! ## Use of a slot -/

/-- What a slot offers to an operation that would begin now. -/
inductive KeyUse | ok | missing | retired
deriving DecidableEq, Repr

/-- A key may be used unless its slot is empty, retired, or has reached its hard limit (R401, R406). -/
def State.keyUse (s : State) (i : Nat) : KeyUse :=
  let x := s.slot i
  if x.state = 0 then .missing
  else if x.state = 3 || x.usage.toNat ≥ 2 ^ s.cfgF (addrOf 0x68 0) 8 6 then .retired
  else .ok

/-- AES blocks of n bytes; a partial block counts whole (R405). -/
def aesBlocks (n : Nat) : Nat := (n + 15) / 16

/-- Count the blocks of an operation on its slot (R405). -/
def State.useKey (s : State) (i blocks : Nat) : State :=
  let x := s.slot i
  if x.state = 0 then s else s.setSlot i { x with usage := x.usage + BitVec.ofNat 64 blocks }

/-- The cipher engine has power (R411). -/
def State.engineOn (s : State) : Bool := s.domOn 7

/-- An operation begins under a slot's key, counted on the slot; none begins without the engine, or under a key that is
retired, which is counted (R405, R406, R411). -/
def State.keyBegin (s : State) (slot blocks : Nat) : Bool × State :=
  if !s.engineOn then (false, s)
  else if s.keyUse slot ≠ .ok then (false, s.bump (cryCtr 1) 1)
  else (true, s.useKey slot blocks)

/-- One key of a vONU's management set: label 0 PLOAM_IK, 1 OMCI_IK, 2 KEK (R400, R402). -/
def State.mgmtKey (s : State) (v : Nat) (c : Chan) (label : Nat) : List Byte :=
  let x := s.slot (mgmtSlot v (match c with | .a => 0 | .b => 1))
  if x.isDefault then Config.defaultKey label
  else Config.deriveKey (x.key ++ leBytes 8 (s.vonuAt v).sn.toNat) label

/-! ## Erasure (R410, R411) -/

/-- Every slot empty, then the default set for every vONU that is not FREE. -/
def State.eraseStore (s : State) : State :=
  let live := s.vonu.vonus.filter (fun e => e.2.life ≠ .free)
  let slots := live.foldl (fun m e => mput Slot.empty (mput Slot.empty m (mgmtSlot e.1 0) defaultSlot) (mgmtSlot e.1 1) defaultSlot) []
  { s with crypto := { s.crypto with slots } }

/-- An alarm's erase: latched, counted, logged and reported (R410). `src` is the bit of the record; `active` tells whether
the source stays active. -/
def State.alarmErase (s : State) (src : Nat) (active : Bool) : State :=
  let s := s.eraseStore
  let act := if active then s.crypto.alarmActive ||| BitVec.ofNat 5 (2 ^ src) else s.crypto.alarmActive
  let s := { s with crypto := { s.crypto with alarmLatch := s.crypto.alarmLatch ||| BitVec.ofNat 6 (2 ^ src), alarmActive := act } }
  (s.bump (cryCtr 5) 1).raise 0x0C05 (put 32 6 (2 ^ src) + s.tickLow)

/-! ## Key loads (R404) -/

/-- The fields of CRYPTO_KEY_LOAD word 0. -/
structure LoadHead where
  slot : Nat
  kind : Nat
  vonu : Nat
  chan : Nat
deriving DecidableEq, Repr

def loadHead (w : Word) : LoadHead := { slot := fld w 0 12, kind := fld w 12 2, vonu := fld w 14 9, chan := fld w 23 1 }

/-- The refusals that do not depend on the count: 0, or DENIED_STATE (R404). -/
def State.loadCheck (s : State) (h : LoadHead) : Nat :=
  let range := slotKind h.slot
  let fits := h.kind = 0 || (h.kind = 1 && range = 1) || (h.kind = 2 && range = 3) || (h.kind = 3 && range = 4)
  let holderFree := range = 1 && (s.vonuAt (h.slot / 2)).life = .free
  let unwrapBad := h.kind = 2 && ((s.vonuAt h.vonu).life = .free || (s.slot (mgmtSlot h.vonu h.chan)).isDefault)
  let alarm := s.crypto.alarmActive ≠ 0 || s.crypto.lockedOut
  let engine := (h.kind = 1 || h.kind = 2) && !s.engineOn
  if fits && !holderFree && !unwrapBad && !alarm && s.crypto.rngOk && !engine then 0 else 5

/-- Kind 0: the slot is erased; a management slot takes the default set again. -/
def State.loadErase (s : State) (i : Nat) : State :=
  if slotKind i = 1 then s.setSlot i { defaultSlot with loadTick := BitVec.ofNat 32 s.tickLow } else s.eraseSlot i

/-- Kind 1: the management set is derived from the MSK and reported (R402). -/
def State.loadMsk (s : State) (i : Nat) (material : List Byte) : State :=
  (s.loadSlot i (material.take 16)).raise 0x0C04 (put 63 1 (i % 2) + put 48 9 (i / 2) + s.tickLow)

/-- Kind 2: a broadcast key is unwrapped under the KEK, one block; where the KEK is retired, no operation begins and the
slot stays as it is. -/
def State.loadBroadcast (s : State) (i v : Nat) (c : Chan) (material : List Byte) : State :=
  let slot := mgmtSlot v (match c with | .a => 0 | .b => 1)
  if s.keyUse slot ≠ .ok then s else (s.useKey slot 1).loadSlot i (Config.keyUnwrap (s.mgmtKey v c 2) material)

/-- Kind 3: SAK, salt and SSCI. -/
def State.loadMacsec (s : State) (i : Nat) (material : List Byte) : State := s.loadSlot i (material.take 48)

/-- An accepted CRYPTO_KEY_LOAD write. -/
def State.keyLoad (s : State) (h : LoadHead) (material : List Byte) : State :=
  match h.kind with
  | 0 => s.loadErase h.slot
  | 1 => s.loadMsk h.slot material
  | 2 => s.loadBroadcast h.slot h.vonu (chanOf h.chan) material
  | _ => s.loadMacsec h.slot material

/-! ## Writes and reads -/

def checkCry (s : State) (f : Found) (v : Word) : Nat :=
  match f.obj with
  | .cryCfg =>
    let soft := fld v 0 6
    let hard := fld v 8 6
    if 16 ≤ soft && soft ≤ 62 && 17 ≤ hard && hard ≤ 63 && soft < hard then 0 else 5
  | .cryFlowMode => if (List.range 16).all (fun m => fld v (2 * m) 2 ≠ 3) then 0 else 5
  | .cryKeyLoad => if f.w = 0 && (loadHead v).kind = 0 then s.loadCheck (loadHead v) else 5
  | _ => 0

def applyCry (s : State) (f : Found) (v : Word) : State :=
  match f.obj with
  | .cryCtl => if bit v 0 then s.alarmErase 4 false else s
  | .cryLatch => { s with crypto := { s.crypto with alarmLatch := s.crypto.alarmLatch &&& ~~~ v.setWidth 6 } }
  | _ => s

/-- A unicast slot's key is in upstream use for its vONU and channel. -/
def State.upActive (s : State) (i : Nat) : Bool :=
  slotKind i = 2 && ((s.vonuAt ((i - 1024) / 4)).ch.get (chanOf ((i - 1024) / 2 % 2))).upKey.toNat = (i - 1024) % 2 + 1

def readCry (s : State) (f : Found) : Option Word :=
  let i := f.ix.getD 0 0
  match f.obj with
  | .cryCtl | .cryKeyLoad => some 0
  | .cryStatus => some (BitVec.ofNat 32 (put 0 5 s.crypto.alarmActive.toNat + put 5 1 (b2n s.crypto.rngOk) + put 6 1 (b2n s.crypto.lockedOut)))
  | .cryLatch => some (s.crypto.alarmLatch.setWidth 32)
  | .crySlot =>
    let x := s.slot i
    some (match f.ix.getD 1 0 with
      | 0 => BitVec.ofNat 32 (put 0 3 (if x.state = 0 then 0 else slotKind i) + put 3 2 x.state.toNat +
               put 5 1 (b2n x.isDefault) + put 6 1 (b2n (s.upActive i)))
      | 1 => x.loadTick
      | n => wordOf x.usage.toNat (n - 2))
  | .fuseStatus => some (BitVec.ofNat 32 (put 0 1 (b2n s.fuses.dbgLock) + put 1 1 (b2n s.fuses.legacyLock) +
      put 2 4 s.fuses.revoked.toNat + put 6 4 s.fuses.hashValid.toNat + put 10 1 (b2n s.crypto.armed)))
  | .fuseArm | .fuseBlow => some 0
  | .fuseHash => some (wordOf (s.fuses.hashes.getD i 0).toNat (f.ix.getD 1 0))
  | _ => none

end Sys2Proof.Machine
end

