-- ==== Sys2Proof/Machine/VonuOps.lean ====
section
/-! DEFINITION. Virtual ONUs: records, activation states and their reports, allocations, profiles, emergency-stop
records, upstream message queues, and the checks, effects and reads of VONU objects (Virtual ONUs: Identity, Activation
and PLOAM). -/

namespace Sys2Proof.Machine

abbrev VId := BitVec 9

def State.setVonu (s : State) (n : Nat) (x : Vonu) : State :=
  { s with vonu := { s.vonu with vonus := mput Vonu.none s.vonu.vonus n x } }
def State.vch (s : State) (n : Nat) (c : Chan) : VCh := (s.vonuAt n).ch.get c
def State.modVch (s : State) (n : Nat) (c : Chan) (f : VCh → VCh) : State :=
  let x := s.vonuAt n
  s.setVonu n { x with ch := x.ch.set c (f (x.ch.get c)) }

/-- Per-vONU counter k, and block counter at an index (Table VONU-6). -/
def vonuCtr (n k : Nat) : Nat := addrOf 0x20 (0x10020 + 64 * n + 2 * k)
def vonuBlkCtr (i : Nat) : Nat := addrOf 0x20 (0x20 + 2 * i)
def State.bumpVonu (s : State) (n k : Nat) : State := s.bump (vonuCtr n k) 1
/-- PLOAM_UNMATCHED of a channel. -/
def State.bumpUnmatched (s : State) (c : Chan) : State := s.bump (vonuBlkCtr (chanN c)) 1

def actCode : Act → Nat
  | .idle => 0 | .o1 => 1 | .o23 => 2 | .o4 => 4 | .o5 => 5 | .o6 => 6 | .o7 => 7 | .o8 => 8 | .o9 => 9

def lifeCode : Life → Nat
  | .free => 0 | .created => 1 | .active => 2 | .retiring => 3

def State.bch (s : State) (c : Chan) : BCh := s.burin.ch.get c
def State.modB (s : State) (c : Chan) (f : BCh → BCh) : State :=
  { s with burin := { s.burin with ch := s.burin.ch.set c (f (s.burin.ch.get c)) } }

/-! ## The decoders' tables (R192, R197) -/

def Tab.vonu (t : Tab) (v : Nat) : TabV := mget TabV.empty t.vonus v
def Tab.profile (t : Tab) (v : Nat) (p : BitVec 2) : Profile := (t.vonu v).profiles.getD p.toNat noProfile

/-- The entry of a channel's table that holds an Alloc-ID. -/
def Tab.find (t : Tab) (id : BitVec 14) : Option (Nat × AllocE) :=
  t.alloc.findSome? fun e => match e.2 with
    | some a => if a.allocId = id then some (e.1, a) else none
    | none => none

/-- The vONUs that a table shows enabled on its channel, rising. -/
def Tab.enabled (t : Tab) : List Nat := (t.vonus.filter (·.2.enabled)).map (·.1)

/-- The table of a channel as its contents stand. -/
def State.tabNow (s : State) (c : Chan) : Tab :=
  { alloc := s.vonu.alloc.filter fun e => match e.2 with | some a => decide (a.chan = c) | none => false
    vonus := s.vonu.vonus.map fun e =>
      let x := e.2.ch.get c
      (e.1, { enabled := e.2.enable.get c, act := x.act, onuId := x.onuId, eqd := x.eqd, profiles := x.profiles })
    perWindow := s.cfgF (addrOf 0x20 (chanN c)) 0 4 }

/-- The guard of a channel holds its tables: its transmit domain is on, and they have been loaded since (R201). -/
def State.twinLive (s : State) (c : Chan) : Bool :=
  s.domOn (match c with | .a => 3 | .b => 5) && !(s.chans.get c).holdReload

/-- Every change since is written to both copies of a channel's tables, stamped with this tick (R197).
[DEDUCED, unsafe: log 132] -/
def State.stampOne (s : State) (c : Chan) : State :=
  let t := s.tabNow c
  s.modB c fun x => { x with own := t, twin := if s.twinLive c then t else x.twin }

def State.stampTables (s : State) : State := (s.stampOne .a).stampOne .b

/-- A table with one vONU's entries as `now` has them. -/
def Tab.take (t now : Tab) (v : Nat) : Tab :=
  let mine (e : Nat × Option AllocE) : Bool := match e.2 with | some a => decide (a.vonu.toNat = v) | none => false
  { t with alloc := t.alloc.filter (fun e => !mine e) ++ now.alloc.filter mine
           vonus := if now.vonus.any fun e => e.1 = v then mput TabV.empty t.vonus v (now.vonu v)
                    else t.vonus.filter fun e => e.1 ≠ v }

/-- The same for one vONU. -/
def State.stampVonu (s : State) (c : Chan) (v : Nat) : State :=
  let t := s.tabNow c
  s.modB c fun x => { x with own := x.own.take t v, twin := if s.twinLive c then x.twin.take t v else x.twin }

/-- The indices of the vONUs enabled on a channel, rising. -/
def State.enabledOn (s : State) (c : Chan) : List Nat :=
  (s.vonu.vonus.filter (fun e => e.2.enable.get c)).map (·.1)

/-! ## Staging of an entry (R187) -/

def State.stage (s : State) (i : Nat) : Stage := mget Stage.none s.burin.stage i
def State.setStage (s : State) (i : Nat) (x : Stage) : State :=
  { s with burin := { s.burin with stage := mput Stage.none s.burin.stage i x } }

/-- Channel counter k of the BURIN block (Table BURIN-7). -/
def burinCtr (c : Chan) (k : Nat) : Nat := addrOf 0x28 (0x100 + 64 * chanN c + 2 * k)


/-- Release of an entry frees its staged cells and discards what they held (R187). -/
def State.stageFlush (s : State) (i : Nat) (c : Chan) : State :=
  let st := s.stage i
  let s := s.bump (burinCtr c 15) (sumN (st.frames.map fun f => xgemLen f.data.length))
  (s.setStage i Stage.none).freeAll 0x09 ((st.frames.flatMap (·.cells)).map fun k => (8, k))

/-! ## Allocations (R155, R169, R243) -/

/-- The first number from `i` on that satisfies `p`, looking at no more than the first argument's count. -/
def firstFrom (p : Nat → Bool) : Nat → Nat → Option Nat
  | 0, _ => none
  | n + 1, i => if p i then some i else firstFrom p n (i + 1)

def State.setAlloc (s : State) (i : Nat) (a : Option AllocE) : State :=
  { s with vonu := { s.vonu with alloc := mput none s.vonu.alloc i a } }

/-- The entry that holds an Alloc-ID on a channel. -/
def State.allocFind (s : State) (c : Chan) (id : BitVec 14) : Option (Nat × AllocE) :=
  s.vonu.alloc.findSome? fun e => match e.2 with
    | some a => if a.chan = c && a.allocId = id then some (e.1, a) else none
    | none => none

/-- Alloc-IDs a vONU holds on both channels. -/
def State.allocsOf (s : State) (v : VId) : Nat :=
  (s.vonu.alloc.filter fun e => match e.2 with | some a => a.vonu = v | none => false).length

/-- QSCHED_TCONT_MAP[t] (Table QSCHED-6). -/
def mapAddr (t : Nat) : Nat := addrOf 0x38 (0x3C0000 + t)

/-- The map entry that names a vONU, a channel and an Alloc-ID, or the vONU's default Alloc-ID. -/
def State.mapFor (s : State) (v : VId) (c : Chan) (id : BitVec 14) (isDefault : Bool) : Option Nat :=
  s.words.findSome? fun e =>
    if mapAddr 0 ≤ e.1 && e.1 < mapAddr 8192 && bit e.2 25 && fld e.2 14 9 = v.toNat && fld e.2 23 1 = chanN c &&
       (if bit e.2 24 then isDefault else fld e.2 0 14 = id.toNat)
    then some (e.1 - mapAddr 0) else none

/-- Choose and fill the entry of an Alloc-ID; ALLOC_UNMAPPED tells where no free map entry named it (R243). -/
def State.allocBind (s : State) (v : VId) (c : Chan) (id : BitVec 14) (isDefault : Bool) : State :=
  let e : AllocE := { allocId := id, vonu := v, chan := c }
  let mapped := s.mapFor v c id isDefault
  let usable := match mapped with | some t => (s.allocAt t).isNone | none => false
  match usable, mapped with
  | true, some t => s.setAlloc t (some e)
  | _, _ =>
    let unmapped (t : Nat) : Bool := (s.allocAt t).isNone && !s.cfgB (mapAddr t) 25
    match (firstFrom unmapped 8192 0).orElse fun _ => firstFrom (fun t => (s.allocAt t).isNone) 8192 0 with
    | some t =>
      (s.setAlloc t (some e)).raise 0x0604
        (pCh c + put 62 1 (b2n mapped.isSome) + put 48 13 t + put 32 9 v.toNat + put 0 14 id.toNat)
    | none => s

/-- Release an entry. -/
def State.allocRelease (s : State) (i : Nat) : State :=
  match s.allocAt i with
  | some a => (s.stageFlush i a.chan).setAlloc i none
  | none => s

/-- Release every entry of a vONU on a channel. -/
def State.allocReleaseAll (s : State) (v : VId) (c : Chan) : State :=
  let mine := s.vonu.alloc.filter fun e => match e.2 with | some a => a.vonu = v && a.chan = c | none => false
  mine.foldl (fun s e => s.allocRelease e.1) s

/-- Release the entry of the default Alloc-ID, when the ONU-ID is discarded in O4 (Table VONU-3). -/
def State.allocReleaseDefault (s : State) (v : VId) (c : Chan) : State :=
  match (s.vch v.toNat c).onuId with
  | some id =>
    match s.allocFind c (id.setWidth 14) with
    | some (i, a) => if a.vonu = v then s.allocRelease i else s
    | none => s
  | none => s

/-- The outcome of an attempt to bind an Alloc-ID (R155; 16 in legacy mode, R487). [DEDUCED, unsafe: log 52] -/
def State.allocTry (s : State) (v : VId) (c : Chan) (id : BitVec 14) (isDefault : Bool) : Bool × State :=
  let pv := pCh c + put 48 9 v.toNat
  match s.allocFind c id with
  | some (_, a) =>
    if a.vonu = v then (true, s) else (false, s.raise 0x0305 (pv + put 32 14 id.toNat + s.tickLow))
  | none =>
    if s.allocsOf v ≥ (if s.legacy then 16 else 64) then (false, s.raise 0x0306 (pv + s.tickLow))
    else if s.vonu.alloc.length ≥ 8192 then (false, s.raise 0x0306 (pv + put 32 2 1 + s.tickLow))
    else (true, s.allocBind v c id isDefault)

/-! ## Flow bindings (R163) -/

/-- The flow context that a vONU binds to an XGEM port on a channel. -/
def State.flowFor (s : State) (v : Nat) (c : Chan) (port : Nat) : Option Nat :=
  (s.flows.find? fun e => flowVonu e.2 = v && flowChan e.2 = c && flowPort e.2 = port).map (·.1)

/-! ## Profiles (Table VONU-9) -/

def profileWord (p : Profile) (i : Nat) : Word :=
  match i with
  | 0 => BitVec.ofNat 32 (put 0 4 p.version.toNat + put 4 2 p.rate.toNat + put 6 1 (b2n p.fec) + put 7 1 (b2n p.valid) + put 8 1 (b2n p.fromHost))
  | 1 => BitVec.ofNat 32 (put 0 8 p.preLen.toNat + put 8 8 p.preRep.toNat + put 16 8 p.delLen.toNat)
  | 2 | 3 => wordOf p.preamble.toNat (i - 2)
  | 4 | 5 => wordOf p.delimiter.toNat (i - 4)
  | _ => 0

def shadowAddr (v c p : Nat) : Nat := addrOf 0x20 (0x30000 + 64 * v + 32 * c + 8 * p)

/-- The host's shadow of a slot, as it becomes when committed (R150). -/
def State.shadowProfile (s : State) (v c p : Nat) : Profile :=
  let a := shadowAddr v c p
  let w0 := s.cfg a
  let w1 := s.cfg (a + 1)
  { version := BitVec.ofNat 4 (fld w0 0 4), rate := BitVec.ofNat 2 (fld w0 4 2), fec := bit w0 6, valid := bit w0 7
    fromHost := true, preLen := BitVec.ofNat 8 (fld w1 0 8), preRep := BitVec.ofNat 8 (fld w1 8 8)
    delLen := BitVec.ofNat 8 (fld w1 16 8)
    preamble := BitVec.ofNat 64 ((s.cfg (a + 2)).toNat + 2 ^ 32 * (s.cfg (a + 3)).toNat)
    delimiter := BitVec.ofNat 64 ((s.cfg (a + 4)).toNat + 2 ^ 32 * (s.cfg (a + 5)).toNat) }

def State.profileAt (s : State) (v : Nat) (c : Chan) (p : Nat) : Profile := ((s.vch v c).profiles.getD p noProfile)

/-! ## Entry to O1 or IDLE (R136) -/

/-- What a vONU discards on a channel on entry to O1 or IDLE. -/
def State.discardCh (s : State) (v : Nat) (c : Chan) : State :=
  let s := s.allocReleaseAll (BitVec.ofNat 9 v) c
  let s := (s.eraseSlot (uniSlot v (chanN c) 1)).eraseSlot (uniSlot v (chanN c) 2)
  s.modVch v c fun x =>
    { x with onuId := none, eqd := none, expiry := none, upQ := [], tuneAt := none, upKey := 0
             profiles := x.profiles.map fun p => if p.fromHost then p else noProfile }

/-- Set an activation state; entries to O1 and IDLE discard. -/
def State.setAct (s : State) (v : Nat) (c : Chan) (a : Act) : State :=
  let s := match a with | .o1 | .idle => s.discardCh v c | _ => s
  s.modVch v c fun x => { x with act := a }

/-- A channel is in SYNC as its conditions, delivered at ticks, tell the vONUs (R112). -/
def State.syncSeen (s : State) (c : Chan) : Bool := !(s.ch c).seenLof && !(s.ch c).seenLos

/-- A vONU in O1 passes to O2-3 when the channel, as delivered at ticks (R112), is in SYNC and it holds a valid profile. -/
def State.tryO23 (s : State) (v : Nat) (c : Chan) : State :=
  let x := s.vch v c
  if x.act = .o1 && s.syncSeen c && x.profiles.any (·.valid) then s.modVch v c fun x => { x with act := .o23 }
  else s

/-! ## Reports (R134, R137) -/

/-- The activation states of some vONUs on a channel. -/
def State.actsOf (s : State) (c : Chan) (vs : List Nat) : List (Nat × Act) := vs.map fun v => (v, (s.vch v c).act)

/-- The activation states, in code order. -/
def allActs : List Act := [.idle, .o1, .o23, .o4, .o5, .o6, .o7, .o8, .o9]

/-- Note a vONU's move: a passage within the tick keeps the state before it, and takes the cause of the last transition
(R134). -/
def noteMove (m : Moved) : List Moved → List Moved
  | [] => [m]
  | x :: r => if x.chan = m.chan && x.vonu = m.vonu then { m with old := x.old } :: r else x :: noteMove m r

/-- Note what has moved since `before`, by one cause: it is reported when the tick's work on the vONUs is done.
[DESIGN CHOICE, safe: log 131] -/
def State.reportMoves (s : State) (c : Chan) (before : List (Nat × Act)) (cause : Nat) : State :=
  let b := s.vonu.batch + 1
  let moved := before.filter fun e => (s.vch e.1 c).act ≠ e.2
  let list := moved.foldl (fun l e => noteMove { chan := c, vonu := e.1, old := e.2, cause, batch := b } l) s.vonu.moved
  { s with vonu := { s.vonu with moved := list, batch := b } }

/-- The report of what one cause has moved on a channel: one VONU_STATE_CHANGE where it is one vONU, else one
VONU_MASS_CHANGE for each resulting state (R137). -/
def State.reportBatch (s : State) : List Moved → State
  | [] => s
  | [m] =>
    s.raise 0x0301 (pCh m.chan + put 48 9 m.vonu + put 44 4 (actCode (s.vch m.vonu m.chan).act) + put 40 4 (actCode m.old) +
      put 32 4 m.cause + s.tickLow)
  | m :: r =>
    allActs.foldl (fun t a =>
      let n := ((m :: r).filter fun e => decide ((s.vch e.vonu e.chan).act = a)).length
      t.raiseIf (n ≠ 0) 0x0302 (pCh m.chan + put 56 4 (actCode a) + put 52 4 m.cause + put 32 10 n + s.tickLow)) s

/-- The tick's work on the vONUs is done: each that is in another state than before is reported (R134, R137).
[DESIGN CHOICE, safe: log 131] -/
def State.reportMoved (s : State) : State :=
  let live := s.vonu.moved.filter fun m => decide ((s.vch m.vonu m.chan).act ≠ m.old)
  let batches := List.range (s.vonu.batch + 1)
  let s := { s with vonu := { s.vonu with moved := [], batch := 0 } }
  batches.foldl (fun t b => t.reportBatch (live.filter fun m => decide (m.batch = b))) s

/-- Move one vONU on one channel, with the passage on to O2-3, and report it. [DESIGN CHOICE, safe: log 131] -/
def State.moveOne (s : State) (v : Nat) (c : Chan) (a : Act) (cause : Nat) : State :=
  let before := s.actsOf c [v]
  ((s.setAct v c a).tryO23 v c).reportMoves c before cause

/-! ## The reference vONU (R146, R147) -/

/-- vONUs in O5 on a channel, with their EqD and the order of its assignment. -/
def State.inO5 (s : State) (c : Chan) : List (Nat × VCh) :=
  (s.vonu.vonus.map fun e => (e.1, e.2.ch.get c)).filter fun e => e.2.act = .o5

/-- The reference vONU of a channel: in O5, with the earliest assigned EqD. -/
def State.refVonu (s : State) (c : Chan) : Option (Nat × VCh) :=
  ((s.inO5 c).filter fun e => e.2.eqd.isSome).foldl (fun best e =>
    match best with
    | none => some e
    | some b => if e.2.eqdOrder < b.2.eqdOrder then some e else some b) none

/-- Report an EqD that differs from the reference's by more than 16 bit periods (R147). [DEDUCED, unsafe: log 51] -/
def State.eqdCheck (s : State) (v : Nat) (c : Chan) : State :=
  match s.refVonu c, (s.vch v c).eqd with
  | some (r, x), some e =>
    match x.eqd with
    | some re =>
      let d : Int := (e.toNat : Int) - (re.toNat : Int)
      s.raiseIf (r ≠ v && (d > 16 || d < -16)) 0x0303 (pCh c + put 48 9 v + put 32 16 (twos 16 (satInt 32767 d)) + s.tickLow)
    | none => s
  | _, _ => s

/-! ## Emergency-stop records (R138, R139) -/

def State.snHeld (s : State) (sn : BitVec 64) : Bool := s.vonu.vonus.any fun e => e.2.life ≠ .free && e.2.sn = sn

/-- A page of the configuration store is written: which one is the store's own layout, a free value.
[DEDUCED, unsafe: log 77] -/
def State.cfgStoreWrite (s : State) : State :=
  let (f, s) := s.fresh
  s.mramWrite 2 (f % 1024)

def State.hasEstop (s : State) (sn : BitVec 64) (c : Chan) : Bool := s.mram.estops.any fun r => r.sn = sn && r.chan = c

/-- The oldest record whose serial number no vONU holds. -/
def State.estopVictim (s : State) : Option Estop := s.mram.estops.find? fun r => !s.snHeld r.sn

/-- Write a record: in place where held, as the newest; else over the oldest unheld one where the store is full.
[DEDUCED, unsafe: log 53] -/
def State.estopWrite (s : State) (sn : BitVec 64) (c : Chan) : State :=
  let r : Estop := { sn, chan := c }
  let put_ (s : State) : State :=
    ({ s with mram := { s.mram with estops := without s.mram.estops r ++ [r] } }).cfgStoreWrite
  if s.hasEstop sn c || s.mram.estops.length < 1024 then put_ s
  else match s.estopVictim with
    | some x =>
      let s := { s with mram := { s.mram with estops := s.mram.estops.erase x }
                        vonu := { s.vonu with lastEvicted := x.chan = .b } }
      (put_ s).raise 0x030D x.sn.toNat
    | none => put_ s

def State.estopErase (s : State) (sn : BitVec 64) (c : Chan) : State :=
  if s.hasEstop sn c then
    ({ s with mram := { s.mram with estops := without s.mram.estops { sn, chan := c } } }).cfgStoreWrite
  else s

/-! ## Upstream messages (R153, R156) -/

/-- The MIC of an upstream PLOAM message under the PLOAM_IK that holds now (R402); none: no operation can begin under it, and
the message is discarded (R406, R411). -/
def State.upMic (s : State) (v : Nat) (c : Chan) (m : UpMsg) : Option (BitVec 64) × State :=
  let data := Config.upPloamBytes m (s.vch v c).onuId
  let key := s.mgmtKey v c 0
  match s.keyBegin (mgmtSlot v (chanN c)) (aesBlocks data.length) with
  | (true, s) => (some (Config.cmac key data), s)
  | (false, s) => (none, s)

/-- Queue an upstream PLOAM message; a full queue discards it. `arrived` is the tick of the message it answers. -/
def State.upPloam (s : State) (v : Nat) (c : Chan) (m : UpMsg) (arrived : BitVec 64) : State :=
  if (s.vch v c).upQ.length ≥ 4 then s.bump (vonuBlkCtr 5) 1
  else
    let (mic, s) := s.upMic v c m
    match mic with
    | none => s
    | some mic =>
      let s := s.modVch v c fun x => { x with upQ := x.upQ ++ [{ msg := m, mic, seq := x.upSeq }], upSeq := x.upSeq + 1 }
      if s.tick.number.toNat > arrived.toNat + 4 then s.bumpVonu v 3 else s

/-! ## Conditions reach the vONUs at the tick (R112, R134) -/

/-- The expiry that Table VONU-3 gives each timed state, where its tick has come. -/
def State.expireOne (s : State) (c : Chan) (v : Nat) : State :=
  let x := s.vch v c
  let due := match x.expiry with | some t => t.toNat ≤ s.tick.number.toNat | none => false
  if !due then s
  else match x.act with
    | .o4 =>
      let s := s.allocReleaseDefault (BitVec.ofNat 9 v) c
      s.modVch v c fun x => { x with act := .o23, onuId := none, expiry := none }
    | .o6 => (s.setAct v c .o1).tryO23 v c
    | _ => s

/-- A timer of state `a` has come to its tick. -/
def State.timerDue (s : State) (c : Chan) (v : Nat) (a : Act) : Bool :=
  (s.vch v c).act = a && (s.vch v c).expiry.any fun t => t.toNat ≤ s.tick.number.toNat

/-- TO1 and TO2 (R134). The decoders' tables take what the expiry leaves: it is of this tick (R197). -/
def State.timerExpiry (s : State) (c : Chan) (v : Nat) (a : Act) : State :=
  if !s.timerDue c v a then s else ((s.expireOne c v).reportMoves c (s.actsOf c [v]) 1).stampVonu c v

/-- The success or failure of a tuning. -/
def State.tuningDone (s : State) (c : Chan) (ok : Bool) (v : Nat) : State :=
  s.raise 0x030A (pCh c + put 62 1 (b2n ok) + put 48 9 v + s.tickLow)

/-- TO4 and TO5: to O1 on the target channel, with the masks left as swapped (R164). [DEDUCED, unsafe: log 55] -/
def State.tuningExpiry (s : State) (c : Chan) (v : Nat) (a : Act) : State :=
  if !s.timerDue c v a then s
  else ((((s.setAct v c .o1).tryO23 v c).reportMoves c (s.actsOf c [v]) 1).tuningDone c false v).stampVonu c v

/-- A timer of a vONU that has come to its tick acts before anything else that reaches the vONU at that tick (R134). -/
def State.expireDue (s : State) (c : Chan) (v : Nat) : State :=
  match (s.vch v c).act with
  | .o4 => s.timerExpiry c v .o4
  | .o6 => s.timerExpiry c v .o6
  | .o8 => s.tuningExpiry c v .o8
  | .o9 => s.tuningExpiry c v .o9
  | _ => s

/-- One vONU's reaction to the conditions delivered to it: asserted LOS or LOF, both cleared, CHANNEL_LOSS asserted.
[DEDUCED, unsafe: log 53] -/
def State.conditionOne (s : State) (c : Chan) (fell cleared loss : Bool) (v : Nat) : State :=
  let s := if fell then
      match (s.vch v c).act with
      | .o23 | .o4 => s.setAct v c .o1
      | .o5 => s.modVch v c fun x => { x with act := .o6, tuneAt := none
                                              expiry := some (s.tick.number + BitVec.ofNat 64 (8 * s.cfgF (addrOf 0x20 (chanN c)) 16 10)) }
      | _ => s
    else s
  let s := if cleared then
      match (s.vch v c).act with
      | .o6 => s.modVch v c fun x => { x with act := .o5, expiry := none }
      | _ => s.tryO23 v c
    else s
  if loss then match (s.vch v c).act with | .o6 => s.setAct v c .o1 | _ => s else s

/-- A channel's changed conditions reach every vONU enabled on it, after the timers that expire at the tick (R112,
R134). -/
def State.fanout (s : State) (c : Chan) : State :=
  let x := s.ch c
  let was := x.seenLos || x.seenLof
  let now := x.los || x.lof
  let fell := (x.los && !x.seenLos) || (x.lof && !x.seenLof)
  let cleared := was && !now
  let loss := x.chLoss && !x.seenLoss
  let seen (s : State) : State := s.modCh c fun x => { x with seenLos := x.los, seenLof := x.lof, seenLoss := x.chLoss }
  if fell || cleared || loss then
    let vs := s.enabledOn c
    let s := seen (vs.foldl (fun s v => s.expireDue c v) s)
    let before := s.actsOf c vs
    (vs.foldl (fun s v => s.conditionOne c fell cleared loss v) s).reportMoves c before 2
  else seen s

/-! ## OMCI (R157 to R159) -/

/-- Unreleased messages of the receive ring. -/
def State.omciBacklog (s : State) : Nat := (s.vonu.omciProd - s.cfg (addrOf 0x20 0x11)).toNat

def omciTxAddr (i : Nat) : Nat := addrOf 0x20 (0x100000 + i)

/-- The checks of a write of VONU_OMCI_TX whose words are given from word 0 on (R159). -/
def State.omciTxCheck (s : State) (words : List Word) : Nat :=
  match words with
  | [] => 5
  | w0 :: _ =>
    let len := fld w0 10 11
    let x := s.vch (fld w0 0 9) (chanOf (fld w0 9 1))
    if len < 48 || len > 1980 || words.length ≠ 1 + (len + 3) / 4 || x.act ≠ .o5 then 5
    else if x.omciQ.length ≥ 8 then 9 else 0

/-- Queue an accepted OMCI message with its MIC; one whose MIC no operation can compute is discarded (R406, R411).
[DEDUCED, unsafe: log 57] -/
def State.omciTxApply (s : State) (words : List Word) : State :=
  match words with
  | [] => s
  | w0 :: r =>
    let v := fld w0 0 9
    let c := chanOf (fld w0 9 1)
    let len := fld w0 10 11
    let msg := (r.flatMap wordBytes).take len
    let mic := leBytes 4 (Config.cmac (s.mgmtKey v c 1) msg).toNat
    match s.keyBegin (mgmtSlot v (chanN c)) (aesBlocks len) with
    | (false, s) => s
    | (true, s) => s.modVch v c fun x => { x with omciQ := x.omciQ ++ [{ data := msg ++ mic, seq := x.upSeq }], upSeq := x.upSeq + 1 }

/-! ## Checks and effects of writes -/

/-- A binding write's refusal (R163), and whether it raises RESOURCE_LIMIT. -/
def State.bindCheck (s : State) (f : Nat) (v : Word) : Nat :=
  if !bit v 26 then 0
  else
    let n := flowVonu v
    let life := (s.vonuAt n).life
    let others := (s.flowsOf n).filter fun e => e.1 ≠ f
    if life = .free || life = .retiring then 5
    else if others.any (fun e => flowChan e.2 = flowChan v && flowPort e.2 = flowPort v) then 5
    else if others.length ≥ 4096 then 9 else 0

def checkVonu (s : State) (pendingShadow : Nat → Bool) (f : Found) (v : Word) : Nat :=
  let i := f.ix.getD 0 0
  match f.obj with
  | .vonuChCfg =>
    if 1 ≤ fld v 0 4 && fld v 0 4 ≤ 8 && 1 ≤ fld v 4 8 && fld v 4 8 ≤ 60 && 10 ≤ fld v 16 10 && fld v 16 10 ≤ 1000 then 0 else 5
  | .vonuTuneCfg =>
    if 100 ≤ fld v 0 16 && fld v 0 16 ≤ 10000 && 100 ≤ fld v 16 16 && fld v 16 16 ≤ 10000 then 0 else 5
  | .vonuOmciCons =>
    let cur := s.cfg (addrOf 0x20 0x11)
    if (v - cur).toNat ≤ (s.vonu.omciProd - cur).toNat then 0 else 5
  | .vonuShadow => if pendingShadow (8 * i + 4 * f.ix.getD 1 0 + f.ix.getD 2 0) then 1 else 0
  | .vonuOmciTx => 5
  | _ => 0

/-- What must hold of the bindings as the whole write leaves them (R163). -/
def finalVonu (s : State) (f : Found) : Nat :=
  match f.obj with
  | .vonuFlowBind => s.bindCheck (f.ix.getD 0 0) (s.cfg (flowAddr (f.ix.getD 0 0)))
  | _ => 0

/-- What a refused binding write raises all the same (R163). -/
def refusedVonu (s : State) (f : Found) (v : Word) (status : Nat) : State :=
  if f.obj = .vonuFlowBind && status = 9 then
    s.raise 0x0306 (pCh (flowChan v) + put 48 9 (flowVonu v) + put 32 2 2 + s.tickLow)
  else s

/-! ## Reads -/

def readVonu (s : State) (f : Found) : Option Word :=
  let i := f.ix.getD 0 0
  let j := f.ix.getD 1 0
  let v := s.vonuAt i
  match f.obj with
  | .vonuEstop => some (BitVec.ofNat 32 (put 0 11 s.mram.estops.length + put 11 1 (b2n s.vonu.lastEvicted)))
  | .vonuChStatus =>
    let c := chanOf i
    let r := s.refVonu c
    some (BitVec.ofNat 32 (put 0 10 (s.inO5 c).length + put 10 9 ((r.map (·.1)).getD 0) + put 19 1 (b2n r.isSome) +
      put 20 10 (s.enabledOn c).length))
  | .vonuEqdRef => some (((s.refVonu (chanOf i)).bind fun e => e.2.eqd).getD 0)
  | .vonuOmciProd => some s.vonu.omciProd
  | .vonuSn => some (wordOf v.sn.toNat j)
  | .vonuRegId => some (wordOf v.regId.toNat j)
  | .vonuState =>
    some (BitVec.ofNat 32 (put 0 4 (actCode v.ch.a.act) + put 4 4 (actCode v.ch.b.act) + put 8 2 (lifeCode v.life) +
      put 10 1 (b2n v.enable.a) + put 11 1 (b2n v.enable.b) + put 12 1 (b2n v.standby.a) + put 13 1 (b2n v.standby.b) +
      put 14 1 (b2n (v.ch.a.tuneAt.isSome || v.ch.b.tuneAt.isSome)) + put 15 1 (b2n (v.ch.a.act = .o5 && v.ch.b.act = .o5))))
  | .vonuOnuId =>
    some (BitVec.ofNat 32 (put 0 10 ((v.ch.a.onuId.getD 0).toNat) + put 10 1 (b2n v.ch.a.onuId.isSome) +
      put 16 10 ((v.ch.b.onuId.getD 0).toNat) + put 26 1 (b2n v.ch.b.onuId.isSome)))
  | .vonuEqd => some ((v.ch.get (chanOf j)).eqd.getD 0)
  | .vonuRes => some (BitVec.ofNat 32 (put 0 7 (s.allocsOf (BitVec.ofNat 9 i)) + put 8 13 (s.flowsOf i).length))
  | .vonuProfile => some (profileWord (s.profileAt i (chanOf j) (f.ix.getD 2 0)) (f.ix.getD 3 0))
  | .vonuAlloc =>
    some (match s.allocAt i with
      | some a => BitVec.ofNat 32 (put 0 14 a.allocId.toNat + put 14 9 a.vonu.toNat + put 23 1 (chanN a.chan) + put 24 1 1)
      | none => 0)
  | .vonuOmciTx => some 0
  | .vonuOmciRx =>
    some (match mget none s.vonu.omciRing i with
      | some m =>
        match j with
        | 0 => BitVec.ofNat 32 (put 0 9 m.vonu.toNat + put 9 1 (chanN m.chan) + put 10 11 m.data.length)
        | 1 => m.tick
        | n => BitVec.ofNat 32 (leNat (slice m.data (4 * (n - 2)) 4))
      | none => 0)
  | _ => none

end Sys2Proof.Machine
end

