-- ==== Sys2Proof/Machine/TimeOps.lean ====
section
/-! DEFINITION. The Stylus: steps, rate and ownership, the servo and the equipment clock, time-of-day results, PTP
time-stamps and the outputs (Time: the Stylus, Time-of-Day and PTP). -/

namespace Sys2Proof.Machine

def timeAddr (i : Nat) : Nat := addrOf 0x58 i
def timeCtr (j : Nat) : Nat := timeAddr (0x100 + 2 * j)
def State.modTime (s : State) (f : TimeSt → TimeSt) : State := { s with time := f s.time }

/-- PD_TIME is on. -/
def State.timeOn (s : State) : Bool := s.domOn 12

/-! ## Steps and rate (R353, R354) -/

def servoCode : Servo → Nat
  | .free => 0 | .acquiring => 1 | .locked => 2 | .holdover => 3 | .host => 4

def eecCode : Eec → Nat
  | .freeRun => 0 | .locked => 1 | .holdover => 2

/-- The outputs run: PD_TIME on, and with PPS_GATE the servo LOCKED, or HOST with HOST_VALID. -/
def State.outRuns (s : State) : Bool :=
  s.timeOn && !s.fault.clockGroups.getLsbD 8 && (!s.cfgB (timeAddr 0xA) 5 || s.time.servo = .locked || (s.time.servo = .host && s.cfgB (timeAddr 0) 1))

/-- A pulse of PPS_OUT ends where the outputs stop or the contact is disabled (R369, R372). [DEDUCED, unsafe: log 92] -/
def State.ppsSettle (s : State) : State :=
  if s.outRuns && s.cfgB (timeAddr 0xA) 0 then s else s.modTime fun t => { t with ppsHigh := false }

def State.setServo (s : State) (v : Servo) : State :=
  if s.time.servo = v then s
  else (s.modTime fun t => { t with servo := v }).ppsSettle.raise 0x0A03 (put 60 3 (servoCode v) + put 56 3 (servoCode s.time.servo) + s.tickLow)

def State.setEec (s : State) (v : Eec) : State :=
  if s.time.eec = v then s
  else (s.modTime fun t => { t with eec := v }).raise 0x0A04 (put 60 2 (eecCode v) + put 56 2 (eecCode s.time.eec) + s.tickLow)

/-- Units of 2⁻³² ns in a number of whole ns, as the 96-bit quantities hold it. -/
def nsUnits (ns : Int) : BitVec 96 := BitVec.ofInt 96 (ns * 2 ^ 32)

/-- A step of whole ns: OFFSET, every latch, STEP_SEQ, the count and the event; the gates take their new phase (R354). -/
def State.stepTime (s : State) (ns : Int) (byHost : Bool) : State :=
  let d := nsUnits ns
  let shift (m : SMap (Option (BitVec 96))) : SMap (Option (BitVec 96)) := m.map fun e => (e.1, e.2.map (· + d))
  let s := s.regate fun s => s.modTime fun t => { t with offset := t.offset + d, stepSeq := t.stepSeq + 1
                                                         latches := ⟨shift t.latches.a, shift t.latches.b⟩ }
  (s.bump (timeCtr 5) 1).raise 0x0A01
    (put 63 1 (b2n byHost) + put 56 4 s.time.stepSeq.toNat + put 32 24 (twos 24 (satInt 8388607 (ns.tdiv 1000))) + s.tickLow)

/-- A change of increment at a moment: T is continuous across it. -/
def State.setInc (s : State) (inc : BitVec 64) : State :=
  let (c, s) := s.instant
  s.modTime fun t =>
    { t with offset := t.offset + BitVec.ofNat 96 (c.toNat * t.inc.toNat) - BitVec.ofNat 96 (c.toNat * inc.toNat), inc }

/-- INC lies within 1,000 ppm of nominal (R353). -/
def incOk (v : Nat) : Bool := 3448649955 ≤ v && v ≤ 3455554159

/-! ## Ownership (R355 to R357) -/

def State.servoOwner (s : State) (host : Bool) : State :=
  if s.time.hostOwner = host then s
  else (s.modTime fun t => { t with hostOwner := host, good := 0 }).setServo (if host then .host else .acquiring)

/-- What entry to PD_TIME leaves (R353, R371). -/
def State.timeEntry (s : State) : State :=
  (((s.modTime fun t =>
    { t with count := 0, offset := 0, inc := incNominal, hostOwner := false, stepSeq := 0, good := 0, integ := 0
             ppsOk := false, ppsEdge := 0, ppsDev := 0, ppsDevRun := false, ppsHigh := false, ppsLast := none, heldErr := []
             todIn := ⟨none, none⟩, latches := ⟨[], []⟩, chanSince := none, lockedRates := [] }).setServo .free).setEec .freeRun)

/-! ## Equipment clock (R359) -/

/-- REF becomes the tick source: with 100 s of LOCKED operation the loop holds the average of its frequency, else it runs from
REF. [DEDUCED, unsafe: log 94] -/
def State.eecOnRef (s : State) : State :=
  match s.time.eec with
  | .locked =>
    if s.time.lockedRates.length ≥ 100 then
      (s.modTime fun t => { t with holdRate := sumN t.lockedRates / t.lockedRates.length, holdFrac := 0 }).setEec .holdover
    else s.setEec .freeRun
  | _ => s

/-! ## Latches and time-of-day (R361 to R363) -/

/-- Superframe numbers are compared modulo 2⁵¹. -/
def sfcAhead (a b : BitVec 51) : Nat := (a - b).toNat

/-- Latch T at a PSBd, keeping the latest 65,536 superframes. -/
def State.latch (s : State) (c : Chan) (sfc : BitVec 51) (count : BitVec 64) : State :=
  if !s.timeOn then s
  else
    let old := (s.time.latches.get c).filter fun e => decide (sfcAhead sfc (BitVec.ofNat 51 e.1) < 65536)
    s.modTime fun t => { t with latches := t.latches.set c (mput none old sfc.toNat (some (s.timeAt count))) }

def State.onlineSfc (s : State) (c : Chan) : BitVec 51 := (s.ch c).sfc64.setWidth 51

/-- An input's rules: NS in range, and N within 65,536 frames of the channel's count. -/
def State.todOk (s : State) (c : Chan) (x : TodIn) : Bool :=
  let cur := s.onlineSfc c
  decide (x.ns.toNat ≤ 999999999) && (decide (sfcAhead x.sfc cur ≤ 65536) || decide (sfcAhead cur x.sfc ≤ 65536))

/-- The input that the words of TIME_TOD_IN spell. -/
def todOf (w : List Word) : TodIn :=
  { sfc := (w.getD 1 0 ++ w.getD 0 0).setWidth 51, seconds := (w.getD 3 0 ++ w.getD 2 0).setWidth 48, ns := w.getD 4 0, teqd := w.getD 5 0 }

/-- Take an accepted input: it replaces a pending one; with PD_TIME off it is discarded (R371). -/
def State.todTake (s : State) (c : Chan) (x : TodIn) : State :=
  if s.timeOn then s.modTime fun t => { t with todIn := t.todIn.set c (some x) } else s

/-- Quotient to the nearest whole number. -/
def nearest (a b : Int) : Int := (2 * a + b) / (2 * b)

/-- Write and report a result. -/
def State.todPut (s : State) (c : Chan) (status : Nat) (sfc : BitVec 51) (err d : Int) : State :=
  let r : TodOut := { status := BitVec.ofNat 2 status, sfc, errorPs := BitVec.ofInt 64 err, dPs := BitVec.ofInt 32 d }
  let s := (s.modTime fun t => { t with todOut := t.todOut.set c r }).bump (timeCtr 3) 1
  (s.bumpIf (status ≠ 0) (timeCtr 4) 1).raise 0x0A02
    (pCh c + put 60 2 status + put 32 24 (twos 24 (satInt 8388607 (nearest err 1000))) + s.tickLow)

/-- A result without an error figure: the manual states none, so its two figures are free values.
[DESIGN CHOICE, safe: log 90] -/
def State.todFail (s : State) (c : Chan) (status : Nat) (sfc : BitVec 51) : State :=
  let (e, s) := s.fresh
  let (d, s) := s.fresh
  s.todPut c status sfc (BitVec.ofNat 64 e).toInt d

/-- The downstream delay D; none: no reference, or TEQD below it. -/
def State.todDelay (s : State) (c : Chan) (x : TodIn) : Option Int :=
  let a := timeAddr (0x40 + 4 * chanN c)
  let w1 := s.cfg (a + 1)
  if bit w1 31 then some (fld w1 0 31)
  else match (s.refVonu c).bind fun e => e.2.eqd with
    | none => none
    | some r =>
      if x.teqd < r then none
      else
        let unit : Int := if s.inXgs c then 3125 else 625
        let rtd := nearest (((x.teqd.toNat : Int) - r.toNat) * unit * 1000) 31104
        some (nearest (rtd * (s.cfg a).toNat) (2 ^ 32) + sgn 31 (fld w1 0 31))

/-- The servo's use of a result with error E ps (R358). The loop's gain is not given: the new increment within MAX_PPB
of nominal, and the integrator, are free values. [DESIGN CHOICE, safe: log 89] -/
def State.servoUse (s : State) (e : Int) : State :=
  let c0 := s.cfg (timeAddr 8)
  let s := s.modTime fun t => { t with lastUsable := s.tick.number }
  if e.natAbs ≥ fld c0 0 16 * 1000 then
    let s := s.stepTime (nearest e 1000) false
    (s.modTime fun t => { t with integ := 0, good := 0 }).setServo .acquiring
  else
    let (f, s) := s.fresh
    let (g, s) := s.fresh
    let span := incNominal.toNat * s.cfgF (timeAddr 9) 0 17 / 1000000000
    let inc := incNominal.toNat - span + f % (2 * span + 1)
    let s := s.setInc (BitVec.ofNat 64 inc)
    let s := s.modTime fun t => { t with integ := (BitVec.ofNat 64 g).toInt, good := if e.natAbs < fld c0 16 16 * 1000 then t.good + 1 else 0 }
    if s.time.good ≥ 3 then s.setServo .locked
    else match s.time.servo with
      | .free | .holdover => s.setServo .acquiring
      | _ => s

/-- N has arrived, by the channel's count. -/
def State.todDue (s : State) (c : Chan) (x : TodIn) : Bool := decide (sfcAhead (s.onlineSfc c) x.sfc < 2 ^ 50)

/-- Compute the result of a pending input (R363). The servo acts on it, or keeps it while it stands still (R438).
[DEDUCED, unsafe: log 91] -/
def State.todCompute (s : State) (c : Chan) (x : TodIn) (still : Bool) : State :=
  let s := s.modTime fun t => { t with todIn := t.todIn.set c none }
  match mget none (s.time.latches.get c) x.sfc.toNat with
  | none => s.todFail c 2 x.sfc
  | some l =>
    match s.todDelay c x with
    | none => s.todFail c 1 x.sfc
    | some d =>
      let lps := nearest ((l.toNat : Int) * 1000) (2 ^ 32)
      let e : Int := (x.seconds.toNat : Int) * 10 ^ 12 + x.ns.toNat * 1000 + d - lps
      let s := s.todPut c 0 x.sfc e d
      if s.time.hostOwner || s.tick.source ≠ .chan c then s
      else if still then s.modTime fun t => { t with heldErr := t.heldErr ++ [e] }
      else s.servoUse e

/-- A frame of channel 641 towards the device (R368). [DESIGN CHOICE, safe: log 83] -/
def State.todMessage (s : State) (b : List Byte) : State :=
  let bad := s.bump (timeCtr 7) 1
  if b.length ≠ 28 || b.getD 0 0 ≠ 0x40 || (b.getD 1 0).toNat > 1 || b.getD 2 0 ≠ 0 || b.getD 3 0 ≠ 0 then bad
  else
    let c := chanOf (b.getD 1 0).toNat
    let x := todOf (toWords (b.drop 4))
    if s.todOk c x then s.todTake c x else bad.todFail c 3 x.sfc

/-! ## PTP time-stamps (R364 to R367) -/

/-- The bytes of a frame from its EtherType on, past at most n VLAN tags. -/
def pastVlans : Nat → List Byte → List Byte
  | 0, b => b
  | n + 1, b =>
    let t := beNat (b.take 2)
    if t = 0x8100 || t = 0x88A8 || t = 0x9100 then pastVlans n (b.drop 4) else b

/-- The PTP message that a UDP datagram to port 319 holds. -/
def udpPtp (b : List Byte) : List Byte := if beNat (slice b 2 2) = 319 then b.drop 8 else []

/-- The UDP datagram of an IPv6 packet whose next header is h, past at most n extension headers; a fragment but the first
holds none. -/
def udp6 : Nat → Nat → List Byte → List Byte
  | 0, h, b => if h = 17 then b else []
  | n + 1, h, b =>
    let next := (b.getD 0 0).toNat
    let len := (b.getD 1 0).toNat
    if h = 17 then b
    else if h = 0 || h = 43 || h = 60 then udp6 n next (b.drop (8 * (len + 1)))
    else if h = 51 then udp6 n next (b.drop (4 * (len + 2)))
    else if h = 44 && beNat (slice b 2 2) < 8 then udp6 n next (b.drop 8)
    else []

/-- The UDP datagram of an IPv4 packet; a fragment but the first holds none. -/
def udp4 (p : List Byte) : List Byte :=
  if (p.getD 9 0).toNat = 17 && beNat (slice p 6 2) % 8192 = 0 then p.drop (4 * ((p.getD 0 0).toNat % 16)) else []

/-- The bytes of a PTP message in an Ethernet frame, by EtherType or over UDP. -/
def ptpBytes (frame : List Byte) : List Byte :=
  let b := pastVlans 2 (frame.drop 12)
  let p := b.drop 2
  match beNat (b.take 2) with
  | 0x88F7 => p
  | 0x0800 => udpPtp (udp4 p)
  | 0x86DD => udpPtp (udp6 p.length (p.getD 6 0).toNat (p.drop 40))
  | _ => []

/-- A PTP version 2 event message in a frame. -/
def ptpOf (frame : List Byte) : Option Ptp :=
  let p := ptpBytes frame
  let t := (p.getD 0 0).toNat % 16
  if p.length < 34 || t > 3 || (p.getD 1 0).toNat % 16 ≠ 2 then none
  else some { msgType := BitVec.ofNat 4 t, domain := p.getD 4 0, sequence := BitVec.ofNat 16 (beNat (slice p 30 2))
              portNumber := BitVec.ofNat 16 (beNat (slice p 28 2)) }

/-- FIXED_TX and FIXED_RX of a time port in ps, for its current mode (Table TIME-4). -/
def State.fixedTx (s : State) (k : Nat) : Nat :=
  if k ≥ 4 then 0
  else
    let x := ethPort s k
    match x.rateActive.toNat, x.fecActive.toNat with
    | 0, 0 => 38400 | 0, _ => 44800 | 1, 0 => 22400 | 1, 1 => 25600 | 1, _ => 28800 | _, _ => 19200

def State.fixedRx (s : State) (k : Nat) : Nat :=
  if k ≥ 4 then 0
  else
    let x := ethPort s k
    match x.rateActive.toNat, x.fecActive.toNat with
    | 0, 0 => 51200 | 0, _ => 108800 | 1, 0 => 30720 | 1, 1 => 70400 | 1, _ => 185600 | _, _ => 142080

def portAddr (k w : Nat) : Nat := timeAddr (0x80 + 8 * k + w)
def State.skewPs (s : State) (k : Nat) : Int := if k ≥ 4 then 0 else (ethPort s k).skew.toInt
def State.ptpEn (s : State) (k : Nat) : Bool := s.cfgB (portAddr k 0) 0

/-- Queue a descriptor, or drop it (R366). -/
def State.tsQueue (s : State) (d : List Byte) : State :=
  let ringFull := s.cfgB (timeAddr 0) 0 && (s.time.producer - s.cfg (timeAddr 0x11)).toNat ≥ 256
  if s.time.tsQueue.length ≥ 1024 || ringFull then
    let first := !s.time.tsDropRun
    ((s.modTime fun t => { t with tsDropRun := true }).bump (timeCtr 2) 1).raiseIf first 0x0A07 s.tickLow
  else s.modTime fun t => { t with tsQueue := t.tsQueue ++ [d], tsDropRun := false }

/-- Time-stamp a message that crosses a time port at a moment, given as raw T (R365, Table TIME-5).
[DEDUCED, unsafe: log 93] -/
def State.stamp (s : State) (k : Nat) (rx : Bool) (m : Ptp) (raw : BitVec 96) (xgem vonu : Nat) : State :=
  if !s.timeOn || !s.ptpEn k then s
  else
    let ps : Int := if rx then (s.cfg (portAddr k 4)).toInt - s.fixedRx k - s.skewPs k
                    else (s.cfg (portAddr k 3)).toInt + s.fixedTx k
    let t := (raw + BitVec.ofInt 96 (ps * 2 ^ 32 / 1000)).toNat
    let d := [if rx then 1 else 2, BitVec.ofNat 8 k, BitVec.ofNat 8 (m.msgType.toNat + 16 * s.time.stepSeq.toNat), m.domain] ++
      leBytes 2 m.sequence.toNat ++ leBytes 2 m.portNumber.toNat ++ leBytes 2 xgem ++ leBytes 2 vonu ++
      leBytes 2 (t / 2 ^ 16) ++ [0, 0] ++ leBytes 4 (t / 2 ^ 32)
    (s.bump (timeCtr (if rx then 0 else 1)) 1).tsQueue d

/-- Time-stamp a frame at an Ethernet port that is UP. -/
def State.stampEth (s : State) (e : Nat) (rx : Bool) (frame : List Byte) (raw : BitVec 96) : State :=
  match ptpOf frame with
  | some m => if (ethPort s e).state = .up then s.stamp e rx m raw 0 0 else s
  | none => s

/-- Deliver the descriptor at the head of the queue (R366). -/
def State.tsDeliver (s : State) : State :=
  match s.time.tsQueue with
  | [] => s
  | d :: r =>
    if s.cfgB (timeAddr 0) 0 then
      if (s.time.producer - s.cfg (timeAddr 0x11)).toNat ≥ 256 then s
      else s.modTime fun t => { t with tsQueue := r, tsRing := mput [] t.tsRing (t.producer.toNat % 256) d, producer := t.producer + 1 }
    else match s.sendFrame 641 0 d with
      | some s => s.modTime fun t => { t with tsQueue := r }
      | none => s

/-! ## The PPS input (R370), and the levels of the outputs (R360, R369, R371) -/

/-- PPS_OUT is high. -/
def State.ppsLevel (s : State) : Bool := s.time.ppsHigh

/-- CLK10M_OUT runs, at 10 MHz of the Stylus; else it is held low. Its edges lie within a tick, and are left to time.
[DEDUCED, unsafe: log 92] -/
def State.clk10mRuns (s : State) : Bool := s.outRuns && s.cfgB (timeAddr 0xA) 1 && !s.legacy

/-- The frequency of SYNCE_OUT in Hz: the TIME clock, divided; 0: held low. [DEDUCED, unsafe: log 92] -/
def State.synceHz (s : State) : Nat :=
  if s.timeOn && !s.fault.clockGroups.getLsbD 8 && s.cfgB (timeAddr 0xA) 2 && !s.legacy then 155520000 / 2 ^ s.cfgF (timeAddr 0xA) 3 2 else 0

/-- Deviation of a time from the nearest whole second, in ns. -/
def ppsDeviation (ns : Nat) : Int :=
  let r : Int := (ns % 1000000000 : Nat)
  if r ≥ 500000000 then r - 1000000000 else r

/-- An edge of PPS_IN at a TIME count. [DEDUCED, unsafe: log 92] -/
def State.ppsIn (s : State) (count : BitVec 64) : State :=
  if !s.timeOn then s
  else
    let ns := s.nsAt count
    let d := ppsDeviation ns
    let over_ := d.natAbs > s.cfgF (timeAddr 0x42) 0 24
    let wasOk := s.time.ppsOk
    let wasOver := s.time.ppsDevRun
    let s := (s.modTime fun t => { t with ppsOk := true, ppsEdge := BitVec.ofNat 64 ns, ppsDev := BitVec.ofInt 32 d, ppsDevRun := over_ }).bump (timeCtr 6) 1
    let s := s.raiseIf (over_ && !wasOver) 0x0A06 (put 32 32 (twos 32 d) + s.tickLow)
    s.raiseIf (!wasOk) 0x0A05 s.tickLow

/-! ## Writes and reads -/

def checkTime (s : State) (f : Found) (v : Word) : Nat :=
  let ok (b : Bool) : Nat := if b then 0 else 5
  match f.obj with
  | .timeServoCfg =>
    if f.w = 0 then ok (1 ≤ fld v 0 16 && 1 ≤ fld v 16 16)
    else ok (1 ≤ fld v 0 17 && fld v 0 17 ≤ 100000 && 1 ≤ fld v 17 8)
  | .timeOutCfg => ok (1 ≤ fld v 6 9 && fld v 6 9 ≤ 500)
  | .timeTsCons =>
    let cur := s.cfg (timeAddr 0x11)
    ok ((v - cur).toNat ≤ (s.time.producer - cur).toNat)
  | .timeTodIn => 5
  | _ => 0

/-- A write of TIME_CFG or TIME_OUT_CFG takes effect on a pulse under way (R369, R372). -/
def applyTime (s : State) (f : Found) : State :=
  match f.obj with
  | .timeCfg | .timeOutCfg => s.ppsSettle
  | _ => s

def readTime (s : State) (f : Found) : Option Word :=
  let i := f.ix.getD 0 0
  let j := f.ix.getD 1 0
  match f.obj with
  | .timeStatus => some (BitVec.ofNat 32 (put 0 1 (b2n s.time.hostOwner) + put 1 3 (servoCode s.time.servo) +
      put 4 2 (eecCode s.time.eec) + put 6 1 (b2n s.time.ppsOk) + put 7 4 s.time.stepSeq.toNat + put 11 11 s.time.tsQueue.length))
  | .timeInc => some (wordOf s.time.inc.toNat i)
  | .timeNow => some (wordOf (s.timeAt s.instant.1).toNat i)
  | .timePpsIn => some (if i = 2 then s.time.ppsDev else wordOf s.time.ppsEdge.toNat i)
  | .timeTsProd => some s.time.producer
  | .timeTodResult =>
    let r := s.time.todOut.get (chanOf i)
    some (match j with
      | 0 => r.status.setWidth 32
      | 1 => wordOf r.sfc.toNat 0
      | 2 => wordOf r.sfc.toNat 1
      | 3 => wordOf r.errorPs.toNat 0
      | 4 => wordOf r.errorPs.toNat 1
      | _ => r.dPs)
  | .timePort =>
    if f.w = 1 then some (BitVec.ofNat 32 (if j = 0 then s.fixedTx i else s.fixedRx i))
    else if f.w = 5 then some (BitVec.ofInt 32 (s.skewPs i))
    else none
  | .timeTsRing => some (BitVec.ofNat 32 (leNat (slice (mget [] s.time.tsRing i) (4 * j) 4)))
  | _ => none

/-- A read of TIME_NOW takes its moment. -/
def readSideTime (s : State) (f : Found) : State := if f.obj = .timeNow && f.ix.getD 0 0 = 0 then s.instant.2 else s

end Sys2Proof.Machine
end

