-- ==== Sys2Proof/Machine/BurinOps.lean ====
section
/-! DEFINITION. Upstream bursts: grant decode and admission, construction, staging, DBRu, commit, transmission, and the
laser guard (Upstream Bursts: Grants, the Burin and the Laser Guard). Instants count units of 1/31,104 ns. -/

namespace Sys2Proof.Machine

def burinAddr (i : Nat) : Nat := addrOf 0x28 i
def State.bumpB (s : State) (c : Chan) (k n : Nat) : State := s.bump (burinCtr c k) n

/-- Raise an event that comes once for a channel and tick. -/
def State.once (s : State) (c : Chan) (code : Nat) (b : Bool) (p : Nat) : State :=
  if b && !(s.bch c).told.contains code then (s.modB c fun x => { x with told := x.told ++ [code] }).raise code p else s

/-! ## Instants and lengths -/

/-- Units in one ns, in one cycle of the transmit-burst clock (777.6 MHz), and in 125 µs. -/
def nsU : Nat := 31104
def cycleU : Nat := 40000
def frameU : Nat := 3888000000

/-- Units in one bit period of R145 on a channel. [DEDUCED, unsafe: log 61] -/
def State.eqdU (s : State) (c : Chan) : Nat := if s.inXgs c then 3125 else 625

/-- Units in one bit at a profile's rate (Table VONU-9). -/
def rateU (r : BitVec 2) : Nat :=
  match r.toNat with
  | 0 => 625 | 1 => 1250 | 2 => 2500 | _ => 3125

/-- Units in one cycle of the Stylus clock (1.24416 GHz). -/
def stylusU : Nat := 25000

/-- The ideal instant of a burst (R176): from the reception of the channel's latest downstream frame, the response time,
an EqD and a StartTime. [DEDUCED, unsafe: log 61] -/
def State.ideal (s : State) (c : Chan) (eqd start : Nat) : Int :=
  ((s.ch c).frameTime.toNat * stylusU + Config.responseTime (s.inXgs c) + (eqd + start) * s.eqdU c : Nat)

/-- Stylus time T at an instant. -/
def State.timeAtUnit (s : State) (u : Int) : BitVec 96 := s.time.offset + BitVec.ofInt 96 (u * s.time.inc.toNat / stylusU)

/-- The Stylus ns at an instant. -/
def State.nsAtUnit (s : State) (u : Int) : Nat := (s.timeAtUnit u).toNat / 2 ^ 32

/-- Bits of the PSBu of a profile. -/
def psbuBits (p : Profile) : Nat := 8 * (p.preLen.toNat * p.preRep.toNat + p.delLen.toNat)

/-- Length of a burst in units: PSBu, header, PLOAMu, DBRus, payload, trailer and parity (R179).
[DESIGN CHOICE, safe: log 13] -/
def burstLen (xgs : Bool) (p : Profile) (ploamu : Bool) (dbrus payload : Nat) : Nat :=
  (psbuBits p + Config.burstBits xgs p.rate p.fec ploamu dbrus payload) * rateU p.rate

/-- Units from a burst's first bit to a byte of its payload that `dbrus` DBRus go before.
[DESIGN CHOICE, safe: log 13] -/
def State.lineU (s : State) (c : Chan) (b : Burst) (dbrus payload : Nat) : Nat :=
  (psbuBits b.profile + Config.bitsTo (s.inXgs c) b.profile.rate b.profile.fec b.ploamu dbrus payload) * rateU b.profile.rate

/-- The rate of a profile is offered on the channel (R174). -/
def State.rateOffered (s : State) (c : Chan) (p : Profile) : Bool :=
  if s.inXgs c then p.rate = 3
  else p.rate ≠ 3 && s.cfgB (chAddr c 0) (4 + p.rate.toNat) && (c = .a || p.rate ≠ 2)

/-! ## The quiet window (R140 to R143) -/

/-- Slot length S in units: the serial-number burst and 512 bit periods, up to a multiple of 128 ns. -/
def snSlot (xgs : Bool) (p : Profile) : Nat :=
  let q := 128 * nsU
  (burstLen xgs p true 0 0 + 512 * rateU p.rate + q - 1) / q * q

/-- K, the slots of a window. -/
def snSlots (s : Nat) : Nat := 48000 * nsU / maxN 1 s + 1

/-- A vONU that may answer, by a decoder's table: in O2-3 with the named profile. -/
def Tab.snMay (t : Tab) (p : BitVec 2) (v : Nat) : Bool := (t.vonu v).act = .o23 && (t.profile v p).valid

/-- The eligible vONUs of a window, in round-robin order from the last that answered. -/
def State.snEligible (s : State) (c : Chan) (p : BitVec 2) : List Nat :=
  let t := (s.bch c).own
  let all := t.enabled.filter fun v => t.snMay p v && !(s.vch v c).answered
  let last := (s.vonu.lastAnswer.get c).toNat
  all.filter (fun v => decide (last < v)) ++ all.filter (fun v => decide (v ≤ last))

/-- Draw distinct slots below k: the first unused at or after a free value. [DESIGN CHOICE, safe: log 56] -/
def drawSlots (k : Nat) : Nat → List Nat → State → List Nat × State
  | 0, got, s => (got.reverse, s)
  | n + 1, got, s =>
    let (f, s) := s.fresh
    let pick := (firstFrom (fun i => !got.contains (i % maxN 1 k)) k (f % maxN 1 k)).getD 0 % maxN 1 k
    drawSlots k n (pick :: got) s

/-! ## Bursts of a partition (R168 to R172) -/

/-- A burst under construction: with the number of its own allocations beyond the limit, those that name another
profile, and the checks' inputs. -/
structure Draft where
  burst : Burst
  excess : Bool
  mixed : Nat
  slot : BitVec 2
deriving DecidableEq, Repr

def mkBurst (v : Nat) (kind : BurstKind) (startTime : Nat) (frame : BitVec 64) (start : Int) (p : Profile) (ploamu : Bool)
    (allocs : List BAlloc) (tick : BitVec 64) : Burst :=
  { vonu := BitVec.ofNat 9 v, kind, startTime, frame, start, stop := start, profile := p, ploamu, allocs, tick, committed := false
    judged := false, content := [], up := none, onuId := none }

/-- The burst of a grant to a vONU's entry, as its first allocation begins it. [DEDUCED, unsafe: log 61] -/
def State.draftOf (s : State) (c : Chan) (t : Tab) (i : Nat) (a : AllocE) (g : AllocStruct) (own : Nat) : Draft :=
  let v := a.vonu.toNat
  let x := t.vonu v
  let ranging := g.ploamu && g.size = 0 && (x.act = .o4 || x.act = .o9) &&
    (x.onuId.map fun n => n.setWidth 14) = some a.allocId
  { burst := { mkBurst v (if ranging then .ranging else .data) g.start (s.ch c).sfc64
      (s.ideal c ((x.eqd.getD 0).toNat) g.start) (t.profile v g.profile) g.ploamu
      [{ entry := i, size := g.size, dbru := g.dbru }] s.tick.number with onuId := x.onuId }
    excess := decide (own ≥ 1024), mixed := 0, slot := g.profile }

/-- A continuing allocation joins the last burst of its vONU (R171, R177). -/
def joinDraft (d : Draft) (i : Nat) (g : AllocStruct) (own : Nat) : Draft :=
  { d with burst := { d.burst with kind := .data, allocs := d.burst.allocs ++ [{ entry := i, size := g.size, dbru := g.dbru }] }
           excess := d.excess || decide (own ≥ 1024), mixed := d.mixed + b2n (g.profile ≠ d.slot) }

/-- The answers to a serial-number grant: one draft each. Every vONU that does not answer is eligible again at the next
window that is served (R140); the window lasts to the end of its last response (R143).
[DESIGN CHOICE, unsafe: log 159] -/
def State.snAnswer (s : State) (c : Chan) (g : AllocStruct) (own : Nat) : List Draft × State :=
  let t := (s.bch c).own
  let base := s.ideal c g.preassigned g.start
  if !s.crypto.rngOk then ([], s)
  else if base < (s.vonu.windowEnd.get c : Int) then ([], s.bump (vonuBlkCtr (2 + chanN c)) 1)
  else
    let who := s.snEligible c g.profile
    let prof (v : Nat) : Profile := t.profile v g.profile
    let slot := snSlot (s.inXgs c) (prof (who.headD 0))
    let k := snSlots slot
    let per := t.perWindow
    let go := who.take (minN per k)
    let (slots, s) := drawSlots k go.length [] s
    let s := (s.vonu.vonus.map (·.1)).foldl (fun s v => s.modVch v c fun x => { x with answered := go.contains v }) s
    let drafts := (go.zip slots).map fun (v, j) =>
      ({ burst := mkBurst v .serial g.start (s.ch c).sfc64 (base + (j * slot : Nat)) (prof v) true [] s.tick.number
         excess := decide (own ≥ 1024), mixed := 0, slot := g.profile } : Draft)
    if go = [] then ([], s)
    else
      let len (d : Draft) : Nat := burstLen (s.inXgs c) d.burst.profile true 0 0
      let end_ := drafts.foldl (fun m d => maxN m (d.burst.start + (len d : Nat)).toNat) 0
      let s := { s with vonu := { s.vonu with lastAnswer := s.vonu.lastAnswer.set c (BitVec.ofNat 9 (go.getLastD 0))
                                              windowEnd := s.vonu.windowEnd.set c end_ } }
      (drafts, s.raiseIf (k < per) 0x0304 (pCh c + put 40 4 go.length + put 32 8 k + s.tickLow))

/-- Phase 1: match the structures in partition order, giving the drafts (newest first) and the own allocations; one in
marked bits fails its HEC (R91). -/
def decodeStructs (c : Chan) : List AllocStruct → Nat → List Draft → State → List Draft × Nat × State
  | [], own, acc, s => (acc, own, s)
  | g :: r, own, acc, s =>
    if g.marked then decodeStructs c r own acc s
    else if g.snGrant then
      let (ds, s) := s.snAnswer c g own
      decodeStructs c r (own + b2n (ds ≠ [])) (ds.reverse ++ acc) s
    else
      let t := (s.bch c).own
      match t.find g.allocId with
      | none => decodeStructs c r own acc s
      | some (i, a) =>
        let s := s.setStage i { s.stage i with peaks := (s.stage i).peaks ++ [(s.tick.number, (g.size + 255) / 256)] }
        match g.cont, acc with
        | true, d :: rest =>
          if d.burst.vonu = a.vonu && d.burst.kind ≠ .serial then decodeStructs c r (own + 1) (joinDraft d i g own :: rest) s
          else decodeStructs c r (own + 1) (s.draftOf c t i a g own :: acc) s
        | _, _ => decodeStructs c r (own + 1) (s.draftOf c t i a g own :: acc) s

/-! ## Admission (R173 to R180) -/

/-- The end of a burst. -/
def State.withStop (s : State) (c : Chan) (b : Burst) : Burst :=
  { b with stop := b.start + (burstLen (s.inXgs c) b.profile b.ploamu (b.allocs.filter (·.dbru)).length
                               (sumN (b.allocs.map (·.size))) : Nat) }

/-- Insert in order of ideal instant, after equals. -/
def insertBurst (d : Draft) : List Draft → List Draft
  | [] => [d]
  | x :: r => if d.burst.start < x.burst.start then d :: x :: r else x :: insertBurst d r

def overlaps (a b : Burst) : Bool := a.start < b.stop && b.start < a.stop

/-- Check 3: the state of the vONU permits the burst (Table VONU-2). -/
def stateAllows (a : Act) : BurstKind → Bool
  | .serial => a = .o23
  | .ranging => a = .o4 || a = .o9
  | .data => a = .o5

/-- Check 5: an entry that the burst uses is marked (R198). -/
def State.burstMarked (s : State) (c : Chan) (d : Draft) : Bool :=
  let m := (s.bch c).marks
  let has (t i : Nat) : Bool := m.contains { table := BitVec.ofNat 2 t, index := BitVec.ofNat 13 i }
  d.burst.allocs.any (fun a => has 0 a.entry) || has 1 d.burst.vonu.toNat ||
    has 2 (8 * d.burst.vonu.toNat + d.slot.toNat) || (d.burst.kind = .serial && has 3 0)

/-- What admission has found so far in a partition. -/
structure Admit where
  kept : List Burst
  refused : Nat
  firstRefused : Nat
  overlapN : Nat
  firstOverlap : Nat
deriving DecidableEq, Repr

/-- Checks 2 to 6 on the drafts in order of start. [DEDUCED, unsafe: log 62] -/
def admitBursts (c : Chan) : List Draft → Admit → State → Admit × State
  | [], a, s => (a, s)
  | d :: r, a, s =>
    let v := d.burst.vonu.toNat
    let p := d.burst.profile
    if d.excess then admitBursts c r a (s.bumpB c 5 1)
    else if !stateAllows ((s.bch c).own.vonu v).act d.burst.kind then admitBursts c r a (s.bumpB c 6 1)
    else if !p.valid || !s.rateOffered c p then
      let w := put 48 9 v + put 46 2 d.slot.toNat + put 44 2 (b2n p.valid)
      admitBursts c r { a with refused := a.refused + 1, firstRefused := if a.refused = 0 then w else a.firstRefused } (s.bumpB c 7 1)
    else if s.burstMarked c d then admitBursts c r a (s.bumpB c 8 1)
    else
      let before := (s.bch c).current.toList ++ (s.bch c).bursts ++ a.kept
      match before.find? (overlaps d.burst) with
      | some k =>
        let w := put 48 9 v + put 39 9 k.vonu.toNat
        admitBursts c r { a with overlapN := a.overlapN + 1, firstOverlap := if a.overlapN = 0 then w else a.firstOverlap } (s.bumpB c 9 1)
      | none => admitBursts c r { a with kept := a.kept ++ [d.burst] } (s.bumpB c 19 d.mixed)

/-! ## Staging (R182 to R187) -/

/-- Bytes an entry has staged, in XGEM frames. -/
def Stage.bytes (x : Stage) : Nat := sumN (x.frames.map fun f => xgemLen f.data.length)
/-- Cells an entry has staged. -/
def Stage.cells (x : Stage) : Nat := sumN (x.frames.map fun f => f.cells.length)

/-- T(i) (R183). -/
def State.stageTarget (s : State) (i : Nat) : Nat :=
  if (s.allocAt i).isNone then 0
  else
    let recent := (s.stage i).peaks.filter fun e => decide (s.tick.number.toNat < e.1.toNat + s.burin.stagePeak)
    minN s.burin.stageCap (maxN s.burin.stageFloor ((recent.map (·.2)).foldl maxN 0))

/-- A T-CONT's queues hold frames in DRAM. -/
def State.dramHolds (s : State) (i : Nat) : Bool := (s.queuesOf i).any fun q => (s.queue q).pkts ≠ []

/-- Bytes queued for a T-CONT, staged and in DRAM (R188). -/
def State.occupancy (s : State) (i : Nat) : Nat :=
  (s.stage i).bytes + sumN ((s.queuesOf i).map fun q => sumN ((s.queue q).pkts.map fun p => xgemLen p.bytes.length))

/-- Urgent work that is not yet done: the entry still holds less than its grant (R184). [DEDUCED, unsafe: log 155] -/
def State.urgentLeft (s : State) : List (Nat × Nat) :=
  s.burin.urgent.filter fun e => decide ((s.stage e.1).bytes < e.2) && (s.allocAt e.1).isSome

/-- Urgent work that has been done is done with, whatever the commit takes from the staging afterwards (R184).
[DEDUCED, unsafe: log 155] -/
def State.urgentTrim (s : State) : State := { s with burin := { s.burin with urgent := s.urgentLeft } }

/-- A burst whose content is fixed, or which will not be sent, asks for no more refill. [DEDUCED, unsafe: log 155] -/
def State.urgentDone (s : State) (b : Burst) : State :=
  { s with burin := { s.burin with urgent := b.allocs.foldl (fun l a => l.erase (a.entry, a.size)) s.burin.urgent } }

/-- Urgent work that can go on: the entry has frames in DRAM. -/
def State.urgentDue (s : State) : List (Nat × Nat) := s.urgentLeft.filter fun e => s.dramHolds e.1

/-- An entry that is bound, and whose node can release a frame at a moment. [DEDUCED, unsafe: log 121] -/
def State.mayRelease (s : State) (i : Nat) (now : BitVec 64) : Bool :=
  let s := s.requalify i now
  (s.allocAt i).isSome && s.tokensOk i now && (s.selectQueue i now).isSome

/-- The entry whose turn background refill has come to: below its target, with a frame that its node releases, in
round-robin order of index (R184). -/
def State.backgroundNext (s : State) (now : BitVec 64) : Option Nat :=
  let due := (s.vonu.alloc.map (·.1)).filter fun i => decide ((s.stage i).cells < s.stageTarget i) && s.mayRelease i now
  (due.find? fun i => decide (s.burin.turn ≤ i)).orElse fun _ => due.head?

/-- The entry that the refill engine serves at a moment: urgent work first, in its order, but for entries whose node
holds its frames back (R184). -/
def State.refillNext (s : State) (now : BitVec 64) : Option Nat :=
  match s.urgentDue.find? fun e => s.mayRelease e.1 now with
  | some e => some e.1
  | none => s.backgroundNext now

/-- Background work has moved on past an entry. -/
def State.turnPast (s : State) (i : Nat) (now : BitVec 64) : State :=
  if (s.urgentDue.find? fun e => s.mayRelease e.1 now).isSome then s else { s with burin := { s.burin with turn := i + 1 } }

/-- Stage one frame of an entry (R182 to R186): release from its scheduler node, a chain of P8 cells, which pass to the
Burin (R282), the DRAM cells freed. With no free cell refill stops; a frame whose chain finds the pool empty stays in DRAM (R286).
[DEDUCED, unsafe: log 121] -/
def State.stageOne (s : State) (i : Nat) : State :=
  match s.allocAt i with
  | none => s
  | some a =>
    let (now, s1) := s.instant
    if !s.domOn 6 || s1.refillNext now ≠ some i || s.freeCells 8 = 0 then s
    else
      let s := (s1.turnPast i now).requalify i now
      if !s.tokensOk i now then s
      else match s.selectQueue i now with
        | none => s
        | some q =>
          let n := (((s.queue q).pkts.head?.map fun p => p.bytes.length).getD 0 + 255) / 256
          match State.takeChain 8 0x08 n [] s with
          | (none, s) => s
          | (some cells, s) =>
            match s.releaseHead i q now with
            | (none, s) => s.freeAll 0x08 cells
            | (some p, s) =>
              let (p, s) := s.bindPacket i p
              if s.flowBad p.flow then ((s.freeAll 0x08 cells).freeAll 0x07 p.cells).tcontRemoved i (xgemLen p.bytes.length)
              else
              let s := (s.passAll 0x08 0x09 cells).freeAll 0x07 p.cells
              let x := s.stage i
              let f : SFrame := { data := p.bytes, cells := cells.map (·.2), vonu := a.vonu, flow := p.flow, port := p.xgemPort
                                  seq := x.nextSeq, off := 0, ends := true }
              (s.setStage i { x with frames := x.frames ++ [f], nextSeq := x.nextSeq + 1 }).urgentTrim

/-! ## Snapshots (R188, R189) -/

/-- Record every entry's occupancy at the tick. -/
def State.takeSnapshots (s : State) : State :=
  s.vonu.alloc.foldl (fun s e => s.setStage e.1 { s.stage e.1 with taken := some (s.occupancy e.1), takenRemoved := 0 }) s

/-- The latest snapshot completes: DBRus use it from now on. -/
def State.adoptSnapshots (s : State) : State :=
  s.vonu.alloc.foldl (fun s e =>
    match (s.stage e.1).taken with
    | some q => s.setStage e.1 { s.stage e.1 with snapshot := q, removed := (s.stage e.1).takenRemoved, snapOk := true
                                                  taken := none, takenRemoved := 0 }
    | none => s) s

/-- A snapshot that did not complete (Table TICK-2): DBRus of the T-CONTs affected are invalid until one does. Which they
are is a free value, unless none or all of the 8,192 are. -/
def spoilEach (items : Nat) : List Nat → State → State
  | [], s => s
  | i :: r, s =>
    let (f, s) := s.fresh
    let hit := items ≥ 8192 || (items ≠ 0 && f % 2 = 1)
    spoilEach items r (if hit then s.setStage i { s.stage i with snapOk := false } else s)

def State.spoilSnapshots (s : State) (items : Nat) : State := spoilEach items (s.vonu.alloc.map (·.1)) s

/-- Count bytes taken from an entry towards D. -/
def State.stageRemoved (s : State) (i n : Nat) : State :=
  s.setStage i { s.stage i with removed := (s.stage i).removed + n, takenRemoved := (s.stage i).takenRemoved + n }

/-- The DBRu of an entry: units of 4 bytes, rounded up, saturated at 24 bits; none where no complete snapshot exists.
[PRESUMED, unsafe: log 60] -/
def State.dbruOf (s : State) (i : Nat) : Option Nat :=
  let x := s.stage i
  if x.snapOk then some (sat 0xFFFFFE ((x.snapshot - x.removed + 3) / 4)) else none

/-! ## Commit (R178, R185, R190, R263, R407) -/

/-- Why the rest of an allocation is idle. -/
inductive Short | space | gate | key
deriving DecidableEq, Repr

/-- CRYPTO_FLOW_MODE of a flow (R401). -/
def State.flowMode (s : State) (f : Nat) : Nat := s.cfgF (addrOf 0x68 (0x20000 + f / 16)) (2 * (f % 16)) 2

/-- The slot a frame is encrypted under; none: it is sent clear. [DEDUCED, unsafe: log 66] -/
def State.upSlot (s : State) (v : Nat) (c : Chan) (flow : Option Nat) : Option (Option Nat) :=
  match flow with
  | none => none
  | some f =>
    if s.flowMode f = 0 then none
    else match (s.vch v c).upKey.toNat with
      | 0 => some none
      | k => some (some (uniSlot v (chanN c) k))

/-- The largest part of an n-byte SDU that may go as a fragment into `space` bytes: both parts hold 16 bytes or more
(R178). [PRESUMED, unsafe: log 60] -/
def fragLen (n space : Nat) : Option Nat :=
  let m := minN ((space - 8) / 4 * 4) ((n - 16) / 4 * 4)
  if space < 8 || n < 32 || m < 16 then none else some m

/-- A T-CONT's gate lets a frame end at a burst instant (R263). -/
def State.tcontOpen (s : State) (i ns : Nat) : Bool :=
  match s.nodeHatch i with
  | some l => !s.qs.eccShut.contains (BitVec.ofNat 6 l) && (s.hatch l).openAt (s.cfgF (nodeAddr i 2) 7 3) ns
  | none => true

/-- Seal one piece of a frame that begins at `pos` of the upstream frame: key use counted, key index, bytes as sent.
[DEDUCED, unsafe: log 66, 161] -/
def State.sealPiece (s : State) (c : Chan) (b : Burst) (pos : Nat) (f : SFrame) (m : Nat) (slot : Option Nat) : UpXgem × State :=
  let v := f.vonu.toNat
  let plain := f.data.take m
  let key := match slot with | some k => (s.slot k).key | none => []
  let sent := match slot with | some _ => Config.cipherCtr key b.frame.toNat pos plain | none => plain
  let s := match slot with | some k => s.useKey k (aesBlocks m) | none => s
  let whole : Bool := m ≥ f.data.length
  ({ vonu := f.vonu, flow := f.flow, port := f.port, keyIndex := if slot.isSome then (s.vch v c).upKey else 0, first := f.off = 0
     last := whole && f.ends, plain, sent, ptp := if f.off = 0 then ptpOf f.data else none, cells := if whole then f.cells else []
     seq := f.seq, off := f.off }, s)

/-- A staged frame is held back: its binding is pinned to another channel (R162, R164). [DEDUCED, unsafe: log 149] -/
def State.pinnedAway (s : State) (c : Chan) (f : SFrame) : Bool :=
  match f.flow with
  | some n => let w := s.cfg (flowAddr n); bit w 26 && flowVonu w = f.vonu.toNat && flowChan w ≠ c
  | none => false

/-- The gate of an entry's node is open where a frame ends, by the exact line time of its burst (R263). -/
def State.frameOpen (s : State) (c : Chan) (b : Burst) (i d done : Nat) : Bool :=
  s.tcontOpen i (s.nsAtUnit (b.start + (s.lineU c b d done : Nat)))

/-- Fill `space` bytes of an allocation from an entry's staging, from byte `done` of the burst's payload on, with `d` DBRus
before it. [DEDUCED, unsafe: log 66, 161] -/
def fillAlloc (c : Chan) (b : Burst) (i d : Nat) : Nat → Nat → Nat → List UpXgem → State → List UpXgem × Nat × Short × State
  | 0, _, space, acc, s => (acc.reverse, space, .space, s)
  | fuel + 1, done, space, acc, s =>
    let (held, ready) := (s.stage i).frames.span (s.pinnedAway c)
    match ready with
    | [] => (acc.reverse, space, .space, s)
    | f :: rest =>
      let n := f.data.length
      let slot := s.upSlot f.vonu.toNat c f.flow
      let usable := match slot with
        | none => true
        | some none => false
        | some (some k) => s.engineOn && s.keyUse k = .ok
      if !usable then (acc.reverse, space, .key, s)
      else match (if xgemLen n ≤ space then some n else if f.ends then fragLen n space else none) with
      | none => (acc.reverse, space, .space, s)
      | some m =>
        let used := xgemLen m
        if !s.frameOpen c b i d (done + used) then (acc.reverse, space, .gate, s)
        else
          let pos := b.startTime + s.lineU c b d done / s.eqdU c
          let (x, s) := s.sealPiece c b pos f m (slot.bind id)
          let frames := if m ≥ n then rest else { f with data := f.data.drop m, off := f.off + m } :: rest
          let s := (s.setStage i { s.stage i with frames := held ++ frames }).stageRemoved i used
          fillAlloc c b i d fuel (done + used) (space - used) (x :: acc) s

/-- OMCI messages ride in the allocation of the default Alloc-ID, ahead of staged frames, while they fit and their gate is
open: those taken, those left, the byte reached, and whether the gate has held one back. [DEDUCED, unsafe: log 57] -/
def takeOmci (opens : Nat → Bool) : Nat → Nat → List UpOmci → List UpOmci × List UpOmci × Nat × Bool
  | done, _, [] => ([], [], done, false)
  | done, space, m :: r =>
    let n := xgemLen m.data.length
    if n > space then ([], m :: r, done, false)
    else if !opens (done + n) then ([], m :: r, done, true)
    else
      let (a, b, e, g) := takeOmci opens (done + n) (space - n) r
      (m :: a, b, e, g)

/-- Count the idle bytes of an allocation by their reason. -/
def State.countIdle (s : State) (c : Chan) (tick : BitVec 64) (i idle : Nat) (why : Short) : State :=
  match why with
  | .gate => s.bump (qDropCtr 7) idle
  | .key => s.bump (cryCtr 3) idle
  | .space =>
    if idle ≠ 0 && s.dramHolds i then
      (s.bumpB c 13 idle).once c 0x0405 true (pCh c + put 32 13 i + put 0 32 tick.toNat)
    else s.bumpB c 14 idle

/-- Commit one allocation of a burst, from byte `done` of its payload on, with `d` DBRus before it. -/
def State.commitAlloc (s : State) (c : Chan) (b : Burst) (d done : Nat) (a : BAlloc) : BContent × State :=
  let v := b.vonu.toNat
  let own := (s.vch v c).onuId.map fun n => n.setWidth 14
  let isDefault := (s.allocAt a.entry).any fun e => some e.allocId = own
  let (msgs, left, at_, shut) :=
    if isDefault then takeOmci (s.frameOpen c b a.entry d) done a.size (s.vch v c).omciQ else ([], (s.vch v c).omciQ, done, false)
  let s := s.modVch v c fun x => { x with omciQ := left }
  let space := done + a.size - at_
  let (xs, idle, why, s) := if shut then ([], space, .gate, s)
    else fillAlloc c b a.entry d (s.stage a.entry).frames.length at_ space [] s
  ({ entry := a.entry, omci := msgs, xgems := xs, idle, dbru := none }, s.countIdle c b.tick a.entry idle why)

/-- Commit the allocations of a burst in order. -/
def commitAllocs (c : Chan) (b : Burst) : Nat → Nat → List BAlloc → List BContent → State → List BContent × State
  | _, _, [], acc, s => (acc.reverse, s)
  | d, done, a :: r, acc, s =>
    let (x, s) := s.commitAlloc c b (d + b2n a.dbru) done a
    commitAllocs c b (d + b2n a.dbru) (done + a.size) r (x :: acc) s

/-- A message that a burst builds from its vONU's identity, with its MIC (R128, R402). [DEDUCED, unsafe: log 156] -/
def State.identityUp (s : State) (v : Nat) (c : Chan) (m : UpMsg) : Option UpPloam × State :=
  let (mic, s) := s.upMic v c m
  (mic.map fun mic => { msg := m, mic, seq := 0 }, s)

/-- The PLOAMu of a burst (R128, R153, R175): Serial_Number_ONU in a serial-number response, Registration in a ranging
response, else the head of the queue. [DEDUCED, unsafe: log 156] -/
def State.takeUp (s : State) (c : Chan) (b : Burst) : Option UpPloam × State :=
  let v := b.vonu.toNat
  match b.kind with
  | .serial => s.identityUp v c (.serialNumber (s.vonuAt v).sn)
  | .ranging => s.identityUp v c (.registration (s.vonuAt v).regId)
  | .data =>
    if !b.ploamu then (none, s)
    else match (s.vch v c).upQ with
      | [] => (none, s)
      | m :: r => (some m, s.modVch v c fun x => { x with upQ := r })

/-- Give each allocation that asks for one its DBRu. -/
def State.withDbru (s : State) (allocs : List BAlloc) (l : List BContent) : List BContent :=
  (allocs.zip l).map fun (a, x) => { x with dbru := if a.dbru then some (s.dbruOf a.entry) else none }

/-- Commit a burst with its content; its gates are judged at the line times of its own start (R263). -/
def State.commitBurst (s : State) (c : Chan) (b : Burst) : Burst × State :=
  let (content, s) := commitAllocs c b 0 0 b.allocs [] s
  let (up, s) := s.takeUp c b
  let s := s.urgentDone b
  ({ b with committed := true, content := s.withDbru b.allocs content, up }, s)

/-- The content of a burst that missed its deadline (R191): idle everywhere, with true DBRus. -/
def State.lateBurst (s : State) (b : Burst) : Burst :=
  let content := b.allocs.map fun a => ({ entry := a.entry, omci := [], xgems := [], idle := a.size, dbru := none } : BContent)
  { b with committed := true, judged := true, content := s.withDbru b.allocs content, up := none }

/-- The staged frame that a piece was. -/
def UpXgem.frame (x : UpXgem) : SFrame :=
  { data := x.plain, cells := x.cells, vonu := x.vonu, flow := x.flow, port := x.port, seq := x.seq, off := x.off, ends := x.last }

/-- Two parts of one frame that meet. -/
def SFrame.join (f g : SFrame) : SFrame := { f with data := f.data ++ g.data, cells := f.cells ++ g.cells, ends := g.ends }

def SFrame.meets (f g : SFrame) : Bool := f.seq = g.seq && f.off + f.data.length = g.off

/-- Put a frame back in its place among the staged ones, and parts of one frame together. [DEDUCED, unsafe: log 149] -/
def putBack (f : SFrame) : List SFrame → List SFrame
  | [] => [f]
  | g :: r =>
    if f.meets g then f.join g :: r
    else if g.meets f then putBack (g.join f) r
    else if f.seq < g.seq || (f.seq = g.seq && f.off < g.off) then f :: g :: r
    else g :: putBack f r

/-- Put a piece back into its entry's staging; where the entry is gone, its cells are freed (R173). -/
def State.unstage (s : State) (v : BitVec 9) (i : Nat) (x : UpXgem) : State :=
  if (s.allocAt i).any fun a => a.vonu = v then
    let st := s.stage i
    let n := xgemLen x.plain.length
    s.setStage i { st with frames := putBack x.frame st.frames, removed := st.removed - n, takenRemoved := st.takenRemoved - n }
  else s.freeAll 0x09 (x.cells.map fun k => (8, k))

/-- Put queued messages back in their order. -/
def backOmci (m : UpOmci) : List UpOmci → List UpOmci
  | [] => [m]
  | g :: r => if m.seq < g.seq then m :: g :: r else g :: backOmci m r
def backUp (m : UpPloam) : List UpPloam → List UpPloam
  | [] => [m]
  | g :: r => if m.seq < g.seq then m :: g :: r else g :: backUp m r

/-- What a suppressed burst would have carried stays queued, in order (R173); its messages, while the vONU holds the ONU-ID
of the burst (R136). [DEDUCED, unsafe: log 149] -/
def State.restoreBurst (s : State) (c : Chan) (b : Burst) : State :=
  let s := b.content.foldl (fun s k => k.xgems.foldl (fun s x => s.unstage b.vonu k.entry x) s) (s.urgentDone b)
  let v := b.vonu.toNat
  if b.kind ≠ .data || (s.vch v c).onuId ≠ b.onuId then s
  else
    let msgs := b.content.flatMap (·.omci)
    s.modVch v c fun x => { x with omciQ := msgs.foldl (fun l m => backOmci m l) x.omciQ
                                   upQ := b.up.toList.foldl (fun l m => backUp m l) x.upQ }

/-- Cells of the frames whose last byte a burst carried. -/
def burstCells (b : Burst) : List (Nat × Nat) := b.content.flatMap fun k => k.xgems.flatMap fun x => x.cells.map fun n => (8, n)

/-! ## The laser guard (R192 to R202) -/

/-- Up to a multiple of a cycle. -/
def upTo (cycle : Nat) (u : Int) : Int := -((-u) / cycle) * cycle

/-- The shadow window of one own burst (R193), or of a serial-number grant (R194), with its end by the transmit-symbol clock,
whose cycle holds 64 bits of the burst's rate, rounded outward (R431). [DEDUCED, safe: log 157] -/
def winOf (rate : BitVec 2) (start stop : Int) (serial : Bool) : Win :=
  let k := -((-stop) / cycleU) + 1
  { start := start / cycleU - 1, stop := k, serial, symStop := upTo (64 * rateU rate) (k * cycleU) }

/-- Where a window ends: at the earlier of its two ends (R431). [DEDUCED, safe: log 157] -/
def Win.stopU (w : Win) : Int := if w.symStop < w.stop * cycleU then w.symStop else w.stop * cycleU
def SnWin.stopU (w : SnWin) : Int := if w.symStop < w.stop * cycleU then w.symStop else w.stop * cycleU

/-- One window of two, the first of which starts first. -/
def Win.merge (a w : Win) : Win :=
  { a with stop := if w.stop > a.stop then w.stop else a.stop, serial := a.serial || w.serial
           symStop := if w.symStop > a.symStop then w.symStop else a.symStop }

/-- Merge windows that overlap or lie within one cycle of each other; the list is in order of start. -/
def mergeWins : List Win → List Win → List Win
  | acc, [] => acc.reverse
  | [], w :: r => mergeWins [w] r
  | a :: acc, w :: r =>
    if w.start ≤ a.stop + 1 then mergeWins (a.merge w :: acc) r
    else mergeWins (w :: a :: acc) r

def insertWin (w : Win) : List Win → List Win
  | [] => [w]
  | x :: r => if w.start < x.start then w :: x :: r else x :: insertWin w r

/-- A vONU, or the profile that a grant names of it, is marked (R198). -/
def State.vonuMarked (s : State) (c : Chan) (p : BitVec 2) (v : Nat) : Bool :=
  let has (t i : Nat) : Bool := (s.bch c).marks.contains { table := BitVec.ofNat 2 t, index := BitVec.ofNat 13 i }
  has 1 v || has 2 (8 * v + p.toNat) || has 3 0

/-- The window of a serial-number grant that the twin tables show some vONU may answer, with none of what it rests on
marked (R194, R198). -/
def State.snWin (s : State) (c : Chan) (t : Tab) (g : AllocStruct) : Option SnWin :=
  (t.enabled.find? fun v =>
      t.snMay g.profile v && s.rateOffered c (t.profile v g.profile) && !s.vonuMarked c g.profile v).map fun v =>
    let slot := snSlot (s.inXgs c) (t.profile v g.profile)
    let base := s.ideal c g.preassigned g.start
    let w := winOf (t.profile v g.profile).rate base (base + (48000 * nsU + slot : Nat)) true
    { tick := s.tick.number, start := w.start, stop := w.stop, symStop := w.symStop, slot, episodes := 0 }

/-- What one structure contributes to the shadow decode, by the twin tables: the drafts of own bursts, newest first, and
the windows of serial-number grants, with the own allocations of the tick so far. -/
def shadowStructs (s : State) (c : Chan) (t : Tab) : List AllocStruct → Nat → List Draft → List SnWin → List Draft × List SnWin × Nat
  | [], own, ds, ws => (ds, ws, own)
  | g :: r, own, ds, ws =>
    if g.marked then shadowStructs s c t r own ds ws
    else if g.snGrant then
      match s.snWin c t g with
      | none => shadowStructs s c t r own ds ws
      | some w => shadowStructs s c t r (own + 1) ds (if own < 1024 then w :: ws else ws)
    else
      match t.find g.allocId with
      | none => shadowStructs s c t r own ds ws
      | some (i, a) =>
        match g.cont, ds with
        | true, d :: rest =>
          if d.burst.vonu = a.vonu then shadowStructs s c t r (own + 1) (joinDraft d i g own :: rest) ws
          else shadowStructs s c t r (own + 1) (s.draftOf c t i a g own :: ds) ws
        | _, _ => shadowStructs s c t r (own + 1) (s.draftOf c t i a g own :: ds) ws

/-- The window list of a partition by the twin tables, and the windows of its serial-number grants: checks 2 to 4 of Table
BURIN-1, no overlap rule, nothing for a marked entry (R192 to R194, R198). -/
def State.shadowWins (s : State) (c : Chan) (structs : List AllocStruct) : List Win × List SnWin × Nat :=
  let t := (s.bch c).twin
  let (ds, ws, own) := shadowStructs s c t (structs.take 4096) (s.bch c).shadowOwn [] []
  let good := ds.filter fun d =>
    !d.excess && stateAllows (t.vonu d.burst.vonu.toNat).act d.burst.kind && d.burst.profile.valid &&
      s.rateOffered c d.burst.profile && !s.burstMarked c d
  let all := (ws.map fun w => ({ start := w.start, stop := w.stop, serial := true, symStop := w.symStop } : Win)) ++
    good.map fun d => let b := s.withStop c d.burst; winOf b.profile.rate b.start b.stop false
  (mergeWins [] (all.foldl (fun acc w => insertWin w acc) []), ws, own)

/-- The shadow window that an instant lies in. -/
def State.windowAt (s : State) (c : Chan) (u : Int) : Option Win :=
  ((s.bch c).shadow.flatMap fun e => e.2.2.getD []).find? fun w => decide (w.start * cycleU ≤ u) && decide (u < w.stopU)

/-- Trips within the latest 8,000 ticks. -/
def State.recentTrips (s : State) (c : Chan) : List (BitVec 64) :=
  (s.bch c).trips.filter fun t => decide (s.tick.number.toNat < t.toNat + 8000)

/-- A trip (R195, R196, R199): counted and reported; the third within a second latches the channel.
[DEDUCED, unsafe: log 65] -/
def State.trip (s : State) (c : Chan) (cause vonu : Nat) (tick : BitVec 64) : State :=
  let trips := s.recentTrips c ++ [s.tick.number]
  let s := (s.modB c fun x => { x with trips, lastCause := BitVec.ofNat 2 cause }).bumpB c 16 1
  let s := s.lived fun l => { l with trips := l.trips + 1 }
  let s := s.raise 0x0407 (pCh c + put 61 2 cause + put 59 2 (sat 3 trips.length) + put 48 9 vonu + put 0 32 tick.toNat)
  if trips.length ≥ 3 && (s.ch c).tx ≠ .latched then
    ((s.modB c fun x => { x with switchOpen := true }).setTx c .latched).raise 0x0408 (pCh c + put 0 32 tick.toNat)
  else s

/-- Bytes of XGEM that a burst carries. -/
def burstBytes (b : Burst) : Nat := sumN (b.allocs.map (·.size))

/-- The pieces of one allocation from byte `at_` of the payload on, with `d` DBRus before them, each with its place. -/
def spotsOf (d : Nat) : Nat → List UpXgem → List (Nat × Nat × UpXgem)
  | _, [] => []
  | at_, x :: r => (d, at_, x) :: spotsOf d (at_ + xgemLen x.plain.length) r

/-- The pieces of a burst with their places: the DBRus before, and the byte of the payload where each begins. -/
def burstSpots : Nat → Nat → List (BAlloc × BContent) → List (Nat × Nat × UpXgem)
  | _, _, [] => []
  | d, done, (a, x) :: r =>
    spotsOf (d + b2n a.dbru) (done + sumN (x.omci.map fun m => xgemLen m.data.length)) x.xgems ++
      burstSpots (d + b2n a.dbru) (done + a.size) r

/-- Time-stamp the PTP event messages whose time-stamp point has passed: from the burst's ideal instant and the bit offset of
the XGEM header (R364, Table TIME-3). [DEDUCED, unsafe: log 93] -/
def stampPieces (c : Chan) (b : Burst) : List (Nat × Nat × UpXgem) → State → State
  | [], s => s
  | (d, at_, x) :: r, s =>
    stampPieces c b r (match x.ptp with
      | some m => s.stamp (4 + chanN c) false m (s.timeAtUnit (b.start + (s.lineU c b d at_ : Nat))) x.port.toNat x.vonu.toNat
      | none => s)

/-- The time-stamps of a burst of which `sent` bytes of payload have left; none while the channel is not in SYNC (R365).
[DEDUCED, unsafe: log 93] -/
def State.burstStamps (s : State) (c : Chan) (b : Burst) (sent : Nat) : State :=
  if s.inSync c then stampPieces c b ((burstSpots 0 0 (b.allocs.zip b.content)).filter fun e => decide (e.2.1 < sent)) s else s

/-- The rest of a burst is abandoned: its content is discarded and its cells freed (R195). At its start that is all of
it; later, how much was still to be sent is a free value. [DESIGN CHOICE, safe: log 64; DEDUCED, unsafe: log 93] -/
def State.abandon (s : State) (c : Chan) (b : Burst) (whole : Bool) : State :=
  let (f, s) := s.fresh
  let rest := if whole then burstBytes b else f % (burstBytes b + 1)
  let s := ((s.modB c fun x => { x with current := none, lit := false }).bumpB c 17 rest).burstStamps c b (burstBytes b - rest)
  s.freeAll 0x09 (burstCells b)

/-! ## Writes and reads -/

/-- [DEDUCED, unsafe: log 63] -/
def checkBurin (s : State) (f : Found) (v : Word) : Nat :=
  let ok (b : Bool) : Nat := if b then 0 else 5
  let tx := (s.ch (chanOf (f.ix.getD 0 0))).tx
  match f.obj with
  | .burinStageCfg =>
    ok (1 ≤ fld v 0 8 && 16 ≤ fld v 8 16 && fld v 8 16 ≤ 16384 && fld v 0 8 ≤ fld v 8 16 && 1 ≤ fld v 24 4)
  | .burinGuardCfg => ok (5 ≤ fld v 0 6 && fld v 0 6 ≤ 50)
  | .burinGuardCtl => ok ((!bit v 0 || tx = .latched) && (!bit v 1 || tx = .ready))
  | _ => 0

/-- What keeps a bias switch open: the latch of the guard, a bad rail, or the safe state (R199, R432, R433). -/
def State.switchHeld (s : State) (c : Chan) : Bool := (s.ch c).tx = .latched || (s.ch c).holdRail || s.phase = .safe

/-- The bias switch closes unless something keeps it open. -/
def State.switchSettle (s : State) (c : Chan) : State := s.modB c fun x => { x with switchOpen := s.switchHeld c }

/-- REARM (R200): the switch closes, unless something else keeps it open. [DEDUCED, unsafe: log 65] -/
def State.rearm (s : State) (c : Chan) : State :=
  let ready := (s.ch c).tecLocked
  let s := s.setTx c (if ready then .ready else .warmup)
  let s := ((s.modB c fun x => { x with trips := [] }).switchSettle c).raise 0x0409 (pCh c + put 62 1 (b2n ready) + s.tickLow)
  (s.expose (2 * chanN c + 1)).txUpdate c

def applyBurin (s : State) (f : Found) (v : Word) : State :=
  let c := chanOf (f.ix.getD 0 0)
  match f.obj with
  | .burinGuardCtl =>
    let s := if bit v 0 then s.rearm c else s
    if bit v 1 then s.modB c fun x => { x with testTrip := true } else s
  | _ => s

def readBurin (s : State) (f : Found) : Option Word :=
  let i := f.ix.getD 0 0
  let b := s.bch (chanOf i)
  match f.obj with
  | .burinStagePool => some (BitVec.ofNat 32 (if i = 0 then s.freeCells 8 else s.burin.lowWater))
  | .burinChStatus => some (BitVec.ofNat 32 (put 0 13 b.structsLast + put 13 11 (sat 1025 b.ownLast) + put 24 8 (sat 255 b.decodeLast)))
  | .burinGuardCtl => some 0
  | .burinGuardStatus =>
    some (BitVec.ofNat 32 (put 0 2 (sat 3 (s.recentTrips (chanOf i)).length) + put 2 1 (b2n ((s.ch (chanOf i)).tx = .latched)) +
      put 3 2 b.lastCause.toNat + put 5 1 (b2n (b.marks ≠ [])) + put 6 1 (b2n b.switchOpen) + put 16 16 b.twinPass.toNat))
  | .burinStageStatus => some (BitVec.ofNat 32 (put 0 16 (s.stage i).cells + put 16 16 (s.stageTarget i)))
  | _ => none

/-- The effect of reading LOW_WATER (Table BURIN-5). -/
def readSideBurin (s : State) (f : Found) : State :=
  if f.obj = .burinStagePool && f.ix.getD 0 0 = 1 then { s with burin := { s.burin with lowWater := s.freeCells 8 } } else s

end Sys2Proof.Machine
end

