-- ==== Sys2Proof/Machine/FramerOps.lean ====
section
/-! DEFINITION. The framers and framing generators of the tributaries (R380, R390). The thresholds are R380's; the signals
themselves are those of the standards that it names: T1.403 for DS1, G.704 and G.706 for E1. -/

namespace Sys2Proof.Machine

/-- The framing bits of a DS1 superframe, Ft and Fs in turn. -/
def sfBits : List Bool := [true, false, false, false, true, true, false, true, true, true, false, false]
/-- The FPS bits of an extended superframe, and the bits of an E1 CRC-4 multiframe alignment signal. -/
def fpsBits : List Bool := [false, false, true, false, true, true]
/-- Bits 2 to 8 of timeslot 0 with the frame alignment signal. -/
def fasBits : List Bool := [false, false, true, true, false, true, true]

/-- The remainder of bits by x^n + x + 1 (CRC-6 with n = 6, CRC-4 with n = 4). -/
def crcBits (n : Nat) (l : List Bool) : Nat :=
  l.foldl (fun r b =>
    let x := r * 2 % 2 ^ n
    if (decide (2 ^ (n - 1) ≤ r)) != b then x ^^^ 3 else x) 0

/-- Bits `a` to `a + n - 1` of a list. -/
def bitSlice (l : List Bool) (a n : Nat) : List Bool := (l.drop a).take n

/-- Bits set to one value at some places. -/
def maskBits (at_ : Nat → Bool) (v : Bool) (l : List Bool) : List Bool :=
  (l.zip (List.range l.length)).map fun e => if at_ e.2 then v else e.1

/-- The framing bit expected in frame `n` of a DS1 superframe; none: the bit is no part of the alignment signal. -/
def ds1Bit (esf : Bool) (n : Nat) : Option Bool :=
  if esf then (if n % 4 = 3 then some (fpsBits.getD (n / 4 % 6) false) else none) else some (sfBits.getD (n % 12) false)

/-! ## DS1 (R380) -/

/-- The places, as a bit offset and a frame number, at which the last `need` frames show no framing error. -/
def ds1Places (esf : Bool) (periods : List (List Bool)) : List (Nat × Nat) :=
  let need := if esf then 96 else 24
  let len := if esf then 24 else 12
  if periods.length < need then []
  else
    let h := periods.drop (periods.length - need)
    (List.range 193).flatMap fun o =>
      let bits := h.map fun p => p.getD o false
      ((List.range len).filter fun p => (bits.zip (List.range need)).all fun e =>
        match ds1Bit esf (p + e.2) with
        | some b => e.1 = b
        | none => true).map fun p => (o, (p + need) % len)

/-- Whether the CRC-6 bits of the extended superframe just received, whose frame 22 is the latest, disagree with the
superframe before. -/
def esfBlockBad (o : Nat) (periods : List (List Bool)) : Bool :=
  let h := (periods.drop (periods.length - 46)).flatten
  let block := maskBits (fun i => i % 193 = 0) true (bitSlice h o (24 * 193))
  let got := (List.range 6).foldl (fun a i => 2 * a + b2n (h.getD ((24 + 4 * i + 1) * 193 + o) false)) 0
  crcBits 6 block ≠ got

/-- What one frame period of bits tells: framing-bit errors and failed CRC blocks, with the framer after. -/
def ds1Step (esf : Bool) (x : Framer) (bits : List Bool) (pick : Nat) : Framer × Nat × Nat :=
  let periods := (x.periods ++ [bits]).drop (x.periods.length + 1 - 97)
  match x.offset with
  | none =>
    let l := ds1Places esf periods
    match l[pick % maxN 1 l.length]? with
    | some (o, n) => ({ Framer.hunt with periods, offset := some o, frame := n, blocks := 0 }, 0, 0)
    | none => ({ Framer.hunt with periods }, 0, 0)
  | some o =>
    let wrong := match ds1Bit esf x.frame with
      | some b => some (bits.getD o false != b)
      | none => none
    let errs := (wrong.toList ++ x.errs).take 4
    let fe := b2n (wrong.getD false)
    if 2 ≤ (errs.filter id).length then (Framer.hunt, fe, 0)
    else
      let check := esf && x.frame = 21
      let ce := b2n (check && esfBlockBad o periods)
      ({ x with periods, errs, frame := (x.frame + 1) % (if esf then 24 else 12) }, fe, ce)

/-! ## E1 (R380) -/

/-- Timeslot 0 of the frame whose octet is the latest complete one, `back` frames before it, at bit offset `o`. -/
def e1Octet (periods : List (List Bool)) (o back : Nat) : List Bool :=
  let h := (periods.drop (periods.length - 4)).flatten
  bitSlice h ((if o ≤ 248 then 768 else 512) + o - 256 * back) 8

def isFas (octet : List Bool) : Bool := octet.drop 1 = fasBits

/-- The bit offsets at which a frame alignment signal, its absence in the next frame, and the signal again are found. -/
def e1Places (periods : List (List Bool)) : List Nat :=
  if periods.length < 4 then []
  else (List.range 256).filter fun o =>
    isFas (e1Octet periods o 2) && (e1Octet periods o 1).getD 1 false && isFas (e1Octet periods o 0)

/-- Whether the first bits of the latest frames without the signal, newest first, end two multiframe alignment signals
that lie a whole number of multiframes apart, within 8 ms. -/
def multiframeFound (first : List Bool) : Bool :=
  let hit (m : Nat) : Bool := bitSlice first m 6 = fpsBits.reverse
  hit 0 && (hit 8 || hit 16 || hit 24)

/-- Whether the CRC-4 bits of the submultiframe just received, whose seventh frame is the latest, disagree with the one
before. -/
def smfBlockBad (o : Nat) (periods : List (List Bool)) : Bool :=
  let back := if o ≤ 248 then 15 else 16
  let h := (periods.drop (periods.length - back)).flatten
  let block := maskBits (fun i => i % 512 = 0) false (bitSlice h o 2048)
  let got := (List.range 4).foldl (fun a i => 2 * a + b2n (h.getD (2048 + 512 * i + o) false)) 0
  crcBits 4 block ≠ got

/-- E1 with its multiframe where the framing has one. -/
def e1Step (crc : Bool) (x : Framer) (bits : List Bool) (pick : Nat) : Framer × Nat × Nat :=
  let periods := (x.periods ++ [bits]).drop (x.periods.length + 1 - 97)
  match x.offset with
  | none =>
    let l := e1Places periods
    match l[pick % maxN 1 l.length]? with
    | some o => ({ Framer.hunt with periods, offset := some o, frame := 1 }, 0, 0)
    | none => ({ Framer.hunt with periods }, 0, 0)
  | some o =>
    let octet := e1Octet periods o 0
    if x.frame % 2 = 0 then
      let wrong := ((octet.drop 1).zip fasBits).countP fun e => e.1 != e.2
      let errs := (decide (wrong ≠ 0) :: x.errs).take 3
      let check := crc && x.multi && x.frame % 8 = 6
      let bad := check && smfBlockBad o periods
      let blocks := if !check then x.blocks else if x.blocks = 999 then 0 else x.blocks + 1
      let failed := if check && blocks = 0 then 0 else x.failed + b2n bad
      if errs = [true, true, true] || 915 ≤ x.failed + b2n bad then (Framer.hunt, wrong, b2n bad)
      else ({ x with periods, errs, blocks, failed, frame := (x.frame + 1) % 16 }, wrong, b2n bad)
    else
      let first := ((octet.getD 0 false) :: x.first).take 32
      let x := { x with periods, first, frame := (x.frame + 1) % 16 }
      if !crc || x.multi then (x, 0, 0)
      else if multiframeFound first then ({ x with multi := true, frame := 12, blocks := 0, failed := 0 }, 0, 0)
      else if first.length = 32 then (Framer.hunt, 0, 0)
      else (x, 0, 0)

/-- One frame period through a framer; `pick` chooses among places that fit equally. -/
def framerStep (framing : BitVec 2) (x : Framer) (bits : List Bool) (pick : Nat) : Framer × Nat × Nat :=
  match framing.toNat with
  | 0 => ds1Step false x bits pick
  | 1 => ds1Step true x bits pick
  | 2 => e1Step false x bits pick
  | _ => e1Step true x bits pick

/-- Out of frame; with CRC-4 framing, also while the multiframe is not found. -/
def Framer.lost (x : Framer) (framing : BitVec 2) : Bool := x.offset.isNone || (framing = 3 && !x.multi)

/-! ## Generated framing (R390) -/

/-- The bits of a byte, most significant first. -/
def octetBits (b : Byte) : List Bool := (List.range 8).map fun i => b.getLsbD (7 - i)

/-- Bit `i` of the HDLC flag 0x7E. -/
def flagBit (i : Nat) : Bool := (0x7E : Byte).getLsbD (7 - i % 8)

/-- Bit `i` of an `n`-bit check value, most significant first. -/
def checkBit (n v i : Nat) : Bool := v.testBit (n - 1 - i)

/-- The next DS1 frame around its 24 octets. -/
def ds1Frame (esf : Bool) (g : Gen) (slots : List Byte) : Gen × List Bool :=
  let n := g.frame
  let body := slots.flatMap octetBits
  if !esf then ({ g with frame := (n + 1) % 12 }, sfBits.getD (n % 12) false :: body)
  else
    let link := n % 2 = 0
    let f := if link then flagBit g.link else if n % 4 = 1 then checkBit 6 g.crc (n / 4) else fpsBits.getD (n / 4) false
    let block := g.block ++ (true :: body)
    let done := n = 23
    ({ frame := (n + 1) % 24, link := if link then (g.link + 1) % 8 else g.link
       crc := if done then crcBits 6 block else g.crc, block := if done then [] else block }, f :: body)

/-- The next E1 frame: timeslot 0 is generated, the others carry their octets. -/
def e1Frame (crc : Bool) (g : Gen) (slots : List Byte) : Gen × List Bool :=
  let n := g.frame
  let body := (slots.drop 1).flatMap octetBits
  let rest := if n % 2 = 0 then fasBits else true :: false :: List.replicate 5 true
  let first := if !crc then true else if n % 2 = 0 then checkBit 4 g.crc (n % 8 / 2) else if n < 12 then fpsBits.getD (n / 2) false else true
  let block := g.block ++ ((if n % 2 = 0 then false else first) :: rest ++ body)
  let done := n % 8 = 7
  ({ g with frame := (n + 1) % 16, crc := if crc && done then crcBits 4 block else g.crc
            block := if !crc || done then [] else block }, first :: rest ++ body)

def genFrame (framing : BitVec 2) (g : Gen) (slots : List Byte) : Gen × List Bool :=
  match framing.toNat with
  | 0 => ds1Frame false g slots
  | 1 => ds1Frame true g slots
  | 2 => e1Frame false g slots
  | _ => e1Frame true g slots

end Sys2Proof.Machine
end

