-- ==== Sys2Proof/Machine/CesOps.lean ====
section
/-! DEFINITION. Circuit emulation: slot streams, the packetiser, the jitter buffer, playout and slips (Circuit Emulation
for DS1 and E1). -/

namespace Sys2Proof.Machine

def cesAddr (k w : Nat) : Nat := addrOf 0x60 (0x10000 + 64 * k + w)
def cesCtr (k j : Nat) : Nat := cesAddr k (32 + 2 * j)
def malformedSs : Nat := addrOf 0x60 0x100
def State.trib (s : State) (k : Nat) : Trib := mget Trib.none s.ces.tribs k
def State.setTrib (s : State) (k : Nat) (x : Trib) : State :=
  { s with ces := { s.ces with tribs := mput Trib.none s.ces.tribs k x } }
def State.modTrib (s : State) (k : Nat) (f : Trib → Trib) : State := s.setTrib k (f (s.trib k))

/-- The tributary is enabled and PD_CES is on. -/
def State.tribRuns (s : State) (k : Nat) : Bool := s.cfgB (cesAddr k 0) 0 && s.domOn 11

/-! ## Configuration (R392, Table CES-3) -/

/-- A tributary's fields. -/
structure CesCfg where
  framing : BitVec 2
  cesopsn : Bool
  clock : Nat
  rtp : Bool
  aisOnLof : Bool
  frames : Nat
  satop : Nat
  depth : Nat
  mask : Word
deriving DecidableEq, Repr

def cesCfgOf (w0 w1 w3 : Word) : CesCfg :=
  { framing := BitVec.ofNat 2 (fld w0 1 2), cesopsn := bit w0 3, clock := fld w0 4 2, rtp := bit w0 6, aisOnLof := bit w0 7
    frames := fld w0 8 7, satop := fld w0 15 11, depth := fld w1 0 12, mask := w3 }

def State.ces_ (s : State) (k : Nat) : CesCfg := cesCfgOf (s.cfg (cesAddr k 0)) (s.cfg (cesAddr k 1)) (s.cfg (cesAddr k 3))

/-- F: the frame length in bits. -/
def CesCfg.frameBits (g : CesCfg) : Nat := if g.framing.toNat < 2 then 193 else 256
/-- The timeslots of TS_MASK, rising, numbered from 0 at the first octet of the frame. -/
def CesCfg.slots (g : CesCfg) : List Nat := (List.range 32).filter fun i => bit g.mask i
/-- Payload bytes of a packet. -/
def CesCfg.payload (g : CesCfg) : Nat := if g.cesopsn then g.frames * g.slots.length else g.satop
/-- P as a ratio (R385). -/
def CesCfg.period (g : CesCfg) : Nat × Nat := if g.cesopsn then (g.frames, 1) else (g.satop * 8, g.frameBits)
/-- C and D0. -/
def CesCfg.capacity (g : CesCfg) : Nat := 2 * g.depth * g.period.2 / maxN 1 g.period.1
def CesCfg.target (g : CesCfg) : Nat := g.depth * g.period.2 / maxN 1 g.period.1

/-- The checks of a write of ENABLE = 1 (R392). [DEDUCED, unsafe: log 95] -/
def CesCfg.enableOk (g : CesCfg) : Bool :=
  g.payload ≤ 1024 && !(g.cesopsn && g.mask = 0) &&
    (if g.framing.toNat < 2 then fld g.mask 24 8 = 0 else !bit g.mask 0) &&
    24 ≤ g.satop && g.satop ≤ 1024 && 2 * g.period.1 ≤ g.depth * g.period.2 && g.capacity ≤ 4096

/-! ## Bits -/

/-- The bits of bytes, most significant first. -/
def bitsOf (b : List Byte) : List Bool := b.flatMap octetBits

/-- Bits as bytes, the first in bit 7, the last byte padded with zeros. -/
def packBits : Nat → List Bool → List Byte
  | 0, _ => []
  | n + 1, l =>
    BitVec.ofNat 8 ((List.range 8).foldl (fun a i => 2 * a + b2n (l.getD i false)) 0) :: packBits n (l.drop 8)

def onesBytes (n : Nat) : List Byte := List.replicate n 0xFF
def onesBits (n : Nat) : List Bool := List.replicate n true

/-! ## From the host (R377, R378, R380) -/

def pCes (k : Nat) : Nat := put 32 7 k

/-- Run the upstream framer over one frame period of bits. -/
def State.upFramer (s : State) (k : Nat) (bits : List Bool) : State :=
  let g := s.ces_ k
  let x := s.trib k
  let (pick, s) := s.fresh
  let (st, fe, ce) := framerStep g.framing x.framer bits pick
  let lof := st.lost g.framing
  let s := s.setTrib k { x with framer := st, upLof := lof }
  let s := (s.bump (cesCtr k 13) fe).bump (cesCtr k 14) ce
  s.raiseIf (lof ≠ x.upLof) 0x0B02 (put 62 1 (b2n lof) + pCes k + s.tickLow)

/-- The frames that a gap in SEQ leaves out, all ones, pass the framer before the next one (R377). -/
def State.upGap (s : State) (k : Nat) : Nat → State
  | 0 => s
  | n + 1 => (s.upFramer k (onesBits (s.ces_ k).frameBits)).upGap k n

/-- Clear SS_LOSS (R378). -/
def State.ssBack (s : State) (k : Nat) : State :=
  if (s.trib k).ssLoss then (s.modTrib k fun x => { x with ssLoss := false }).raise 0x0B03 (pCes k + s.tickLow) else s

/-- A slot-stream frame towards the device. [DESIGN CHOICE, safe: log 83] -/
def State.slotStream (s : State) (k : Nat) (b : List Byte) : State :=
  if !s.domOn 11 then s
  else
    let g := s.ces_ k
    if b.length ≠ (if g.frameBits = 193 then 29 else 36) then s.bump malformedSs 1
    else if !s.tribRuns k then s
    else
      let s := s.ssBack k
      let x := s.trib k
      let seq := b.getD 0 0
      let gap := match x.ssSeq with | some last => (seq - last - 1).toNat | none => 0
      let bits := (bitsOf (b.drop 4)).take g.frameBits
      let fill := onesBits (gap * g.frameBits - x.owed)
      let s := s.setTrib k { x with ssSeq := some seq, hostLos := (b.getD 1 0).getLsbD 0
                                    owed := 0, lineBits := x.lineBits ++ fill ++ bits }
      let s := (s.upGap k gap).upFramer k bits
      s.bumpIf (s.trib k).upLof (cesCtr k 15) 1

/-! ## The packetiser (R381 to R383) -/

/-- The control word of RFC 4553 and RFC 5086: L, R, M, FRG, LEN, SEQ in network order. -/
def controlWord (l r : Bool) (len : Nat) (seq : BitVec 16) : List Byte :=
  [BitVec.ofNat 8 (8 * b2n l + 4 * b2n r), BitVec.ofNat 8 (len % 64), seq.extractLsb' 8 8, seq.extractLsb' 0 8]

def beBytes (n v : Nat) : List Byte := (leBytes n v).reverse

/-- Octet `i` of a frame of line bits (after the DS1 framing bit). -/
def octetAt (f : Nat) (frame : List Bool) (i : Nat) : Byte :=
  (packBits 1 (slice frame ((if f = 193 then 1 else 0) + 8 * i) 8)).headD 0

/-- The timeslots of n aligned frames, in order. -/
def alignedSlots (g : CesCfg) : Nat → List Bool → List Byte
  | 0, _ => []
  | n + 1, l => (g.slots.map (octetAt g.frameBits (l.take g.frameBits))) ++ alignedSlots g n (l.drop g.frameBits)

/-- The bytes of CES_TX_HDR in use. -/
def State.txHdr (s : State) (k : Nat) : List Byte :=
  ((List.range 16).flatMap fun i => wordBytes (s.cfg (cesAddr k (16 + i)))).take (s.cfgF (cesAddr k 1) 20 7)

/-- The payload of the next packet with its L bit, and the bits it uses; none: not enough bits yet. Line bits are held up to
the end of a frame period, which places the first of them in its period. -/
def takePayload (g : CesCfg) (x : Trib) : Option (List Byte × Bool × Nat) :=
  let bits := if g.cesopsn then g.frames * g.frameBits else g.satop * 8
  let fail := x.ssLoss || x.hostLos || (g.cesopsn && x.upLof)
  let skip := if g.cesopsn && !fail then (x.framer.offset.getD 0 + x.lineBits.length) % g.frameBits else 0
  if fail then some (onesBytes g.payload, true, minN bits x.lineBits.length)
  else if x.lineBits.length < skip + bits then none
  else
    let l := x.lineBits.drop skip
    some (if g.cesopsn then alignedSlots g g.frames l else packBits g.satop (l.take bits), false, skip + bits)

/-- Build one upstream packet and hand it to admission (R381, R383); one that a FIFO fault has spoilt is not sent (R25).
[DESIGN CHOICE, unsafe: log 162] -/
def State.packetBuild (s : State) (k : Nat) : State :=
  let g := s.ces_ k
  let x := s.trib k
  match takePayload g x with
  | none => s
  | some (payload, l, used) =>
    let rtpLen := if g.rtp then 12 else 0
    let total := 4 + rtpLen + payload.length
    let cw := controlWord l x.lops (if total < 64 then total else 0) x.seqTx
    let ts := x.rtpBase + BitVec.ofNat 32 (x.txBits / g.frameBits)
    let rtp := if g.rtp then [0x80, BitVec.ofNat 8 (s.cfgF (cesAddr k 2) 16 7)] ++ beBytes 2 x.seqTx.toNat ++ beBytes 4 ts.toNat ++
        beBytes 4 (s.cfg (cesAddr k 6)).toNat else []
    let bytes := s.txHdr k ++ cw ++ rtp ++ payload
    let bits := if g.cesopsn then g.frames * g.frameBits else g.satop * 8
    let s := s.setTrib k { x with seqTx := x.seqTx + 1, lineBits := x.lineBits.drop used, owed := x.owed + (bits - used)
                                  txBits := x.txBits + bits }
    if s.spoilt 7 1 then (s.unspoil 7 1).bump (cesCtr k 1) 1
    else match poolForSize bytes.length with
    | none => s.bump (cesCtr k 1) 1
    | some pool =>
      match s.takeCell pool 0x03 false with
      | (none, s) => s.bump (cesCtr k 1) 1
      | (some c, s) =>
        let flow := s.cfgF (cesAddr k 5) 0 18
        let p : Packet := { kind := 2, index := BitVec.ofNat 9 k, xgemPort := BitVec.ofNat 16 (flowPort (s.cfg (flowAddr flow)))
                            colour := 0, bytes, cells := [(pool, c)], creditCh := none, flow := some flow }
        ((s.bump (cesCtr k 0) 1).passAll 0x03 0x06 p.cells).admitTo (s.cfgF (cesAddr k 4) 0 16) p

/-! ## The jitter buffer (R384 to R387) -/

/-- A received packet's fields: SEQ, L, R and payload; none: malformed. -/
def State.pwParse (s : State) (k : Nat) (b : List Byte) : Option (BitVec 16 × Bool × Bool × List Byte) :=
  let g := s.ces_ k
  let hdr := s.cfgF (cesAddr k 2) 0 7
  let rtp := if g.rtp then 12 else 0
  let body := b.drop hdr
  if body.length < 4 + rtp then none
  else
    let b0 := body.getD 0 0
    let len := (body.getD 1 0).toNat % 64
    let rest := body.drop (4 + rtp)
    let n := if len = 0 then rest.length else len - (4 + rtp)
    if n ≠ g.payload || rest.length < n || (len ≠ 0 && len < 4 + rtp) then none
    else some (BitVec.ofNat 16 (beNat (slice body 2 2)), b0.getLsbD 3, b0.getLsbD 2, rest.take n)

/-- LOPS clears after LOPS_CLEAR consecutive packets in sequence. -/
def State.lopsSeq (s : State) (k : Nat) (seq : BitVec 16) : State :=
  let x := s.trib k
  let n := if seq = x.lastSeq + 1 then x.inSeq + 1 else 1
  let s := s.setTrib k { x with inSeq := n, lastSeq := seq }
  if x.lops && n ≥ s.cfgF (cesAddr k 1) 16 4 then
    (s.modTrib k fun x => { x with lops := false }).raise 0x0B01 (pCes k + s.tickLow)
  else s

/-- Store a packet at its position. -/
def State.jbStore (s : State) (k : Nat) (seq : BitVec 16) (p : JPos) : State :=
  (s.modTrib k fun x => { x with jb := mput none x.jb seq.toNat (some p) }).bump (cesCtr k 2) 1

/-- Place a packet in the jitter buffer (R385). -/
def State.jbPlace (s : State) (k : Nat) (seq : BitVec 16) (p : JPos) : State :=
  let g := s.ces_ k
  let x := s.trib k
  let d := (seq - x.nextPlay).toNat
  if !x.playing && x.jb = [] then
    ((s.modTrib k fun x => { x with nextPlay := seq, timer := true }).jbStore k seq p).lopsSeq k seq
  else if d ≥ 32768 || (mget none x.jb seq.toNat).isSome then s.bump (cesCtr k 4) 1
  else if d < g.capacity then (s.jbStore k seq p).lopsSeq k seq
  else
    let next := seq - BitVec.ofNat 16 g.target
    let keep (i : Nat) : Bool := decide ((BitVec.ofNat 16 i - next).toNat < 32768)
    let s := s.modTrib k fun x => { x with nextPlay := next, jb := x.jb.filter fun e => keep e.1 }
    let s := (s.bump (cesCtr k 7) 1).raise 0x0B04 (put 61 1 1 + pCes k + s.tickLow)
    (s.jbStore k seq p).lopsSeq k seq

/-- A received pseudowire packet (R384). -/
def State.pwReceive (s : State) (k : Nat) (b : List Byte) : State :=
  match s.pwParse k b with
  | none => s.bump (cesCtr k 5) 1
  | some (seq, l, r, payload) =>
    let s := s.modTrib k fun x => { x with lRx := l, rRx := r }
    let s := (s.bumpIf l (cesCtr k 11) 1).bumpIf r (cesCtr k 12) 1
    s.jbPlace k seq { data := if l then onesBytes payload.length else payload, l }

/-! ## Playout (R386, R388 to R391) -/

/-- The timeslots of one frame out of n in a payload. -/
def framesOf (per : Nat) : Nat → List Byte → List (List Byte)
  | 0, _ => []
  | n + 1, b => b.take per :: framesOf per n (b.drop per)

/-- Hand a position's content on: SAToP as one run of bits, CESoPSN as frames; lost positions and L = 1 are AIS. -/
def State.playContent (s : State) (k : Nat) (data : List Byte) (ais : Bool) : State :=
  let g := s.ces_ k
  let items := if g.cesopsn then (framesOf g.slots.length g.frames data).map fun f => (f, ais) else [(data, ais)]
  s.modTrib k fun x => { x with toPlay := x.toPlay ++ items }

/-- One position is due. [DEDUCED, unsafe: log 96] -/
def State.playPosition (s : State) (k : Nat) : State :=
  let x := s.trib k
  let g := s.ces_ k
  match mget none x.jb x.nextPlay.toNat with
  | some p => (s.setTrib k { x with jb := mput none x.jb x.nextPlay.toNat none, nextPlay := x.nextPlay + 1 }).playContent k p.data p.l
  | none =>
    if x.jb ≠ [] then
      ((s.setTrib k { x with nextPlay := x.nextPlay + 1 }).bump (cesCtr k 3) 1).playContent k (onesBytes g.payload) true
    else
      ((s.setTrib k { x with playing := false, toPlay := [], playOff := 0, slipBuf := [], lastFrame := none }).bump (cesCtr k 6) 1).raise 0x0B04 (pCes k + s.tickLow)

/-- Take n bits of SAToP content: the bits, and whether any come from an AIS position. -/
def takeBits : Nat → Nat → List (List Byte × Bool) → Option (List Bool × Bool × List (List Byte × Bool) × Nat)
  | n, off, [] => if n = 0 then some ([], false, [], off) else none
  | n, off, (b, a) :: r =>
    let have_ := b.length * 8 - off
    if n < have_ then some (slice (bitsOf b) off n, a && n ≠ 0, (b, a) :: r, off + n)
    else match takeBits (n - have_) 0 r with
      | some (l, a', r', o) => some ((bitsOf b).drop off ++ l, a || a', r', o)
      | none => none

/-- Whether a frame has an order of Table CES-2 that replaces its content by unframed all ones. -/
def CesCfg.allOnes (g : CesCfg) (x : Trib) : Bool := x.lops || (!g.cesopsn && x.monLof && g.aisOnLof)

/-- The timeslot octets of a frame: those of TS_MASK from the content, 0xFF elsewhere (R390). -/
def CesCfg.octets (g : CesCfg) (content : List Byte) : List Byte :=
  (List.range (if g.frameBits = 193 then 24 else 32)).map fun i =>
    if bit g.mask i then content.getD ((g.slots.takeWhile (fun j => decide (j < i))).length) 0xFF else 0xFF

/-- A frame of a position by the rows of Table CES-2, for CESoPSN that is playing. -/
def CesCfg.chosen (g : CesCfg) (x : Trib) (e : List Byte × Bool) : PlayFrame :=
  if g.allOnes x then { content := [], ais := true, unframed := true }
  else { content := if e.2 then [] else e.1, ais := e.2, unframed := false }

/-- A slip buffer stands between the jitter buffer and the transmit clock (R389). [DEDUCED, unsafe: log 96] -/
def CesCfg.slips (g : CesCfg) : Bool := g.cesopsn && g.clock ≠ 1

/-- Frames that are due pass Table CES-2 into the slip buffer, which holds two. [DEDUCED, unsafe: log 96] -/
def slipFill (g : CesCfg) (x : Trib) : Trib :=
  let n := 2 - x.slipBuf.length
  { x with slipBuf := x.slipBuf ++ (x.toPlay.take n).map (g.chosen x), toPlay := x.toPlay.drop n }

/-- A frame as it leaves: what the monitor framer sees of it, the line bits, whether it is AIS, and the tributary after. -/
structure Played where
  received : List Bool
  bits : List Bool
  ais : Bool
  after : Trib
deriving DecidableEq, Repr

/-- A CESoPSN frame with the framing that the device generates, which goes on whatever the content (R390). -/
def playFrame (g : CesCfg) (c : PlayFrame) (x : Trib) : Played :=
  let (st, bits) := genFrame g.framing x.generator (g.octets c.content)
  { received := [], bits := if c.unframed then onesBits g.frameBits else bits, ais := c.ais
    after := { x with lastFrame := some c, generator := st } }

/-- The next frame towards the tributary; none: nothing is due (R389 to R391). [DEDUCED, unsafe: log 95] -/
def nextFrame (g : CesCfg) (x : Trib) : Option Played :=
  if g.cesopsn then
    if !x.playing then some { received := [], bits := onesBits g.frameBits, ais := true, after := x }
    else if g.slips then
      let x := slipFill g x
      match x.slipBuf with
      | [] => none
      | c :: r => some (playFrame g c { x with slipBuf := r })
    else match x.toPlay with
      | [] => none
      | e :: r => some (playFrame g (g.chosen x e) { x with toPlay := r })
  else if !x.playing then none
  else match takeBits g.frameBits x.playOff x.toPlay with
    | none => none
    | some (bits, ais, r, off) =>
      let x := { x with toPlay := r, playOff := off }
      let ones := g.allOnes x || ais
      some { received := bits, bits := if ones then onesBits g.frameBits else bits, ais := ones, after := x }

/-- The monitor framer checks the received bits of what SAToP replays (R390). -/
def State.monitorFrame (s : State) (k : Nat) (bits : List Bool) : State :=
  let g := s.ces_ k
  let x := s.trib k
  if g.cesopsn then s
  else
    let (pick, s) := s.fresh
    let (st, _) := framerStep g.framing x.monitor bits pick
    let lof := st.lost g.framing
    let s := s.setTrib k { x with monitor := st, monLof := lof }
    s.raiseIf (lof ≠ x.monLof) 0x0B02 (put 62 1 (b2n lof) + put 61 1 1 + pCes k + s.tickLow)

/-- NCO_PPM after a frame: 0 on the system clock, within 200 ppm when adaptive, the line's own otherwise (R388).
[DEDUCED, unsafe: log 96] -/
def State.ncoUpdate (s : State) (k : Nat) : State :=
  match (s.ces_ k).clock with
  | 0 => s.modTrib k fun x => { x with ncoPpm := 0 }
  | 1 => let (f, s) := s.fresh; s.modTrib k fun x => { x with ncoPpm := BitVec.ofInt 12 ((f % 4001 : Nat) - 2000) }
  | _ => let (f, s) := s.fresh; s.modTrib k fun x => { x with ncoPpm := BitVec.ofNat 12 f }

/-- A slip of one whole frame (R389): a drop where the slip buffer is full and another frame is due, a repeat where it is empty
and none is. [DEDUCED, unsafe: log 96] -/
def State.slip (s : State) (k : Nat) (drop : Bool) : State :=
  let x := slipFill (s.ces_ k) (s.trib k)
  let y : Trib := if drop then { x with toPlay := x.toPlay.drop 1 } else { x with slipBuf := x.lastFrame.toList }
  let go : Bool := if drop then x.toPlay ≠ [] else x.slipBuf = [] && x.lastFrame.isSome
  if !go then s
  else
    let s := (s.setTrib k y).bump (cesCtr k (if drop then 9 else 8)) 1
    let quiet := match x.slipAt with | some t => decide (s.tick.number.toNat < t.toNat + 8000) | none => false
    if quiet then s
    else (s.modTrib k fun x => { x with slipAt := some s.tick.number }).raise 0x0B05 (put 61 1 (b2n drop) + pCes k + s.tickLow)

/-- A tributary plays, with its clocks running (Table FAULT-4). -/
def State.plays (s : State) (k : Nat) : Bool := (s.trib k).playing && !s.fault.clockGroups.getLsbD 7

/-- A slot-stream frame leaves towards the host (R379, R391); the last one is repeated where the slip buffer would empty (R389).
[DEDUCED, unsafe: log 96] -/
def State.slotSend (s : State) (k : Nat) : State :=
  let g := s.ces_ k
  let s := if g.slips && s.plays k then s.slip k false else s
  let t := s.trib k
  match nextFrame g { t with playing := s.plays k } with
  | none => s
  | some p =>
    let x := p.after
    let s := s.setTrib k { x with aisTx := p.ais, ssTxSeq := x.ssTxSeq + 1, playing := t.playing }
    let s := (s.bumpIf p.ais (cesCtr k 10) 1).monitorFrame k p.received
    let s := s.ncoUpdate k
    let d := [x.ssTxSeq, if p.ais then 1 else 0, 0, 0] ++ packBits ((g.frameBits + 7) / 8) p.bits
    match s.sendFrame (512 + k) 0 d with
    | some s => s
    | none => s.modLink fun a => { a with cesWait := a.cesWait ++ [(BitVec.ofNat 7 k, d)] }

/-! ## Start and stop -/

/-- A tributary starts: a random SEQ, and an RTP timestamp base and a first check value that the manual leaves open.
[DEDUCED, unsafe: log 95] -/
def State.tribStart (s : State) (k : Nat) : State :=
  let (f, s) := s.fresh
  let (g, s) := s.fresh
  let (c, s) := s.fresh
  s.setTrib k { Trib.none with seqTx := BitVec.ofNat 16 f, rtpBase := BitVec.ofNat 32 g, slipAt := (s.trib k).slipAt
                               generator := { Gen.start with crc := c % 64 } }

/-- A tributary stops; the spacing of its CES_SLIP events goes on (R389). [DEDUCED, unsafe: log 95] -/
def State.tribStop (s : State) (k : Nat) : State := s.setTrib k { Trib.none with slipAt := (s.trib k).slipAt }

/-- Entry of PD_CES: every enabled tributary restarts (R394). -/
def State.cesEntry (s : State) : State :=
  (List.range 128).foldl (fun s k => if s.cfgB (cesAddr k 0) 0 then s.tribStart k else s) s

/-- Exit of PD_CES: the block's state goes, the frames that wait for credit among it; CUSTODIAN reclaims the cells. -/
def State.cesExit (s : State) : State :=
  { s with ces := { tribs := [], rx := [] }, alink := { s.alink with cesWait := [] } }

/-! ## Writes and reads -/

/-- A field that may change only while ENABLE = 0 is a whole word, or is held to its value in a word beside others (R392). -/
def checkCes (s : State) (f : Found) (v : Word) : Nat :=
  let ok (b : Bool) : Nat := if b then 0 else 5
  let k := f.ix.getD 0 0
  let on := s.cfgB (cesAddr k 0) 0
  match f.obj, f.w with
  | .cesCfg, 0 =>
    let old := s.cfg (cesAddr k 0)
    ok (fld v 4 2 ≠ 3 && 1 ≤ fld v 8 7 && fld v 8 7 ≤ 64 && (!on || (fld v 1 6 = fld old 1 6 && fld v 8 18 = fld old 8 18)))
  | .cesCfg, 1 =>
    let old := s.cfg (cesAddr k 1)
    ok (2 ≤ fld v 0 12 && fld v 0 12 ≤ 2048 && 1 ≤ fld v 12 4 && 1 ≤ fld v 16 4 && fld v 20 7 ≤ 64 &&
      (!on || (fld v 0 12 = fld old 0 12 && fld v 20 7 = fld old 20 7)))
  | .cesCfg, 2 => ok (fld v 0 7 ≤ 64 && 1 ≤ fld v 8 8 && (!on || fld v 0 7 = s.cfgF (cesAddr k 2) 0 7))
  | .cesCfg, 3 => ok (!on)
  | .cesTxHdr, _ => ok (!on)
  | _, _ => 0

/-- The state that a whole write leaves may be enabled (R392). -/
def finalCes (s : State) (f : Found) : Nat :=
  let k := f.ix.getD 0 0
  match f.obj, f.w with
  | .cesCfg, 0 => if s.cfgB (cesAddr k 0) 0 && !(s.ces_ k).enableOk then 5 else 0
  | _, _ => 0

def applyCes (s : State) (f : Found) (old v : Word) : State :=
  let k := f.ix.getD 0 0
  match f.obj, f.w with
  | .cesCfg, 0 =>
    let s := if bit v 0 && !bit old 0 && s.domOn 11 then s.tribStart k else s
    if !bit v 0 && bit old 0 then s.tribStop k else s
  | _, _ => s

def readCes (s : State) (f : Found) : Option Word :=
  let x := s.trib (f.ix.getD 0 0)
  match f.obj with
  | .cesStatus => some (BitVec.ofNat 32 (put 0 1 (b2n x.upLof) + put 1 1 (b2n x.ssLoss) + put 2 1 (b2n x.lops) +
      put 3 1 (b2n x.aisTx) + put 4 1 (b2n x.lRx) + put 5 1 (b2n x.rRx) + put 6 1 (b2n x.playing) + put 7 1 (b2n x.monLof) +
      put 8 12 (sat 4095 x.jb.length) + put 20 12 x.ncoPpm.toNat))
  | _ => none

end Sys2Proof.Machine
end

