-- ==== Sys2Proof/Machine/EthOps.lean ====
section
/-! DEFINITION. Ethernet ports: states, holds, wake times, counters, flow control, the receive checks, transmission and
MACsec, with the checks, effects and reads of ETH objects (Ethernet Ports). -/

namespace Sys2Proof.Machine

def State.setEthPort (s : State) (e : Nat) (x : EthPort) : State :=
  { s with eth := { s.eth with ports := mput EthPort.reset s.eth.ports e x } }
def State.modEth (s : State) (e : Nat) (f : EthPort → EthPort) : State := s.setEthPort e (f (ethPort s e))

/-- Count on counter k of a port, and on its accumulation (R350). -/
def ethRc (e k : Nat) : Nat := ethAddr e (0x400 + 2 * k)
def ethAcc (e k : Nat) : Nat := ethAddr e (0x800 + 2 * k)
def State.bumpEth (s : State) (e k n : Nat) : State := (s.bump (ethRc e k) n).bump (ethAcc e k) n

def pEth (e : Nat) : Nat := put 62 2 e
def ethCode : EthState → Nat
  | .down => 0 | .an => 1 | .train => 2 | .linkWait => 3 | .up => 4 | .loop => 5

def State.kr4 (s : State) : Bool := s.cfgB (addrOf 0x50 0) 0
/-- The port exists under the lane grouping (R329). -/
def State.ethExists (s : State) (e : Nat) : Bool := e = 0 || !s.kr4
def State.ethCfgB (s : State) (e i : Nat) : Bool := s.cfgB (ethAddr e 0) i

/-! ## Frames in transmission -/

/-- The frame in transmission has left (RFC-sized counts of Table ETH-5); in a loop it returns to the receiver (R347).
[DESIGN CHOICE, safe: log 88] -/
def State.txDone (s : State) (e : Nat) : State :=
  match (ethPort s e).txFrame with
  | none => s
  | some d =>
    let s := s.modEth e fun x => { x with txFrame := none, returned := if x.state = .loop then x.returned ++ [d] else x.returned }
    let s := (s.bumpEth e 18 1).bumpEth e 19 (maxN 64 (d.length + 4))
    s.emit (.ethernet (BitVec.ofNat 2 e) d)

/-- The port leaves UP: whether the frame in transmission was still on the line is the moment's, a free value (R333).
[DESIGN CHOICE, safe: log 88] -/
def State.txCut (s : State) (e : Nat) : State :=
  if (ethPort s e).txFrame.isNone then s
  else
    let (f, s) := s.fresh
    if f % 2 = 0 then s.txDone e else (s.modEth e fun x => { x with txFrame := none }).bumpEth e 23 1

/-! ## Wake times (R343) -/

/-- The resolved wake times of a port. -/
def State.wakeTimes (s : State) (e : Nat) : BitVec 16 × BitVec 16 :=
  let x := ethPort s e
  let least := Config.eeeMinTw x.rateActive.toNat
  let orLeast (v : Nat) : BitVec 16 := if v = 0 then least else BitVec.ofNat 16 v
  let rx := orLeast (s.cfgF (ethAddr e 6) 16 16)
  let tx := if s.cfgB (ethAddr e 6) 1 then (if least < x.partnerTw then x.partnerTw else least)
    else orLeast (s.cfgF (ethAddr e 7) 0 16)
  (tx, rx)

/-- Resolve the wake times, reporting a change. -/
def State.eeeResolve (s : State) (e : Nat) : State :=
  let x := ethPort s e
  let (tx, rx) := s.wakeTimes e
  if x.txTw = tx && x.rxTw = rx then s
  else (s.modEth e fun x => { x with txTw := tx, rxTw := rx }).raise 0x0904 (pEth e + put 32 16 tx.toNat + s.tickLow)

/-! ## States (Table ETH-2) -/

/-- A change of holds: credits and tags are brought up to the moment around it. -/
def State.holdChange (s : State) (e : Nat) (f : EthPort → EthPort) : State :=
  let (now, s) := s.instant
  s.nodeTouch (8704 + e) now |>.modEth e f |>.requalify (8704 + e) now

/-- Enter a port state. `cause` is the ETH_LINK_DOWN cause of an exit from UP. -/
def State.setEth (s : State) (e : Nat) (t : EthState) (cause : Nat) : State :=
  let old : EthState := (ethPort s e).state
  if old = t then s
  else
    let s := if old = .up then s.txCut e else s.txDone e
    let s := s.modEth e fun x => { x with state := t }
    let quiet (x : EthPort) : EthPort :=
      { x with paused := false, pfcHeld := 0, lpiTx := false, lpiRx := false, xoffSent := false, lldpDue := false }
    let s := if old = .up then s.holdChange e quiet else s.modEth e fun x => { x with returned := [], xoffSent := false }
    let s := s.raise 0x0901 (pEth e + put 57 3 (ethCode t) + put 54 3 (ethCode old) + s.tickLow)
    let s := if t = .up then
        let x := ethPort s e
        (s.raise 0x0902 (pEth e + put 48 2 x.rateActive.toNat + put 46 2 x.fecActive.toNat + s.tickLow)).eeeResolve e
      else s
    s.raiseIf (old = .up && t ≠ .loop) 0x0903 (pEth e + put 48 2 cause + s.tickLow)

/-- Where a port goes from DOWN, from a failed LINK_WAIT and from a lost link. -/
def State.ethStart (s : State) (e : Nat) : EthState := if s.ethCfgB e 4 then .an else .train

/-- The conditions that let a port leave DOWN. -/
def State.ethMayRun (s : State) (e : Nat) : Bool := s.ethCfgB e 0 && !s.ethCfgB e 6 && s.domOn 10 && s.ethExists e &&
  !s.fault.clockPorts.getLsbD e

/-- The reset of one port exposes its group, and flushes the streams of that port (R26, Table TICK-5). -/
def State.exposePort (s : State) (e : Nat) : State := s.exposeStream 5 fun k => k % 4 = e

/-- Leave a loop, reporting it. -/
def State.ethUnloop (s : State) (e : Nat) : State :=
  if (ethPort s e).loopKind = 0 then s
  else ((s.modEth e fun x => { x with loopKind := 0 }).raise 0x0907 (pEth e + s.tickLow)).exposePort e

/-- The rate and FEC that a port's configuration gives (R329 to R331). -/
def State.ethRates (s : State) (e : Nat) : State :=
  let rate : BitVec 2 := if s.kr4 then 2 else if s.ethCfgB e 1 then 1 else 0
  s.modEth e fun x => { x with rateActive := rate, fecActive := BitVec.ofNat 2 (s.cfgF (ethAddr e 0) 2 2) }

/-- Bring a port's state up to date with its conditions; `cause` is the reason where it goes DOWN. -/
def State.ethSettle (s : State) (e cause : Nat) : State :=
  if s.ethMayRun e then
    if (ethPort s e).state = .down then (s.ethRates e).setEth e (s.ethStart e) 0 else s
  else (s.setEth e .down cause).ethUnloop e

/-- The transmit stream of a port runs: in UP, and in a loop (Table ETH-2, R347). [DEDUCED, unsafe: log 150] -/
def State.ethSends (s : State) (e : Nat) : Bool := (ethPort s e).state = .up || (ethPort s e).state = .loop

/-- FEC_CORRECTED and FEC_UNCORRECTED of a port whose FEC runs: how many codewords since the tick before is the line's, a free
value (Table ETH-5). [DESIGN CHOICE, safe: log 137] -/
def State.fecTick (s : State) (e : Nat) : State :=
  if !s.ethSends e || (ethPort s e).fecActive = 0 then s
  else
    let (a, s) := s.fresh
    let (b, s) := s.fresh
    (s.bumpEth e 26 a).bumpEth e 27 b

/-- Pass through DOWN and start again (R332, R333). -/
def State.ethRestartPort (s : State) (e : Nat) : State := ((s.setEth e .down 1).ethUnloop e).ethSettle e 1

/-! ## Flow control (R339, R340) -/

/-- Pad a frame to 64 bytes with its FCS (R335). -/
def padded (b : List Byte) : List Byte := b ++ List.replicate (60 - b.length) 0

/-- A MAC control frame of 64 bytes with its FCS: opcode and parameters after the addresses. -/
def controlFrame (params : List Byte) : List Byte :=
  padded ([0x01, 0x80, 0xC2, 0, 0, 0x01, 0, 0, 0, 0, 0, 0, 0x88, 0x08] ++ params)

def be16 (v : BitVec 16) : List Byte := [v.extractLsb' 8 8, v.extractLsb' 0 8]

/-- [DEDUCED, unsafe: log 86] -/
def pauseFrame (quanta : BitVec 16) : List Byte := controlFrame ([0, 1] ++ be16 quanta)

/-- [DEDUCED, unsafe: log 86] -/
def pfcFrame (vec : Byte) (quanta : List (BitVec 16)) : List Byte :=
  controlFrame ([1, 1, 0, vec] ++ ((List.range 8).flatMap fun p => be16 (quanta.getD p 0)))

/-- Bytes that wait for a first pass on a port. -/
def State.ethWaiting (s : State) (e : Nat) : Nat :=
  sumN ((s.cls.ingress.filter fun p => p.kind = 3 && p.index.toNat = e).map fun p => p.bytes.length)

/-- Send a PAUSE or PFC frame with some quanta, as FC_MODE selects, after the frame in transmission (R340); in a loop it returns
(R347). -/
def State.sendPause (s : State) (e quanta : Nat) : State :=
  let mode := s.cfgF (ethAddr e 4) 0 2
  let mask := if mode = 2 then s.cfgF (ethAddr e 4) 11 8 else 0
  let q := BitVec.ofNat 16 quanta
  let frame := if mode = 2 then pfcFrame (BitVec.ofNat 8 mask) (List.replicate 8 q) else pauseFrame q
  let back (x : EthPort) : EthPort := { x with lpiTx := false, returned := if x.state = .loop then x.returned ++ [frame] else x.returned }
  let s := (s.txDone e).modEth e back
  (s.bumpEth e (if mode = 2 then 21 else 20) 1).emit (.control (BitVec.ofNat 2 e) (BitVec.ofNat 8 mask) (BitVec.ofNat 16 quanta))

/-- XOFF and XON, as the waiting bytes cross their thresholds; a port that sends neither has none outstanding (R340).
[DEDUCED, unsafe: log 72] -/
def State.fcCheck (s : State) (e : Nat) : State :=
  let mode := s.cfgF (ethAddr e 4) 0 2
  let s := if s.cfgB (ethAddr e 4) 2 && mode ≠ 0 then s else s.modEth e fun x => { x with xoffSent := false }
  let w := s.ethWaiting e
  let on := s.ethSends e && s.cfgB (ethAddr e 4) 2 && mode ≠ 0
  let xoff := 1024 * s.cfgF (ethAddr e 5) 16 8
  let xon := 1024 * s.cfgF (ethAddr e 5) 24 8
  if !on then s
  else if !(ethPort s e).xoffSent && w ≥ xoff then
    (s.modEth e fun x => { x with xoffSent := true }).sendPause e (s.cfgF (ethAddr e 5) 0 16)
  else if (ethPort s e).xoffSent && w < xon then (s.modEth e fun x => { x with xoffSent := false }).sendPause e 0
  else s

/-- Act on a PAUSE frame (R338, R339). -/
def State.pauseIn (s : State) (e : Nat) (quanta : BitVec 16) : State :=
  let s := s.bumpEth e 9 1
  if s.cfgF (ethAddr e 4) 0 2 = 1 && (ethPort s e).state = .up then s.holdChange e fun x => { x with paused := quanta ≠ 0 } else s

/-- The priorities held after a PFC frame. -/
def pfcAfter (held : BitVec 8) (vec honoured : Nat) (quanta : List (BitVec 16)) : BitVec 8 :=
  (List.range 8).foldl (fun h p =>
    if vec.testBit p && honoured.testBit p then withBit h p ((quanta.getD p 0) ≠ 0) else h) held

/-- Act on a PFC frame. -/
def State.pfcIn (s : State) (e : Nat) (vec : Byte) (quanta : List (BitVec 16)) : State :=
  let s := s.bumpEth e 10 1
  let honoured := s.cfgF (ethAddr e 4) 3 8
  if s.cfgF (ethAddr e 4) 0 2 = 2 && (ethPort s e).state = .up then
    s.holdChange e fun x => { x with pfcHeld := pfcAfter x.pfcHeld vec.toNat honoured quanta }
  else s

/-! ## Receive (R335 to R338) -/

/-- The size counter of a frame (Table ETH-5). -/
def sizeCounter (n : Nat) : Nat :=
  if n ≤ 64 then 11 else if n ≤ 127 then 12 else if n ≤ 255 then 13 else if n ≤ 511 then 14 else if n ≤ 1023 then 15
  else if n ≤ 1518 then 16 else 17

/-- The destination address, first octet in bits [7:0]. -/
def dstOf (b : List Byte) : Nat := leNat (b.take 6)
def isBcast (b : List Byte) : Bool := dstOf b = 0xFFFFFFFFFFFF
def isMcast (b : List Byte) : Bool := (pktBit b && !isBcast b)
where pktBit (b : List Byte) : Bool := (b.getD 0 0).getLsbD 0

/-- Count a frame that arrived whole, FCS good, of n bytes FCS included. [DEDUCED, unsafe: log 85] -/
def State.countRx (s : State) (e n : Nat) (b : List Byte) : State :=
  let s := (s.bumpEth e 0 1).bumpEth e 1 n
  let s := if isBcast b then s.bumpEth e 2 1 else s
  let s := if isMcast b then s.bumpEth e 3 1 else s
  s.bumpEth e (sizeCounter n) 1

def isMacControl (b : List Byte) : Bool := beNat (slice b 12 2) = 0x8808
def isLldp (b : List Byte) : Bool := beNat (slice b 12 2) = 0x88CC
def hasSecTag (b : List Byte) : Bool := beNat (slice b 12 2) = 0x88E5

/-- The address filter (R336). -/
def State.ethPasses (s : State) (e : Nat) (b : List Byte) : Bool :=
  let hit := (List.range 16).any fun i =>
    s.cfgB (ethAddr e (0x11 + 2 * i)) 16 &&
      (s.cfg (ethAddr e (0x10 + 2 * i))).toNat + 2 ^ 32 * s.cfgF (ethAddr e (0x11 + 2 * i)) 0 16 = dstOf b
  hit || (isBcast b && s.cfgB (ethAddr e 3) 16) || (isMcast b && s.cfgB (ethAddr e 3) 15) || s.cfgB (ethAddr e 3) 14 ||
    (isMacControl b && beNat (b.take 6) = 0x0180C2000001) || (isLldp b && beNat (b.take 6) = 0x0180C200000E && s.cfgB (ethAddr e 6) 1)

/-- Write a frame into a P0 chain and queue it for its first pass (R286, R337). -/
def State.ethQueue (s : State) (e : Nat) (b : List Byte) : State :=
  if s.ethWaiting e + b.length > 262144 then
    let x := ethPort s e
    let s := (s.bumpEth e 8 1).modEth e fun x => { x with overflowRun := true }
    s.raiseIf (!x.overflowRun) 0x0905 (pEth e + s.tickLow)
  else
    let s := s.modEth e fun x => { x with overflowRun := false }
    let cells := (b.length + 2047) / 2048
    match State.buildChain 0 0x04 (s.cfgF (addrOf 0x40 0) 0 4) cells [] s with
    | (none, s) => s
    | (some cs, s) =>
      let p : Packet := { kind := 3, index := BitVec.ofNat 9 e, xgemPort := 0, colour := 0, bytes := b, cells := cs, creditCh := none, flow := none }
      let s := { s with cls := { s.cls with ingress := s.cls.ingress ++ [p] } }
      s.fcCheck e

/-- Walk an LLDPDU's TLVs to the EEE TLV (OUI 00-12-0F, subtype 5): the partner's requested receive wake time. -/
def lldpRxTw : Nat → List Byte → Option (BitVec 16)
  | 0, _ => none
  | n + 1, b =>
    let head := beNat (b.take 2)
    let len := head % 512
    if b.length < 2 || head / 512 = 0 then none
    else if head / 512 = 127 && len ≥ 8 && beNat (slice b 2 4) = 0x00120F05 then some (BitVec.ofNat 16 (beNat (slice b 8 2)))
    else lldpRxTw n (b.drop (2 + len))

/-- The agent reads a partner's EEE TLV (R343). -/
def State.lldpIn (s : State) (e : Nat) (tw : BitVec 16) : State :=
  if (ethPort s e).state = .up && s.cfgB (ethAddr e 6) 1 then (s.modEth e fun x => { x with partnerTw := tw }).eeeResolve e else s

/-! ## Transmission (R335, R346) -/

/-- A SecTAG. The frame is padded before its protection, so its secure data is never short and SL is 0 (IEEE 802.1AE). -/
def secTag (s : State) (e : Nat) (an : Nat) (pn : Nat) : List Byte :=
  let sci := s.cfgB (ethAddr e 0x40) 3
  [0x88, 0xE5, BitVec.ofNat 8 (0x0C + an + (if sci then 0x20 else 0)), 0] ++ (leBytes 4 pn).reverse ++
    (if sci then (leBytes 8 ((s.cfg (ethAddr e 0x44)).toNat + 2 ^ 32 * (s.cfg (ethAddr e 0x45)).toNat)).reverse else [])

/-- What the slot that an SA names offers: a slot outside the MACsec range is bound to another use and holds no SAK (R399). -/
def State.sakUse (s : State) (slot : Nat) : KeyUse := if slotKind slot = 4 then s.keyUse slot else .missing

/-- AES blocks of a protected frame with n bytes of secure data: its own, and the one that masks the ICV (R405, R406).
[DEDUCED, unsafe: log 163] -/
def gcmBlocks (n : Nat) : Nat := aesBlocks n + 1

/-- What the SecY makes of a frame to send: the frame as it goes, or none where no SA may protect it. -/
def State.secTx (s : State) (e : Nat) (b : List Byte) : Option (List Byte) × State :=
  if !s.cfgB (ethAddr e 0x40) 0 || isEapol b then (some b, s)
  else
    let an := s.cfgF (ethAddr e 0x46) 0 2
    let sa := s.cfg (ethAddr e (0x47 + an))
    let slot := fld sa 0 12
    let pnA := ethAddr e (0x50 + 2 * an)
    let pn := (s.cfg pnA).toNat + 2 ^ 32 * (s.cfg (pnA + 1)).toNat
    if bit sa 12 && s.sakUse slot = .ok && s.engineOn && pn + 1 < 2 ^ 64 then
      let sci := (s.cfg (ethAddr e 0x44)).toNat + 2 ^ 32 * (s.cfg (ethAddr e 0x45)).toNat
      let body := Config.gcmSeal (s.slot slot).key sci pn (b.take 12 ++ secTag s e an pn ++ b.drop 12)
      let s := (s.putCfg pnA (wordOf (pn + 1) 0)).putCfg (pnA + 1) (wordOf (pn + 1) 1)
      let s := (s.useKey slot (gcmBlocks (b.length - 12))).bumpEth e 35 1
      (some body, s.modEth e fun x => { x with noSaRun := false })
    else
      let run := (ethPort s e).noSaRun
      let s := (s.bumpEth e 36 1).modEth e fun x => { x with noSaRun := true }
      (none, s.raiseIf (!run) 0x0906 (pEth e + put 48 2 an + s.tickLow))

/-- A frame enters the MAC at a moment: padding, protection, the length check and the time-stamp (R335, R346,
R364). One that a FIFO fault has spoilt is discarded and counted (R25). [DEDUCED, safe: log 127] -/
def State.macSend (s : State) (e : Nat) (b : List Byte) (now : BitVec 64) : State :=
  let s := s.txDone e
  let max := s.cfgF (ethAddr e 3) 0 14
  if s.spoilt 5 (4 + e) then (s.unspoil 5 (4 + e)).bumpEth e 23 1
  else if (padded b).length + macsecExpansion s e b + 4 > max then s.bumpEth e 22 1
  else match s.secTx e (padded b) with
    | (none, s) => s
    | (some d, s) => (s.modEth e fun x => { x with txFrame := some d, lpiTx := false }).stampEth e false b (s.timeAt now)

/-! ## Received frames (R335 to R338, R345) -/

/-- The agent's LLDPDU: chassis ID (the MAC address of ETH_ADDR entry 0), port ID "E" and the port number, a TTL of 120 s and
the IEEE 802.3 EEE TLV, in the layouts of IEEE 802.1AB and 802.3 (R343). Its source address is the chassis ID. -/
def lldpdu (mac : List Byte) (e : Nat) (tx rx partner : BitVec 16) : List Byte :=
  [0x01, 0x80, 0xC2, 0, 0, 0x0E] ++ mac ++ [0x88, 0xCC] ++ [0x02, 7, 4] ++ mac ++
    [0x04, 3, Config.lldpPortSubtype, 0x45, BitVec.ofNat 8 (0x30 + e)] ++ [0x06, 2, 0, 120] ++
    [0xFE, 14, 0x00, 0x12, 0x0F, 5] ++ be16 tx ++ be16 rx ++ ((List.range 3).flatMap fun i => be16 (Config.lldpEeeRest (BitVec.ofNat 2 i) partner)) ++
    [0, 0]

/-- The agent sends its LLDPDU on a port that is UP, by way of the MAC; a PAUSE hold of the port keeps it waiting (R339,
R343). -/
def State.lldpSend (s : State) (e : Nat) : State :=
  let x := ethPort s e
  if x.state ≠ .up || !s.cfgB (ethAddr e 6) 1 then s
  else if x.paused then s.modEth e fun x => { x with lldpDue := true }
  else
    let mac : List Byte := leBytes 6 ((s.cfg (ethAddr e 0x10)).toNat + 2 ^ 32 * s.cfgF (ethAddr e 0x11) 0 16)
    let (now, s) := (s.modEth e fun x => { x with lldpDue := false }).instant
    s.macSend e (lldpdu mac e x.txTw x.rxTw x.partnerTw) now

/-- An LLDPDU that waited for a hold goes out when it ends. -/
def State.lldpHeld (s : State) (e : Nat) : State :=
  if (ethPort s e).lldpDue && !(ethPort s e).paused then s.lldpSend e else s

/-- The class-enable vector and the quanta of a PFC frame, and the quanta of a PAUSE frame (IEEE 802.3 annex 31).
[DEDUCED, unsafe: log 86] -/
def State.macControl (s : State) (e : Nat) (b : List Byte) : State :=
  match beNat (slice b 14 2) with
  | 0x0001 => (s.pauseIn e (BitVec.ofNat 16 (beNat (slice b 16 2)))).lldpHeld e
  | 0x0101 => s.pfcIn e (b.getD 17 0) ((List.range 8).map fun p => BitVec.ofNat 16 (beNat (slice b (18 + 2 * p) 2)))
  | _ => s

/-- A frame whose length and FCS are good: the address filter, MAC control, REQUIRE, the LLDP agent, the queue. In a loop no
LLDPDU goes on (R347). [DEDUCED, unsafe: log 85] -/
def State.ethAccept (s : State) (e : Nat) (b : List Byte) : State :=
  if !s.ethPasses e b then s.bumpEth e 7 1
  else if isMacControl b then s.macControl e b
  else if s.cfgB (ethAddr e 0x40) 1 && !hasSecTag b && !isEapol b then s.bumpEth e 34 1
  else if isLldp b && (s.cfgB (ethAddr e 6) 1 || (ethPort s e).state = .loop) then
    match lldpRxTw b.length (b.drop 14) with
    | some tw => s.lldpIn e tw
    | none => s
  else s.ethQueue e b

/-- The MAC takes a frame, whose bytes exclude the FCS. [DEDUCED, unsafe: log 85] -/
def State.ethTake (s : State) (e : Nat) (b : List Byte) (fcsOk : Bool) (count : BitVec 64) : State :=
  let n := b.length + 4
  if s.spoilt 5 e then (s.unspoil 5 e).bumpEth e 4 1
  else if n < 64 then s.bumpEth e 5 1
  else if s.cfgF (ethAddr e 3) 0 14 < n then s.bumpEth e 6 1
  else if !fcsOk then s.bumpEth e 4 1
  else ((s.countRx e n b).stampEth e true b (s.timeAt count)).ethAccept e b

/-- A frame arrives on ERX at a port that is UP; a loop ignores ERX (R347). [DEDUCED, unsafe: log 85, 150] -/
def State.ethFrame (s : State) (e : Nat) (b : List Byte) (fcsOk : Bool) (count : BitVec 64) : State :=
  if (ethPort s e).state ≠ .up then s else s.ethTake e b fcsOk count

def takeAll (e : Nat) : List (List Byte) → State → State
  | [], s => s
  | b :: r, s => let (now, s) := s.instant; takeAll e r (s.ethTake e b true now)

/-- What a port in a loop has sent comes back to its receiver (R347). [DEDUCED, unsafe: log 150] -/
def State.loopBack (s : State) (e : Nat) : State :=
  takeAll e (ethPort s e).returned (s.modEth e fun x => { x with returned := [] })

/-- At a tick: what was in transmission has left, a loop has returned it, and codewords have been counted. -/
def ethTicks : List Nat → State → State
  | [], s => s
  | e :: r, s => ethTicks r (((s.txDone e).loopBack e).fecTick e)

/-! ## MACsec receive (R345) -/

/-- The outcome of verifying a frame: the frame without SecTAG and ICV, the counter of the first check that failed, or a frame
that no engine or key may open (R406, R411). -/
inductive SecRx | ok (b : List Byte) | drop (k : Nat) | retired | noEngine
deriving DecidableEq, Repr

/-- The full packet number from its low 32 bits, next to LOWEST_PN (802.1AEbw). -/
def fullPn (lowest pn : Nat) : Nat :=
  let hi := lowest / 2 ^ 32
  if lowest % 2 ^ 32 ≥ 2 ^ 31 && pn < 2 ^ 31 then (hi + 1) * 2 ^ 32 + pn else hi * 2 ^ 32 + pn

def State.rxSci (s : State) (e i : Nat) : Nat :=
  (s.cfg (ethAddr e (0x100 + 8 * i))).toNat + 2 ^ 32 * (s.cfg (ethAddr e (0x101 + 8 * i))).toNat

/-- The receive SC of a frame: the one its SCI names, or the only one. -/
def State.rxSc (s : State) (e : Nat) (sci : Option Nat) : Option Nat :=
  let valid := (List.range 16).filter fun i => s.cfgB (ethAddr e (0x102 + 8 * i)) 0
  match sci with
  | some v => valid.find? fun i => s.rxSci e i = v
  | none => match valid with | [i] => some i | _ => none

/-- The SecTAG is well formed (R345, IEEE 802.1AE): version 0, E = C = 1, neither ES nor SCB with SC, an SL below 48 that is
the length of the secure data, or 0 where that is 48 or more. [PRESUMED, unsafe: log 138] -/
def tagOk (b : List Byte) (tagLen : Nat) : Bool :=
  let tci := (b.getD 14 0)
  let sl := (b.getD 15 0).toNat
  let data := b.length - (12 + tagLen + 16)
  hasSecTag b && !tci.getLsbD 7 && tci.getLsbD 3 && tci.getLsbD 2 && !(tci.getLsbD 5 && (tci.getLsbD 6 || tci.getLsbD 4)) &&
    12 + tagLen + 16 ≤ b.length && sl < 48 && (if sl = 0 then 48 ≤ data else data = sl)

def State.secRx (s : State) (e : Nat) (b : List Byte) : SecRx × State :=
  let tci := (b.getD 14 0).toNat
  let hasSci := tci / 32 % 2 = 1
  let tagLen := if hasSci then 16 else 8
  if !tagOk b tagLen then (.drop 29, s)
  else
    let sci := if hasSci then some (beNat (slice b 20 8)) else none
    match s.rxSc e sci with
    | none => (.drop 30, s)
    | some i =>
      let an := tci % 4
      let sa := s.cfg (ethAddr e (0x103 + 8 * i + an))
      let slot := fld sa 0 12
      let pnA := ethAddr e (0x200 + 8 * i + 2 * an)
      let lowest := (s.cfg pnA).toNat + 2 ^ 32 * (s.cfg (pnA + 1)).toNat
      let pn := fullPn lowest (beNat (slice b 16 4))
      if !bit sa 12 then (.drop 31, s)
      else if s.cfgB (ethAddr e 0x40) 2 && pn < lowest then (.drop 32, s)
      else if s.sakUse slot = .retired then (.retired, s)
      else if !s.engineOn then (.noEngine, s)
      else if s.sakUse slot = .missing then (.drop 33, s)
      else
        let s := s.useKey slot (gcmBlocks (b.length - (12 + tagLen + 16)))
        match Config.gcmOpen (s.slot slot).key (s.rxSci e i) pn b with
        | none => (.drop 33, s)
        | some d =>
          let window := (s.cfg (ethAddr e 0x41)).toNat
          let low := maxN lowest (pn + 1 - window)
          (.ok d, (s.putCfg pnA (wordOf low 0)).putCfg (pnA + 1) (wordOf low 1))

/-! ## Writes and reads -/

/-- The FEC values a port's mode permits (Table ETH-1). -/
def fecOk (s : State) (e rate fec : Nat) : Bool :=
  if s.kr4 && e = 0 then fec = 2 else if rate = 0 then fec < 2 else fec < 3

def ethLanePrbs (s : State) : Bool := [0, 1, 2, 3].any fun e => prbsRuns (s.prbs (0x100 + e))

def checkEth (s : State) (f : Found) (v : Word) : Nat :=
  let ok (b : Bool) : Nat := if b then 0 else 5
  let e := f.ix.getD 0 0
  match f.obj with
  | .ethGroup =>
    let changes := bit v 0 ≠ s.kr4
    let fec := s.cfgF (ethAddr 0 0) 2 2
    ok (!changes || (!([0, 1, 2, 3].any fun e => decide ((ethPort s e).state = .loop)) && !ethLanePrbs s &&
      (if bit v 0 then fec = 2 else (s.ethCfgB 0 1 || fec < 2))))
  | .ethCfg => ok (fecOk s e (fld v 1 1) (fld v 2 2))
  | .ethMac => ok (64 ≤ fld v 0 14 && fld v 0 14 ≤ 16000)
  | .ethFc => if f.w = 0 then ok (fld v 0 2 ≠ 3) else ok (fld v 16 8 ≠ 0 && fld v 24 8 ≤ fld v 16 8)
  | .ethEee => if f.w = 0 then ok (fld v 8 8 ≠ 0) else 0
  | _ => 0

def applyEth (s : State) (f : Found) (old v : Word) : State :=
  let e := f.ix.getD 0 0
  match f.obj with
  | .ethGroup =>
    if bit old 0 = bit v 0 then s
    else
      let s := [0, 1, 2, 3].foldl (fun s e => (s.setEth e .down 1).ethUnloop e) s
      ([0, 1, 2, 3].foldl (fun s e => s.ethSettle e 1) s).expose 5
  | .ethCfg =>
    let mode := old &&& 0x3E ≠ v &&& 0x3E
    if mode && bit old 0 && bit v 0 then (s.ethRestartPort e).exposePort e else s.ethSettle e 2
  | .ethCtl => if bit v 0 then s.ethRestartPort e else s
  | .ethFc => s.fcCheck e
  -- with EEE_EN = 0 the port does not use LPI (R341)
  | .ethEee =>
    let s := if s.cfgB (ethAddr e 6) 0 then s else s.modEth e fun x => { x with lpiTx := false, lpiRx := false }
    if (ethPort s e).state = .up then s.eeeResolve e else s
  | _ => s

def readEth (s : State) (f : Found) : Option Word :=
  let e := f.ix.getD 0 0
  let x := ethPort s e
  match f.obj with
  | .ethCtl => some 0
  | .ethStatus => some (BitVec.ofNat 32 (put 0 3 (ethCode x.state) + put 3 2 x.rateActive.toNat + put 5 2 x.fecActive.toNat +
      put 7 1 (b2n x.lpiTx) + put 8 1 (b2n x.lpiRx) + put 9 1 (b2n x.paused) + put 10 8 x.pfcHeld.toNat + put 18 2 x.loopKind.toNat))
  | .ethEeeStatus => some (x.rxTw ++ x.txTw)
  | _ => none

end Sys2Proof.Machine
end

