-- ==== Sys2Proof/Machine/ParseOps.lean ====
section
/-! DEFINITION. The parser: the headers of Table CLASS-1, the limits of R213, the conflicts of R214, fragments, and the
640-bit key of Table CLASS-3 with the payload patterns (Parsing and Classification, R211 to R218). -/

namespace Sys2Proof.Machine

/-- What stands at the parser's offset. -/
inductive Hdr
  | ethernet | vlan (tpid : Nat) | mpls | pppoe | ipv4 | ipv6 | ext (kind : Nat) | udp | tcp | sctp | gre | vxlan | ecpri
  | roe | sectag | stop | unlisted
deriving DecidableEq, Repr

/-- The key fields that headers fill (Table CLASS-3). -/
structure Fields where
  dmac : Nat := 0
  smac : Nat := 0
  etherType : Nat := 0
  tagCount : Nat := 0
  tag0Tpid : Nat := 0
  tag0Tci : Nat := 0
  tag1Tpid : Nat := 0
  tag1Tci : Nat := 0
  labelCount : Nat := 0
  label0 : Nat := 0
  tc0 : Nat := 0
  pppoe : Nat := 0
  l3Kind : Nat := 0
  sip : Nat := 0
  dip : Nat := 0
  dscp : Nat := 0
  ecn : Nat := 0
  proto : Nat := 0
  sport : Nat := 0
  dport : Nat := 0
  tcpFlags : Nat := 0
  svcKind : Nat := 0
  svcType : Nat := 0
  svcId : Nat := 0
deriving DecidableEq, Repr

/-- The FLAGS of Table CLASS-4 that parsing sets. -/
structure PFlags where
  truncated : Bool := false
  conflict : Bool := false
  isFrag : Bool := false
  firstFrag : Bool := false
  ttlLe1 : Bool := false
  options : Bool := false
  ext : Bool := false
  macsec : Bool := false
  csumBad : Bool := false
  unknownNext : Bool := false
deriving DecidableEq, Repr

/-- The parser at work: what it has filled, where it stands, what it has counted, and what it has passed. -/
structure Parse where
  f : Fields := {}
  g : PFlags := {}
  off : Nat := 0
  next : Hdr
  headers : Nat := 0
  tags : Nat := 0
  labels : Nat := 0
  exts : Nat := 0
  tunnel : Bool := false
  ethSeen : Bool := false
  l2Open : Bool := false
  stackSeen : Bool := false
  stackOpen : Bool := false
  pppSeen : Bool := false
  l3Seen : Bool := false
  l3Open : Bool := false
  l4Seen : Bool := false
  svcSeen : Bool := false
  ipEnd : Nat := 0
  ident : Nat := 0
  afterMpls : Option (Nat × Hdr) := none
  afterPpp : Option (Nat × Hdr) := none
  afterTunnel : Option (Nat × Hdr) := none
deriving DecidableEq, Repr

/-- CLASS_PARSE_CFG (Table CLASS-8). -/
structure ParseCfg where
  vxlan : Nat
  ecpri : Nat
  tpid : Nat
deriving DecidableEq, Repr

/-- Big-endian number of n bytes at an offset. -/
def beAt (b : List Byte) (i n : Nat) : Nat := beNat (slice b i n)

def byEtherType (t : Nat) : Hdr :=
  match t with
  | 0x8847 | 0x8848 => .mpls | 0x8864 => .pppoe | 0x0800 => .ipv4 | 0x86DD => .ipv6 | 0xAEFE => .ecpri | 0xFC3D => .roe
  | 0x88E5 => .sectag | _ => .unlisted

/-- The code of a TPID in the key; none: no tag follows. -/
def tpidCode (c : ParseCfg) (t : Nat) : Option Nat :=
  match t with
  | 0x8100 => some 0 | 0x88A8 => some 1 | 0x9100 => some 2
  | _ => if c.tpid ≠ 0 && t = c.tpid then some 3 else none

def byProto (p : Nat) : Hdr :=
  match p with
  | 17 => .udp | 6 => .tcp | 132 => .sctp | 47 => .gre | _ => .unlisted

def isExt (p : Nat) : Bool := p = 0 || p = 43 || p = 44 || p = 60

def byNextHeader (p : Nat) : Hdr := if isExt p then .ext p else byProto p

namespace Parse

/-- [DEDUCED, unsafe: log 69] -/
def truncate (p : Parse) : Parse := { p with next := .stop, g := { p.g with truncated := true } }
/-- [DEDUCED, unsafe: log 69] -/
def clash (p : Parse) : Parse := { p with next := .stop, g := { p.g with conflict := true } }

/-- Step over a recognised header. -/
def pass (p : Parse) (len : Nat) (next : Hdr) : Parse :=
  { p with off := p.off + len, next, headers := p.headers + 1 }

/-- The header of `len` bytes at the offset, under the 512-byte limit of R213 and ending by `bound` (R214). -/
def within (p : Parse) (len bound : Nat) (k : Parse) : Parse :=
  if p.off + len > 512 then p.truncate else if p.off + len > bound then p.clash else k

/-- After an EtherType: a tag, or the header it names. -/
def etherNext (c : ParseCfg) (t : Nat) : Hdr :=
  match tpidCode c t with
  | some k => .vlan k
  | none => byEtherType t

def ethernet (c : ParseCfg) (b : List Byte) (p : Parse) : Parse :=
  p.within 14 b.length
    (let fill := !p.ethSeen && !p.tunnel
     let t := beAt b (p.off + 12) 2
     let f := if fill then { p.f with dmac := beAt b p.off 6, smac := beAt b (p.off + 6) 6, etherType := t } else p.f
     { p with f, ethSeen := true, l2Open := fill }.pass 14 (etherNext c t))

def vlan (c : ParseCfg) (b : List Byte) (tpid : Nat) (p : Parse) : Parse :=
  if p.tags ≥ 4 then p.truncate
  else p.within 4 b.length
    (let tci := beAt b p.off 2
     let t := beAt b (p.off + 2) 2
     let f := if p.l2Open then
         let f := { p.f with etherType := t, tagCount := p.f.tagCount + 1 }
         match p.f.tagCount with
         | 0 => { f with tag0Tpid := tpid, tag0Tci := tci }
         | 1 => { f with tag1Tpid := tpid, tag1Tci := tci }
         | _ => f
       else p.f
     { p with f, tags := p.tags + 1 }.pass 4 (etherNext c t))

def mpls (b : List Byte) (p : Parse) : Parse :=
  if p.labels ≥ 8 then p.truncate
  else p.within 4 b.length
    (let w := beAt b p.off 4
     let first := !p.stackSeen && !p.tunnel
     let fill := first || p.stackOpen
     let f := if fill then { p.f with labelCount := p.f.labelCount + 1 } else p.f
     let f := if first then { f with label0 := w / 4096, tc0 := w / 512 % 8 } else f
     if w / 256 % 2 = 0 then { p with f, labels := p.labels + 1, stackSeen := true, stackOpen := fill }.pass 4 .mpls
     else
       let n := if p.off + 4 < b.length then beAt b (p.off + 4) 1 / 16 else 0
       let next : Hdr := if n = 4 then .ipv4 else if n = 6 then .ipv6 else .unlisted
       let layer := if p.afterMpls.isNone then some (p.off + 4, next) else p.afterMpls
       { p with f, labels := p.labels + 1, stackSeen := true, stackOpen := false, afterMpls := layer }.pass 4 next)

def pppoe (b : List Byte) (p : Parse) : Parse :=
  p.within 8 b.length
    (if beAt b (p.off + 4) 2 > b.length - p.off - 6 then p.clash
     else
       let fill := !p.pppSeen && !p.tunnel
       let proto := beAt b (p.off + 6) 2
       let next : Hdr := if proto = 0x0021 then .ipv4 else if proto = 0x0057 then .ipv6 else .unlisted
       let layer := if p.afterPpp.isNone then some (p.off + 8, next) else p.afterPpp
       let f := if fill then { p.f with pppoe := beAt b (p.off + 2) 2 } else p.f
       { p with f, pppSeen := true, afterPpp := layer }.pass 8 next)

/-- The one's-complement sum of 16-bit words, folded. -/
def onesSum : List Byte → Nat
  | a :: b :: r => let s := a.toNat * 256 + b.toNat + onesSum r; if s > 65535 then s - 65535 else s
  | _ => 0

def ipv4 (b : List Byte) (p : Parse) : Parse :=
  p.within 20 b.length
    (let ihl := beAt b p.off 1 % 16
     let hl := 4 * ihl
     let total := beAt b (p.off + 2) 2
     if ihl < 5 then p.clash
     else p.within hl b.length
      (if total < hl || total > b.length - p.off then p.clash
       else
         let fill := !p.l3Seen && !p.tunnel
         let tos := beAt b (p.off + 1) 1
         let fw := beAt b (p.off + 6) 2
         let fo := fw % 8192
         let frag := fw / 8192 % 2 = 1 || fo ≠ 0
         let proto := beAt b (p.off + 9) 1
         let f := if fill then { p.f with l3Kind := 1, sip := beAt b (p.off + 12) 4, dip := beAt b (p.off + 16) 4
                                          dscp := tos / 4, ecn := tos % 4, proto } else p.f
         let g := if fill then { p.g with isFrag := frag, firstFrag := frag && fo = 0, options := ihl > 5
                                          ttlLe1 := beAt b (p.off + 8) 1 ≤ 1
                                          csumBad := onesSum (slice b p.off hl) ≠ 65535 } else p.g
         let ident := if fill then beAt b (p.off + 4) 2 else p.ident
         let next : Hdr := if fo ≠ 0 then .stop else byProto proto
         { p with f, g, ident, l3Seen := true, l3Open := fill, ipEnd := p.off + total }.pass hl next))

def ipv6 (b : List Byte) (p : Parse) : Parse :=
  p.within 40 b.length
    (let len := beAt b (p.off + 4) 2
     if len = 0 || len > b.length - p.off - 40 then p.clash
     else
       let fill := !p.l3Seen && !p.tunnel
       let tc := beAt b p.off 2 / 16 % 256
       let nh := beAt b (p.off + 6) 1
       let f := if fill then { p.f with l3Kind := 2, sip := beAt b (p.off + 8) 16, dip := beAt b (p.off + 24) 16
                                        dscp := tc / 4, ecn := tc % 4, proto := nh } else p.f
       let g := if fill then { p.g with ttlLe1 := beAt b (p.off + 7) 1 ≤ 1 } else p.g
       { p with f, g, l3Seen := true, l3Open := fill, ipEnd := p.off + 40 + len }.pass 40 (byNextHeader nh))

def ext (b : List Byte) (kind : Nat) (p : Parse) : Parse :=
  if p.exts ≥ 4 then p.truncate
  else p.within 8 p.ipEnd
    (let nh := beAt b p.off 1
     let len := if kind = 44 then 8 else 8 * (beAt b (p.off + 1) 1 + 1)
     p.within len p.ipEnd
      (let fo := beAt b (p.off + 2) 2 / 8
       let f := if p.l3Open then { p.f with proto := nh } else p.f
       let g := if p.l3Open then { p.g with ext := true } else p.g
       let g := if p.l3Open && kind = 44 then { g with isFrag := true, firstFrag := fo = 0 } else g
       let ident := if p.l3Open && kind = 44 then beAt b (p.off + 4) 4 else p.ident
       let next : Hdr := if kind = 44 && fo ≠ 0 then .stop else byNextHeader nh
       { p with f, g, ident, exts := p.exts + 1 }.pass len next))

/-- Fill the ports of the transport header after the outermost IP header. -/
def ports (b : List Byte) (p : Parse) : Parse :=
  if p.l4Seen || p.tunnel then p
  else { p with l4Seen := true, f := { p.f with sport := beAt b p.off 2, dport := beAt b (p.off + 2) 2 } }

/-- [DEDUCED, unsafe: log 69] -/
def udp (c : ParseCfg) (b : List Byte) (p : Parse) : Parse :=
  p.within 8 p.ipEnd
    (let len := beAt b (p.off + 4) 2
     if len < 8 || p.off + len > p.ipEnd then p.clash
     else
       let dp := beAt b (p.off + 2) 2
       let next : Hdr := if dp = c.vxlan then .vxlan else if c.ecpri ≠ 0 && dp = c.ecpri then .ecpri else .unlisted
       (p.ports b).pass 8 next)

/-- [DEDUCED, unsafe: log 69] -/
def tcp (b : List Byte) (p : Parse) : Parse :=
  p.within 20 p.ipEnd
    (let d := beAt b (p.off + 12) 1 / 16
     if d < 5 then p.clash
     else p.within (4 * d) p.ipEnd
      (let fill := !p.l4Seen && !p.tunnel
       let q := p.ports b
       let f := if fill then { q.f with tcpFlags := beAt b (p.off + 13) 1 } else q.f
       { q with f }.pass (4 * d) .unlisted))

/-- [DEDUCED, unsafe: log 69] -/
def sctp (b : List Byte) (p : Parse) : Parse := p.within 12 p.ipEnd ((p.ports b).pass 12 .unlisted)

/-- Fill SVC from the outermost service header. -/
def svc (p : Parse) (kind type id : Nat) : Parse :=
  if p.svcSeen || p.tunnel then p
  else { p with svcSeen := true, f := { p.f with svcKind := kind, svcType := type, svcId := id } }

def gre (b : List Byte) (p : Parse) : Parse :=
  p.within 4 p.ipEnd
    (let fl := beAt b p.off 2
     let ck := fl / 32768 % 2
     let ke := fl / 8192 % 2
     let len := 4 + 4 * ck + 4 * ke + 4 * (fl / 4096 % 2)
     p.within len p.ipEnd
      (let key := if ke = 1 then beAt b (p.off + 4 + 4 * ck) 4 else 0
       let t := beAt b (p.off + 2) 2
       let next : Hdr := if t = 0x6558 then .ethernet else if t = 0x0800 then .ipv4 else if t = 0x86DD then .ipv6 else .unlisted
       let layer := if p.afterTunnel.isNone then some (p.off + len, next) else p.afterTunnel
       { p.svc 1 0 key with tunnel := true, l2Open := false, l3Open := false, afterTunnel := layer }.pass len next))

def vxlan (b : List Byte) (p : Parse) : Parse :=
  p.within 8 b.length
    (let layer := if p.afterTunnel.isNone then some (p.off + 8, Hdr.ethernet) else p.afterTunnel
     { p.svc 2 (beAt b p.off 1) (beAt b (p.off + 4) 3) with tunnel := true, l2Open := false, l3Open := false
                                                            afterTunnel := layer }.pass 8 .ethernet)

def ecpri (b : List Byte) (p : Parse) : Parse :=
  p.within 4 b.length ((p.svc 3 (beAt b (p.off + 1) 1) (beAt b (p.off + 4) 2)).pass 4 .stop)

def roe (b : List Byte) (p : Parse) : Parse :=
  p.within 8 b.length ((p.svc 4 (beAt b p.off 1) (beAt b (p.off + 1) 1)).pass 8 .stop)

def sectag (b : List Byte) (p : Parse) : Parse :=
  p.within 6 b.length
    (let tci := beAt b p.off 1
     let sc := tci / 32 % 2 = 1
     let len := if sc then 14 else 6
     p.within len b.length
      (let q := p.svc 5 tci (if sc then beAt b (p.off + 10) 4 else 0)
       let g := if p.tunnel then q.g else { q.g with macsec := true }
       { q with g }.pass len .stop))

/-- One header of the walk. -/
def header (c : ParseCfg) (b : List Byte) (p : Parse) : Parse :=
  match p.next with
  | .ethernet => p.ethernet c b
  | .vlan t => p.vlan c b t
  | .mpls => p.mpls b
  | .pppoe => p.pppoe b
  | .ipv4 => p.ipv4 b
  | .ipv6 => p.ipv6 b
  | .ext k => p.ext b k
  | .udp => p.udp c b
  | .tcp => p.tcp b
  | .sctp => p.sctp b
  | .gre => p.gre b
  | .vxlan => p.vxlan b
  | .ecpri => p.ecpri b
  | .roe => p.roe b
  | .sectag => p.sectag b
  | .unlisted => { p with next := .stop, g := { p.g with unknownNext := true } }
  | .stop => p

/-- The walk: at most 16 headers, the 17th truncates (R213). [DEDUCED, unsafe: log 69] -/
def walk (c : ParseCfg) (b : List Byte) : Nat → Parse → Parse
  | 0, p => p
  | n + 1, p =>
    match p.next with
    | .stop => p
    | .unlisted => p.header c b
    | _ => if p.headers ≥ 16 then p.truncate else walk c b n (p.header c b)

end Parse

def startHdr : StartHdr → Hdr
  | .ethernet => .ethernet | .ipv4 => .ipv4 | .ipv6 => .ipv6 | .other => .unlisted

def hdrStart : Hdr → StartHdr
  | .ethernet => .ethernet | .ipv4 => .ipv4 | .ipv6 => .ipv6 | _ => .other

/-- Parse a pass. -/
def parsePass (c : ParseCfg) (b : List Byte) (h : StartHdr) : Parse := Parse.walk c b 18 { next := startHdr h }

/-- A packet that is a later fragment of a datagram. -/
def Parse.later (p : Parse) : Bool := p.g.isFrag && !p.g.firstFrag

/-! ## Payload patterns (R216, R217) -/

/-- CLASS_PATTERN[P][q] word w. -/
def patAddr (plate : Nat) (q w : Nat) : Nat := addrOf 0x30 (0x10000 + 0x2000 * plate + 32 * q + w)

/-- Byte i of a stored run of words. -/
def State.cfgByte (s : State) (a i : Nat) : Nat := s.cfgF (a + i / 4) (8 * (i % 4)) 8

/-- The bytes at an offset equal the value under the mask. -/
def State.patAt (s : State) (plate q len : Nat) (d : List Byte) : Bool :=
  d.length ≥ len && (List.range len).all fun i =>
    let m := s.cfgByte (patAddr plate q 8) i
    (d.getD i 0).toNat &&& m = s.cfgByte (patAddr plate q 0) i &&& m

/-- Whether a pattern hits in the payload. -/
def State.patHit (s : State) (plate q : Nat) (payload : List Byte) : Bool :=
  let w := s.cfg (patAddr plate q 16)
  let len := fld w 0 6
  len ≠ 0 && (List.range (fld w 16 10 + 1 - fld w 6 10)).any fun k =>
    let o := fld w 6 10 + k
    o + len ≤ 1024 && s.patAt plate q len (payload.drop o)

/-- The patterns of a plate that hit, rising. -/
def State.patHits (s : State) (plate : Nat) (payload : List Byte) : List Nat :=
  (List.range 256).filter fun q => s.patHit plate q payload

/-! ## The key (Table CLASS-3) -/

/-- Where a pass comes from, and what it carries into its key. -/
structure PassIn where
  kind : Nat
  index : Nat
  port : Nat
  reason : Nat
  colour : Nat
  metaTag : Nat
deriving DecidableEq, Repr

def flagsWord (g : PFlags) (unmatched : Bool) : Nat :=
  put 0 1 (b2n g.truncated) + put 1 1 (b2n g.conflict) + put 2 1 (b2n g.isFrag) + put 3 1 (b2n g.firstFrag) +
  put 4 1 (b2n unmatched) + put 5 1 (b2n g.ttlLe1) + put 6 1 (b2n g.options) + put 7 1 (b2n g.ext) + put 8 1 (b2n g.macsec) +
  put 9 1 (b2n g.csumBad) + put 10 1 (b2n g.unknownNext)

/-- The 640-bit key as a number. -/
def keyOf (i : PassIn) (f : Fields) (flags : Nat) (hits : List Nat) : Nat :=
  put 637 3 i.kind + put 627 10 i.index + put 611 16 i.port + put 609 2 i.reason + put 607 2 i.colour + put 602 5 i.metaTag +
  put 586 16 flags + put 538 48 f.dmac + put 490 48 f.smac + put 487 3 f.tagCount + put 485 2 f.tag0Tpid +
  put 469 16 f.tag0Tci + put 467 2 f.tag1Tpid + put 451 16 f.tag1Tci + put 435 16 f.etherType + put 431 4 f.labelCount +
  put 411 20 f.label0 + put 408 3 f.tc0 + put 392 16 f.pppoe + put 390 2 f.l3Kind + put 262 128 f.sip + put 134 128 f.dip +
  put 128 6 f.dscp + put 126 2 f.ecn + put 118 8 f.proto + put 102 16 f.sport + put 86 16 f.dport + put 78 8 f.tcpFlags +
  put 75 3 f.svcKind + put 67 8 f.svcType + put 35 32 f.svcId + put 32 3 (sat 7 hits.length) + put 24 8 (hits.getD 0 0) +
  put 16 8 (hits.getD 1 0) + put 8 8 (hits.getD 2 0) + put 0 8 (hits.getD 3 0)

end Sys2Proof.Machine
end

