-- ==== Sys2Proof/Machine/ClassOps.lean ====
section
/-! DEFINITION. The classifier: lookup, actions, exceptions, plates, fragments and the disposal of a pass, with the
checks, effects and reads of CLASS objects (Parsing and Classification). -/

namespace Sys2Proof.Machine

def clsAddr (i : Nat) : Nat := addrOf 0x30 i
def clsCtr (j : Nat) : Nat := clsAddr (0x100 + 2 * j)
def ruleAddr (plate e w : Nat) : Nat := clsAddr (0x100000 * (1 + plate) + 64 * e + w)

def State.modCls (s : State) (f : ClassSt → ClassSt) : State := { s with cls := f s.cls }

/-- The parser's configuration. -/
def State.parseCfg (s : State) : ParseCfg :=
  { vxlan := s.cfgF (clsAddr 4) 0 16, ecpri := s.cfgF (clsAddr 4) 16 16, tpid := s.cfgF (clsAddr 5) 0 16 }

/-! ## Lookup (R219) -/

/-- The VALID entries of a plate, rising. -/
def State.validRules (s : State) (plate : Nat) : List Nat :=
  (s.words.filter fun e => ruleAddr plate 0 0 ≤ e.1 && e.1 < ruleAddr plate 16384 0 && (e.1 - ruleAddr plate 0 0) % 64 = 44 &&
    bit e.2 0).map fun e => (e.1 - ruleAddr plate 0 0) / 64

/-- An entry matches a key in every bit whose mask bit is 1. -/
def State.ruleMatches (s : State) (plate key e : Nat) : Bool :=
  (List.range 20).all fun w =>
    let m := s.cfg (ruleAddr plate e (20 + w))
    wordOf key w &&& m = s.cfg (ruleAddr plate e w) &&& m

/-- The winning entry: the matching one of lowest index. -/
def State.lookup (s : State) (plate key : Nat) : Option Nat := (s.validRules plate).find? fun e => s.ruleMatches plate key e

/-! ## Actions (R220, R221, Table CLASS-5) -/

/-- An action's words. -/
structure Act5 where
  cls : Option (BitVec 3)
  colour : Option (BitVec 2)
  queue : Option (BitVec 16)
  meter : Option (BitVec 16)
  counter : Option (BitVec 18)
  dispose : BitVec 2
  recircKind : BitVec 1
  decapLayer : BitVec 2
  metaTag : BitVec 5
deriving DecidableEq, Repr

/-- The action stored at an address. -/
def State.actionAt (s : State) (a : Nat) : Act5 :=
  let w0 := s.cfg a
  let w1 := s.cfg (a + 1)
  let w2 := s.cfg (a + 2)
  let opt {n : Nat} (set_ : Bool) (v : BitVec n) : Option (BitVec n) := if set_ then some v else none
  { cls := opt (bit w0 3) (w0.extractLsb' 0 3), colour := opt (bit w0 6) (w0.extractLsb' 4 2)
    queue := opt (bit w0 7) (w1.extractLsb' 0 16), meter := opt (bit w0 8) (w1.extractLsb' 16 16)
    counter := opt (bit w0 9) (w2.extractLsb' 0 18), dispose := w0.extractLsb' 10 2, recircKind := w0.extractLsb' 12 1
    decapLayer := w0.extractLsb' 13 2, metaTag := w0.extractLsb' 15 5 }

/-- The final action of a first pass: each field from the action, else from the base, else its default (R220). -/
def composeFirst (a : Option Act5) (base : Act5) (inColour : BitVec 2) : Action :=
  let pick {n : Nat} (f : Act5 → Option (BitVec n)) : Option (BitVec n) := (a.bind f).orElse fun _ => f base
  let d := a.getD base
  { cls := (pick (·.cls)).getD 0, colour := (pick (·.colour)).getD inColour, queue := pick (·.queue), meter := pick (·.meter)
    counter := pick (·.counter), dispose := d.dispose, recircKind := d.recircKind, decapLayer := d.decapLayer, metaTag := d.metaTag }

/-- The final action of a second pass: unset fields keep the first pass's (R221). -/
def composeSecond (a : Option Act5) (first : Action) : Action :=
  match a with
  | none => { first with dispose := 0 }
  | some a =>
    { cls := a.cls.getD first.cls, colour := a.colour.getD first.colour, queue := a.queue.orElse fun _ => first.queue
      meter := a.meter.orElse fun _ => first.meter, counter := a.counter.orElse fun _ => first.counter, dispose := a.dispose
      recircKind := a.recircKind, decapLayer := a.decapLayer, metaTag := a.metaTag }

/-- The lowest exception index whose flag is set (Table CLASS-6). -/
def exceptionOf (g : PFlags) (unmatched : Bool) : Option Nat :=
  if g.conflict then some 0 else if g.csumBad then some 1 else if unmatched then some 2 else if g.macsec then some 3
  else if g.truncated then some 4 else if g.unknownNext then some 5 else none

/-- A marked or corrupt winning entry drops the packet (R236). [DEDUCED, unsafe: log 71] -/
def State.ruleFails (s : State) (plate : Bool) (e : Nat) : Bool :=
  let k := (plate, BitVec.ofNat 14 e)
  s.cls.ruleBad.contains k || s.cls.ruleMarks.contains k

/-- Mark an entry, reporting it. `how`: 0 parity at lookup, 1 golden comparison. [DEDUCED, unsafe: log 71] -/
def State.markRule (s : State) (plate : Bool) (e how : Nat) : State :=
  let k := (plate, BitVec.ofNat 14 e)
  if s.cls.ruleMarks.contains k then s
  else (s.modCls fun c => { c with ruleMarks := c.ruleMarks ++ [k] }).raise 0x0503
    (put 63 1 (b2n plate) + put 62 1 how + put 32 14 e + s.tickLow)

/-- The action a lookup gives: none where the winning entry fails its parity. -/
inductive Looked | action (a : Option Act5) | parity
deriving DecidableEq, Repr

/-- Look a key up in a plate, with the exception rules (R219, R220, R225, R236). -/
def State.lookAction (s : State) (plate : Bool) (key : Nat) (g : PFlags) (unmatched : Bool) : Looked × State :=
  match s.lookup (b2n plate) key with
  | some e =>
    if s.ruleFails plate e then (.parity, (s.bump (clsCtr 14) 1).markRule plate e 0)
    else (.action (some (s.actionAt (ruleAddr (b2n plate) e 40))), s.bump (clsCtr 2) 1)
  | none =>
    match exceptionOf g unmatched with
    | some e => (.action (some (s.actionAt (clsAddr (0x20 + 4 * e)))), s.bump (clsCtr (16 + e)) 1)
    | none => (.action none, s.bump (clsCtr 3) 1)

/-! ## Fragments (R232 to R235) -/

/-- The fragment key of a pass. -/
def fragKey (i : PassIn) (p : Parse) : List Nat := [i.kind, i.index, p.f.l3Kind, p.f.sip, p.f.dip, p.f.proto, p.ident]

def State.flushOnCommit (s : State) : Bool := s.cfgB (clsAddr 0) 7

/-- The entry that a key finds; a carried one counts as absent under FLUSH_ON_COMMIT. -/
def State.fragFind (s : State) (k : List Nat) : Option Frag :=
  s.cls.frags.find? fun f => f.key = k && !(s.flushOnCommit && f.carried)

/-- Store a first fragment's action. -/
def State.fragStore (s : State) (k : List Nat) (a : Action) (plate : Bool) : State :=
  let s := s.bump (clsCtr 7) 1
  let rest := s.cls.frags.filter fun f => f.key ≠ k
  if rest.length ≥ 4096 then
    let run := s.cls.fragFullRun
    let s := (s.bump (clsCtr 10) 1).modCls fun c => { c with fragFullRun := true }
    s.raiseIf (!run) 0x0504 s.tickLow
  else
    let f : Frag := { key := k, act := a, plate, generation := s.cls.generation, carried := false, usedAt := s.tick.number }
    s.modCls fun c => { c with frags := rest ++ [f], fragFullRun := false }

/-- A later fragment uses its entry. -/
def State.fragUse (s : State) (k : List Nat) : State :=
  let touch (f : Frag) : Frag := if f.key = k then { f with usedAt := s.tick.number } else f
  (s.bump (clsCtr 8) 1).modCls fun c => { c with frags := c.frags.map touch }

/-! ## What a pass leads to -/

/-- Drop a packet, freeing its cells. -/
def State.dropPkt (s : State) (p : Packet) (counter : Nat) : State := (s.bump (clsCtr counter) 1).freeAll 0x06 p.cells

/-- The layer that a DECAP strips: its end and the header that remains (Table CLASS-5). -/
def decapPoint (p : Parse) (layer : BitVec 2) : Option (Nat × Hdr) :=
  match layer.toNat with
  | 0 => p.afterMpls
  | 1 => p.afterPpp
  | _ => p.afterTunnel

/-- Count a pass's bytes on the counter set that its action sets (R222). -/
def State.countAction (s : State) (set_ : Option (BitVec 18)) (bytes : Nat) : State :=
  match set_ with
  | some k => (s.bump (clsAddr (0x400000 + 4 * k.toNat)) 1).bump (clsAddr (0x400000 + 4 * k.toNat + 2)) bytes
  | none => s

/-- Dispose of a packet by the final action of a pass (R220 to R224). -/
def State.dispose (s : State) (x : InFlight) (p : Parse) (second : Bool) : State :=
  match x.act.dispose.toNat with
  | 0 =>
    match x.act.queue with
    | none => s.dropPkt x.pkt 15
    | some _ => s.modCls fun c => { c with toAdmit := c.toAdmit ++ [x] }
  | 1 => s.dropPkt x.pkt 4
  | _ =>
    if second || p.g.isFrag then s.dropPkt x.pkt 13
    else if x.act.recircKind = 1 then
      if x.pkt.kind = 3 && p.g.macsec then s.modCls fun c => { c with toDecrypt := c.toDecrypt ++ [x] } else s.dropPkt x.pkt 13
    else match decapPoint p x.act.decapLayer with
      | some (n, h) => s.modCls fun c => { c with toDecap := c.toDecap ++ [{ x with cut := n, start := hdrStart h }] }
      | none => s.dropPkt x.pkt 13

/-- The inputs of a packet's pass. -/
def passIn (k : Packet) (first : Option Action) : PassIn :=
  { kind := k.kind.toNat, index := k.index.toNat, port := k.xgemPort.toNat
    reason := match first with | none => 0 | some a => if a.recircKind = 1 then 2 else 1
    colour := match first with | none => k.colour.toNat | some a => a.colour.toNat
    metaTag := match first with | none => 0 | some a => a.metaTag.toNat }

/-- Count a pass's parse flags. -/
def State.countParse (s : State) (g : PFlags) : State :=
  (s.bumpIf g.truncated (clsCtr 5) 1).bumpIf g.conflict (clsCtr 6) 1

/-- One pass of the pipeline (R210 to R225, R232 to R234): `first` is the first pass's final action on a second pass. -/
def State.classify (s : State) (k : Packet) (plate : Bool) (start : StartHdr) (first : Option Action) : State :=
  let s := s.bump (clsCtr (match first with | none => 0 | some _ => 1)) 1
  let p := parsePass s.parseCfg k.bytes start
  let i := passIn k first
  let s := s.countParse p.g
  let key := fragKey i p
  let bytes := k.bytes.length
  let done (s : State) (a : Action) (set_ : Option (BitVec 18)) : State :=
    let s := s.countAction set_ bytes
    let x : InFlight := { pkt := { k with colour := a.colour }, plate, act := a, counted := bytes, cut := 0, start := .ethernet }
    s.dispose x p first.isSome
  match (if p.later then s.fragFind key else none) with
  | some f => done (s.fragUse key) f.act f.act.counter
  | none =>
    let unmatched := p.later
    let s := s.bumpIf unmatched (clsCtr 9) 1
    let hits := if p.g.truncated || p.g.conflict || p.later then [] else s.patHits (b2n plate) (k.bytes.drop p.off)
    match s.lookAction plate (keyOf i p.f (flagsWord p.g unmatched) hits) p.g unmatched with
    | (.parity, s) => s.freeAll 0x06 k.cells
    | (.action a, s) =>
      let final := match first with
        | none => composeFirst a (s.actionAt (clsAddr (0x10 + 4 * k.kind.toNat))) (BitVec.ofNat 2 i.colour)
        | some f => composeSecond a f
      -- a second pass counts on the set that its own action names, not on the one it has from the first (R221, R222)
      let set_ := match first with
        | none => final.counter
        | some _ => a.bind (·.counter)
      done (if p.g.firstFrag then s.fragStore key { final with counter := set_ } plate else s) final set_

/-! ## Plates (R227 to R231) -/

/-- A COMMIT_PLATE is accepted and not yet in effect. -/
def State.commitPending (s : State) : Bool :=
  s.cls.swapDue.isSome || s.waiting.any fun p => p.op = 0x10

/-- A packet stamped with the old plate awaits or is in its second pass. -/
def State.stampedOld (s : State) : Bool :=
  let old := !s.cls.active
  (s.cls.toDecap ++ s.cls.toDecrypt ++ s.cls.second).any fun x => x.plate = old

/-- The retiring plate retires when nothing stamped with it is left. -/
def State.retireIfClear (s : State) : State :=
  if s.cls.retiring && !s.stampedOld then
    let s' := s.modCls fun c => { c with retiring := false, stale := 0 }
    s'.raise 0x0502 (put 63 1 (b2n (!s.cls.active)) + put 32 16 (sat 65535 s.cls.stale) + s.tickLow)
  else s

/-- The swap (R228, R235). -/
def State.swapPlates (s : State) (plate : Bool) : State :=
  let carry (f : Frag) : Frag := { f with carried := true }
  let s := s.modCls fun c => { c with active := plate, retiring := true, swapDue := none, generation := c.generation + 1
                                      stale := 0, frags := c.frags.map carry }
  (s.raise 0x0501 (put 63 1 (b2n plate) + put 32 16 s.cls.generation.toNat + s.tickLow)).retireIfClear

/-- A plate's words: its rule and pattern addresses. -/
def inPlate (plate a : Nat) : Bool :=
  (ruleAddr plate 0 0 ≤ a && a < ruleAddr plate 16384 0) || (patAddr plate 0 0 ≤ a && a < patAddr plate 256 0)

/-- The address in the other plate that corresponds to one of plate `from_`. -/
def otherPlateAddr (from_ a : Nat) : Nat :=
  let step := if ruleAddr from_ 0 0 ≤ a && a < ruleAddr from_ 16384 0 then 0x100000 else 0x2000
  if from_ = 0 then a + step else a - step

/-- Copy the active plate into the inactive one (R231). -/
def State.copyPlate (s : State) : State :=
  let from_ := b2n s.cls.active
  let to_ := 1 - from_
  let src := s.words.filter fun e => inPlate from_ e.1
  let s := { s with words := s.words.filter fun e => !inPlate to_ e.1 }
  let s := src.foldl (fun s e => s.putCfg (otherPlateAddr from_ e.1) e.2) s
  s.modCls fun c => { c with ruleBad := c.ruleBad.filter fun k => b2n k.1 = from_ }

/-! ## Writes and reads -/

/-- The values an action word may take (R223). -/
def actionWordOk (w : Nat) (v : Word) : Bool :=
  match w with
  | 0 => fld v 4 2 ≠ 3 && fld v 10 2 ≠ 3 && fld v 13 2 ≠ 3 && fld v 20 12 = 0
  | 1 => true
  | 2 => fld v 18 14 = 0
  | _ => v = 0

/-- A write to a plate: refused on the active one, BUSY on the other while it is held (R227). -/
def State.plateCheck (s : State) (plate : Nat) (ok : Bool) : Nat :=
  if plate = b2n s.cls.active || !ok then 5
  else if s.commitPending || s.cls.copyBusy || s.cls.retiring then 1 else 0

def checkCls (s : State) (f : Found) (v : Word) : Nat :=
  let ok (b : Bool) : Nat := if b then 0 else 5
  let i := f.ix.getD 0 0
  match f.obj with
  | .classCfg => ok (1 ≤ fld v 0 7 && fld v 0 7 ≤ 64)
  | .classCtl => if bit v 0 && (s.commitPending || s.cls.copyBusy || s.cls.retiring) then 1 else 0
  | .classMiss | .classExc => ok (actionWordOk f.w v)
  | .classPattern => s.plateCheck i (f.w ≠ 16 || (fld v 0 6 ≤ 32 && fld v 6 10 ≤ fld v 16 10))
  | .classRule => s.plateCheck i (f.w < 40 || f.w = 44 || actionWordOk (f.w - 40) v)
  | _ => 0

def applyCls (s : State) (f : Found) (v : Word) : State :=
  match f.obj with
  | .classCtl => if bit v 0 then s.modCls fun c => { c with copyBusy := true } else s
  | _ => s

def readCls (s : State) (f : Found) : Option Word :=
  match f.obj with
  | .classCtl => some 0
  | .classStatus =>
    some (if f.ix.getD 0 0 = 0 then
      BitVec.ofNat 32 (put 0 1 (b2n s.cls.active) + put 1 1 (b2n s.cls.retiring) + put 2 1 (b2n s.cls.copyBusy) +
        put 3 1 (b2n s.commitPending) + put 4 1 (b2n (s.cls.ruleMarks ≠ [])) + put 16 16 s.cls.generation.toNat)
      else BitVec.ofNat 32 s.cls.frags.length)
  | _ => none

end Sys2Proof.Machine
end

