-- ==== Sys2Proof/Machine/PowerOps.lean ====
section
/-! DEFINITION. Power domains and votes, the power die, the safe state, resets, the boot and the image banks (Power
Domains, Reset and Start-Up). -/

namespace Sys2Proof.Machine

def pwrCtr (d k : Nat) : Nat := addrOf 0x70 (0x100 + 16 * d + 2 * k)
def sleepCfgAddr : Nat := addrOf 0x70 1
def fltCtr (j : Nat) : Nat := addrOf 0x78 (0x210 + 2 * j)
def State.modPower (s : State) (f : PowerSt → PowerSt) : State := { s with power := f s.power }
def State.modDom (s : State) (d : Nat) (f : Dom → Dom) : State := s.setDom d (f (s.dom d))

def domCode : DomSt → Nat
  | .off => 0 | .poweringUp => 1 | .on => 2 | .shuttingDown => 3 | .failed => 4

/-- Parents (Table PWR-1). -/
def parentOf (d : Nat) : Nat :=
  match d with
  | 2 | 4 | 7 | 9 | 10 | 11 => 6 | 3 => 2 | 5 => 4 | 6 => 8 | 8 | 12 => 1 | _ => 0

/-- The domains with children before parents. [DEDUCED, unsafe: log 105] -/
def domOrder : List Nat := [3, 5, 2, 4, 7, 9, 10, 11, 6, 8, 12, 1]
def childrenOf (d : Nat) : List Nat := domOrder.filter fun x => parentOf x = d
/-- The descendants of a domain, children first. -/
def below (d : Nat) : List Nat :=
  domOrder.filter fun x => x ≠ d && (parentOf x = d || parentOf (parentOf x) = d || parentOf (parentOf (parentOf x)) = d ||
    parentOf (parentOf (parentOf (parentOf x))) = d)

/-- Change a domain's state, reporting it (R478). -/
def State.setDomSt (s : State) (d : Nat) (t : DomSt) : State :=
  let old := (s.dom d).st
  if old = t then s
  else (s.modDom d fun x => { x with st := t }).raise 0x0D01 (put 60 4 d + put 57 3 (domCode t) + put 54 3 (domCode old) + s.tickLow)

/-! ## Votes (Table PWR-2) -/

/-- The tick source that software sees: the one selected last, which a channel that leaves SYNC outside its frames stops
being at once (R13). [DESIGN CHOICE, unsafe: log 124] -/
def State.sourceNow (s : State) : Src := s.tick.selected

/-- The votes that clients other than HOST and FW hold now. -/
def State.clientVotes (s : State) (d : Nat) : Nat :=
  let any (p : Vonu → Bool) : Bool := s.vonu.vonus.any fun e => p e.2
  let a := d = 2 || d = 3
  let b := d = 4 || d = 5
  let tick := match s.sourceNow with | .chan c => s.tick.started && d = rxDom c | .ref => false
  let time := d = 12 && (s.cfgF (timeAddr 0xA) 0 3 ≠ 0 || [0, 1, 2, 3, 4, 5].any fun k => s.ptpEn k)
  let ces := d = 11 && (List.range 128).any fun k => s.cfgB (cesAddr k 0) 0
  put 2 1 (b2n (a && any fun v => v.enable.a || v.standby.a)) + put 3 1 (b2n (b && any fun v => v.enable.b || v.standby.b)) +
  put 4 1 (b2n tick) + put 5 1 (b2n (time && !s.legacy)) + put 6 1 (b2n (ces && !s.legacy)) +
  put 7 1 (b2n (a && (s.ch .a).tx ≠ .off)) + put 8 1 (b2n (b && (s.ch .b).tx ≠ .off))

/-- The lowest client of a set of votes; 15: none, only a child. -/
def lowestVote (v : BitVec 9) : Nat := ((List.range 9).find? fun i => v.getLsbD i).getD 15

/-- Domains that need power (R446), children first; from SLEEP on, only a child keeps a domain (R459).
[DEDUCED, unsafe: log 108] -/
def needList (s : State) : List Nat → List Nat → List Nat
  | [], acc => acc
  | d :: r, acc =>
    let x := s.dom d
    let child := (childrenOf d).any fun k =>
      acc.contains k || (s.dom k).st = .poweringUp || (s.dom k).st = .on || (s.dom k).st = .shuttingDown
    needList s r (if x.st ≠ .failed && ((x.votes ≠ 0 && s.phase ≠ .sleeping) || child) then d :: acc else acc)

def State.needs (s : State) (d : Nat) : Bool := (needList s domOrder []).contains d

/-- A withdrawal that leaves the domain needing power is a refused entry (R449). -/
def State.refuseEntry (s : State) (d who n : Nat) : State :=
  (s.bump (pwrCtr d 1) n).modDom d fun x => { x with lastRefuser := BitVec.ofNat 4 who }

/-- Bring the recorded votes of the domains up to date, counting refused entries. -/
def votesUpdate : List Nat → State → State
  | [], s => s
  | d :: r, s =>
    let old := (s.dom d).votes
    let new := (old &&& 3) ||| BitVec.ofNat 9 (s.clientVotes d)
    if old = new then votesUpdate r s
    else
      let s := s.modDom d fun x => { x with votes := new }
      let lost := ((List.range 9).filter fun i => old.getLsbD i && !new.getLsbD i).length
      votesUpdate r (if lost ≠ 0 && s.needs d then s.refuseEntry d (lowestVote new) lost else s)

/-- Send a request to the power die (R455). [DEDUCED, unsafe: log 105] -/
def State.dieAsk (s : State) (d : Nat) (on : Bool) : State :=
  s.modPower fun p => { p with die := p.die ++ [{ dom := d, on, reissued := false }] }

/-- One domain's transitions by its need (R446, R450, R452). A domain that shuts down held no vote, so that any it holds has
returned; without one, a child has. [DEDUCED, unsafe: log 105] -/
def State.domStep (s : State) (d : Nat) : State :=
  let x := s.dom d
  let need := s.needs d
  match x.st with
  | .off =>
    if need && (s.dom (parentOf d)).st = .on then
      ((s.modDom d fun x => { x with isolated := true, acked := false, offAsked := false }).setDomSt d .poweringUp).dieAsk d true
    else s
  | .on => if need then s else ((s.modDom d fun x => { x with isolated := false, offAsked := false }).setDomSt d .shuttingDown).bump (pwrCtr d 0) 1
  | .shuttingDown =>
    if need && !x.isolated then
      let who := lowestVote x.votes
      let s := (s.modDom d fun x => { x with lastAborter := BitVec.ofNat 4 who }).setDomSt d .on
      (s.bump (pwrCtr d 2) 1).raise 0x0D02 (put 60 4 d + put 48 4 who + s.tickLow)
    else s
  | _ => s

/-- Votes move domains only while a device runs. -/
def State.domsRun (s : State) : Bool :=
  s.phase = .booting || s.phase = .ready || s.phase = .recovery || s.phase = .sleeping

/-- Bring votes and domains up to date with the conditions that make them. [DEDUCED, unsafe: log 105] -/
def State.settle (s : State) : State :=
  if !s.domsRun then s
  else
    (domOrder ++ domOrder ++ domOrder).foldl (fun s d => s.domStep d) (votesUpdate domOrder s)

/-! ## Resets (R462 to R464) -/

/-- Banks after a reset: a verification does not survive, and no image runs. -/
def bankReset (b : Bank) : Bank :=
  { b with st := (match b.st with | .verified | .running => .installed | x => x), lastVerify := 0 }

/-- LOS_THRESH of an N2 part (Table PHYS-7). [DEDUCED, unsafe: log 45] -/
def State.losFill (s : State) : State :=
  let one (s : State) (c : Chan) : State :=
    s.putCfg (chAddr c 4) (resetWord (chAddr c 4) &&& 0xFFFFF000 ||| BitVec.ofNat 32 (losFactory s.part.budget c 0))
  one (one s .a) .b

/-- A device reset with a cause: what R464 keeps, the MRAM, the part, the contacts, an open lid (R410), the test port (R415) and
the operating conditions outside stay; everything else takes its reset value. -/
def State.deviceReset (s : State) (cause : Nat) (src : BitVec 3) (ph : Phase) : State :=
  let r := State.reset
  let powerOn := cause = 0
  let r := { r with
    pending := s.pending, phase := ph, pins := s.pins, part := s.part, fuses := s.fuses, mram := s.mram
    freeCount := s.freeCount, out := s.out
    words := if powerOn then [] else s.words.filter fun e => e.1 = sleepCfgAddr
    counters := { now := mput 0 [] (fltCtr 9) s.mram.safeStates, trail := none }
    crypto := { r.crypto with alarmActive := s.crypto.alarmActive &&& 1
                              ir := if powerOn then r.crypto.ir else s.crypto.ir
                              boundary := if powerOn then r.crypto.boundary else s.crypto.boundary }
    bpm := { r.bpm with trainedAt := if cause = 5 then s.bpm.trainedAt else r.bpm.trainedAt }
    fault := { r.fault with outside := s.fault.outside, supplyOut := s.fault.supplyOut }
    power := { r.power with cause := BitVec.ofNat 3 cause, wakeSrc := src
                            safeCause := if powerOn then 0 else s.power.safeCause
                            history := if powerOn then 0 else s.power.history ||| BitVec.ofNat 6 (2 ^ cause)
                            wakeMask := if cause = 5 then s.power.wakeMask else 0
                            safePending := s.power.safePending, life := s.mram.life }
    fw := { r.fw with runningBank := s.fw.runningBank
                      pref := if powerOn then s.mram.prefBank.getD false else s.fw.pref
                      failedMark := if powerOn then 0 else s.fw.failedMark
                      digest := if cause = 5 then s.fw.digest else none
                      banks := ⟨bankReset s.fw.banks.a, bankReset s.fw.banks.b⟩ } }
  r.losFill

/-! ## The safe state (R433) -/

/-- Entry to the safe state, applied without the cores, so that no transmitter reports its state; cause 0 clock, 1 rail,
2 lockstep. [DEDUCED, unsafe: log 109] -/
def State.enterSafe (s : State) (cause : Nat) : State :=
  if s.phase = .safe || s.phase = .inReset || s.phase = .internalReset then s
  else
    let dark (c : Chan) (s : State) : State :=
      (s.modB c fun x => { x with switchOpen := true, current := none, lit := false }).modCh c fun x =>
        { x with tx := if x.tx = .latched then .latched else .off }
    let s := dark .b (dark .a s)
    let s := s.logWrite { code := 0x0F09, time := 0, p := BitVec.ofNat 64 (put 56 4 cause + s.tickLow), unmasked := false }
    let s := { s with phase := .safe
                      mram := { s.mram with safeStates := s.mram.safeStates + 1, safeLog := some (BitVec.ofNat 2 cause, BitVec.ofNat 32 s.tickLow) } }
    (s.bump (fltCtr 9) 1).modPower fun p => { p with safeCause := BitVec.ofNat 2 cause, safePending := true }

/-! ## Entry and exit of domains -/

/-- The crossing group that a domain's exit exposes (Table TICK-5). [DEDUCED, unsafe: log 107] -/
def exitGroup (d : Nat) : Option Nat :=
  match d with
  | 2 => some 0 | 3 => some 1 | 4 => some 2 | 5 => some 3 | 9 => some 4 | 10 => some 5 | 8 => some 6 | 11 => some 7
  | 12 => some 8 | 1 => some 11 | 7 => some 14 | 6 => some 15 | _ => none

/-- A list without its state of the moment: no entry runs, and no shadow copy is under way (R267).
[DEDUCED, unsafe: log 75] -/
def Hatch.stopped (h : Hatch) : Hatch := { h with copying := false, current := 0 }

/-- PD_PKT's packet state goes: queues, pipeline and staging, with what CLASS_STATUS and HATCH_STATUS show; what R237 and R267
restore is restored at the entry (R10, R445). [DEDUCED, unsafe: log 75] -/
def State.pktClear (s : State) : State :=
  { s with
    qs := { s.qs with hatch := s.qs.hatch.map (fun e => (e.1, e.2.stopped)), queues := [], nodes := [], meters := [], credits := [], flushing := none, oversize := [], eccShut := [], rearm := true }
    burin := { s.burin with stage := [], urgent := [], poolEmptyRun := false }
    cls := { s.cls with frags := [], fragFullRun := false, ingress := [], toDecap := [], toDecrypt := [], second := []
                        toAdmit := [], restoring := true, retiring := false, swapDue := none, copyBusy := false
                        ruleBad := [], ruleMarks := [], active := false, generation := 0 } }

/-- The DRAM images of PD_PKT's configuration are gone: its objects take their reset values (R237, R267). -/
def State.imagesLost (s : State) : State :=
  let s := s.dropCfg fun a => (findObj a).all fun f => decide (f.dom ≠ 6)
  { s with qs := { s.qs with hatch := [] } }

/-- CLASS_CFG and CLASS_PARSE_CFG are not among what firmware restores: they take their reset values at PD_PKT's entry
(R237, R445). -/
def State.parseReset (s : State) : State :=
  s.dropCfg fun a => (findObj a).all fun f => decide (f.obj ≠ .classCfg) && decide (f.obj ≠ .classParseCfg)

/-- Bring every Ethernet port up to date. -/
def settlePorts : List Nat → State → State
  | [], s => s
  | e :: r, s => settlePorts r (s.ethSettle e 3)

/-- ETH_STATUS and ETH_EEE_STATUS take their reset values at PD_ETH's entry (R348, R445). -/
def freshPorts : List Nat → State → State
  | [], s => s
  | e :: r, s => freshPorts r (s.modEth e fun x => { x with rateActive := 0, fecActive := 0, txTw := 0, rxTw := 0 })

/-- A receive domain turns off (R123): the channel stops; CUSTODIAN reclaims the cells of its reassemblies. -/
def State.rxExit (s : State) (c : Chan) : State :=
  ((s.stopCh c 3).modCh c fun x => { x with reasm := [] }).txUpdate c

/-- A transmit domain turns off: its switch opens, its tables go, and FAULT ends (R113, R201). -/
def State.txExit (s : State) (c : Chan) : State :=
  let s := (s.modCh c fun x => { x with holdReload := true, tecLocked := false }).modB c fun x =>
    { x with switchOpen := true, twin := .empty, shadow := [], serials := [], lit := false }
  (if (s.ch c).tx = .fault then s.setTx c .off else s).txUpdate c

/-- The counters, the stipple banks, the OMCI ring and the event mirror lie in DRAM, whose content goes with it (Table BPM-2,
R445). SAFE_STATES reads its lifetime count (R442). [DEDUCED, unsafe: log 107] -/
def State.dramGone (s : State) : State :=
  { s with ev := { s.ev with mirror := [] }, stipple := [], vonu := { s.vonu with omciRing := [] }
           counters := { now := mput 0 [] (fltCtr 9) s.mram.safeStates, trail := none }
           tick := { s.tick with snap := none, copying := none, folds := [] } }

/-- The PRBS generators and checkers of the lanes that a predicate names stop. [DEDUCED, unsafe: log 107] -/
def State.prbsStop (s : State) (gone : Nat → Bool) : State :=
  { s with alink := { s.alink with prbs := s.alink.prbs.filter fun e => !gone e.1 } }

/-- A domain's blocks stop as their chapters state, once isolation is applied. Its counts stand clamped: the one spurious
difference comes when it returns (R454). [DEDUCED, unsafe: log 107; DESIGN CHOICE, unsafe: log 151] -/
def State.exitHook (s : State) (d : Nat) : State :=
  let s := match exitGroup d with | some g => s.flushStream g fun _ => true | none => s
  match d with
  | 1 => stopPools [9, 10, 11] { s.eraseStore with ev := { s.eraseStore.ev with alarm := 0, attn := 0 } }
  | 2 => s.rxExit .a
  | 4 => s.rxExit .b
  | 3 => s.txExit .a
  | 5 => s.txExit .b
  | 6 => stopPools [0, 1, 2, 3, 4, 5, 6, 8] s.pktClear
  | 8 =>
    let s := stopPools [0, 1, 2, 3, 4, 5, 6] s
    ({ s with bpm := { s.bpm with trained := 0 } }).dramGone.imagesLost
  | 9 => ((s.linkSettle.modLink fun a => { freshCredit a with lanes := [] }).creditForget).prbsStop fun n => n < 9
  | 10 => (settlePorts [0, 1, 2, 3] s).prbsStop fun n => 9 ≤ n
  | 11 => s.cesExit
  | 12 => s.modTime fun t => { t with todIn := ⟨none, none⟩, ppsHigh := false }
  | _ => s

/-- The verification of a stored image: its result, and the key hash that verified it (R412).
[DESIGN CHOICE, safe: log 15] -/
def State.checkImage (s : State) (x : Bank) (length : Nat) : BitVec 8 × BitVec 2 :=
  Config.imageCheck x.image length s.fuses.revoked s.fuses.hashValid s.fuses.hashes

/-- A bank that the ROM can start (R466), with its key index: its digest is the one that a wake has retained, or its signature
verifies (R465). [DESIGN CHOICE, safe: log 15] -/
def State.bootTry (s : State) (b : Bool) : Option (Bool × BitVec 2) :=
  let x := if b then s.fw.banks.b else s.fw.banks.a
  if x.st = .empty || x.st = .writing || s.fw.failedMark.getLsbD (b2n b) then none
  else
    match s.fw.digest.filter fun e => e.1 = Config.imageDigest x.image x.length.toNat with
    | some (_, key) => some (b, key)
    | none => let (code, key) := s.checkImage x x.length.toNat; if code = 0 then some (b, key) else none

/-- The digest and the key hash of a bank's image, as PD_AON keeps them while it runs (R461). -/
def Bank.digest (x : Bank) (key : BitVec 2) : BitVec 384 × BitVec 2 := (Config.imageDigest x.image x.length.toNat, key)

/-- The ROM starts an image, or enters recovery (R465, R466, R468). [DEDUCED, unsafe: log 106] -/
def State.bootImage (s : State) : State :=
  match (s.bootTry s.fw.pref).orElse fun _ => s.bootTry (!s.fw.pref) with
  | none => { s with phase := .recovery }
  | some (b, key) =>
    let set_ (x : Bank) : Bank := { x with st := .running }
    let banks := if b then { s.fw.banks with b := set_ s.fw.banks.b } else { s.fw.banks with a := set_ s.fw.banks.a }
    let digest := some ((if b then banks.b else banks.a).digest key)
    let s := { s with fw := { s.fw with runningBank := b, fallback := b ≠ s.fw.pref, keyIndex := key, digest, banks } }
    s.modDom 6 fun x => { x with votes := x.votes ||| 2 }

/-- Set a client's vote on some domains: 0 HOST, 1 FW. -/
def State.setVotes (s : State) (client : Nat) (ds : List Nat) : State :=
  ds.foldl (fun s d => s.modDom d fun x => { x with votes := x.votes ||| BitVec.ofNat 9 (2 ^ client) }) s

/-- The default votes (Table PWR-2, R475). [DEDUCED, unsafe: log 106] -/
def State.defaultVotes (s : State) : State :=
  if s.legacy then s.setVotes 1 [7, 4, 5, 10, 12] else s.setVotes 0 [2, 3, 4, 5, 7, 9, 10, 11, 12]

/-- Begin the re-initialisation of some pools (R291). -/
def initPools : List Nat → State → State
  | [], s => s
  | p :: r, s => initPools r (s.poolInit p)

/-- A receive domain turns on (R123, R445): CH_EQ_TAP and CH_MON take their reset values, and an enabled channel starts.
SFC64 is restored from its copy. [DESIGN CHOICE, unsafe: log 153] -/
def State.rxEntry (s : State) (c : Chan) : State :=
  let s := s.modCh c fun x => { x with taps := presetTaps c, mon := (ChanSt.reset c).mon }
  if s.chEnabled c then s.startCh c else s

/-- A domain's blocks restore themselves once isolation is removed; its counts, from zero again, give their partners one spurious
difference (R454). [DEDUCED, unsafe: log 107] -/
def State.enterHook (s : State) (d : Nat) : State :=
  let s := match exitGroup d with | some g => s.spuriousOnce g | none => s
  match d with
  | 1 => initPools [9, 10, 11] s
  | 2 => s.rxEntry .a
  | 4 => s.rxEntry .b
  | 3 => (s.switchSettle .a).txUpdate .a
  | 5 => (s.switchSettle .b).txUpdate .b
  | 6 =>
    let s := initPools [0, 1, 2, 3, 4, 5, 6, 8] s.pktClear.parseReset
    let s := { s with burin := { s.burin with lowWater := 65536 } }
    if s.phase = .booting then s.defaultVotes else s
  | 8 =>
    -- the training values that a wake retains are those of their training (R461)
    let kept := s.phase = .booting && s.power.cause = 5
    let s := { s with bpm := { s.bpm with trained := 15, trainedAt := if kept then s.bpm.trainedAt else s.bpm.temps } }
    let s := (initPools [0, 1, 2, 3, 4, 5, 6] s.dramGone).expose 6
    if s.phase = .booting then s.bootImage else s
  | 9 => s.linkSettle
  | 10 =>
    let rc (a : Nat) : Bool := (findObj a).any fun f => f.obj = .rcCounter
    let s := { s with counters := { s.counters with now := s.counters.now.filter fun e => !rc e.1 } }
    settlePorts [0, 1, 2, 3] (freshPorts [0, 1, 2, 3] s)
  | 11 => s.cesEntry
  | 12 => s.timeEntry.gatesTouch
  | _ => s

/-- Isolation is applied, where it is not (step 2 of R450); PD_TIME's opens every gate (R371). -/
def State.clamp (s : State) (d : Nat) : State :=
  let go (s : State) : State := (s.modDom d fun x => { x with isolated := true }).exitHook d
  if (s.dom d).isolated then s else if d = 12 then s.regate go else go s

/-- The off request is sent, where it has not been (step 3 of R450). -/
def State.askOff (s : State) (d : Nat) : State :=
  if (s.dom d).offAsked then s else (s.modDom d fun x => { x with offAsked := true }).dieAsk d false

def State.isolate (s : State) (d : Nat) : State := (s.clamp d).askOff d

/-- A domain goes OFF at once, without quiesce (R456). -/
def State.forceOff (s : State) (d : Nat) : State :=
  match (s.dom d).st with
  | .off | .failed => s
  | _ => ((s.isolate d).setDomSt d .off).reclaim d

/-- A domain becomes FAILED, and so off (R445, R456, R457). -/
def State.failDom (s : State) (d cause : Nat) : State :=
  (((s.modDom d fun x => { x with isolated := true }).setDomSt d .failed).raise 0x0D04
    (put 60 4 d + put 56 2 cause + s.tickLow)).reclaim d

/-- The descendants of a domain go OFF, children first (R456). -/
def State.dropBelow (s : State) (d : Nat) : State := (below d).foldl (fun s k => s.forceOff k) s

/-! ## The power die (R455, R456) -/

/-- The request at the head is acknowledged. [DEDUCED, unsafe: log 105] -/
def State.dieAck (s : State) : State :=
  match s.power.die with
  | [] => s
  | r :: rest =>
    let s := s.modPower fun p => { p with die := rest }
    let x := s.dom r.dom
    -- a request that a later one for the domain has overtaken completes nothing
    if r.on then
      (if x.st = .poweringUp && rest.all (fun q => q.dom ≠ r.dom) then s.modDom r.dom fun x => { x with acked := true } else s)
    else if x.st = .shuttingDown then (s.setDomSt r.dom .off).reclaim r.dom
    else s

/-- No acknowledgement within 200 µs: the request is reissued once, then the domain fails. [DEDUCED, unsafe: log 105] -/
def State.dieTimeout (s : State) : State :=
  match s.power.die with
  | [] => s
  | r :: rest =>
    let s := (s.bump (pwrCtr r.dom 3) 1).raise 0x0D03 (put 60 4 r.dom + put 59 1 (b2n r.on) + put 58 1 (b2n r.reissued) + s.tickLow)
    let s := s.expose 10
    if r.reissued then
      let s := s.modPower fun p => { p with die := rest }
      let s := ((s.clamp r.dom).failDom r.dom 0).dropBelow r.dom
      if r.dom = 1 || r.dom = 6 || r.dom = 8 then s.enterSafe 1 else s
    else s.modPower fun p => { p with die := { r with reissued := true } :: rest }

/-- A power-up completes: clocks, reset and isolation (R451). [DEDUCED, unsafe: log 106] -/
def State.domUp (s : State) (d : Nat) : State :=
  let x := s.dom d
  if x.st = .poweringUp && x.acked then
    let s := if d = 12 then s.rebase else s
    (((s.modDom d fun x => { x with isolated := false, acked := false }).setDomSt d .on).enterHook d).settle
  else s

/-! ## Rails (R432, R457) -/

/-- A rail is judged (R432). [DEDUCED, unsafe: log 100] -/
def State.railJudged (s : State) (d : Nat) : Bool :=
  let x := s.dom d
  d = 0 || (x.st = .poweringUp && x.acked) || x.st = .on || (x.st = .shuttingDown && !x.offAsked)

def State.railFault (s : State) (d : Nat) : State :=
  if !s.railJudged d || (s.dom d).railBad then s
  else
    let s := (s.modDom d fun x => { x with railBad := true }).bump (fltCtr 7) 1
    let s := s.raise 0x0F07 (put 62 1 1 + put 56 4 d + s.tickLow)
    let hold (c : Chan) : State :=
      ((s.modCh c fun x => { x with holdRail := true }).modB c fun x => { x with switchOpen := true }).txUpdate c
    match d with
    | 0 => s
    | 3 => hold .a
    | 5 => hold .b
    | 1 | 6 => s.enterSafe 1
    | _ =>
      let again := match (s.dom d).railAt with | some t => decide (s.tick.number.toNat < t.toNat + 480000) | none => false
      let s := s.modDom d fun x => { x with railBad := false, railAt := some s.tick.number, retryOk := !again }
      (((s.clamp d).dropBelow d).askOff d).failDom d 1

def State.railClear (s : State) (d : Nat) : State :=
  if !s.railJudged d || !(s.dom d).railBad then s
  else
    let s := (s.modDom d fun x => { x with railBad := false }).raise 0x0F07 (put 56 4 d + s.tickLow)
    let free (c : Chan) : State := ((s.modCh c fun x => { x with holdRail := false }).switchSettle c).txUpdate c
    match d with
    | 3 => free .a
    | 5 => free .b
    | _ => s

/-- A FAILED domain returns to OFF, and powers up again if it needs power. -/
def State.domRetry (s : State) (d : Nat) : State :=
  if (s.dom d).st = .failed then ((s.modDom d fun x => { x with railBad := false, retryOk := false }).setDomSt d .off).settle else s

/-! ## Sleep (R458 to R461) -/

/-- The domains on which a client other than HOST and FW votes, with the lowest such client. -/
def State.sleepBlocks (s : State) : List (Nat × Nat) :=
  (domOrder.map fun d => (d, (s.dom d).votes &&& ~~~3#9)).filterMap fun (d, v) => if v = 0 then none else some (d, lowestVote v)

/-- The checks of SLEEP. -/
def State.sleepCheck (s : State) (mask : Word) : Bool :=
  mask ≠ 0 && fld mask 3 29 = 0 && (!bit mask 2 || s.cfgF sleepCfgAddr 0 24 ≠ 0) && s.sleepBlocks = [] && !s.legacy &&
    s.phase = .ready && s.fault.handover.isNone

/-- The wait after the reply ends: votes withdrawn, the key store erased, every domain shut down (R459).
[DEDUCED, unsafe: log 108] -/
def State.startSleep (s : State) : State :=
  let s := { s with phase := .sleeping }
  let s := domOrder.foldl (fun s d => s.modDom d fun x => { x with votes := x.votes &&& ~~~3#9 }) s
  s.eraseStore.settle

/-- An armed wake source fires; one that fires while the internal reset of a wake still lasts is named beside it (R460, R461).
[DEDUCED, unsafe: log 108] -/
def State.wake (s : State) (source : Nat) : State :=
  let src := BitVec.ofNat 3 (2 ^ source)
  if !s.power.wakeMask.getLsbD source then s
  else if s.phase = .asleep && s.power.wakeArmed then s.deviceReset 5 src .internalReset
  else if s.phase = .internalReset && s.power.cause = 5 then s.modPower fun p => { p with wakeSrc := p.wakeSrc ||| src }
  else s

/-- WAKE_N has been low for 50 SENSE cycles (R460): it wakes a device whose source is armed, and may still be low when the
sources of one that falls asleep are armed. [DEDUCED, unsafe: log 108] -/
def State.wakeContact (s : State) : State :=
  if s.phase = .sleeping then s.modPower fun p => { p with wakeLow := true } else s.wake 1

/-- The sources are armed; a WAKE_N that is low already wakes the device at once (R460). Whether one that was low before still is,
is the moment's, a free value. [DEDUCED, unsafe: log 108] -/
def State.armWake (s : State) : State :=
  let (f, s) := s.fresh
  let low := s.power.wakeLow && f % 2 = 1
  let s := { s with phase := .asleep, power := { s.power with wakeArmed := true, wakeLow := false } }
  if low then s.wake 1 else s

/-- The two-wire port's address matches in deep sleep: an armed recogniser acknowledges it and wakes the device, and refuses the
first data byte; else the address is not acknowledged (R42, R460). -/
def State.wakeAddress (s : State) : State :=
  if s.power.wakeArmed && s.power.wakeMask.getLsbD 0 then (s.emit .twiByteNack).wake 0 else s.emit .twiNack

/-- Quiesce of a domain ends (R450); PD_MGMT's isolation arms the wake sources. -/
def State.quiesceEnd (s : State) (d : Nat) : State :=
  if (s.dom d).st = .shuttingDown && !(s.dom d).isolated then
    let s := s.isolate d
    if d = 1 && s.phase = .sleeping then s.armWake else s
  else s

/-! ## Release and READY (R2, R3, R463, R465, R469) -/

/-- The release of reset: the straps are sampled and the boot begins. [DEDUCED, unsafe: log 2; DEDUCED, safe: log 9] -/
def State.release (s : State) : State :=
  let s := { s with phase := .booting, legacy := s.fuses.legacyLock || s.pins.modeSel
                    pins := { s.pins with madrSampled := s.pins.madr } }
  (s.setVotes 1 [1, 8]).settle

/-- READY: the marks clear, and a safe state before the reset is reported (R433, R467, R469).
[DEDUCED, unsafe: log 2, 106] -/
def State.ready (s : State) : State :=
  let imageRuns := s.fw.banks.a.st = .running || s.fw.banks.b.st = .running
  if s.phase = .booting && imageRuns && (s.dom 1).st = .on && (s.dom 8).st = .on && (s.dom 6).st = .on then
    let s := { s with phase := .ready, fw := { s.fw with failedMark := 0 }, leg := { s.leg with busy := false } }
    let s := match s.power.safePending, s.mram.safeLog with
      | true, some (c, t) => (s.ringWrite 0x0F09 (put 56 4 c.toNat + t.toNat)).noteFault 0x0F09
      | _, _ => s
    (s.modPower fun p => { p with safePending := false }).settle
  else s

/-! ## Firmware images (R471 to R474) -/

def State.bank (s : State) (b : Bool) : Bank := if b then s.fw.banks.b else s.fw.banks.a
def State.setBank (s : State) (b : Bool) (x : Bank) : State :=
  { s with fw := { s.fw with banks := if b then { s.fw.banks with b := x } else { s.fw.banks with a := x } } }

def bankCode : BankSt → Nat
  | .empty => 0 | .writing => 1 | .installed => 2 | .verified => 3 | .running => 4

def State.isRunning (s : State) (b : Bool) : Bool := (s.bank b).st = .running

/-- The checks of IMAGE_BEGIN. -/
def State.imageBeginOk (s : State) (addr n : Nat) : Bool :=
  addr < 2 && 4096 ≤ n && n ≤ 12582912 && n % 4 = 0 && !s.isRunning (addr = 1)

def State.imageBegin (s : State) (b : Bool) (n : Nat) : State :=
  -- the update that is open is abandoned, its bank left WRITING
  let s := match s.fw.open_ with
    | some (o, _) => if s.isRunning o then s else s.setBank o { s.bank o with st := .writing }
    | none => s
  let s := s.setBank b { s.bank b with st := .writing }
  { s with fw := { s.fw with open_ := some (b, BitVec.ofNat 24 n) } }

def State.imageDataOk (s : State) (off n : Nat) : Bool :=
  match s.fw.open_ with
  | some (_, len) => off % 4 = 0 && off + n ≤ len.toNat
  | none => false

/-- Put bytes into an image from an offset. -/
def putBytes : SMap Byte → Nat → List Byte → SMap Byte
  | m, _, [] => m
  | m, i, b :: r => putBytes (mput 0 m i b) (i + 1) r

/-- Count the MRAM pages that a write of a bank touches. -/
def State.bankPages (s : State) (b : Bool) (off n : Nat) : State :=
  (List.range ((off + n + 4095) / 4096 - off / 4096)).foldl (fun s k => s.mramWrite (b2n b) (off / 4096 + k)) s

/-- The MRAM write of an IMAGE_DATA: a bank written after its verification returns to WRITING (R472). -/
def State.imageData (s : State) (b : Bool) (off : Nat) (data : List Byte) : State :=
  let x := s.bank b
  (s.setBank b { x with st := if x.st = .running then .running else .writing, image := putBytes x.image off data }).bankPages b off data.length

/-- The bank of the open update. -/
def State.openBank (s : State) : Bool := s.fw.open_.any (·.1)

/-- An IMAGE_DATA of a bank is in execution. [DEDUCED, unsafe: log 122] -/
def State.dataRuns (s : State) (b : Bool) : Bool :=
  (s.cmd.port.twi.running ++ s.cmd.port.alanov.running).any fun x => x.work = .imageData b

/-- The result of IMAGE_VERIFY, and the state with it (R473). The update stays open: a later IMAGE_DATA returns the bank to
WRITING (R472). [DEDUCED, unsafe: log 122] -/
def State.imageVerify (s : State) (b : Bool) : Nat × State :=
  let x := s.bank b
  let len := match s.fw.open_ with | some (o, n) => if o = b then n else x.length | none => x.length
  let (code, key) := s.checkImage x len.toNat
  let code := if x.st = .empty then 4 else code.toNat
  let w := put 0 8 code + (if code = 0 then put 8 2 key.toNat else 0)
  let x := { x with lastVerify := BitVec.ofNat 10 w }
  let x := if code = 0 then { x with st := .verified, version := Config.imageVersion x.image, length := len }
    else if x.st = .empty then x else { x with st := .writing }
  let s := s.setBank b x
  (w, s.raise 0x0D06 (put 56 1 (b2n b) + put 32 10 w + s.tickLow))

/-- The checks of IMAGE_ACTIVATE; a bank to which accepted data is still to be written is no longer verified.
[DEDUCED, unsafe: log 122] -/
def State.imageActivateOk (s : State) (b : Bool) : Bool :=
  (s.bank b).st = .verified && !s.dataRuns b && s.fault.rtOk && s.fault.svcOk

/-- A bank becomes preferred; the record is written first (R464). [DEDUCED, unsafe: log 77] -/
def State.prefer (s : State) (b : Bool) : State :=
  let s := { s with mram := { s.mram with prefBank := some b } }
  let (f, s) := s.fresh
  { s.mramWrite 2 (f % 1024) with fw := { s.fw with pref := b } }

/-- The new image comes into service: RUNNING and preferred; the previous becomes INSTALLED (R474). An update of its bank is
over, for the running image stays untouched. [DEDUCED, unsafe: log 122] -/
def State.imageInService (s : State) (b : Bool) : State :=
  let s := s.setBank (!b) { s.bank (!b) with st := if (s.bank (!b)).st = .running then .installed else (s.bank (!b)).st }
  let s := s.setBank b { s.bank b with st := .running }
  let done := s.fw.open_.any fun u => u.1 = b
  let key := (s.bank b).lastVerify.extractLsb' 8 2
  { s with fw := { s.fw with runningBank := b, fallback := false, keyIndex := key, digest := some ((s.bank b).digest key)
                             open_ := if done then none else s.fw.open_ } }.prefer b

/-! ## Writes and reads -/

def checkPwr (s : State) (f : Found) (v : Word) : Nat :=
  let ok (b : Bool) : Nat := if b then 0 else 5
  match f.obj with
  | .pwrResetCtl => ok (v = 0x4B505253)
  | .pwrDomCtl => ok (!bit v 0 || (s.dom (1 + f.ix.getD 0 0)).st = .failed)
  | _ => 0

/-- Effects of PWR writes; the reset that PWR_RESET_CTL asks for follows the reply (R463). -/
def applyPwr (s : State) (f : Found) (v : Word) : State :=
  match f.obj with
  | .pwrCause => s.modPower fun p => { p with history := p.history &&& ~~~BitVec.ofNat 6 (fld v 8 6) }
  | .pwrDomCtl => if bit v 0 then s.domRetry (1 + f.ix.getD 0 0) else s
  | _ => s

def readPwr (s : State) (f : Found) : Option Word :=
  let i := f.ix.getD 0 0
  match f.obj with
  | .pwrCause => some (BitVec.ofNat 32 (put 0 3 s.power.cause.toNat + put 3 3 s.power.wakeSrc.toNat + put 6 2 s.power.safeCause.toNat +
      put 8 6 s.power.history.toNat))
  | .pwrResetCtl | .pwrDomCtl => some 0
  | .pwrDomStatus =>
    let x := s.dom i
    let child := (childrenOf i).any fun k => (s.dom k).st ≠ .off
    some (BitVec.ofNat 32 (if i = 0 then put 0 3 2 + put 12 1 (b2n child) + put 14 4 14 + put 18 4 14
      else put 0 3 (domCode x.st) + put 3 9 x.votes.toNat + put 12 1 (b2n child) + put 13 1 (b2n x.isolated) +
        put 14 4 x.lastRefuser.toNat + put 18 4 x.lastAborter.toNat))
  | .fwBoot => some (BitVec.ofNat 32 (put 0 1 (b2n s.fw.runningBank) + put 1 1 (b2n s.fw.pref) + put 2 1 (b2n s.fw.fallback) +
      put 3 2 s.fw.keyIndex.toNat + put 5 1 (b2n (s.phase = .recovery)) + put 6 2 s.fw.failedMark.toNat))
  | .fwUpdate =>
    some (match s.fw.open_ with
      | none => 0
      | some (b, n) => if i = 0 then BitVec.ofNat 32 (1 + 2 * b2n b) else n.setWidth 32)
  | .fwBank =>
    let b := s.bank (i = 1)
    some (match f.ix.getD 1 0 with
      | 0 => BitVec.ofNat 32 (bankCode b.st)
      | 1 => b.version
      | 2 => b.length.setWidth 32
      | _ => b.lastVerify.setWidth 32)
  | _ => none

end Sys2Proof.Machine
end

