-- ==== Sys2Proof/Machine/FaultOps.lean ====
section
/-! DEFINITION. Fault coverage: the guarantee, uncorrectable errors, clock faults, core pairs, illegal states and scrub
passes (Fault Coverage and In-Service Change). -/

namespace Sys2Proof.Machine

def State.modFault (s : State) (f : FaultSt → FaultSt) : State := { s with fault := f s.fault }

/-! ## The guarantee (R423) -/

/-- REASON: bit i for condition i + 1 of Table FAULT-8. -/
def State.reasons (s : State) : BitVec 6 :=
  let loop := s.alink.loopKind ≠ 0 || [0, 1, 2, 3].any fun e => (ethPort s e).loopKind ≠ 0
  BitVec.ofNat 6 (b2n (s.cfgF (addrOf 0x78 0x200) 0 4 ≠ 15) + 2 * b2n s.fault.outside + 4 * b2n loop + 8 * b2n s.crypto.lockedOut +
    16 * b2n s.crypto.bscan + 32 * b2n (s.fault.rtFailed || s.fault.svcFailed || s.fault.clockGroups.getLsbD 10))

/-- Report a change of GUARANTEE. -/
def State.guarantee (s : State) : State :=
  let r := s.reasons
  let ok : Bool := r = 0
  if s.fault.guarantee = ok then s
  else (s.modFault fun f => { f with guarantee := ok }).raise 0x0F0A (put 62 1 (b2n ok) + put 32 6 r.toNat + s.tickLow)

/-- Bring votes, domains and GUARANTEE up to date. -/
def State.finish (s : State) : State := s.settle.guarantee

/-- Outside the recommended operating conditions: VIN_12V in mV, the die temperature in tenths of a degree (R497; limits
by grade). -/
def supplyBad (vin : BitVec 16) : Bool := vin.toNat < 11400 || 12600 < vin.toNat

def State.dieBad (s : State) (die : BitVec 12) : Bool :=
  let t := die.toInt
  if s.part.grade = 0 then decide (t < -50) || decide (1140 < t) else decide (t < -450) || decide (1240 < t)

/-- What the device has observed for 1 ms or more, or for 1 s where both quantities are within their limits (R497). -/
def State.conditions (s : State) (vin : BitVec 16) (die : BitVec 12) : State :=
  (s.modFault fun f => { f with outside := supplyBad vin || s.dieBad die, supplyOut := supplyBad vin }).guarantee

/-! ## Uncorrectable errors (R427, Table FAULT-2) -/

/-- A cell is withdrawn from its pool (R281); one that has been stays so. -/
def State.withdraw (s : State) (p k : Nat) : State :=
  if k ≥ poolCells p || (s.cell p k).state = 3 then s
  else
    let s := ((s.setCell p k { state := 3, owner := 0, refs := 0 }).bump (bpmCtr 2) 1).raise 0x0707
      (put 56 4 p + put 32 21 (sat 0x1FFFFF k) + s.tickLow)
    s.poolChanged p

def withdrawAll (p : Nat) : List Nat → State → State
  | [], s => s
  | k :: r, s => withdrawAll p r (s.withdraw p k)

/-- The cells of the staged and committed frames that hold a cell of P8, itself among them. -/
def State.stagedWith (s : State) (k : Nat) : List Nat :=
  let staged := s.burin.stage.flatMap fun e => (e.2.frames.map (·.cells)).filter fun l => l.contains k
  let sent (c : Chan) : List (List Nat) :=
    ((s.bch c).bursts ++ (s.bch c).current.toList).flatMap fun b =>
      b.content.flatMap fun x => (x.xgems.map (·.cells)).filter fun l => l.contains k
  (k :: (staged ++ sent .a ++ sent .b).flatten).dedup

/-- A staged or committed frame whose cell failed is taken out, and counted as late content; what has left of a burst in progress
is not told apart (region 1). [DEDUCED, unsafe: log 101] -/
def State.dropStaged (s : State) (k : Nat) : State :=
  let hit (f : SFrame) : Bool := f.cells.contains k
  let bad := s.burin.stage.filter fun e => e.2.frames.any hit
  let s := bad.foldl (fun s e =>
    let c := match s.allocAt e.1 with | some a => a.chan | none => .a
    let lost := (s.stage e.1).frames.filter hit
    let gone := sumN (lost.map fun f => xgemLen f.data.length)
    ((s.setStage e.1 { s.stage e.1 with frames := (s.stage e.1).frames.filter fun f => !hit f }).stageRemoved e.1 gone).bumpB c 12 lost.length) s
  let fix (b : Burst) : Burst :=
    { b with content := b.content.map fun x =>
        let gone := x.xgems.filter fun u => u.cells.contains k
        { x with xgems := x.xgems.filter fun u => !u.cells.contains k
                 idle := x.idle + sumN (gone.map fun u => xgemLen u.plain.length) } }
  let one (s : State) (c : Chan) : State :=
    let mine := ((s.bch c).bursts ++ (s.bch c).current.toList).flatMap (·.content)
    let n := sumN (mine.map fun x => (x.xgems.filter fun u => u.cells.contains k).length)
    (s.modB c fun x => { x with bursts := x.bursts.map fix, current := x.current.map fix }).bumpB c 12 n
  one (one s .a) .b

/-- Remove the packets of one queue that a predicate hits; a packet that comes to the head is tagged there (R189, R248).
[DEDUCED, unsafe: log 123] -/
def State.dropFrom (s : State) (hit : Packet → Bool) (q : Nat) : State :=
  let x := s.queue q
  let gone := x.pkts.filter hit
  if gone = [] then s
  else
    let n := s.qNode q
    let first := x.pkts.head?.any hit
    let s := s.tcontRemoved n (sumN (gone.map fun p => xgemLen p.bytes.length))
    let s := s.setQueue q { x with pkts := x.pkts.filter fun p => !hit p, kept := if first then none else x.kept }
    if first then s.tagHead n q (tagMax x.prevFinish (s.virt n)) else s

/-- A partial SDU whose line-buffer cell failed goes, with its cells. -/
def State.reasmLost (s : State) (c : Chan) (port : Nat) : State :=
  let cells := match mget none (s.ch c).reasm port with | some p => p.cells | none => []
  ((s.modCh c fun x => { x with reasm := mput none x.reasm port none }).freeAll (BitVec.ofNat 6 (1 + chanN c)) cells).bumpCh c 0x5E 1

/-- Remove the packets that wait at one tributary's input and that a predicate hits. -/
def State.dropRx (s : State) (hit : Packet → Bool) (k : Nat) : State :=
  { s with ces := { s.ces with rx := mmod [] s.ces.rx k fun l => l.filter fun x => !hit x } }

/-- Remove the packets that hold a cell, freeing their other cells (region 9). -/
def State.dropHolders (s : State) (p k : Nat) : State :=
  let hit (x : Packet) : Bool := x.cells.contains (p, k)
  let held := s.qs.queues.flatMap fun e => e.2.pkts.filter hit
  let fl (l : List InFlight) : List InFlight := l.filter fun x => !hit x.pkt
  let held := held ++ s.ces.rx.flatMap (fun e => e.2.filter hit) ++ s.cls.ingress.filter hit ++ ((s.cls.toDecap ++ s.cls.toDecrypt ++ s.cls.second ++ s.cls.toAdmit).map (·.pkt)).filter hit
  let s := (s.qs.queues.map (·.1)).foldl (fun s q => s.dropFrom hit q) s
  let s := s.modCls fun c =>
    { c with ingress := c.ingress.filter (fun x => !hit x), toDecap := fl c.toDecap, toDecrypt := fl c.toDecrypt
             second := fl c.second, toAdmit := fl c.toAdmit }
  let s := (s.ces.rx.map (·.1)).foldl (fun s q => s.dropRx hit q) s
  s.freeAll 0x3F ((held.flatMap (·.cells)).filter fun x => x ≠ (p, k))

/-- The SDU, PLOAM message or OMCI message in a failed cell of the line buffer is discarded and counted by its block (region
7). No OMCI message or crypto operation outlasts its command. -/
def State.dropLine (s : State) (p k : Nat) : State :=
  let one (s : State) (c : Chan) : State :=
    let sdus := (s.ch c).reasm.filter fun (e : Nat × Option Partial) => e.2.any fun x => x.cells.contains (p, k)
    let s := sdus.foldl (fun s e => s.reasmLost c e.1) s
    let waits := (s.ch c).ploamQ.filter fun w => decide (p = 10 ∧ w.cell = some k)
    let s := waits.foldl (fun s _ => s.bumpUnmatched c) s
    let s := s.modCh c fun x => { x with ploamQ := x.ploamQ.filter fun w => !decide (p = 10 ∧ w.cell = some k) }
    s.freeAll 0x0D (waits.map fun _ => (10, k))
  one (one s .a) .b

/-- The partition's bursts of a tick are suppressed as in a GRANT overrun: SUPP_DECODE counts their allocations. -/
def State.suppressTick (s : State) (c : Chan) (tick : BitVec 64) : State :=
  let gone := (s.bch c).bursts.filter fun b => b.tick = tick
  let s := gone.foldl (fun s b => s.restoreBurst c b) s
  (s.modB c fun x => { x with bursts := x.bursts.filter fun b => b.tick ≠ tick }).bumpB c 4 (sumN (gone.map fun b => maxN 1 b.allocs.length))

/-- The meters of the active plate's rules that send to a queue. -/
def State.metersOf (s : State) (q : Nat) : List Nat :=
  let p := b2n s.cls.active
  (s.validRules p).filterMap fun e =>
    let a := s.actionAt (ruleAddr p e 40)
    if a.queue = some (BitVec.ofNat 16 q) then a.meter.map (·.toNat) else none

/-- The tags of a node's queues restart at zero, and their heads are tagged afresh (R267). [DEDUCED, unsafe: log 101] -/
def retagAll (n : Nat) : List Nat → State → State
  | [], s => s
  | q :: r, s => retagAll n r ((s.setQueue q { s.queue q with start := 0, finish := 0, prevFinish := 0 }).tagHead n q 0)

/-- A queue's state is lost: it is flushed, and its node's tags and shaper and its meters restart (region 3).
[DEDUCED, unsafe: log 101] -/
def State.queueLost (s : State) (q : Nat) : State :=
  let n := s.qNode q
  let s := s.flushQueue q
  (s.metersOf q).foldl (fun s m => s.setMeter m none) (retagAll n (s.queuesOf n) (s.setNode n none))

/-- A record or word of the rest of the DRAM is discarded; a word of a golden image is rebuilt from the live copy (region
10). -/
def State.dramLost (s : State) (e : EccErr) : State :=
  match e.pool with
  | 0 => s.setCtr e.index 0
  | 1 => { s with stipple := mput 0 s.stipple e.index 0 }
  | 2 => s.modTrib e.index fun x => { x with jb := mput none x.jb e.word.toNat none }
  | 3 => { s with vonu := { s.vonu with omciRing := mput none s.vonu.omciRing e.index none } }
  | 4 => { s with ev := { s.ev with mirror := mput EvRec.blank s.ev.mirror e.index EvRec.blank } }
  | _ => s

/-- A word of the MRAM is lost (region 11): in a bank, it reads as a free value, which the checks of its image find (R466,
R473); without its record, the configuration store names bank 0 (R464); a log record is discarded. -/
def State.mramLost (s : State) (e : EccErr) : State :=
  match e.pool with
  | 0 | 1 =>
    let (f, s) := s.fresh
    let b : Bool := e.pool = 1
    s.setBank b { s.bank b with image := mput 0 (s.bank b).image e.index (BitVec.ofNat 8 f) }
  | 2 => { s with mram := { s.mram with prefBank := none } }
  | 3 => { s with mram := { s.mram with log := s.mram.log.set e.index .lost } }
  | _ => s

/-- The consequence of an uncorrectable error in its region. [DEDUCED, unsafe: log 101] -/
def State.eccConsequence (s : State) (e : EccErr) : State :=
  let keep (s : State) : State := s.modFault fun f => { f with goldenBad := f.goldenBad ++ [e] }
  match e.region.toNat with
  | 0 => keep s
  | 1 => withdrawAll 8 (s.stagedWith e.index) (s.dropStaged e.index)
  | 2 => s.withdraw e.pool e.index
  | 3 => s.queueLost e.index
  | 4 =>
    let (f, s) := s.fresh
    let old := s.ctr e.index
    let since := (old - mget 0 (s.tick.folds.getLast?.getD []) e.index).toNat
    let s := s.setCtr e.index (old - BitVec.ofNat 64 (f % (since + 1)))
    { s with tick := { s.tick with suspectSecond := true } }
  | 6 =>
    match e.chan with
    | some c => s.suppressTick c s.tick.number
    | none => keep (if e.index < 64 then { s with qs := { s.qs with eccShut := s.qs.eccShut ++ [BitVec.ofNat 6 e.index] } } else s)
  | 7 => s.dropLine e.pool e.index
  | 8 => s.loadErase (e.index % 4096)
  | 9 => (s.dropHolders e.pool e.index).withdraw e.pool e.index
  | 10 => s.dramLost e
  | 11 => s.mramLost e
  | _ => s

/-- Record and report the error (R427); region 5 is a lockstep mismatch, which the command itself adds. -/
def State.eccReport (s : State) (e : EccErr) : State :=
  let v := put 0 4 e.region.toNat + put 4 1 (b2n e.addrMismatch) + put 5 1 (b2n e.byScrub) + put 6 26 e.word.toNat + put 32 32 s.tickLow
  let s := (s.modFault fun f => { f with lastEcc := BitVec.ofNat 64 v }).bump (fltCtr 1) 1
  s.raise 0x0F02 (put 56 4 e.region.toNat + put 55 1 (b2n e.addrMismatch) + put 54 1 (b2n e.byScrub) + s.tickLow)

/-! ## Clock faults (R430, Table FAULT-4) -/

/-- Bring what a clock fault holds up to date, when it begins or ends. [DEDUCED, unsafe: log 104] -/
def State.clockApply (s : State) (g : Nat) (bad : Bool) (ports : BitVec 4) : State :=
  let hold (s : State) (c : Chan) : State := (s.modCh c fun x => { x with holdClock := bad }).txUpdate c
  match g with
  | 0 => if bad then s.enterSafe 0 else s
  | 1 => if bad then s.assertLos .a else s
  | 2 => hold s .a
  | 3 => if bad then s.assertLos .b else s
  | 4 => hold s .b
  | 5 => if bad && s.alink.state ≠ .down then s.linkTo .clock 0 else s
  | 6 =>
    let s := s.modFault fun f => { f with clockPorts := if bad then f.clockPorts ||| ports else 0 }
    settlePorts [0, 1, 2, 3] s
  | 8 => if bad then (s.modTime fun t => { t with ppsHigh := false, chanSince := none }).setEec .freeRun else s
  | _ => s

/-- The monitored domains of a group (Table FAULT-4). [DEDUCED, unsafe: log 104] -/
def groupClocks (g : Nat) : Nat :=
  match g with
  | 0 => 12 | 5 => 5 | 6 => 5 | _ => 2

/-- The domains of a group that fail. [DEDUCED, unsafe: log 104] -/
def State.clocksOut (s : State) (g : Nat) : Nat :=
  b2n (s.fault.clockGroups.getLsbD g) + s.fault.clockMore.count (BitVec.ofNat 4 g)

/-- A domain of a group fails: each is reported, and has the consequence of its group. [DEDUCED, unsafe: log 104] -/
def State.clockFault (s : State) (g permille : Nat) (ports : BitVec 4) : State :=
  let s := s.modFault fun f =>
    if f.clockGroups.getLsbD g then { f with clockMore := f.clockMore ++ [BitVec.ofNat 4 g] }
    else { f with clockGroups := f.clockGroups ||| BitVec.ofNat 11 (2 ^ g) }
  let s := s.bump (fltCtr 6) 1
  let s := s.raise 0x0F06 (put 62 1 1 + put 56 4 g + put 32 16 permille + s.tickLow)
  (s.clockApply g true ports).finish

/-- A domain's clock has been within limits for 1 ms; the group is held until the last is. The frequency that the event
reports is a free value. [DEDUCED, unsafe: log 100, 104] -/
def State.clockClear (s : State) (g : Nat) : State :=
  if !s.fault.clockGroups.getLsbD g then s
  else
    let (f, s) := s.fresh
    let more := s.fault.clockMore.contains (BitVec.ofNat 4 g)
    let s := s.modFault fun x =>
      if more then { x with clockMore := x.clockMore.erase (BitVec.ofNat 4 g) }
      else { x with clockGroups := x.clockGroups &&& ~~~BitVec.ofNat 11 (2 ^ g) }
    let s := s.raise 0x0F06 (put 56 4 g + put 32 16 f + s.tickLow)
    (if more then s else s.clockApply g false 0).finish

/-! ## Core pairs (R429) -/

/-- Mismatches of a pair within the latest 60 s. -/
def State.pairRecent (s : State) (l : List (BitVec 64)) : List (BitVec 64) :=
  l.filter fun t => decide (s.tick.number.toNat < t.toNat + 480000)

/-- A pair is halted by a mismatch: reported, and out of service at the third within 60 s. [DEDUCED, unsafe: log 102] -/
def State.pairMismatch (s : State) (svc : Bool) : State :=
  let l := s.pairRecent (if svc then s.fault.svcMismatches else s.fault.rtMismatches) ++ [s.tick.number]
  let out := l.length ≥ 3
  let s := s.modFault fun f =>
    if svc then { f with svcMismatches := l, svcOk := false, svcFailed := f.svcFailed || out }
    else { f with rtMismatches := l, rtOk := false, rtFailed := f.rtFailed || out }
  let s := (s.bump (fltCtr 5) 1).raise 0x0F05 (put 63 1 (b2n svc) + put 56 2 (sat 3 l.length) + s.tickLow)
  s.raiseIf out 0x0F0C (put 63 1 (b2n svc) + s.tickLow)

/-- A core pair is in service: it has not been halted by a mismatch, nor by the handover, whose first phase holds the
real-time pair and whose second the service pair (R423, R429, Table FAULT-6). -/
def State.pairIn (s : State) (svc : Bool) : Bool :=
  (if svc then s.fault.svcOk else s.fault.rtOk) &&
    !s.fault.handover.any fun h => h.phase = (if svc then 2 else 1)

/-- A mismatch leaves no pair in service: the pair was carrying alone (R429, R440). [DEDUCED, unsafe: log 102] -/
def State.pairLast (s : State) (svc : Bool) : Bool :=
  s.fault.handover.any (fun h => h.phase ≠ 0) || !s.pairIn (!svc)

/-! ## Illegal states (R434) -/

def ctlBlock : Ctl → Nat
  | .receiver c | .transmitter c => chBlock c
  | .burin _ | .shadow _ => 0x28
  | .activation _ _ => 0x20
  | .link => 0x48
  | .port _ => 0x50
  | .allocator _ => 0x40

/-- A shadow list that is missing for a tick (R192). -/
def State.loseShadow (s : State) (c : Chan) (n : BitVec 64) : State :=
  s.modB c fun x => { x with shadow := x.shadow.map fun e => if e.1 = n then (e.1, e.2.1, none) else e
                             serials := x.serials.filter fun w => w.tick ≠ n }

/-- The restart of a machine that was in an illegal state. [DEDUCED, unsafe: log 100] -/
def State.ctlRestart (s : State) (m : Ctl) : State :=
  match m with
  | .receiver c => s.restartCh c
  | .transmitter c => if (s.ch c).tx = .latched then s else (s.setTx c .off).txUpdate c
  | .burin c => s.suppressTick c s.tick.number
  | .shadow c => s.loseShadow c s.tick.number
  | .activation v c =>
    if (s.vonuAt v.toNat).enable.get c then
      let (f, s) := s.fresh
      s.moveOne v.toNat c .o1 (f % 5)
    else s
  | .link => if s.alink.state = .down then s else s.linkTo .lock 3
  | .port e => s.ethRestartPort e.toNat
  | .allocator p =>
    match (s.pool p).carried with
    | [] => s
    | _ :: r => (s.setPool p { s.pool p with carried := r }).bump (poolCtr p 1) 1

/-- [DEDUCED, unsafe: log 100] -/
def State.illegal (s : State) (m : Ctl) : State :=
  let (f, s) := s.fresh
  let s := (s.bump (fltCtr 8) 1).raise 0x0F08 (put 56 8 (ctlBlock m) + put 32 16 f + s.tickLow)
  (s.ctlRestart m).finish

/-! ## Scrub passes (R425, Table TICK-2) -/

/-- One tick of a pass of n slices; answers the pass and, where it ended, its length. -/
def scrubTick (n : Nat) (on : Bool) (x : Scrub) : Scrub × Option Nat :=
  if !on then (x, none)
  else
    let d := if x.held then x.done else x.done + 1
    if d ≥ n then (Scrub.none, some (x.ticks + 1)) else ({ done := d, ticks := x.ticks + 1, held := false }, none)

/-- Report a pass that took too long. -/
def State.scrubLate (s : State) (mech n : Nat) (len : Option Nat) : State :=
  match len with
  | some l => if l > n then (s.bump (fltCtr 3) 1).raise 0x0F03 (put 56 2 mech + put 32 16 (sat 65535 l) + s.tickLow) else s
  | none => s

/-- The patrol's pass over the DRAM: 64 s in ticks (Table FAULT-1). [DESIGN CHOICE, safe: log 41] -/
def patrolTicks : Nat := 512000

/-- The scrub work of one tick; the patrol stands still while a PHY of the DRAM is not trained.
[DESIGN CHOICE, safe: log 41] -/
def State.scrubWork (s : State) : State :=
  let en (i : Nat) : Bool := s.cfgB (addrOf 0x78 0x200) i
  let (b, lb) := scrubTick 128 (en 0) s.fault.scrubs.burnish
  let (r, lr) := scrubTick 64 (en 1) s.fault.scrubs.rule
  let (c, lc) := scrubTick 16 (en 2) s.fault.scrubs.crc
  let pat := s.fault.scrubs.patrol
  let pat := if !s.domOn 8 then Scrub.none else if s.bpm.trained = 15 then pat else { pat with held := true }
  let (p, lp) := scrubTick patrolTicks (en 3 && s.domOn 8) pat
  let s := s.modFault fun f => { f with scrubs := ⟨b, r, c, p⟩ }
  let s := s.bumpIf lb.isSome (fltCtr 2) 1
  (((s.scrubLate 0 128 lb).scrubLate 1 64 lr).scrubLate 2 16 lc).scrubLate 3 patrolTicks lp

/-! ## Reads -/

def readFlt (s : State) (f : Found) : Option Word :=
  match f.obj with
  | .fltStatus =>
    let h := match s.fault.handover with | some h => h.phase.toNat | none => 0
    some (BitVec.ofNat 32 (put 0 1 (b2n s.fault.guarantee) + put 1 6 s.reasons.toNat + put 7 2 h + put 9 1 (b2n (s.pairIn false)) +
      put 10 1 (b2n (s.pairIn true)) + put 16 11 s.fault.clockGroups.toNat))
  | .fltLastEcc => some (wordOf s.fault.lastEcc.toNat (f.ix.getD 0 0))
  | _ => none

end Sys2Proof.Machine
end

