-- ==== Sys2Proof/Machine/RegOps.lean ====
section
/-! DEFINITION. Reads and writes of the object space (R56 to R59, R68): what each word reads as, the checks of a write
and its effects, dispatched to the block that holds the object. -/

namespace Sys2Proof.Machine

/-! ## Status codes (Table CMD-3) -/

/-- The order of Table CMD-3, OK last. -/
def statusRank (c : Nat) : Nat :=
  match c with
  | 2 => 0 | 8 => 1 | 3 => 2 | 4 => 3 | 0x0A => 4 | 5 => 5 | 9 => 6 | 1 => 7 | 6 => 8 | 7 => 9 | _ => 10

/-- The condition listed first (R54). -/
def senior (a b : Nat) : Nat := if statusRank b < statusRank a then b else a

def seniorOf (l : List Nat) : Nat := l.foldl senior 0

/-! ## Names -/

/-- What an address names: an object word, or the stipple copy of a counter (R56, R78). -/
inductive Named | word (f : Found) | copy (live : Nat)
deriving DecidableEq, Repr

def nameOf (a : Nat) : Option Named :=
  match findObj a with
  | some f => some (.word f)
  | none => (stippleOf a).map .copy

/-- The power domain of an object word; stipple copies lie in PD_DRAM. -/
def Named.dom : Named → Nat
  | .word f => f.dom
  | .copy _ => 8

/-- The bits of a word that a write can reach. -/
def Named.mask : Named → Word
  | .word f => f.mask
  | .copy _ => 0

/-- A word with a field that reading clears (RC): a write ignores it, but it is no read-only word (R8). -/
def Found.rc (f : Found) : Bool :=
  match f.obj with
  | .rcCounter => true
  | .bpmPoolStatus => f.ix.getLastD 0 = 1 && f.w + f.ix.getD 0 0 ≠ 7
  | .burinStagePool => f.ix.getLastD 0 = 1
  | _ => false

/-- A word whose fields are all RO (R8). -/
def Named.readOnly (n : Named) : Bool :=
  match n with
  | .word f => f.mask = 0 && !f.rc
  | .copy _ => true

/-! ## Reads -/

/-- Records of the ring that a transport has not acknowledged and is subscribed to. -/
def State.backlog (s : State) (t : Transport) : List EvRec :=
  (s.ev.ring.drop (s.ev.pos.get t - s.ev.oldest).toNat).filter fun r => s.subscribed t r.code.toNat

/-- Accepted at-tick commands that wait for their tick (Table CMD-11). -/
def State.atTickPending (s : State) : Nat := sumN (s.cmd.held.map fun h => if h.atTick then h.pkts.length else 0)

/-- SYS_ID (Table CMD-9). -/
def State.sysId (s : State) : Nat :=
  put 0 16 0x4B50 + put 16 16 0x8512 + put 32 8 s.part.stepping.toNat + put 40 2 s.part.grade.toNat +
    put 42 2 s.part.budget.toNat + put 44 1 (b2n s.legacy)

def readSys (s : State) (f : Found) : Option Word :=
  let i := f.ix.getD 0 0
  match f.obj with
  | .sysId => some (wordOf s.sysId i)
  | .cmdStatus => some (BitVec.ofNat 32 (put 0 11 s.atTickPending + put 16 1 (b2n (s.cmd.port.twi.chain ≠ [])) +
      put 17 1 (b2n (s.cmd.port.alanov.chain ≠ []))))
  | .cmdErrors =>
    let p := s.cmd.port.get (transOf i)
    some (p.recovered ++ p.runt ++ p.seqErr ++ p.badCrc)
  | .stippleInfo => some (BitVec.ofNat 32 (put 0 30 s.tick.second.toNat + put 30 1 (b2n s.tick.incomplete) +
      put 31 1 (b2n s.tick.secondSuspect)))
  | _ => none

/-- SOURCE of TICK_STATUS. -/
def srcCode : Src → Nat
  | .ref => 0 | .chan .a => 1 | .chan .b => 2

def readTick (s : State) (f : Found) : Option Word :=
  let i := f.ix.getD 0 0
  match f.obj with
  | .tickStatus => some (BitVec.ofNat 32 (put 0 2 (srcCode s.sourceNow) + put 2 1 (b2n (s.inSync .a)) +
      put 3 1 (b2n (s.inSync .b)) + put 4 1 (b2n s.tick.stretched) + put 16 16 s.tick.lastPeriod.toNat))
  | .tickNumber => some (wordOf s.tick.number.toNat i)
  | .tickChange => some s.tick.changes
  | .tickOverrun => some (mget 0 s.tick.overrunCount i)
  | .tickBudget => some (s.tick.budget.setWidth 32)
  | .tickXgroup => some (s.tick.suspect ++ s.tick.disturbed)
  | _ => none

/-- The 16 bytes of an event record (Table CMD-6). -/
def recBytes (r : EvRec) : List Byte := leBytes 2 r.code.toNat ++ leBytes 6 r.time.toNat ++ leBytes 8 r.p.toNat

def readEv (s : State) (f : Found) : Option Word :=
  let i := f.ix.getD 0 0
  match f.obj with
  | .fltRing => some (BitVec.ofNat 32 (put 0 14 (s.backlog (transOf i)).length + put 14 18 (s.ev.lost.get (transOf i)).toNat))
  | .fltPending => some (s.ev.attn ++ s.ev.alarm)
  | .fltIndex => some s.ev.next
  | .fltMirror => some (BitVec.ofNat 32 (leNat (slice (recBytes (mget EvRec.blank s.ev.mirror i)) (4 * f.ix.getD 1 0) 4)))
  | _ => readFlt s f

/-- One word of the counter at an address; `a` names the word read. -/
def counterWord (m : SMap (BitVec 64)) (a : Nat) : Word := wordOf (mget 0 m (a / 2 * 2)).toNat (a % 2)

/-- The address is a counter of a FREE vONU, which reads as zero (R165). -/
def ofFreeVonu (s : State) (a : Nat) : Bool :=
  let o := a - addrOf 0x20 0x10000
  addrOf 0x20 0x10000 ≤ a && o < 512 * 64 && 32 ≤ o % 64 && o % 64 < 48 && (s.vonuAt (o / 64)).life = .free

/-- The value of a word that is not simply stored; none: the word reads as stored. -/
def computed (s : State) (a : Nat) (f : Found) : Option Word :=
  match f.obj with
  | .reserved => some 0
  | .counter | .rcCounter => some (if ofFreeVonu s a then 0 else counterWord s.counters.now a)
  | _ =>
    match a / 2 ^ 24 with
    | 0x01 => readSys s f | 0x02 => readTick s f | 0x10 => readCh s .a f | 0x11 => readCh s .b f | 0x20 => readVonu s f
    | 0x28 => readBurin s f | 0x30 => readCls s f | 0x38 => readQ s f | 0x40 => readBpm s f | 0x48 => readAl s f
    | 0x50 => readEth s f | 0x58 => readTime s f | 0x60 => readCes s f | 0x68 => readCry s f | 0x70 => readPwr s f
    | 0x78 => readEv s f | 0x7C => readPwr s f | 0x7E => readCry s f | _ => none

/-- The value that a read of a word returns. -/
def State.wordAt (s : State) (a : Nat) (n : Named) : Word :=
  match n with
  | .copy live => counterWord s.stipple live
  | .word f => (computed s a f).getD (s.cfg a)

/-- What reading a word does: RC fields and counters clear (R8, R350), and a value of the moment takes its moment. -/
def State.readEffect (s : State) (a : Nat) (n : Named) : State :=
  match n with
  | .copy _ => s
  | .word f =>
    match f.obj with
    | .rcCounter => s.setCtr (a / 2 * 2) 0
    | .bpmPoolStatus => readSideBpm s f
    | .burinStagePool => readSideBurin s f
    | .timeNow => readSideTime s f
    | .qNode => readSideQ s f
    | _ => s

/-- Read words from an address until the count is met, or one is unnamed or its domain off (R57); answers the words, in
reverse, with what stopped the read. -/
def readRange (s : State) : Nat → Nat → List Word → List Word × Nat
  | 0, _, got => (got, 0)
  | n + 1, a, got =>
    match nameOf a with
    | none => (got, 4)
    | some x => if s.domOn x.dom then readRange s n (a + 1) (s.wordAt a x :: got) else (got, 5)

/-- The effects of a read of n words. -/
def readEffects : Nat → Nat → State → State
  | 0, _, s => s
  | n + 1, a, s => readEffects n (a + 1) (match nameOf a with | some x => s.readEffect a x | none => s)

/-! ## Writes -/

/-- A word of a write, with the bits of a MODIFY's mask (all ones in a WRITE). -/
structure WordIn where
  addr : Nat
  val : Word
  mask : Word
deriving DecidableEq, Repr

/-- The words of a WRITE. -/
def wordsIn (a : Nat) : List Word → List WordIn
  | [] => []
  | v :: r => ⟨a, v, all32⟩ :: wordsIn (a + 1) r

/-- The value that a word takes. A word that is not stored takes effect by the bits written: RO bits, and bits outside a
MODIFY's mask, are zero in it. [DEDUCED, unsafe: log 23] -/
def State.newWord (s : State) (x : WordIn) (f : Found) : Word :=
  let m := f.mask &&& x.mask
  if (computed s x.addr f).isSome then x.val &&& m else (s.cfg x.addr &&& ~~~m) ||| (x.val &&& m)

/-- Commits of profile slots that wait for their tick (R63), as slot 8v + 4c + p. [DEDUCED, unsafe: log 34] -/
def State.profilePending (s : State) (k : Nat) : Bool :=
  s.waiting.any fun p =>
    p.op = 0x12 && 8 * fld p.r.param 0 9 + 4 * fld p.r.param 12 1 + fld p.r.param 14 2 = k

/-- SYS_CMD_CFG cannot disable both transports (R68). -/
def checkSys (f : Found) (v : Word) : Nat :=
  match f.obj with
  | .cmdCfg => if fld v 0 2 = 0 then 5 else 0
  | _ => 0

/-- A fuse that is already blown. -/
def State.fuseBlown (s : State) (n : Nat) : Bool :=
  match n with
  | 0 => s.fuses.dbgLock
  | 1 => s.fuses.legacyLock
  | n => s.fuses.revoked.getLsbD (n - 2)

/-- The refusals of a blow (R413). [DESIGN CHOICE, unsafe: log 99] -/
def State.fuseOk (s : State) (t : Transport) (n : Nat) : Bool :=
  let live := (List.range 4).filter fun i => s.fuses.hashValid.getLsbD i && !s.fuses.revoked.getLsbD i
  t = .twi && s.crypto.armed && !s.fault.supplyOut && n < 6 && !s.fuseBlown n &&
    (n < 2 || (live ≠ [n - 2] && s.fw.keyIndex.toNat ≠ n - 2))

/-- The blow completes: the fuse holds for ever, and the arm is used up. -/
def State.blowFuse (s : State) (n : Nat) : State :=
  let f := match n with
    | 0 => { s.fuses with dbgLock := true }
    | 1 => { s.fuses with legacyLock := true }
    | n => { s.fuses with revoked := s.fuses.revoked ||| BitVec.ofNat 4 (2 ^ (n - 2)) }
  let ends := n = 0 && s.crypto.ir = none
  { s with fuses := f, crypto := { s.crypto with armed := false, ir := if ends then some .bypass else s.crypto.ir } }

def checkFuse (s : State) (t : Transport) (f : Found) (v : Word) : Nat :=
  match f.obj with
  | .fuseBlow => if s.fuseOk t (fld v 0 3) then 0 else 5
  | _ => 0

/-- FUSE_ARM arms a blow; any other value arms none. -/
def applyFuse (s : State) (f : Found) (v : Word) : State :=
  match f.obj with
  | .fuseArm => if v = 0x4B508512 then { s with crypto := { s.crypto with armed := true } } else s
  | _ => s

/-- The block's own check of one word: 0, or the refusing status. -/
def checkWord (s : State) (t : Transport) (a : Nat) (f : Found) (v : Word) : Nat :=
  match a / 2 ^ 24 with
  | 0x01 => checkSys f v | 0x10 => checkCh s .a f v | 0x11 => checkCh s .b f v | 0x20 => checkVonu s s.profilePending f v
  | 0x28 => checkBurin s f v | 0x30 => checkCls s f v | 0x38 => checkQ s f a v | 0x40 => checkBpm f v | 0x48 => checkAl s f v
  | 0x50 => checkEth s f v | 0x58 => checkTime s f v | 0x60 => checkCes s f v | 0x68 => checkCry s f v
  | 0x70 => checkPwr s f v | 0x7E => checkFuse s t f v | _ => 0

/-- The checks that look at the words as the whole write leaves them. -/
def finalWord (s : State) (a : Nat) (f : Found) : Nat :=
  match a / 2 ^ 24 with
  | 0x20 => finalVonu s f | 0x38 => finalQ s f | 0x60 => finalCes s f | _ => 0

/-- The effects of TICK and FAULT words: W1C bits clear. -/
def applyTick (s : State) (f : Found) (v : Word) : State :=
  match f.obj with
  | .tickBudget => { s with tick := { s.tick with budget := s.tick.budget &&& ~~~ v.setWidth 14 } }
  | .tickXgroup => { s with tick := { s.tick with disturbed := s.tick.disturbed &&& ~~~ v.setWidth 16 } }
  | _ => s

/-- The block's own effect of one written word. -/
def applyWord (s : State) (a : Nat) (f : Found) (old new : Word) : State :=
  match a / 2 ^ 24 with
  | 0x02 => applyTick s f new | 0x10 => applyCh s .a f old new | 0x11 => applyCh s .b f old new | 0x28 => applyBurin s f new
  | 0x30 => applyCls s f new | 0x38 => applyQ s f old new | 0x40 => applyBpm s f | 0x48 => applyAl s f old new
  | 0x50 => applyEth s f old new | 0x58 => applyTime s f | 0x60 => applyCes s f old new | 0x68 => applyCry s f new | 0x70 => applyPwr s f new
  | 0x7E => applyFuse s f new | _ => s

/-- Objects that take their words together. -/
inductive Special | keyLoad | omciTx | todIn (c : Chan)
deriving DecidableEq, Repr

/-- [DEDUCED, unsafe: log 24] -/
def specialAt (f : Found) : Option Special :=
  match f.obj with
  | .cryKeyLoad => some .keyLoad
  | .vonuOmciTx => some .omciTx
  | .timeTodIn => some (.todIn (chanOf (f.ix.getD 0 0)))
  | _ => none

/-- Where such an object's words begin. -/
def specialBase : Special → Nat
  | .keyLoad => addrOf 0x68 0x10
  | .omciTx => addrOf 0x20 0x100000
  | .todIn c => timeAddr (0x20 + 8 * chanN c)

/-- The check of a write of an object that takes its words together (R159, R362, R404). [DEDUCED, unsafe: log 24] -/
def specialCheck (s : State) (k : Special) (base : Nat) (ws : List Word) : Nat :=
  if base ≠ specialBase k then 5
  else match k with
    | .keyLoad =>
      let h := loadHead (ws.getD 0 0)
      if ws.length = (if h.kind = 0 then 1 else 13) then s.loadCheck h else 5
    | .omciTx => s.omciTxCheck ws
    | .todIn c => if ws.length = 6 && s.todOk c (todOf ws) then 0 else 5

/-- [DEDUCED, unsafe: log 24] -/
def specialApply (s : State) (k : Special) (ws : List Word) : State :=
  match k with
  | .keyLoad => s.keyLoad (loadHead (ws.getD 0 0)) ((ws.drop 1).flatMap wordBytes)
  | .omciTx => s.omciTxApply ws
  | .todIn c => s.todTake c (todOf ws)

/-- The words of a write, each with what it names; none: one names no object. -/
def nameAll : List WordIn → Option (List (WordIn × Named))
  | [] => some []
  | x :: r => match nameOf x.addr, nameAll r with
    | some n, some l => some ((x, n) :: l)
    | _, _ => none

/-- The words that a write reaches, with their new values. -/
def State.reached (s : State) (l : List (WordIn × Named)) : List (WordIn × Found × Word) :=
  l.filterMap fun e => match e.2 with
    | .word f => if f.mask = 0 then none else some (e.1, f, s.newWord e.1 f)
    | .copy _ => none

/-- Store the words that hold what was written. -/
def storeAll : List (WordIn × Found × Word) → State → State
  | [], s => s
  | (x, f, v) :: r, s => storeAll r (if (computed s x.addr f).isSome then s else s.putCfg x.addr v)

/-- The effects of the words, in address order. [DEDUCED, unsafe: log 22] -/
def applyAll (before : State) : List (WordIn × Found × Word) → State → State
  | [], s => s
  | (x, f, v) :: r, s => applyAll before r (applyWord s x.addr f (before.cfg x.addr) v)

/-- The groups of objects that a write reaches, each once. -/
def rewrites (r : List (WordIn × Found × Word)) : List Group := (r.filterMap fun e => groupOf e.2.1).dedup

/-- The special object that a write begins with. -/
def specialOf : List (WordIn × Found × Word) → Option Special
  | (_, f, _) :: _ => specialAt f
  | [] => none

/-- Values that the checks of R223 look at whole, reserved bits included, even in words that a write cannot reach.
[DEDUCED, unsafe: log 22] -/
def rawCheck (s : State) (e : WordIn × Named) : Nat :=
  match e.2 with
  | .word f =>
    match f.obj with
    | .classMiss | .classExc | .classRule => checkCls s f (e.1.val &&& e.1.mask ||| s.cfg e.1.addr &&& ~~~ e.1.mask)
    | _ => 0
  | .copy _ => 0

/-- The checks of a write as a whole (R57, R58): every word is checked before any changes, and the condition listed first is
answered (R54). -/
def State.writeCheck (s : State) (t : Transport) (ws : List WordIn) : Nat :=
  match nameAll ws with
  | none => 4
  | some l =>
    if l.all (fun e => e.2.readOnly) then 4
    else
      let r := s.reached l
      senior (if l.any (fun e => !s.domOn e.2.dom) then 5 else 0) (match specialOf r with
        | some k =>
          if r.all (fun e => specialAt e.2.1 = some k) then specialCheck s k ((ws.map (·.addr)).headD 0) (r.map (·.2.2)) else 5
        | none =>
          let after := storeAll r s
          seniorOf ((l.map (rawCheck s)) ++ (r.map fun e => checkWord s t e.1.addr e.2.1 e.2.2) ++
            (r.map fun e => finalWord after e.1.addr e.2.1)))

/-- The effect of an accepted write. -/
def State.writeApply (s : State) (ws : List WordIn) : State :=
  match nameAll ws with
  | none => s
  | some l =>
    let r := s.reached l
    match specialOf r with
    | some k => specialApply (match k with | .todIn _ => storeAll r s | _ => s) k (r.map (·.2.2))
    | none => rewriteGroups s (rewrites r) (applyAll s r (storeAll r s))

/-- What a refused write does all the same: RESOURCE_LIMIT for a flow binding (R163), and a refused blow disarms (R413). -/
def State.writeRefused (s : State) (ws : List WordIn) (status : Nat) : State :=
  match nameAll ws with
  | none => s
  | some l =>
    let r := s.reached l
    let after := storeAll r s
    let full (e : WordIn × Found × Word) : Bool := e.2.1.obj = .vonuFlowBind && finalVonu after e.2.1 = 9
    let s := match status, r.find? full with
      | 9, some e => refusedVonu s e.2.1 e.2.2 9
      | _, _ => s
    if r.any fun e => e.2.1.obj = .fuseBlow then { s with crypto := { s.crypto with armed := false } } else s

end Sys2Proof.Machine
end

