-- ==== Sys2Proof/Machine/LifeOps.lean ====
section
/-! DEFINITION. The lifecycle of vONUs and the commits of profiles, plates and hatch lists: the checks and effects that the
command layer and the legacy command set share (R127 to R131, R150, R228, R260). -/

namespace Sys2Proof.Machine

/-! ## Lifecycle (Table VONU-1) -/

/-- The check of a creation with an identity. -/
def State.createCheck (s : State) (v : Nat) (sn : BitVec 64) : Nat :=
  match (s.vonuAt v).life with
  | .retiring => 1
  | .free => if s.snHeld sn then 5 else 0
  | _ => 5

/-- The identity is loaded; the management slots of both channels hold the default set (R128, R400). -/
def State.createVonu (s : State) (v : Nat) (sn : BitVec 64) (regId : BitVec 288) : State :=
  let s := s.setVonu v { Vonu.none with life := .created, sn, regId }
  (s.setSlot (mgmtSlot v 0) defaultSlot).setSlot (mgmtSlot v 1) defaultSlot

def State.isLive (s : State) (v : Nat) : Bool :=
  match (s.vonuAt v).life with
  | .created | .active => true
  | _ => false

/-- The lifecycle state that the masks give a vONU that lives. -/
def State.lifeByMasks (s : State) (v : Nat) : State :=
  let x := s.vonuAt v
  match x.life with
  | .created | .active => s.setVonu v { x with life := if x.enable.a || x.enable.b then .active else .created }
  | _ => s

/-- A burst of a vONU is in progress on a channel. -/
def State.bursting (s : State) (v : Nat) (c : Chan) : Bool := (s.bch c).current.any fun b => b.vonu.toNat = v

/-- The enable bit of one channel is set, from IDLE (R130, R138). -/
def State.enableOn (s : State) (v : Nat) (c : Chan) : State :=
  if (s.vch v c).act ≠ .idle then s
  else if s.hasEstop (s.vonuAt v).sn c then
    (s.moveOne v c .o7 3).raise 0x0307 (pCh c + put 62 1 1 + put 48 9 v + put 32 10 1 + s.tickLow)
  else s.moveOne v c .o1 3

/-- The enable bit of one channel is clear: the vONU becomes IDLE there, after any burst in progress (R130).
[DESIGN CHOICE, unsafe: log 160] -/
def State.enableOff (s : State) (v : Nat) (c : Chan) : State :=
  if s.bursting v c then s else s.moveOne v c .idle 3

/-- The masks of VONU_ENABLE, two bits each: A, then B. -/
def State.setMasks (s : State) (v enable standby : Nat) : State :=
  let x := s.vonuAt v
  let two (m : Nat) : Two Bool := ⟨m % 2 = 1, m / 2 % 2 = 1⟩
  let old := x.enable
  let new := two enable
  let s := (s.setVonu v { x with enable := new, standby := two standby }).lifeByMasks v
  let one (s : State) (c : Chan) : State :=
    if new.get c && !old.get c then s.enableOn v c
    else if !new.get c && old.get c then s.enableOff v c else s
  one (one s .a) .b

/-- The bursts of a vONU that wait on a channel are not sent (R131). [DEDUCED, unsafe: log 58] -/
def State.dropBursts (s : State) (v : Nat) (c : Chan) : State :=
  let mine (b : Burst) : Bool := b.vonu.toNat = v
  let s := ((s.bch c).bursts.filter mine).foldl (fun s b => s.restoreBurst c b) s
  s.modB c fun x => { x with bursts := x.bursts.filter fun b => !mine b }

/-- VONU_RETIRE at its tick: no burst follows, every channel is left and the release begins (R131).
[DEDUCED, unsafe: log 58] -/
def State.retireVonu (s : State) (v : Nat) : State :=
  let s := (s.dropBursts v .a).dropBursts v .b
  let x := s.vonuAt v
  let s := s.setVonu v { x with life := .retiring, enable := ⟨false, false⟩, standby := ⟨false, false⟩ }
  (s.moveOne v .a .idle 3).moveOne v .b .idle 3

/-- Clear the VALID bits of some bindings. -/
def unbindAll : List (Nat × Word) → State → State
  | [], s => s
  | (f, w) :: r, s => unbindAll r (s.putCfg (flowAddr f) (w &&& 0xFBFFFFFF))

/-- The release ends: profiles, bindings, key slots and queues go, and the vONU is FREE (R131).
[DEDUCED, unsafe: log 58] -/
def State.freeVonu (s : State) (v : Nat) : State :=
  let s := unbindAll (s.flowsOf v) s
  let s := ([mgmtSlot v 0, mgmtSlot v 1, uniSlot v 0 1, uniSlot v 0 2, uniSlot v 1 1, uniSlot v 1 2]).foldl (fun s i => s.eraseSlot i) s
  (s.setVonu v Vonu.none).raise 0x030B (put 48 9 v + s.tickLow)

/-- A vONU whose enable bit was cleared during its burst becomes IDLE when the burst has ended (R130). -/
def State.leaveDisabled (s : State) (v : Nat) (c : Chan) : State :=
  let x := s.vonuAt v
  if !x.enable.get c && (x.ch.get c).act ≠ .idle && x.life ≠ .free then s.moveOne v c .idle 3 else s

/-! ## Commits -/

/-- COMMIT_PROFILE at its tick (R150). -/
def State.commitProfile (s : State) (v : Nat) (c : Chan) (p : Nat) : State :=
  let new := s.shadowProfile v (chanN c) p
  let before := s.actsOf c [v]
  let s := s.modVch v c fun x => { x with profiles := x.profiles.set p new }
  (s.tryO23 v c).reportMoves c before 3

/-- COMMIT_HATCH at its tick: the shadow's copy waits for its start (R260). -/
def State.commitHatch (s : State) (l : Nat) : State :=
  match s.shadowCopy l with
  | some x =>
    let tc := s.nsAt s.time.count
    let s := s.hatchArm l x tc
    s.setHatch l { s.hatch l with commitTick := s.tick.number, commitNs := BitVec.ofNat 64 tc }
  | none => s

/-- Arm every list's active copy anew from the Stylus time of the first tick after PD_PKT's entry (R267). One beside which
a commit holds another copy restarts on its own. [DEDUCED, unsafe: log 75] -/
def rearmLists (tc : Nat) : List (Nat × Hatch) → State → State
  | [], s => s
  | (l, h) :: r, s =>
    let from_ (h : Hatch) : Hatch := { h with active := none, copying := false, commitTick := s.tick.number, commitNs := BitVec.ofNat 64 tc }
    match h.pending, h.active with
    | none, some x => rearmLists tc r ((s.setHatch l (from_ h)).hatchArm l x tc)
    | some _, some x =>
      let st : HStart := { at_ := BitVec.ofNat 64 (hatchStart x tc), tick := s.tick.number, ns := BitVec.ofNat 64 tc }
      rearmLists tc r (s.setHatch l { h with active := none, copying := false, again := some (x, st) })
    | _, _ => rearmLists tc r s

/-- The first tick after PD_PKT's entry (R267). [DEDUCED, unsafe: log 75] -/
def State.rearmTick (s : State) : State :=
  if !s.qs.rearm || !s.domOn 6 then s
  else rearmLists (s.nsAt s.time.count) s.qs.hatch { s with qs := { s.qs with rearm := false } }

/-- A COMMIT_PLATE at its tick: the swap follows at the CLASS clock edge (R228). Of two members of one chain, which have
the same edge, the first swap comes first. [DEDUCED, unsafe: log 70] -/
def State.commitPlate (s : State) (plate : Bool) : State :=
  let s := match s.cls.swapDue with | some p => s.swapPlates p | none => s
  s.modCls fun c => { c with swapDue := some plate }

/-! ## RESYNC (R30, R31) -/

/-- The power domain of a crossing group; groups 9 and 10 lie in PD_AON, which never turns off. -/
def groupDom (g : Nat) : Nat :=
  match g with
  | 0 => 2 | 1 => 3 | 2 => 4 | 3 => 5 | 4 => 9 | 5 => 10 | 6 => 8 | 7 => 11 | 8 => 12 | 11 | 12 | 13 => 1 | 14 => 7
  | 15 => 6 | _ => 0

def groupsOf (mask : Nat) : List Nat := (List.range 16).filter fun g => mask.testBit g

def State.resyncOk (s : State) (mask : Nat) : Bool := (groupsOf mask).all fun g => s.domOn (groupDom g)

/-- [DEDUCED, unsafe: log 39] -/
def State.resync (s : State) (mask : Nat) : State :=
  let keep := ~~~BitVec.ofNat 16 mask
  let s := { s with tick := { s.tick with suspect := s.tick.suspect &&& keep, spurious := s.tick.spurious &&& keep } }
  s.raiseIf (mask % 65536 ≠ 0) 0x0F22 (put 32 16 mask + s.tickLow)

/-- Firmware's RESYNCs act; a group whose domain has turned off meanwhile is left (R31). [DEDUCED, unsafe: log 39] -/
def resyncAll : List (BitVec 64 × BitVec 4) → State → State
  | [], s => s
  | (_, g) :: r, s => resyncAll r (if s.domOn (groupDom g.toNat) then s.resync (2 ^ g.toNat) else s)

/-- The RESYNCs of firmware that are due at this tick. [DEDUCED, unsafe: log 39] -/
def State.resyncsDue (s : State) : State :=
  let due (e : BitVec 64 × BitVec 4) : Bool := decide (e.1.toNat ≤ s.tick.number.toNat)
  resyncAll (s.tick.resyncs.filter due) { s with tick := { s.tick with resyncs := s.tick.resyncs.filter fun e => !due e } }

/-! ## Proof loops and PRBS (R321 to R325, R347) -/

/-- A lane of the Alanov Link (below 9) or of Ethernet (0x100 + e). -/
def laneOk (n : Nat) : Bool := n < 9 || (0x100 ≤ n && n < 0x104)

/-- LOOP_SET's checks: BAD_OBJECT for another target, else DENIED_STATE. -/
def State.loopCheck (s : State) (t : Transport) (addr kind : Nat) : Nat :=
  if addr = 0 then
    (if kind > 3 || !s.domOn 9 || (t = .alanov && kind ≠ 0) then 5 else 0)
  else if 0x100 ≤ addr && addr < 0x104 then
    (if kind > 2 || !s.domOn 10 || (s.kr4 && addr ≠ 0x100) then 5 else 0)
  else 4

def State.loopLink (s : State) (kind : Nat) : State :=
  if kind = 0 then (if s.alink.state = .loop then s.linkTo .clock 0 else s)
  else
    let s := s.setLink .loop 0
    let s := s.modLink fun a => freshCredit { a with loopKind := BitVec.ofNat 2 kind }
    ((s.creditForget.raise 0x0808 (put 56 2 kind + s.tickLow)).expose 4).linkSettle

def State.loopEth (s : State) (e kind : Nat) : State :=
  if kind = 0 then
    (if (ethPort s e).state = .loop then (((((s.txDone e).loopBack e).setEth e .down 0).ethUnloop e).ethSettle e 2) else s)
  else
    -- no negotiation precedes a loop: outside UP the configured rate and FEC run
    let s := (if (ethPort s e).state = .up then s else s.ethRates e).setEth e .loop 0
    let s := (s.modEth e fun x => { x with loopKind := BitVec.ofNat 2 kind }).raise 0x0907 (pEth e + put 48 2 kind + s.tickLow)
    (s.exposePort e).ethSettle e 2

def State.loopSet (s : State) (addr kind : Nat) : State := if addr = 0 then s.loopLink kind else s.loopEth (addr - 0x100) kind

/-- PRBS_CTL's checks (R323, R324, R347). -/
def State.prbsCheck (s : State) (n : Nat) : Nat :=
  if !laneOk n then 4
  else
    let ok : Bool :=
      if n < 9 then
        s.domOn 9 && ((s.alink.state = .down && s.cfgB (alAddr 0) 2) || s.alink.state = .loop ||
          (n = 8 && s.alink.state = .active && s.alink.rxUse.isNone && s.alink.txUse.isNone))
      else
        let p := if s.kr4 then 0 else n - 0x100
        s.domOn 10 && (((ethPort s p).state = .down && s.ethCfgB p 6) || (ethPort s p).state = .loop)
    if ok then 0 else 5

/-- A running checker compares bits all the time: by how many its counts have advanced is a free value (R323, R325).
[DESIGN CHOICE, safe: log 78] -/
def State.prbsAdvance (s : State) (n : Nat) : State :=
  let x := s.prbs n
  if !x.chk || x.pattern = 0 then s
  else
    let (e, s) := s.fresh
    let (b, s) := s.fresh
    s.setPrbs n { x with errors := BitVec.ofNat 32 (sat (2 ^ 32 - 1) (x.errors.toNat + e)), bits := x.bits + BitVec.ofNat 64 b }

/-- A checker gains sync, or loses it after 32 errors within 64 bits (R323). -/
def State.prbsSync (s : State) (n : Nat) (v : Bool) : State :=
  let x := (s.prbs n)
  if !laneOk n || !x.chk || x.pattern = 0 || x.sync = v then s
  else
    let s := s.prbsAdvance n
    let y := s.prbs n
    let errors := if v then y.errors else BitVec.ofNat 32 (maxN y.errors.toNat (sat (2 ^ 32 - 1) (x.errors.toNat + 32)))
    s.setPrbs n { y with sync := v, errors := errors }

def State.prbsCtl (s : State) (n : Nat) (v : Word) : State :=
  let s := s.prbsAdvance n
  let x := s.prbs n
  let fresh := bit v 4 && !x.chk
  s.setPrbs n { pattern := BitVec.ofNat 2 (fld v 0 2), invert := bit v 2, gen := bit v 3, chk := bit v 4
                sync := x.sync && bit v 4 && !fresh, errors := if fresh then 0 else x.errors, bits := if fresh then 0 else x.bits }

def State.prbsReadCheck (s : State) (n : Nat) : Nat :=
  if !laneOk n then 4 else if s.domOn (if n < 9 then 9 else 10) then 0 else 5

/-- The four words of PRBS_READ. -/
def prbsWords (x : Prbs) : List Word :=
  [ BitVec.ofNat 32 (put 0 1 (b2n x.sync) + put 1 1 (b2n x.gen) + put 2 1 (b2n x.chk) + put 3 2 x.pattern.toNat + put 5 1 (b2n x.invert)),
    x.errors, wordOf x.bits.toNat 0, wordOf x.bits.toNat 1 ]

/-! ## Host votes (R448, R449) -/

def State.hostVote (s : State) (d : Nat) : State := s.setVotes 0 [d]

def State.hostUnvote (s : State) (d : Nat) : State :=
  if (s.dom d).votes.getLsbD 0 then
    let s := s.modDom d fun x => { x with votes := x.votes &&& ~~~1#9 }
    if s.needs d then s.refuseEntry d (lowestVote (s.dom d).votes) 1 else s
  else s

/-- A SLEEP that other clients' votes block counts a refused entry on each such domain (R458). -/
def refuseAll : List (Nat × Nat) → State → State
  | [], s => s
  | (d, who) :: r, s => refuseAll r (s.refuseEntry d who 1)

end Sys2Proof.Machine
end

