-- ==== Sys2Proof/Machine/CmdOps.lean ====
section
/-! DEFINITION. The command layer (Command Packets, Objects and Events): acceptance and sequence numbers, replies, the
checks of every opcode, timed execution, chains, and what each opcode does. -/

namespace Sys2Proof.Machine

/-! ## Packets -/

def Pkt.code (p : Pkt) : Nat := p.op.toNat
def Pkt.ackReq (p : Pkt) : Bool := p.r.flags.getLsbD 0
def Pkt.posted (p : Pkt) : Bool := p.r.flags.getLsbD 1
def Pkt.chained (p : Pkt) : Bool := p.r.flags.getLsbD 2
def Pkt.atTick (p : Pkt) : Bool := p.r.flags.getLsbD 3
/-- The target tick of an at-tick command (R60). -/
def Pkt.target (p : Pkt) : BitVec 64 := BitVec.ofNat 64 (leNat (p.r.payload.take 8))
/-- The opcode's own payload. -/
def Pkt.body (p : Pkt) : List Byte := if p.atTick then p.r.payload.drop 8 else p.r.payload
def Pkt.addr (p : Pkt) : Nat := p.r.addr.toNat
def Pkt.param (p : Pkt) : Nat := p.r.param.toNat

/-- The opcodes of Table CMD-4. -/
def opcodes : List Nat :=
  [0x01, 0x02, 0x03, 0x04, 0x05, 0x10, 0x11, 0x12, 0x20, 0x21, 0x22, 0x30, 0x31, 0x32, 0x40, 0x41, 0x42, 0x50, 0x51, 0x52,
   0x53, 0x60, 0x61, 0x62, 0x6F, 0x70, 0x71, 0x72]

/-- Opcodes that act only at ticks (R63). -/
def tickBound (op : Nat) : Bool := [0x10, 0x11, 0x12, 0x20, 0x21, 0x22, 0x6F].contains op
/-- Opcodes that permit AT_TICK (R60). -/
def atTickAllowed (op : Nat) : Bool := [0x02, 0x03, 0x05, 0x10, 0x11, 0x12, 0x20, 0x21, 0x22, 0x40, 0x41, 0x6F].contains op
/-- Opcodes that permit POSTED (R52); TABLE_LOAD behaves as WRITE in every respect (R511). [DEDUCED, unsafe: log 128] -/
def postedAllowed (op : Nat) : Bool := [0x02, 0x03, 0x05, 0x32, 0x40, 0x41].contains op
/-- Opcodes whose command payload is None (Table CMD-4). -/
def noPayload (op : Nat) : Bool :=
  [0x01, 0x04, 0x10, 0x11, 0x12, 0x21, 0x22, 0x30, 0x31, 0x32, 0x40, 0x41, 0x42, 0x50, 0x52, 0x53, 0x60, 0x61, 0x62, 0x6F,
   0x70].contains op
/-- Opcodes that R68 never disables. PRBS_READ changes nothing and is taken with them. DEDUCED (log 26).
[DEDUCED, unsafe: log 26] -/
def readsOnly (op : Nat) : Bool := [0x01, 0x04, 0x30, 0x31, 0x32, 0x62].contains op
/-- Opcodes refused while a handover runs (R439). [DEDUCED, unsafe: log 33] -/
def handoverRefused (op : Nat) : Bool :=
  [0x10, 0x11, 0x12, 0x20, 0x21, 0x22, 0x50, 0x51, 0x52, 0x53, 0x6F, 0x70].contains op

/-! ## Replies (R45 to R53) -/

def State.port (s : State) (t : Transport) : PortSt := s.cmd.port.get t
def State.modPort (s : State) (t : Transport) (f : PortSt → PortSt) : State :=
  { s with cmd := { s.cmd with port := s.cmd.port.set t (f (s.port t)) } }

/-- FLAGS of a reply (Table CMD-2). -/
def State.replyFlags (s : State) (t : Transport) (f : Byte) (interim : Bool) : Byte :=
  (f &&& 0x0D) ||| BitVec.ofNat 8 (put 4 1 (b2n interim) + put 5 1 (b2n (s.backlog t ≠ [])) + 0x40)

/-- The awaited reply has left: the device goes to sleep, or resets (R459, R463). -/
def State.endWait (s : State) : State :=
  match s.cmd.wait with
  | none => s
  | some w =>
    let s := { s with cmd := { s.cmd with wait := none } }
    match w.what with
    | .sleep => s.startSleep
    | .reset => s.deviceReset 2 0 .internalReset

/-- End the wait of R459 where its reply has left. [DEDUCED, unsafe: log 108] -/
def State.waitCheck (s : State) : State :=
  match s.cmd.wait with
  | none => s
  | some w => if (s.port w.t).replies.any fun r => r.seq = w.seq && !r.flags.getLsbD 4 then s else s.endWait

/-- Replies of channel 640 leave as far as credit allows. -/
def State.pump (s : State) : State := s.pumpReplies.waitCheck

/-- Queue a reply at its transport. -/
def State.pushReply (s : State) (t : Transport) (r : Reply) : State :=
  let s := s.modPort t fun p => { p with replies := p.replies ++ [r] }
  match t with
  | .twi => s
  | .alanov => s.pumpReplies

/-- A reply to a packet, from its fields. -/
def State.mkReply (s : State) (op : Byte) (r : Req) (interim : Bool) (status : Nat) (addr param : BitVec 32) (payload : List Byte) : Reply :=
  { op, seq := r.seq, flags := s.replyFlags r.t r.flags interim, status := BitVec.ofNat 8 status, addr, param, payload }

/-- What a command answers. -/
structure Res where
  status : Nat
  addr : BitVec 32
  param : BitVec 32
  payload : List Byte
deriving DecidableEq, Repr

/-- [DESIGN CHOICE, unsafe: log 139] -/
def Pkt.ok (p : Pkt) : Res := { status := 0, addr := p.r.addr, param := p.r.param, payload := [] }
def Pkt.words (p : Pkt) (ws : List Word) : Res := { p.ok with payload := ws.flatMap wordBytes }
def Pkt.fail (p : Pkt) (status : Nat) : Res := { p.ok with status }

/-- Note the outcome of an accepted command in the history (R50). -/
def markDone (seq : BitVec 16) (r : Option Reply) : List Past → List Past
  | [] => []
  | x :: rest => if x.seq = seq && x.reply.isNone then { x with reply := r } :: rest else x :: markDone seq r rest

/-- COMMAND_ERROR_TWI or COMMAND_ERROR_AL for a posted command (R52). -/
def State.commandError (s : State) (p : Pkt) (status : Nat) : State :=
  s.raise (0x0E01 + transN p.r.t) (put 48 16 p.r.seq.toNat + put 40 8 p.code + put 32 8 status + p.addr)

/-- The end of an accepted command: its final reply, or for a posted one its event where it failed. -/
def State.answer (s : State) (p : Pkt) (r : Res) : State :=
  let reply := s.mkReply p.op p.r false r.status r.addr r.param r.payload
  let s := s.modPort p.r.t fun x => { x with history := markDone p.r.seq (some reply) x.history }
  if p.posted then (if r.status = 0 then s else s.commandError p r.status) else s.pushReply p.r.t reply

/-- The refusal of a command that was not accepted (R44, R51). -/
def State.refuse (s : State) (p : Pkt) (status : Nat) (param : BitVec 32) : State :=
  if p.posted then s.commandError p status
  else s.pushReply p.r.t (s.mkReply p.op p.r false status p.r.addr param [])

/-! ## Checks -/

/-- The words of a payload with their addresses. -/
def Pkt.write (p : Pkt) : List WordIn := wordsIn p.addr (toWords p.body)
/-- [DEDUCED, unsafe: log 23] -/
def Pkt.modify (p : Pkt) : List WordIn :=
  [{ addr := p.addr, val := (toWords p.body).getD 0 0, mask := (toWords p.body).getD 1 0 }]

/-- BAD_OBJECT where an address of a range names nothing. -/
def namesCheck (a : Nat) : Nat → Nat
  | 0 => 0
  | n + 1 => if (nameOf a).isNone then 4 else namesCheck (a + 1) n

/-- BAD_OBJECT where an address of a write's range names nothing, or its words are all read-only (Table CMD-3). A count of 0
reaches the first word. -/
def targetCheck (a n : Nat) : Nat :=
  let n := maxN 1 n
  if namesCheck a n ≠ 0 then 4
  else if (List.range n).all fun i => (nameOf (a + i)).all (·.readOnly) then 4 else 0

/-- The word counts that R510 allows. -/
def countOk (p : Pkt) (most : Nat) : Bool := 1 ≤ p.param && p.param ≤ most

def wordLimit (p : Pkt) : Nat := if p.atTick then 1018 else 1020

/-- The checks of WRITE and TABLE_LOAD (R57, R510, R511). [DEDUCED, unsafe: log 22] -/
def State.checkWrite (s : State) (p : Pkt) : Nat :=
  if countOk p (wordLimit p) && p.body.length = 4 * p.param then s.writeCheck p.r.t p.write
  else senior 5 (targetCheck p.addr p.param)

/-- The checks of MODIFY (R59, R510). -/
def State.checkModify (s : State) (p : Pkt) : Nat :=
  if p.body.length = 8 then s.writeCheck p.r.t p.modify else senior 5 (targetCheck p.addr 1)

/-- The check of a read's first word. -/
def State.checkFirst (s : State) (a : Nat) : Nat :=
  match nameOf a with
  | none => 4
  | some x => if s.domOn x.dom then 0 else 5

def okIf (b : Bool) : Nat := if b then 0 else 5

/-- The identity of VONU_CREATE (R128). -/
def Pkt.idWords (p : Pkt) : List Word := toWords p.body
def Pkt.sn (p : Pkt) : BitVec 64 := p.idWords.getD 1 0 ++ p.idWords.getD 0 0
def Pkt.regId (p : Pkt) : BitVec 288 := BitVec.ofNat 288 (leNat (slice p.body 8 36))
/-- The 64-bit value of TIME_STEP and TIME_RATE. -/
def Pkt.value64 (p : Pkt) : BitVec 64 := BitVec.ofNat 64 (leNat p.body)

/-- The position of an ACK (R72). -/
def State.ackOk (s : State) (t : Transport) (k : BitVec 32) : Bool :=
  let pos := s.ev.pos.get t
  decide ((k + 1 - pos).toNat ≤ (s.ev.next - pos).toNat)

/-- The opcode's own checks, by its rule. -/
def State.ownCheck (s : State) (p : Pkt) : Nat :=
  let v := p.param % 512
  match p.code with
  | 0x01 => s.checkFirst p.addr
  | 0x02 | 0x05 => s.checkWrite p
  | 0x03 => s.checkModify p
  | 0x04 => senior (okIf (countOk p 1020)) (s.checkFirst p.addr)
  | 0x10 => senior (okIf (s.domOn 6 && (p.param % 2 = 1) ≠ s.cls.active)) (if s.cls.copyBusy then 1 else 0)
  | 0x11 => okIf (s.domOn 6 && p.param < 64 && (s.shadowCopy p.param).isSome)
  | 0x12 => okIf (s.isLive v)
  | 0x20 => senior (okIf (p.param < 512 && p.body.length = 48)) (if p.param < 512 then s.createCheck v p.sn else 0)
  | 0x21 => okIf (fld p.r.param 9 7 = 0 && fld p.r.param 20 12 = 0 && s.isLive v && fld p.r.param 16 2 &&& fld p.r.param 18 2 = 0)
  | 0x22 => okIf (p.param < 512 && s.isLive v)
  | 0x31 => okIf (1 ≤ p.param && p.param ≤ 255)
  | 0x32 => okIf (s.ackOk p.r.t p.r.addr)
  | 0x40 | 0x41 => okIf (p.param = 0 && 1 ≤ p.addr && p.addr ≤ 12)
  | 0x42 => okIf (s.sleepCheck p.r.param)
  | 0x50 => okIf (s.imageBeginOk p.addr p.param)
  | 0x51 => okIf (s.imageDataOk p.addr p.body.length && p.body.length % 4 = 0)
  | 0x52 => okIf (p.addr < 2 && !s.isRunning (p.addr = 1))
  | 0x53 => okIf (p.addr < 2 && s.imageActivateOk (p.addr = 1))
  | 0x60 => s.loopCheck p.r.t p.addr p.param
  | 0x61 => s.prbsCheck p.addr
  | 0x62 => s.prbsReadCheck p.addr
  | 0x6F => okIf (s.resyncOk (p.param % 65536))
  | 0x70 => okIf (s.timeOn && p.param < 2)
  | 0x71 => okIf (s.timeOn && s.time.hostOwner && p.body.length = 8)
  | 0x72 => okIf (s.timeOn && s.time.hostOwner && p.body.length = 8 && incOk p.value64.toNat)
  | _ => 0

/-- Writes from a transport are disabled (R68). [DEDUCED, unsafe: log 26] -/
def State.locked (s : State) (p : Pkt) : Bool :=
  !readsOnly p.code && !s.cfgB (addrOf 0x01 0x10) (transN p.r.t)

/-- A write that covers FUSE_BLOW. [DESIGN CHOICE, unsafe: log 99] -/
def Pkt.blows (p : Pkt) : Bool :=
  ((p.code = 0x02 || p.code = 0x05) && p.addr ≤ addrOf 0x7E 2 && addrOf 0x7E 2 < p.addr + p.param) ||
    (p.code = 0x03 && p.addr = addrOf 0x7E 2)

/-- BUSY from what was accepted earlier and is still pending (R63, R129, R228, R260, R439). [DEDUCED, unsafe: log 33] -/
def State.pendingBusy (s : State) (p : Pkt) : Bool :=
  let held (f : Pkt → Bool) : Bool := s.waiting.any f
  let same (q : Pkt) : Bool := q.param % 512 = p.param % 512
  let own : Bool := match p.code with
    | 0x10 => s.commitPending
    | 0x11 => s.hatchBusy p.param
    | 0x12 => s.profilePending (8 * fld p.r.param 0 9 + 4 * fld p.r.param 12 1 + fld p.r.param 14 2)
    | 0x20 | 0x21 | 0x22 => held fun q => (q.code = 0x20 || q.code = 0x21 || q.code = 0x22) && same q
    | _ => false
  own || (s.fault.handover.isSome && (handoverRefused p.code || p.blows))

/-- The checks of acceptance that an at-tick command meets only once (R61); `ahead` counts at-tick members before it. -/
def State.tickCheck (s : State) (ahead : Nat) (p : Pkt) : Nat :=
  if !p.atTick then 0
  else
    let d := p.target.toNat
    let now := s.tick.number.toNat
    seniorOf [if d < now + 2 then 6 else 0, okIf (d ≤ now + 8000000), if s.atTickPending + ahead ≥ 1024 then 9 else 0]

/-- What recovery accepts (R468). -/
def Pkt.inRecovery (p : Pkt) : Bool :=
  let a := p.addr
  let free (a : Nat) : Bool := a = addrOf 0x01 0 || a = addrOf 0x01 1 || a = addrOf 0x70 0 || a = addrOf 0x7E 0 || a / 2 ^ 24 = 0x7C
  match p.code with
  | 0x01 => free a
  | 0x04 => (List.range (minN p.param 1021)).all fun i => free (a + i)
  | 0x50 | 0x51 | 0x52 | 0x53 => true
  | _ => false

/-- The status of a command (R54): `base` is the state at acceptance, `s` the state that earlier members of its chain
leave (R65), `first` tells acceptance from the second check of R62. [DEDUCED, unsafe: log 25] -/
def opCheck (base s : State) (first : Bool) (ahead : Nat) (p : Pkt) : Nat :=
  if !opcodes.contains p.code then 3
  else
    seniorOf
      [ okIf (!(p.atTick && !atTickAllowed p.code) && !(p.posted && !postedAllowed p.code)),
        okIf (!(p.atTick && p.r.payload.length < 8)), okIf (!(noPayload p.code && p.body ≠ [])),
        if s.locked p then 0x0A else 0,
        if first then base.tickCheck ahead p else 0,
        if first && base.pendingBusy p then 1 else 0,
        okIf (base.phase ≠ .recovery || p.inRecovery),
        s.ownCheck p ]

/-! ## Effects -/

/-- Records for FETCH (R72). [DEDUCED, safe: log 27] -/
def State.fetch (s : State) (p : Pkt) : State × Res :=
  let t := p.r.t
  let rec_ := (s.ev.ring.zipIdx.drop (s.ev.pos.get t - s.ev.oldest).toNat).filter fun x => s.subscribed t x.1.code.toNat
  let got := rec_.take p.param
  let (a, s) := match got with
    | x :: _ => (s.ev.oldest + BitVec.ofNat 32 x.2, s)
    | [] => let (f, s) := s.fresh; (BitVec.ofNat 32 f, s)
  (s, { status := 0, addr := a, param := BitVec.ofNat 32 got.length, payload := got.flatMap fun x => recBytes x.1 })

/-- ACK (R72, R74). -/
def State.ack (s : State) (p : Pkt) : State :=
  let k := p.r.addr
  let after := s.ev.ring.drop (k + 1 - s.ev.oldest).toNat
  let count (kind : Bool) : BitVec 16 :=
    BitVec.ofNat 16 (sat 65535 (after.filter fun r => r.unmasked && isFault r.code.toNat = kind).length)
  let e := { s.ev with pos := s.ev.pos.set p.r.t (k + 1) }
  let e := if p.r.param.getLsbD 31 then { e with alarm := count true } else e
  let e := if p.r.param.getLsbD 30 then { e with attn := count false } else e
  { s with ev := e }

/-- SUBSCRIBE: the previous mask, and the new one (R72). -/
def State.subscribe (s : State) (p : Pkt) : State × Res :=
  let a := subAddr (transN p.r.t)
  (s.putCfg a (p.r.param &&& 0xFFFE), p.words [s.cfg a])

/-- A write runs; a blow goes on until its completion (R413), and a command reset awaits its reply (R463). -/
def State.runWrite (s : State) (p : Pkt) (ws : List WordIn) (r : Res) : State × Option Res :=
  let fuse := ws.find? fun x => x.addr = addrOf 0x7E 2
  let s := s.writeApply ws
  let s := if ws.any (fun x => x.addr = addrOf 0x70 2) then
      { s with cmd := { s.cmd with wait := some { what := .reset, t := p.r.t, seq := p.r.seq } } } else s
  match fuse with
  | some x => (s.modPort p.r.t fun q => { q with running := q.running ++ [{ pkt := p, work := .fuseBlow (fld (x.val &&& x.mask) 0 3) }] }, none)
  | none => (s, some r)

/-- The start of a command whose work takes time (R53). [DESIGN CHOICE, safe: log 32] -/
def State.startWork (s : State) (p : Pkt) (w : Work) : State × Option Res :=
  (s.modPort p.r.t fun q => { q with running := q.running ++ [{ pkt := p, work := w }] }, none)

/-- In recovery an activated bank is preferred, and the device resets once the reply has left (R468). -/
def State.preferReset (s : State) (p : Pkt) : State :=
  let s := s.prefer (p.addr = 1)
  { s with cmd := { s.cmd with wait := some { what := .reset, t := p.r.t, seq := p.r.seq } } }

/-- The handover that an accepted activation begins, its first phase due at a tick (R438). -/
def Pkt.handover (p : Pkt) (due : BitVec 64) : Handover :=
  { phase := 0, bank := p.addr = 1, from_ := due, passed := false, failing := false }

/-- IMAGE_ACTIVATE: a handover begins at the second tick, unless its chain's acceptance has begun it; in recovery the bank is
preferred, as soon as the MRAM can be written (R430), and the device resets. -/
def State.runActivate (s : State) (p : Pkt) : State × Option Res :=
  let w : Work := .imageActivate (p.addr = 1)
  if s.phase = .recovery then
    if s.fault.clockGroups.getLsbD 9 then s.startWork p w else (s.preferReset p, some p.ok)
  else if s.fault.handover.isSome then s.startWork p w
  else (s.modFault fun f => { f with handover := some (p.handover (s.tick.number + 2)) }).startWork p w

/-- What an accepted command does, with its answer; none: the answer follows at COMMAND_COMPLETION. -/
def State.opRun (s : State) (p : Pkt) : State × Option Res :=
  let v := p.param % 512
  let done (s : State) : State × Option Res := (s, some p.ok)
  match p.code with
  | 0x01 =>
    match nameOf p.addr with
    | some x => (s.readEffect p.addr x, some (p.words [s.wordAt p.addr x]))
    | none => (s, some (p.fail 4))
  | 0x02 | 0x05 => s.runWrite p p.write p.ok
  | 0x03 =>
    match nameOf p.addr with
    | some x =>
      let old := s.wordAt p.addr x
      (s.readEffect p.addr x).runWrite p p.modify (p.words [old])
    | none => (s, some (p.fail 4))
  | 0x04 =>
    let (ws, stop) := readRange s p.param p.addr []
    (readEffects ws.length p.addr s, some { p.words ws.reverse with status := if stop = 0 then 0 else 7, param := BitVec.ofNat 32 ws.length })
  | 0x10 => (s.commitPlate (p.param % 2 = 1)).startWork p (.plateSwap (BitVec.ofNat 32 s.tickLow))
  | 0x11 => done (s.commitHatch p.param)
  | 0x12 => done (s.commitProfile v (chanOf (fld p.r.param 12 1)) (fld p.r.param 14 2))
  | 0x20 => done (s.createVonu v p.sn p.regId)
  | 0x21 => done (s.setMasks v (fld p.r.param 16 2) (fld p.r.param 18 2))
  | 0x22 => done (s.retireVonu v)
  | 0x30 => let (s, r) := s.subscribe p; (s, some r)
  | 0x31 => let (s, r) := s.fetch p; (s, some r)
  | 0x32 => done (s.ack p)
  | 0x40 => done (s.hostVote p.addr)
  | 0x41 => done (s.hostUnvote p.addr)
  | 0x42 =>
    done { s with cmd := { s.cmd with wait := some { what := .sleep, t := p.r.t, seq := p.r.seq } }
                  power := { s.power with wakeMask := BitVec.ofNat 3 p.param } }
  | 0x50 => done (s.imageBegin (p.addr = 1) p.param)
  | 0x51 => s.startWork p (.imageData s.openBank)
  | 0x52 => s.startWork p (.imageVerify (p.addr = 1))
  | 0x53 => s.runActivate p
  | 0x60 => done (s.loopSet p.addr p.param)
  | 0x61 => done (s.prbsCtl p.addr p.r.param)
  | 0x62 => let s := s.prbsAdvance p.addr; (s, some (p.words (prbsWords (s.prbs p.addr))))
  | 0x6F => done (s.resync (p.param % 65536))
  | 0x70 => done (s.servoOwner (p.param = 1))
  | 0x71 => done (s.stepTime p.value64.toInt true)
  | 0x72 => done (s.setInc p.value64)
  | _ => (s, some (p.fail 3))

/-- What a refused command does all the same: a SLEEP refused with DENIED_STATE notes its refusers (R458), and what refused
writes do. -/
def State.opRefused (s : State) (p : Pkt) (status : Nat) : State :=
  match p.code with
  | 0x42 => if s.phase = .ready && status = 5 then refuseAll s.sleepBlocks s else s
  | 0x02 | 0x05 => s.writeRefused p.write status
  | 0x03 => s.writeRefused p.modify status
  | _ => s

/-- Run one command and answer it; `atTick` says that it takes effect at the current tick, which PARAM names for an at-tick
command and for one that acts only at ticks (R62, R63). -/
def State.runOne (s : State) (atTick : Bool) (p : Pkt) : State :=
  let (s, r) := s.opRun p
  match r with
  | none => s
  | some r => s.answer p (if atTick && (p.atTick || tickBound p.code) then { r with param := BitVec.ofNat 32 s.tickLow } else r)

/-- Run the members of a chain in order. -/
def runList (atTick : Bool) : List Pkt → State → State
  | [], s => s
  | p :: r, s => runList atTick r (s.runOne atTick p)

/-- The state that a passing member will leave, as later members of its chain are checked against it (R65): plates have
swapped, and a hatch list is not pending. -/
def State.project (s : State) (p : Pkt) : State :=
  match p.code with
  | 0x10 => s.modCls fun c => { c with active := p.param % 2 = 1 }
  | 0x11 => s
  | _ => (s.opRun p).1

/-- Check the members of a chain in order (R65). -/
def chainCheck (base : State) (first : Bool) : List Pkt → Nat → State → List (Pkt × Nat)
  | [], _, _ => []
  | p :: r, ahead, s =>
    let st := opCheck base s first ahead p
    (p, st) :: chainCheck base first r (ahead + b2n p.atTick) (if st = 0 then s.project p else s)

/-- Answer the members of a refused chain: each failing one its own status, every other one DENIED_STATE with the
SEQUENCE of the first failing one (R65). -/
def refuseChain (firstBad : BitVec 16) : List (Pkt × Nat) → State → State
  | [], s => s
  | (p, st) :: r, s =>
    let s := if st = 0 then s.answer p { p.fail 5 with param := firstBad.setWidth 32 } else (s.opRefused p st).answer p (p.fail st)
    refuseChain firstBad r s

/-- Answer every packet with one status. -/
def answerAll (status : Nat) : List Pkt → State → State
  | [], s => s
  | p :: r, s => answerAll status r (s.answer p (p.fail status))

/-- Hold accepted commands for a tick. -/
def State.hold (s : State) (pkts : List Pkt) (due : BitVec 64) (atTick : Bool) : State :=
  { s with cmd := { s.cmd with held := s.cmd.held ++ [{ pkts, due, atTick, verdict := none }] } }

/-- The handover of an activation in a chain that waits for a tick begins at the chain's acceptance (R438, R439).
[DEDUCED, unsafe: log 103] -/
def State.holdHandover (s : State) (pkts : List Pkt) : State :=
  match pkts.find? fun p => p.code = 0x53 with
  | some p => s.modFault fun f => { f with handover := some (p.handover (s.tick.number + 2)) }
  | none => s

/-- The same handover does not begin where its chain is refused in the end. [DEDUCED, unsafe: log 103] -/
def State.dropHandover (s : State) (pkts : List Pkt) : State :=
  if pkts.any fun p => p.code = 0x53 then s.modFault fun f => { f with handover := none } else s

/-- Decide one command or a whole chain at its acceptance. [DESIGN CHOICE, unsafe: log 140] -/
def State.decideChain (s : State) (pkts : List Pkt) : State :=
  let v := chainCheck s true pkts 0 s
  match v.find? fun e => e.2 ≠ 0 with
  | some e => if v.length = 1 then (s.opRefused e.1 e.2).answer e.1 (e.1.fail e.2) else refuseChain e.1.r.seq v s
  | none =>
    match pkts with
    | [] => s
    | p :: _ =>
      if p.atTick then s.hold pkts p.target true
      else if pkts.any fun q => tickBound q.code then (s.hold pkts (s.tick.number + 2) false).holdHandover pkts
      else runList false pkts s

/-- What a chain's flags must agree on (R64). -/
def chainFlagsOk : List Pkt → Bool
  | [] => true
  | p :: r => !p.posted && r.all fun q => !q.posted && q.atTick = p.atTick && (!p.atTick || q.target = p.target)

/-- Take an accepted command into its chain, or decide it (R64). -/
def State.enchain (s : State) (p : Pkt) : State :=
  let t := p.r.t
  let x := s.port t
  if x.chainRefused then (s.modPort t fun q => { q with chainRefused := p.chained }).answer p (p.fail 9)
  else if x.chain = [] && !p.chained then s.decideChain [p]
  else
    let all := x.chain ++ [p]
    if all.length > 64 then answerAll 9 all (s.modPort t fun q => { q with chain := [], chainRefused := p.chained })
    else if p.chained then s.modPort t fun q => { q with chain := all }
    else
      let s := s.modPort t fun q => { q with chain := [] }
      if chainFlagsOk all then s.decideChain all else answerAll 5 all s

/-- Commands of a transport in execution (R40). [DEDUCED, unsafe: log 31] -/
def State.inExecution (s : State) (t : Transport) : Nat :=
  (s.port t).running.length + sumN (s.cmd.held.map fun h => if h.atTick then 0 else (h.pkts.filter fun p => p.r.t = t).length)

/-- A transport takes commands (R42, R459, R468, R469). [DEDUCED, unsafe: log 31] -/
def State.takes (s : State) (t : Transport) : Bool :=
  !s.legacy && match t with
    | .twi => s.phase = .ready || s.phase = .recovery
    | .alanov => s.phase = .ready && s.alink.state = .active

/-- Acceptance of a command whose packet passed R48: sequence number, retransmission, limit (R44, R49 to R51). A command
beyond the limit is refused with the first of its conditions in Table CMD-3, BUSY among them (R54). -/
def State.take (s : State) (p : Pkt) : State :=
  let t := p.r.t
  let x := s.port t
  let fresh := match x.expected with | none => true | some e => e = p.r.seq
  if !fresh then
    match x.history.reverse.find? fun h => h.seq = p.r.seq with
    | some h =>
      if h.posted then s
      else match h.reply with
        | some r => s.pushReply t r
        | none => s.pushReply t (s.mkReply p.op p.r true 0 p.r.addr p.r.param [])
    | none =>
      let s := s.modPort t fun q => { q with seqErr := q.seqErr + 1 }
      s.refuse p 8 ((x.expected.getD 0).setWidth 32)
  else if t = .alanov && s.inExecution t ≥ 32 then s.refuse p (senior 1 (opCheck s s true 0 p)) p.r.param
  else
    let past := x.history ++ [{ seq := p.r.seq, posted := p.posted, interim := false, reply := none }]
    let s := s.modPort t fun q => { q with expected := some (p.r.seq + 1), history := past.drop (past.length - 32) }
    (s.enchain p).waitCheck.finish

/-- A command arrives at its transport with a good CRC and VERSION 2. On a two-wire port with 32 in execution, or one that
takes no command, the address is not acknowledged (R40, R469). -/
def State.submit (s : State) (op : Byte) (r : Req) : State :=
  match r.t with
  | .twi =>
    if s.phase = .asleep then s.wakeAddress
    else if !s.takes .twi || s.inExecution .twi ≥ 32 then s.emit .twiNack
    else s.take { op, r }
  | .alanov => if s.takes .alanov then s.take { op, r } else s

/-! ## Packets as bytes (R38, R43, R48) -/

/-- A reply to a packet that failed R48. -/
def State.refusePacket (s : State) (op : Byte) (r : Req) (status : Nat) : State :=
  s.pushReply r.t (s.mkReply op r false status r.addr r.param [])

/-- A packet that a FIFO fault of its crossing has spoilt fails its CRC check (R25). [DEDUCED, safe: log 127] -/
def Parsed.spoil : Parsed → Parsed
  | .badCrc op r => .badCrc op r
  | .badVersion op r => .badCrc op r
  | .command op r => .badCrc op r

/-- The crossing group of a transport's stream (Table TICK-5). -/
def transGroup : Transport → Nat
  | .twi => 9 | .alanov => 4

/-- A received packet, as bytes. -/
def State.packet (s : State) (t : Transport) (l : List Byte) : State :=
  let g := transGroup t
  let (x, s) := if s.spoilt g 0 then ((parsePacket t l).spoil, s.unspoil g 0) else (parsePacket t l, s)
  match x with
  | .badCrc op r => (s.modPort t fun q => { q with badCrc := q.badCrc + 1 }).refusePacket op r 2
  | .badVersion op r => s.refusePacket op r 3
  | .command op r => s.take { op, r }

/-- A management frame (R43): its length lies between 20 and 4,100 bytes (R315). [DESIGN CHOICE, safe: log 83] -/
def State.mgmtFrame (s : State) (l : List Byte) : State :=
  if s.takes .alanov && 20 ≤ l.length && l.length ≤ 4100 then s.packet .alanov l else s

/-- A write transaction (R38). [DESIGN CHOICE, unsafe: log 143] -/
def State.twiWrite (s : State) (target : BitVec 7) (l : List Byte) : State :=
  if target ≠ 0x58 + s.pins.madrSampled.setWidth 7 then s
  else if s.phase = .asleep then s.wakeAddress
  else if !s.takes .twi || s.inExecution .twi ≥ 32 then s.emit .twiNack
  else if l.length < 20 then s.modPort .twi fun q => { q with runt := q.runt + 1 }
  else s.packet .twi l

/-- A read transaction (R39). -/
def State.twiRead (s : State) (target : BitVec 7) (n : Nat) : State :=
  if target ≠ 0x58 + s.pins.madrSampled.setWidth 7 || s.legacy ||
      !(s.phase = .ready || s.phase = .recovery || s.phase = .sleeping) then s
  else
    match s.cmd.port.twi.replies with
    | [] => s.emit (.bytes .twi (List.replicate n 0))
    | r :: rest =>
      let b := replyBytes r
      let s := s.emit (.bytes .twi ((b ++ List.replicate (n - b.length) 0).take n))
      if n < b.length then s else (s.modPort .twi fun q => { q with replies := rest }).waitCheck

/-- A transport recovers (R41). -/
def State.recoverTwi (s : State) : State :=
  if !s.takes .twi then s
  else
    (s.modPort .twi fun q => { q with expected := none, recovered := q.recovered + 1 }).raise 0x0E04 (put 62 2 0 + s.tickLow)

/-- The two-wire bus recovers after MCK was low for longer than 25 ms, which exposes crossing group 9 (R41, Table TICK-5). -/
def State.busRecovery (s : State) : State := if s.takes .twi then s.recoverTwi.expose 9 else s

/-! ## Events of the command layer -/

/-- The packet of a transport that is accepted and not yet complete, by its SEQUENCE. -/
def State.openPkt (s : State) (t : Transport) (seq : BitVec 16) : Option Pkt :=
  let x := s.port t
  let all := x.running.map (·.pkt) ++ x.chain ++ (s.cmd.held.flatMap (·.pkts)).filter fun p => p.r.t = t
  all.find? fun p => p.r.seq = seq

/-- The acknowledgement bound passes (R53). -/
def State.interim (s : State) (t : Transport) (seq : BitVec 16) : State :=
  match s.openPkt t seq with
  | none => s
  | some p =>
    let sent := (s.port t).history.any fun h => h.seq = seq && h.interim && h.reply.isNone
    if !p.ackReq || p.posted || sent then s
    else
      let mark (h : Past) : Past := if h.seq = seq && h.reply.isNone then { h with interim := true } else h
      (s.modPort t fun q => { q with history := q.history.map mark }).pushReply t (s.mkReply p.op p.r true 0 p.r.addr p.r.param [])

/-- 1 ms after a chain's first member (R64). -/
def State.chainTimeout (s : State) (t : Transport) : State :=
  let x := s.port t
  answerAll 6 x.chain (s.modPort t fun q => { q with chain := [], chainRefused := false })

/-- Run the packets of an entry that passes, as the entries after it are checked against what it leaves. -/
def projectAll : List Pkt → State → State
  | [], s => s
  | p :: r, s => projectAll r (s.project p)

/-- The second check of an entry: of what is pending, only the entries accepted before it count (R62, R63, R65).
[DEDUCED, unsafe: log 129] -/
def secondCheck (before : List Held) (h : Held) (s : State) : List (Pkt × Nat) :=
  let s := (s.modPort .twi fun x => { x with chain := [] }).modPort .alanov fun x => { x with chain := [] }
  let s := ({ s with cmd := { s.cmd with held := before } }).dropHandover h.pkts
  chainCheck s false h.pkts 0 s

/-- APPLY prepares the entries due by a tick: their second check, in order of acceptance, each against what those before
it will leave (R62, R67); `kept` are the entries before it with a later tick. [DEDUCED, unsafe: log 129] -/
def prepareAll (due : Nat) : List Held → List Held → State → List Held
  | [], _, _ => []
  | h :: r, kept, s =>
    if h.due.toNat > due then h :: prepareAll due r (kept ++ [h]) s
    else
      let v := h.verdict.getD ((secondCheck kept h s).map (·.2))
      { h with verdict := some v } :: prepareAll due r kept (if v.all (· = 0) then projectAll h.pkts s else s)

/-- Prepare what is due at the next tick. [DEDUCED, unsafe: log 129] -/
def State.prepare (s : State) : State :=
  if !s.tick.started then s
  else { s with cmd := { s.cmd with held := prepareAll (s.tick.number.toNat + 1) s.cmd.held [] s } }

/-- The outcome of an entry's second check: as APPLY found it. -/
def State.verdictOf (s : State) (h : Held) : List (Pkt × Nat) :=
  match h.verdict with
  | some l => h.pkts.zip l
  | none => secondCheck (s.cmd.held.takeWhile fun x => x ≠ h) h s

/-- One held entry takes effect at the current tick, by its second check (R62, R65).
[DEDUCED, unsafe: log 25, 129; DESIGN CHOICE, unsafe: log 141] -/
def State.effect (s : State) (h : Held) : State :=
  let v := s.verdictOf h
  let s := { s with cmd := { s.cmd with held := s.cmd.held.erase h } }
  match v.find? fun e => e.2 ≠ 0 with
  | none => runList true h.pkts s
  | some e =>
    let s := s.dropHandover h.pkts
    if v.length = 1 then
      (s.opRefused e.1 e.2).answer e.1 { e.1.fail e.2 with param := BitVec.ofNat 32 s.tickLow }
    else refuseChain e.1.r.seq v s

/-- [DEDUCED, unsafe: log 25] -/
def effects : List Held → State → State
  | [], s => s
  | h :: r, s => effects r (s.effect h)

/-- The held entries whose tick has come, in order of acceptance (R66, R67). -/
def State.heldDue (s : State) : List Held := s.cmd.held.filter fun h => decide (h.due.toNat ≤ s.tick.number.toNat)

/-- Work that took time completes, and its final reply is sent (R53). Data is in the MRAM from here on (R472), and a
verification waits for the data before it. [DESIGN CHOICE, safe: log 32; DEDUCED, unsafe: log 122] -/
def State.complete (s : State) (t : Transport) (seq : BitVec 16) : State :=
  match (s.port t).running.find? fun x => x.pkt.r.seq = seq with
  | none => s
  | some x =>
    let drop (s : State) : State := s.modPort t fun q => { q with running := q.running.erase x }
    let p := x.pkt
    match x.work with
    | .imageVerify b =>
      if s.dataRuns b then s
      else
        let (w, s) := (drop s).imageVerify b
        s.answer p (p.words [BitVec.ofNat 32 w])
    | .imageData b =>
      if s.fault.clockGroups.getLsbD 9 then s else ((drop s).imageData b p.addr p.body).answer p p.ok
    | .fuseBlow n => ((drop s).blowFuse n).answer p p.ok
    | .imageActivate _ | .plateSwap _ => s

/-- The commands in execution that a predicate picks end with an answer each. -/
def endRunning (pick : Work → Bool) (res : Running → Res) : List Running → State → State
  | [], s => s
  | x :: r, s =>
    if !pick x.work then endRunning pick res r s
    else
      endRunning pick res r
        ((s.modPort x.pkt.r.t fun q => { q with running := q.running.erase x }).answer x.pkt (res x))

/-- The commands in execution, the two-wire port's first. -/
def State.allRunning (s : State) : List Running := s.cmd.port.twi.running ++ s.cmd.port.alanov.running

/-- A COMMIT_PLATE is answered when its swap has taken effect, with the tick at which it acted (R63, R228); where PD_PKT
went off before, with DENIED_STATE. [DEDUCED, unsafe: log 130] -/
def State.answerSwap (s : State) (ok : Bool) : State :=
  let res (x : Running) : Res :=
    let r := if ok then x.pkt.ok else x.pkt.fail 5
    match x.work with | .plateSwap t => { r with param := t } | _ => r
  endRunning (fun w => match w with | .plateSwap _ => true | _ => false) res s.allRunning s

/-- A COMMIT_PLATE whose swap PD_PKT's exit has taken away is answered. [DEDUCED, unsafe: log 130] -/
def State.swapLost (s : State) : State := if s.cls.swapDue.isNone then s.answerSwap false else s

/-- The end of a handover answers its IMAGE_ACTIVATE (R474). -/
def State.answerActivate (s : State) (ok : Bool) : State :=
  let one (t : Transport) (s : State) : State :=
    match (s.port t).running.find? fun x => x.work = .imageActivate false || x.work = .imageActivate true with
    | none => s
    | some x => (s.modPort t fun q => { q with running := q.running.erase x }).answer x.pkt (if ok then x.pkt.ok else x.pkt.fail 5)
  one .alanov (one .twi s)

/-- Every command in execution on a transport is answered with TIMEOUT (R429). [DEDUCED, unsafe: log 102] -/
def State.timeoutRunning (s : State) : State :=
  -- an activation whose first phase has not begun is one of them
  let early := s.fault.handover.any fun h => h.phase = 0
  let one (t : Transport) (s : State) : State :=
    let l := (s.port t).running.filter fun x => match x.work with | .imageActivate _ => early | .plateSwap _ => false | _ => true
    answerAll 6 (l.map (·.pkt)) (s.modPort t fun q => { q with running := q.running.filter fun x => !l.contains x })
  let s := one .alanov (one .twi s)
  if early then s.modFault fun f => { f with handover := none } else s

/-- In recovery an IMAGE_ACTIVATE that waited for the MRAM goes on when its clock is back (R430, R468). -/
def State.activateLater (s : State) : State :=
  if s.phase ≠ .recovery || s.fault.clockGroups.getLsbD 9 then s
  else
    match s.allRunning.find? fun x => match x.work with | .imageActivate _ => true | _ => false with
    | none => s
    | some x =>
      ((s.modPort x.pkt.r.t fun q => { q with running := q.running.erase x }).preferReset x.pkt).answer x.pkt x.pkt.ok

/-- The status of a write by one of the rows that name one object. -/
def State.hostStatus (s : State) (t : Transport) (ws : List WordIn) : Nat :=
  seniorOf [if s.cfgB (addrOf 0x01 0x10) (transN t) then 0 else 0x0A, s.writeCheck t ws,
    b2n (s.fault.handover.isSome && ws.any fun x => x.addr = addrOf 0x7E 2)]

/-- A write by one of the rows that name one object: the host writes these words, and the answer is its status. Such a
row has no packet fields; it runs as an immediate WRITE of the transport. [DEDUCED, unsafe: log 30] -/
def State.hostWrite (s : State) (t : Transport) (ws : List WordIn) : State :=
  if !s.takes .twi || s.phase ≠ .ready then s
  else
    let st := s.hostStatus t ws
    if st = 0 then ((s.writeApply ws).emit (.writeStatus 0)).finish
    else (s.writeRefused ws st).emit (.writeStatus (BitVec.ofNat 8 st))

/-- A write of consecutive words from an address. [DEDUCED, unsafe: log 30] -/
def State.hostWords (s : State) (a : Nat) (ws : List Word) : State := s.hostWrite .twi (wordsIn a ws)

/-- A write of some bits of one word. [DEDUCED, unsafe: log 30] -/
def State.hostBits (s : State) (a : Nat) (val mask : Word) : State := s.hostWrite .twi [{ addr := a, val, mask }]

/-- What the commands of a tick have changed is stamped with it (R197). -/
def State.stampDue (s : State) (due : List Held) : State := if due = [] then s else s.stampTables

/-- The only outcome of a command of this block. -/
abbrev next (s : State) : Host.Outcome State Fault Refusal := .next s

end Sys2Proof.Machine
end

