-- ==== Sys2Proof/Machine/AlanovOps.lean ====
section
/-! DEFINITION. What arrives on the Alanov Link: block lock, ALIGN blocks, frames and credit (The Alanov Link, R298 to
R322). -/

namespace Sys2Proof.Machine

/-- A receive lane takes part in the link's life from ADAPT on; in a far-end loop nothing received enters the device
(R300, R322). -/
def State.lanesRun (s : State) : Bool :=
  match s.alink.state with
  | .down | .clock => false
  | .loop => s.alink.loopKind ≠ 3
  | _ => true

/-- A lane gains block lock, and has no logical lane until an ALIGN block names one; how many invalid sync headers its hunt met
is a free value (R304). -/
def State.laneLocks (s : State) (n : Nat) : State :=
  if n ≥ 9 || !s.lanesRun || (s.lane n).locked then s
  else
    let (f, s) := s.fresh
    ((s.bump (laneCtr n 0) f).setLane n { s.lane n with locked := true, deskewed := false, period := none, logical := 15 }).laneAdapt n

/-- In ACTIVE with AUTO_REPAIR, fewer than 8 logical lanes and no move under way lead to LOCK (Table ALINK-3, R308). -/
def State.lanesCheck (s : State) : State :=
  if s.alink.state = .active && s.cfgB (alAddr 0) 1 && s.alink.request.isNone && s.lanesUp < 8 then s.setLink .lock 1 else s

/-- A lane loses block lock after 24 invalid sync headers; how many more it met is a free value (R304).
[DESIGN CHOICE, safe: log 78] -/
def State.laneUnlocks (s : State) (n : Nat) : State :=
  if n ≥ 9 || !s.lanesRun || !(s.lane n).locked then s
  else
    let (f, s) := s.fresh
    let s := (s.bump (laneCtr n 0) (24 + f)).bump (laneCtr n 2) 1
    let s := s.setLane n { s.lane n with locked := false, deskewed := false, period := none, ready := false, readyRun := 0 }
    ((s.laneFails n 0).lanesCheck).deskewRequest

/-- RX_READY twice running on all 8 logical lanes, or its loss on a lane that carries one (Table ALINK-3).
[DEDUCED, unsafe: log 79, 81] -/
def State.readyCheck (s : State) : State :=
  let on (v : Bool) (k : Nat) : Bool := (List.range 9).any fun n =>
    let x := s.lane n
    x.logical.toNat = k && x.ready = v && 2 ≤ x.readyRun
  if s.alink.state = .waitPeer && (List.range 8).all (on true) then s.linkTo .active 0
  else if s.alink.state = .active && (List.range 8).any (on false) then s.linkTo .waitPeer 2
  else s

/-- The alignment period moves on: a lane whose ALIGN was missing in two consecutive periods is not deskewed (R305).
[DEDUCED, unsafe: log 79] -/
def missedLanes (p : BitVec 16) : List Nat → State → State
  | [], s => s
  | n :: r, s =>
    let x := s.lane n
    let late := match x.period with | some q => 3 ≤ (p - q).toNat | none => false
    missedLanes p r (if x.deskewed && late then (s.setLane n { x with deskewed := false }).laneFails n 0 else s)

/-- Whether a lane other than n is deskewed. -/
def State.othersDeskewed (s : State) (n : Nat) : Bool :=
  ((List.range 9).filter (· ≠ n)).any fun m => (s.lane m).deskewed

/-- The errors of a lane that is unlocked leave the latest 26 periods as those pass (R306). -/
def agedLanes (d : Nat) : List Nat → State → State
  | [], s => s
  | n :: r, s =>
    let x := s.lane n
    agedLanes d r (if x.locked || x.bip = [] then s else s.setLane n { x with bip := (List.replicate (minN 26 d) 0 ++ x.bip).take 26 })

/-- The alignment period moves on to p. -/
def State.periodTo (s : State) (p : BitVec 16) : State :=
  let d := match s.alink.period with | some q => (p - q).toNat | none => 0
  agedLanes d (List.range 9) (s.modLink fun a => { a with period := some p, movedAt := a.movedAt.filter (· = p) })

/-- Deskew of one lane on its ALIGN block (R305). [DEDUCED, unsafe: log 79] -/
def State.deskew (s : State) (n : Nat) (b : AlignBlk) : State :=
  let moves := match s.alink.period with | some p => b.period = p + 1 || !s.othersDeskewed n | none => true
  let s := if moves then missedLanes b.period ((List.range 9).filter (· ≠ n)) (s.periodTo b.period) else s
  let x := s.lane n
  let good : Bool := b.skew ≤ 96 && s.alink.period = some b.period
  let s := s.setLane n { x with period := some b.period, deskewed := good, skew := if good then BitVec.ofNat 7 b.skew else x.skew }
  if x.deskewed && !good then s.laneFails n 0 else s

/-- BIP-8 over the latest 26 periods (R306). -/
def State.bipCount (s : State) (n errs : Nat) : State :=
  let s := s.bump (laneCtr n 1) errs
  let x := s.lane n
  let l := (errs :: x.bip).take 26
  let s := s.setLane n { x with bip := l }
  if s.cfgF (alAddr 0) 4 8 ≤ sumN l then s.laneFails n 1 else s

/-- The map of logical lanes follows the LOGICAL fields received (R305), and a move completes at the first ALIGN block that
marks its lane (R307): in a move's first period both lanes mark it, and the one that did not before is the new one; the old
one's mark in that period moves nothing back. [DEDUCED, unsafe: log 80] -/
def State.laneMap (s : State) (n : Nat) (k : BitVec 4) (period : BitVec 16) : State :=
  let carries := k.toNat < 8
  let k3 : BitVec 3 := k.setWidth 3
  let was := (s.lane n).logical
  let s := s.setLane n { s.lane n with logical := if carries then k else 15 }
  let moved (toSpare : Bool) (use : Option (BitVec 3)) : State :=
    let mine := s.alink.request = some k3
    let byHost := s.alink.commanded && mine
    -- what runs on L8 ends where it is used (R324)
    let s := if toSpare then s.setPrbs 8 { s.prbs 8 with chk := false, sync := false } else s
    (s.modLink fun a => { a with rxUse := use, movedAt := some period, request := if mine then none else a.request
                                 commanded := a.commanded && !mine }).laneMoved 0 toSpare k3 byHost
  if !carries || s.alink.movedAt = some period then s
  else if n = 8 then (if s.alink.rxUse = some k3 || was = k then s else moved true (some k3))
  else if s.alink.rxUse = some k3 && n = k.toNat && (was ≠ k || (s.lane 8).logical ≠ k) then moved false none
  else s

/-- An ALIGN block on a locked lane (Table ALINK-2). -/
def State.alignIn (s : State) (n : Nat) (b : AlignBlk) : State :=
  if n ≥ 9 || !s.lanesRun || !(s.lane n).locked then s
  else
    let s := s.bump (laneCtr n 0) b.shErrs
    let s := (((s.deskew n b).laneMap n b.logical b.period).bipCount n b.bipErrs).laneAdapt n
    let x := s.lane n
    let s := s.setLane n { x with ready := b.rxReady, readyRun := if x.ready = b.rxReady then minN 2 (x.readyRun + 1) else 1 }
    let s := s.modLink fun a => { a with peerReady := b.rxReady }
    let s := match s.alink.state with
      | .lock | .deskew | .waitPeer | .active => s.peerRequests b.repairReq
      | _ => s.modLink fun a => { a with peerRequest := b.repairReq }
    ((s.lanesCheck).deskewRequest).readyCheck

/-! ## Link states by their timers (Table ALINK-3) -/

/-- The end of LOCK: all 9 lanes locked, or 1 ms. -/
def State.lockEnds (s : State) : State :=
  if s.alink.state ≠ .lock then s
  else if 8 ≤ ((List.range 9).filter fun n => (s.lane n).locked).length then (s.linkTo .deskew 0).deskewRequest
  else s.failLink 2

/-- 8 logical lanes are deskewed. -/
def State.deskewEnds (s : State) : State :=
  if s.alink.state = .deskew && s.lanesUp = 8 then (s.linkTo .waitPeer 0).readyCheck else s

/-- A timer of a state runs out: the link fails with the state's cause. -/
def State.linkTimeout (s : State) (t : LinkState) (cause : Nat) : State :=
  if s.alink.state = t then s.failLink cause else s

/-- ARXC is lost for 2 µs. With RETRY_MS = 0, FAILED is left by RETRAIN and ENABLE alone. [DEDUCED, unsafe: log 81] -/
def State.clockLost (s : State) : State :=
  match s.alink.state with
  | .down | .clock => s
  | .failed => if s.cfgF (alAddr 0) 12 12 = 0 then s else s.linkTo .clock 0
  | _ => s.linkTo .clock 0

/-! ## Frames (R313 to R315) -/

/-- L's bounds on a channel (Table ALINK-5). -/
def lengthOk (ch n : Nat) : Bool :=
  if ch < 512 then 14 ≤ n && n ≤ 16000
  else if ch < 640 then 1 ≤ n && n ≤ 256
  else if ch = 640 then 20 ≤ n && n ≤ 4100
  else 1 ≤ n && n ≤ 1024

/-- The frame's cell: data ports and CES channels take one by LENGTH; the others take none (R314). -/
def State.frameCell (s : State) (ch n : Nat) : Option (List (Nat × Nat)) × State :=
  if ch ≥ 640 then (some [], s)
  else match poolForSize n with
    | none => (none, s)
    | some p => match s.takeCell p 0x05 false with
      | (some k, s) => (some [(p, k)], s)
      | (none, s) => (none, s)

/-- A frame that passed every check goes to its channel's consumer. Only a data port's units stay held. -/
def State.frameTo (s : State) (ch colour : Nat) (data : List Byte) (cells : List (Nat × Nat)) : State :=
  if ch < 512 then
    let x := s.credit ch
    let s := s.setCredit ch { x with held := x.held + BitVec.ofNat 12 (creditUnits data.length) }
    let p : Packet := { kind := 2, index := BitVec.ofNat 9 ch, xgemPort := 0, colour := BitVec.ofNat 2 colour, bytes := data
                        cells := cells, creditCh := some ch, flow := none }
    { s with cls := { s.cls with ingress := s.cls.ingress ++ [p] } }
  else if ch < 640 then (s.slotStream (ch - 512) data).freeAll 0x05 cells
  else if ch = 640 then s.mgmtFrame data
  else s.todMessage data

/-- Data blocks outside a frame: one RX_FRAMING_ERR for each unbroken run; none for those that a bad DESC has the receiver
discard up to the next DESC or IDLE block (R315). [DEDUCED, unsafe: log 82] -/
def State.looseBlocks (s : State) (afterIdle : Bool) : State :=
  if s.alink.badRun && !afterIdle then s else (s.bump (linkCtr 5) 1).modLink fun a => { a with badRun := true }

/-- The checks of R315 from the channel on. [DEDUCED, unsafe: log 82] -/
def State.frameChecks (s : State) (ch len colour : Nat) (f : AlFrame) : State :=
  let x := s.credit ch
  if ch ≥ 642 || (s.alink.state = .loop && ch ≥ 640) then s.bump (linkCtr 1) 1
  else if !lengthOk ch len then s.bump (linkCtr 2) 1
  else if x.held.toNat + creditUnits len > x.adv.toNat then s.bump (linkCtr 3) 1
  else match s.frameCell ch len with
    | (none, s) => s.bump (linkCtr 4) 1
    | (some cells, s) =>
      let data := f.bytes.take len
      if f.ending ≠ .whole || f.bytes.length < len + 4 then (s.bump (linkCtr 5) 1).freeAll 0x05 cells
      else if slice f.bytes len 4 ≠ crcTrailer data then (s.bump (linkCtr 6) 1).freeAll 0x05 cells
      else ((s.bump (chCtr ch 0) 1).bump (chCtr ch 1) len).frameTo ch colour data cells

/-- A frame arrives (R315). [DEDUCED, unsafe: log 82] -/
def State.alFrameIn (s : State) (f : AlFrame) : State :=
  if !s.linkCarries then s
  else if s.spoilt 4 0 then (s.unspoil 4 0).bump (linkCtr 0) 1
  else if f.ending = .noDesc then s.looseBlocks f.afterIdle
  else
    let s := s.modLink fun a => { a with badRun := false }
    let ch := descField f.desc 0 10
    let colour := descField f.desc 24 2
    let distrust (s : State) : State := (s.bump (linkCtr 0) 1).modLink fun a => { a with badRun := true }
    if !descOk f.desc then distrust s
    else
      let s := if ch < 648 then s.setCredit ch { s.credit ch with seen := BitVec.ofNat 12 (descField f.desc 26 12) } else s
      if colour = 3 then distrust s else s.frameChecks ch (descField f.desc 10 14) colour f

/-! ## Credit (R316 to R318, R320) -/

/-- A CREDIT block: the latest LIMITs received. In a loop the device receives its own (R322), as `creditCalendar` has it.
[DEDUCED, unsafe: log 84] -/
def State.creditIn (s : State) (g : Nat) (l0 l1 l2 l3 : BitVec 12) : State :=
  if g > 161 || s.alink.state ≠ .active then s
  else
    let put1 (s : State) (i : Nat) (l : BitVec 12) : State := s.setCredit (4 * g + i) { s.credit (4 * g + i) with peerLimit := l }
    let s := put1 (put1 (put1 (put1 s 0 l0) 1 l1) 2 l2) 3 l3
    let (f, s) := s.fresh
    -- the rounds missed since the last four were counted
    let s := s.bumpIf (s.alink.lossRun = [g]) (linkCtr 9) (f % 4)
    let s := s.modLink fun a => { a with lossRun := without a.lossRun g }
    s.pump.pumpCes

/-- Every channel's LIMIT at a calendar round, channel n - 1 first. -/
def roundFrom : Nat → State → State
  | 0, s => s
  | n + 1, s =>
    let x := creditRound (advertise s n) (s.credit n)
    let x := if s.alink.state = .loop then { x with peerLimit := x.limit } else x
    roundFrom n (s.setCredit n x)

/-- The CREDIT blocks of a round, in ascending group order. -/
def creditBlocks : Nat → Nat → State → State
  | 0, _, s => s
  | n + 1, g, s =>
    creditBlocks n (g + 1) (s.emit (.credit g ((List.range 4).map fun i => (s.credit (4 * g + i)).limit)))

/-- A calendar round (R317). [DEDUCED, unsafe: log 84] -/
def State.creditCalendar (s : State) : State :=
  if !s.linkCarries then s else (creditBlocks 162 0 (roundFrom 648 s)).pump.pumpCes

/-- No CREDIT block for a group within 4 µs: 4 rounds are missed, counted once however many groups they lack; the first
group of a run is reported (R318). [DEDUCED, unsafe: log 84] -/
def State.creditLost (s : State) (g : Nat) : State :=
  if g > 161 || s.alink.state ≠ .active then s
  else if s.alink.lossRun = [] then
    ((s.bump (linkCtr 9) 4).modLink fun a => { a with lossRun := [g] }).raise 0x0807 (put 40 8 g + s.tickLow)
  else if s.alink.lossRun.head? = some g then s.bump (linkCtr 9) 4
  else if s.alink.lossRun.contains g then s
  else s.modLink fun a => { a with lossRun := a.lossRun ++ [g] }

/-- Remove the first waiting frame of a tributary. -/
def dropFirst (k : BitVec 7) : List (BitVec 7 × List Byte) → List (BitVec 7 × List Byte)
  | [] => []
  | x :: r => if x.1 = k then r else x :: dropFirst k r

/-- A CES frame that found no credit for a tick is discarded (R320). -/
def State.cesLate (s : State) (k : BitVec 7) : State :=
  if s.alink.cesWait.any fun x => x.1 = k then
    (s.modLink fun a => { a with cesWait := dropFirst k a.cesWait }).bump (linkCtr 8) 1
  else s

end Sys2Proof.Machine
end

