-- ==== Sys2Proof/Machine/Alanov.lean ====
section
/-! DEFINITION. The meanings of the Alanov Link's commands. -/

namespace Sys2Proof.Machine

/-- A receive lane gains block lock (R304). -/
def execLaneBlockLock (lane : Nat) (s : State) : Host.Outcome State Fault Refusal := next (s.laneLocks lane).aligned

/-- A receive lane loses block lock (R304, R306). -/
def execLockLoss (lane : Nat) (s : State) : Host.Outcome State Fault Refusal := next (s.laneUnlocks lane).aligned

/-- An ALIGN block arrives (R303, R305 to R307). -/
def execAlignBlock (lane : Nat) (blk : AlignBlk) (s : State) : Host.Outcome State Fault Refusal := next (s.alignIn lane blk).aligned

/-- A RETRAIN write (R310). -/
def execAlinkRetrain (s : State) : Host.Outcome State Fault Refusal := next (s.hostWords (alAddr 1) [1]).aligned

/-- A REPAIR write (R309). -/
def execAlinkRepair (k : BitVec 3) (s : State) : Host.Outcome State Fault Refusal :=
  next (s.hostWords (alAddr 1) [BitVec.ofNat 32 (2 + 16 * k.toNat)]).aligned

/-- A RESTORE write (R309). -/
def execAlinkRestore (s : State) : Host.Outcome State Fault Refusal := next (s.hostWords (alAddr 1) [4]).aligned

/-- ARXC within ±300 ppm for 100 µs (Table ALINK-3). -/
def execArxcValid (s : State) : Host.Outcome State Fault Refusal :=
  next (if s.alink.state = .clock && !s.fault.clockGroups.getLsbD 5 then s.linkTo .adapt 0 else s).aligned

/-- ARXC lost for 2 µs (R310). -/
def execArxcLoss (s : State) : Host.Outcome State Fault Refusal := next s.clockLost.aligned

/-- CLOCK for 10 ms without a valid ARXC (Table ALINK-3). -/
def execClockStateTimeout (s : State) : Host.Outcome State Fault Refusal := next (s.linkTimeout .clock 1).aligned

/-- 2 ms in ADAPT (Table ALINK-3). -/
def execAdaptDone (s : State) : Host.Outcome State Fault Refusal :=
  next (if s.alink.state = .adapt then s.linkTo .lock 0 else s).aligned

/-- The end of LOCK (Table ALINK-3). -/
def execLockStateEnd (s : State) : Host.Outcome State Fault Refusal := next s.lockEnds.aligned

/-- 8 logical lanes deskewed (Table ALINK-3). -/
def execDeskewDone (s : State) : Host.Outcome State Fault Refusal := next s.deskewEnds.aligned

/-- DESKEW for 10 ms (Table ALINK-3). -/
def execDeskewTimeout (s : State) : Host.Outcome State Fault Refusal := next (s.linkTimeout .deskew 3).aligned

/-- WAIT_PEER for 10 ms (Table ALINK-3). -/
def execWaitPeerTimeout (s : State) : Host.Outcome State Fault Refusal := next (s.linkTimeout .waitPeer 4).aligned

/-- RETRY_MS after FAILED (Table ALINK-3). -/
def execFailedRetry (s : State) : Host.Outcome State Fault Refusal :=
  next (if s.alink.state = .failed && s.cfgF (alAddr 0) 12 12 ≠ 0 then s.linkTo .clock 0 else s).aligned

/-- A frame arrives (R313 to R315). -/
def execAlanovFrameReceived (f : AlFrame) (s : State) : Host.Outcome State Fault Refusal := next (s.alFrameIn f).finish

/-- A CREDIT block arrives (R317). -/
def execCreditBlockReceived (group : Nat) (l0 l1 l2 l3 : BitVec 12) (s : State) : Host.Outcome State Fault Refusal :=
  next (s.creditIn group l0 l1 l2 l3).finish

/-- A calendar round (R316, R317). -/
def execCalendarRound (s : State) : Host.Outcome State Fault Refusal := next s.creditCalendar.finish

/-- No CREDIT block for a group within 4 µs (R318). -/
def execCreditLoss (group : Nat) (s : State) : Host.Outcome State Fault Refusal := next (s.creditLost group)

/-- A CES frame waits for credit for 1 tick (R320). -/
def execCesLateDrop (k : BitVec 7) (s : State) : Host.Outcome State Fault Refusal := next (s.cesLate k)

/-- A write of ENABLE and HOLD (R310). -/
def execAlinkEnableWrite (enable hold : Bool) (s : State) : Host.Outcome State Fault Refusal :=
  next (s.hostBits (alAddr 0) (BitVec.ofNat 32 (b2n enable + 4 * b2n hold)) 5).aligned

/-- A PRBS checker gains or loses sync (R323). -/
def execPrbsCheckerSyncChange (lane : Nat) (v : Bool) (s : State) : Host.Outcome State Fault Refusal := next (s.prbsSync lane v)

end Sys2Proof.Machine
end

