-- ==== Sys2Proof/Machine/TickOps.lean ====
section
/-! DEFINITION. The tick's own operations: source selection, the budget monitor, what the slices of a tick find, the
stipple snapshot and the consequences of overruns (Clocks, the 125 µs Tick and the Work Budget). -/

namespace Sys2Proof.Machine

def State.modTick (s : State) (f : TickSt → TickSt) : State := { s with tick := f s.tick }

def tickCfg : Nat := addrOf 0x02 0

/-- Ticks occur while the device runs with PD_MGMT on (R15). [DEDUCED, unsafe: log 36] -/
def State.ticks (s : State) : Bool := s.domOn 1 && s.domsRun

/-- The selection of R12, with FORCE_REF of Table TICK-7. -/
def State.selectSource (s : State) : Src :=
  if s.cfgB tickCfg 2 then .ref
  else if s.cfgB tickCfg 0 && s.inSync .a then .chan .a
  else if s.cfgB tickCfg 1 && s.inSync .b then .chan .b
  else .ref

/-! ## The budget monitor (R17) -/

/-- Join the items of a window to those already found late in the same class and tick. -/
def addOverrun (o : Overrun) : List Overrun → List Overrun
  | [] => [o]
  | x :: r => if x.cls = o.cls && x.tick = o.tick then { x with items := x.items + o.items } :: r else x :: addOverrun o r

/-- An overrun noted at the close of its window: the monitor acts once for each class and tick, so that windows of one
class and tick that close in the same interval are reported together, and one that closes after the report is not
reported again. [DESIGN CHOICE, safe: log 37] -/
def State.noteOverrun (s : State) (cls : Nat) (n : BitVec 64) (items : BitVec 24) : State :=
  if s.tick.judged.contains (cls, n) then s
  else s.modTick fun t => { t with overran := addOverrun { cls, tick := n, items } t.overran }

/-- Count and report the overruns of the windows that have closed. -/
def reportOverruns : List Overrun → State → State
  | [], s => s
  | o :: r, s =>
    let s := s.modTick fun t => { t with overrunCount := mmod 0 t.overrunCount o.cls (· + 1)
                                         budget := t.budget ||| BitVec.ofNat 14 (2 ^ o.cls)
                                         judged := t.judged ++ [(o.cls, o.tick)] }
    reportOverruns r (s.raise 0x0102 (put 56 8 o.cls + put 32 24 o.items.toNat + put 0 32 o.tick.toNat))

def State.judge (s : State) : State := reportOverruns s.tick.overran (s.modTick fun t => { t with overran := [] })

/-! ## Findings of a tick's slices (R198, R236, R425, R428) -/

def fltCfgBit (s : State) (i : Nat) : Bool := s.cfgB (addrOf 0x78 0x200) i

/-- Corrections of one region in a tick. -/
def correctedIn (found : List Finding) (region : Nat) : Nat :=
  sumN (found.map fun f => match f with | .corrected r n => if r.toNat = region then n else 0 | _ => 0)

/-- ECC_CORRECTED: counted, and raised at most once per region (R425). DRAM is the patrol's, other memories the
burnisher's (Table FAULT-1). -/
def State.reportCorrected (s : State) (found : List Finding) (region : Nat) : State :=
  let n := correctedIn found region
  let on := if region = 9 || region = 10 then fltCfgBit s 3 else fltCfgBit s 0
  if n = 0 || !on then s
  else (s.bump (fltCtr 0) n).raise 0x0F01 (put 56 4 region + put 32 16 (sat 65535 n) + s.tickLow)

/-- A configuration block whose words govern a channel's transmitter (R428). -/
def crcGoverns (block : Nat) (c : Chan) : Bool :=
  block = 0x20 || block = 0x28 || block = chBlock c

/-- Transmitters are held OFF while a sixteenth that governs them is bad. [DEDUCED, unsafe: log 47] -/
def State.crcHolds (s : State) : State :=
  let one (s : State) (c : Chan) : State :=
    let bad := s.fault.crcBad.any fun e => crcGoverns e.1.toNat c
    (s.modCh c fun x => { x with holdCrc := bad }).txUpdate c
  one (one s .a) .b

/-- One finding. [DESIGN CHOICE, safe: log 41] -/
def State.finding (s : State) (f : Finding) : State :=
  match f with
  | .corrected _ _ => s
  | .crc block k =>
    if !fltCfgBit s 2 then s
    else
      let s := s.modFault fun x => { x with crcBad := if x.crcBad.contains (block, k) then x.crcBad else x.crcBad ++ [(block, k)] }
      ((s.bump (fltCtr 4) 1).raise 0x0F04 (put 56 8 block.toNat + put 32 4 k.toNat + s.tickLow)).crcHolds
  | .rule plate e => if fltCfgBit s 1 && s.domOn 6 then s.markRule plate e.toNat 1 else s
  | .upset plate e =>
    s.modCls fun c => { c with ruleBad := if c.ruleBad.contains (plate, e) then c.ruleBad else c.ruleBad ++ [(plate, e)] }
  | .twin c table index =>
    let m : Mark := { table, index }
    if !s.domOn (txDom c) || (s.bch c).marks.contains m then s
    else (s.modB c fun x => { x with marks := x.marks ++ [m] }).raise 0x040A
      (pCh c + put 61 2 table.toNat + put 32 13 index.toNat + s.tickLow)

def findings : List Finding → State → State
  | [], s => s
  | f :: r, s => findings r (s.finding f)

/-- Regions in code order. -/
def reportRegions (found : List Finding) : List Nat → State → State
  | [], s => s
  | r :: rs, s => reportRegions found rs (s.reportCorrected found r)

/-- The length of the guard's latest full comparison pass, at most 128 ticks (R198): a free value.
[DESIGN CHOICE, safe: log 41] -/
def State.twinTick (s : State) : State :=
  if s.tick.number.toNat % 128 ≠ 127 then s
  else
    let (f, s) := s.fresh
    let (g, s) := s.fresh
    (s.modB .a fun x => { x with twinPass := BitVec.ofNat 16 (f % 129) }).modB .b fun x => { x with twinPass := BitVec.ofNat 16 (g % 129) }

/-! ## Reports that wait for a tick -/

/-- PLOAM_MIC_FAIL once for a channel and tick (R152); the once-a-tick reports begin afresh. -/
def State.channelTick (s : State) (c : Chan) : State :=
  let n := (s.ch c).micFails
  let s := s.raiseIf (n ≠ 0) 0x030C (pCh c + put 32 16 (sat 65535 n) + s.tickLow)
  (s.modCh c fun x => { x with micFails := 0, keyMissingRaised := false }).modB c fun x =>
    { x with told := [], partOwn := 0, shadowOwn := 0 }

/-- OMCI_RX_READY (R158). -/
def State.omciTick (s : State) : State :=
  ({ s with vonu := { s.vonu with omciWrote := false } }).raiseIf s.vonu.omciWrote 0x0308 s.vonu.omciProd.toNat

/-- DEVICE_STARTED at the first tick after READY (R478). -/
def State.startedTick (s : State) : State :=
  if s.phase ≠ .ready || s.tick.startedEvent then s
  else
    (s.modTick fun t => { t with startedEvent := true }).raise 0x0D05
      (put 56 3 s.power.cause.toNat + put 53 3 s.power.wakeSrc.toNat + put 52 1 (b2n s.fw.runningBank) +
       put 51 1 (b2n s.fw.fallback) + put 49 2 s.fw.keyIndex.toNat + s.tickLow)

/-- BURIN_STAGE_CFG takes effect at the tick (R204). -/
def State.stageLatch (s : State) : State :=
  let w := s.cfg (burinAddr 0)
  { s with burin := { s.burin with stageFloor := fld w 0 8, stageCap := fld w 8 16, stagePeak := fld w 24 4 } }

/-! ## The tick (R12 to R15) -/

/-- The TIME count over the interval: eight cycles to a REF cycle, or the frequency that HOLDOVER holds (R359); none while
its clock fails. While PD_TIME is off the count is the model's own measure of moments, and entry clears it (R353).
[PRESUMED, unsafe: log 74] -/
def State.timeTick (s : State) (interval : Nat) : State :=
  if s.timeOn && s.fault.clockGroups.getLsbD 8 then s
  else if s.timeOn && s.tick.source = .ref && s.time.eec = .holdover then
    let n := s.time.holdFrac + s.time.holdRate * interval
    s.modTime fun t => { t with count := t.count + BitVec.ofNat 64 (n / 2 ^ 32), holdFrac := n % 2 ^ 32 }
  else s.modTime fun t => { t with count := t.count + BitVec.ofNat 64 (8 * interval) }

/-- How long a channel has been tick source and the TIME clock has run, with PD_TIME on (Table TIME-2). -/
def State.chanTick (s : State) : State :=
  let runs := s.tick.source ≠ .ref && s.timeOn && !s.fault.clockGroups.getLsbD 8
  s.modTime fun t => { t with chanSince := if runs then some (t.chanSince.getD s.tick.number) else none }

/-- How far the line's frequency may lie from eight TIME cycles to a REF cycle, in 2⁻³² cycles: 9.2 ppm, that is 4.6 ppm
(R360) of each. [DEDUCED, unsafe: log 94] -/
def rateSpan : Nat := 316109

/-- The frequency over each second of LOCKED operation, the latest 100 of them (R359): the line's, a free value.
[DEDUCED, unsafe: log 94] -/
def State.rateTick (s : State) (old : Src) : State :=
  let n := (s.tick.number - s.time.eecSince).toNat
  if s.time.eec = .locked && old ≠ .ref && n ≠ 0 && n % 8000 = 0 then
    let (f, s) := s.fresh
    s.modTime fun t => { t with lockedRates := ((2 ^ 35 - rateSpan + f % (2 * rateSpan + 1)) :: t.lockedRates).take 100 }
  else s

/-- REF has become the tick source (R358, R359). -/
def State.refTick (s : State) : State :=
  let s := s.eecOnRef
  let moving := s.fault.handover.any fun h => h.phase = 2
  if s.time.servo = .locked && !moving then s.setServo .holdover else s

/-- The tick counters and TICK_SOURCE_CHANGE: `tell` reports even where the source is the same (R14).
[DEDUCED, unsafe: log 35] -/
def State.tickCount (s : State) (src : Src) (interval : Nat) (tell : Bool) : State :=
  let old := s.tick.source
  let s := s.timeTick interval
  let s := s.modTick fun t =>
    { t with started := true, number := if t.started then t.number + 1 else 0, source := src, lastPeriod := BitVec.ofNat 16 interval
             stretched := decide (interval > 19440), changes := if old = src then t.changes else t.changes + 1 }
  let s := s.raiseIf (tell || old ≠ src) 0x0101
    (put 62 2 (srcCode old) + put 60 2 (srcCode src) + put 32 16 interval + s.tickLow)
  let s := s.rateTick old
  (if src = .ref && old ≠ .ref then s.refTick else s).chanTick

/-- The counters whose events a crossing group carries (Table TICK-5). [DEDUCED, safe: log 125] -/
def groupCtrs (g : Nat) : List Nat :=
  match g with
  | 0 | 2 => [0x40, 0x42, 0x4A, 0x4C, 0x4E].map (chAddr (chanOf (g / 2)))
  | 1 | 3 => [3, 4, 5, 6, 7, 8, 9, 10, 11, 16].map (burinCtr (chanOf (g / 2)))
  | 4 => (List.range 12).map linkCtr ++ (List.range 9).flatMap fun n => (List.range 3).map (laneCtr n)
  | 5 => (List.range 4).flatMap fun e => (List.range 37).flatMap fun k => [ethRc e k, ethAcc e k]
  | 6 | 12 => [fltCtr 0]
  | 7 => (List.range 128).flatMap fun k => (List.range 16).map (cesCtr k)
  | 8 => (List.range 8).map timeCtr
  | 15 => (List.range 22).map clsCtr ++ (List.range 8).map qDropCtr
  | _ => []

/-- A spurious difference below 128 on each counter, taken as real (R26): a free value. [DEDUCED, safe: log 125] -/
def spuriousCounts : List Nat → State → State
  | [], s => s
  | a :: r, s => let (f, s) := s.fresh; spuriousCounts r (s.bump a (f % 128))

/-- The spurious differences that one-sided resets have left, at the next sample of each group; group 14 carries the usage
of one key slot. [DEDUCED, safe: log 125] -/
def spuriousGroups : List Nat → State → State
  | [], s => s
  | g :: r, s =>
    if !s.tick.spurious.getLsbD g then spuriousGroups r s
    else if g = 14 then
      let (f, s) := s.fresh
      let (n, s) := s.fresh
      spuriousGroups r (s.useKey (f % 4096) (n % 128))
    else spuriousGroups r (spuriousCounts (groupCtrs g) s)

/-- [DEDUCED, safe: log 125] -/
def State.sampleCrossings (s : State) : State :=
  (spuriousGroups (List.range 16) s).modTick fun t => { t with spurious := 0 }

/-- The per-second set at the tick that ends a second, with whether a group was suspect in that second; from here on the
values that the counters take are noted (R27, R77, R79). While PD_DRAM is off no set is taken, and SYS_STIPPLE_INFO keeps
what it says. [DESIGN CHOICE, unsafe: log 151] -/
def State.secondEnds (s : State) : State :=
  if s.tick.number = 0 || s.tick.number.toNat % 8000 ≠ 0 || !s.domOn 8 then s
  else
    let kept := if s.tick.copying.isSome then s.counters.trail.getD [] else []
    { s with counters := { s.counters with trail := some kept } }.modTick fun t =>
      { t with snap := some s.counters.now, snapSuspect := t.suspectSecond || t.suspect ≠ 0
               suspectSecond := decide (t.suspect ≠ 0) }

/-- The counter values from which the increments of a fold interval count: those of the latest 16 ticks, and of the ticks by
which folding lags (Table TICK-2). -/
def State.foldTick (s : State) : State :=
  s.modTick fun t => { t with folds := (s.counters.now :: t.folds).take (16 + t.foldLag) }

/-- The work that a tick begins, and what it delivers. [DEDUCED, unsafe: log 35] -/
def State.tickWork (s : State) (found : List Finding) : State :=
  let s := (poolsCatchUp poolList s).sampleCrossings.secondEnds.judge.foldTick
  let s := s.modTick fun t => { t with selected := s.selectSource, suspectSecond := t.suspectSecond || t.suspect ≠ 0 }
  let s := (s.fanout .a).fanout .b
  let s := ((s.channelTick .a).channelTick .b).adapt .a
  let s := s.adapt .b
  let s := s.omciTick.stageLatch
  let s := ethTicks [0, 1, 2, 3] s
  let s := (adaptLanes (List.range 9) (s.modLink fun a => { a with sending := false })).aligned
  let s := if s.domOn 6 then s.takeSnapshots else s
  let s := { s with qs := { s.qs with oversize := [] } }.rearmTick
  let s := reportRegions found (List.range 16) (findings found s.scrubWork.twinTick)
  let s := (s.lived fun l => { l with power := l.power + 1 }).lifeSlot
  s.startedTick.stampTables.finish

/-- The boundary that ended SYNC has passed. [DEDUCED, unsafe: log 36] -/
def State.pastEdges (s : State) : State :=
  (s.modCh .a fun x => { x with lossEdge := false }).modCh .b fun x => { x with lossEdge := false }

/-- [DEDUCED, unsafe: log 35] -/
def State.tickAt (s : State) (src : Src) (interval : Nat) (tell : Bool) (found : List Finding) : State :=
  (s.pastEdges.reportMoved.prepare.tickCount src interval tell).tickWork found

/-- An interval of R14 in REF cycles. [DEDUCED, unsafe: log 36] -/
def inPeriod (n : Nat) : Nat := if n < 19440 then 19440 else if n > 38880 then 38880 else n

/-- A tick from the source selected at the last one. A newly selected channel that has left SYNC gives none, but for the
boundary at which its counts ended SYNC (R13). [DEDUCED, unsafe: log 36] -/
def State.doTick (s : State) (interval : Nat) (found : List Finding) : State :=
  if !s.ticks then s
  else match s.tick.selected with
    | .ref => s.tickAt .ref 19440 false found
    | .chan c =>
      if s.tick.source = .chan c then s.tickAt (.chan c) 19440 false found
      else if s.inSync c || (s.ch c).lossEdge then s.tickAt (.chan c) (inPeriod interval) false found
      else s

/-- The selected channel gave no tick within 38,880 REF cycles (R14). [DEDUCED, unsafe: log 36] -/
def State.doFallback (s : State) (found : List Finding) : State :=
  if !s.ticks then s
  else match s.tick.selected with
    | .ref => s
    | .chan c => if s.tick.source = .chan c || s.inSync c then s else s.tickAt .ref 38880 true found

/-! ## Windows (Table TICK-2) -/

/-- The class of a channel among two. -/
def clsChan (cls : Nat) : Chan := chanOf (cls % 2)

/-- What is due at the next tick, firmware's own RESYNCs included, takes effect one tick later (APPLY). -/
def State.deferHeld (s : State) : State :=
  let next := s.tick.number + 1
  let one (h : Held) : Held := if h.due.toNat ≤ next.toNat then { h with due := next + 1 } else h
  let late (e : BitVec 64 × BitVec 4) : BitVec 64 × BitVec 4 := if e.1.toNat ≤ next.toNat then (next + 1, e.2) else e
  { s with cmd := { s.cmd with held := s.cmd.held.map one }, tick := { s.tick with resyncs := s.tick.resyncs.map late } }

/-- The bursts of a tick whose content is late at the close of a COMMIT window (R191). -/
def State.lateCommit (s : State) (c : Chan) (n : BitVec 64) : State :=
  let mine (b : Burst) : Bool := b.tick = n && !b.judged
  let late := ((s.bch c).bursts.filter fun b => mine b && !b.committed).length
  let s := (s.bumpB c 12 late).noteOverrun (2 + chanN c) n (BitVec.ofNat 24 late)
  let one (b : Burst) : Burst := if !mine b then b else if b.committed then { b with judged := true } else s.lateBurst b
  s.modB c fun x => { x with bursts := x.bursts.map one }

/-- A copy of the per-second set that its window did not hold goes on in the ticks that follow (R77). -/
def State.stippleLate (s : State) : State :=
  match s.tick.snap with
  | none => s
  | some m => { s with tick := { s.tick with copying := some m, snap := none } }

/-- The ticks by which folding may lag without losing a count (Table TICK-2). -/
def foldLimit : Nat := 2048

/-- Counts lost while folding lags by more: how many of each counter is a free value. [DESIGN CHOICE, safe: log 126] -/
def foldLoss : List Nat → State → State
  | [], s => s
  | a :: r, s =>
    let (f, s) := s.fresh
    foldLoss r (s.setCtr a (s.ctr a - BitVec.ofNat 64 (f % ((s.ctr a).toNat + 1))))

/-- FOLD did not complete: the lag grows by a tick. [DESIGN CHOICE, safe: log 126] -/
def State.foldLate (s : State) : State :=
  let s := s.modTick fun t => { t with foldLag := t.foldLag + 1 }
  if s.tick.foldLag < foldLimit then s else foldLoss (s.counters.now.map (·.1)) s

/-- A scrub slice goes on in the next tick. -/
def Scrubs.hold (x : Scrubs) (cls : Nat) : Scrubs :=
  match cls with
  | 9 => { x with burnish := { x.burnish with held := true } }
  | 10 => { x with rule := { x.rule with held := true } }
  | 11 => { x with crc := { x.crc with held := true } }
  | _ => x

/-- The consequence of an overrun of a class, for the work of tick n. Deferred PLOAM messages stay queued.
[DESIGN CHOICE, safe: log 37] -/
def State.overrunConsequence (s : State) (cls : Nat) (n : BitVec 64) (items : Nat) : State :=
  match cls with
  | 0 | 1 => s.suppressTick (clsChan cls) n
  | 2 | 3 => s.lateCommit (clsChan cls) n
  | 4 => s.spoilSnapshots items
  | 5 => s.reportMoved
  | 6 => s.deferHeld
  | 7 => s.foldLate
  | 8 => s.stippleLate
  | 9 | 10 | 11 => s.modFault fun f => { f with scrubs := f.scrubs.hold cls }
  | 12 | 13 => s.loseShadow (clsChan cls) n
  | _ => s

/-- The scrub classes name no items (Table TICK-12); late bursts are counted one by one. -/
def itemsOf (cls : Nat) (items : BitVec 24) : BitVec 24 :=
  if (9 ≤ cls && cls ≤ 11) || cls = 2 || cls = 3 then 0 else items

/-- A window that held its work: APPLY has prepared the next tick, and what was left to fold has been folded. -/
def State.windowHeld (s : State) (cls : Nat) : State :=
  match cls with
  | 5 => s.reportMoved
  | 6 => s.prepare
  | 7 => s.modTick fun t => { t with foldLag := 0 }
  | _ => s

/-- The close of a work window. [DESIGN CHOICE, safe: log 37] -/
def State.windowClose (s : State) (cls : Nat) (n : BitVec 64) (complete : Bool) (items : BitVec 24) : State :=
  if cls ≥ 14 || !s.ticks || !s.tick.started || n.toNat > s.tick.number.toNat then s
  else if complete then s.windowHeld cls
  else ((s.noteOverrun cls n (itemsOf cls items)).overrunConsequence cls n items.toNat).finish

/-! ## The stipple snapshot (R77, R79) -/

/-- A bank becomes readable. -/
def State.publish (s : State) (bank : SMap (BitVec 64)) (incomplete : Bool) : State :=
  { s with stipple := bank, counters := { s.counters with trail := none }
           tick := { s.tick with second := BitVec.ofNat 30 (s.tick.number.toNat / 8000), incomplete, copying := none, snap := none
                                 secondSuspect := s.tick.snapSuspect } }

/-- The copy of the per-second set, which completes within its tick or overruns. The items that the overrun affects are
not stated for this class: a free value. -/
def State.stippleCopy (s : State) (complete : Bool) : State :=
  match s.tick.snap with
  | none => s
  | some m =>
    if !s.ticks || !s.domOn 8 then s
    else if complete then s.publish m false
    else
      let (f, s) := s.fresh
      (s.noteOverrun 8 s.tick.number (BitVec.ofNat 24 f)).stippleLate

/-- A value copied late is its counter's value at the tick, or one that it has taken since: which, is a free value.
[DESIGN CHOICE, safe: log 38] -/
def lateCopy (old : SMap (BitVec 64)) (trail : List (Nat × BitVec 64)) : List Nat → SMap (BitVec 64) → State → SMap (BitVec 64) × State
  | [], acc, s => (acc, s)
  | k :: r, acc, s =>
    let took := mget 0 old k :: (trail.filter fun e => e.1 = k).map (·.2)
    let (f, s) := s.fresh
    lateCopy old trail r (mput 0 acc k (took.getD (f % took.length) 0)) s

/-- The late copy completes. [DESIGN CHOICE, safe: log 38] -/
def State.stippleDone (s : State) : State :=
  match s.tick.copying with
  | none => s
  | some old =>
    if !s.ticks || !s.domOn 8 then s
    else
      let trail := s.counters.trail.getD []
      let (bank, s) := lateCopy old trail ((old.map (·.1)) ++ (trail.map (·.1)).dedup) [] s
      s.publish bank true

/-! ## Crossings (R22, R25, R28) -/

def State.disturb (s : State) (g : Nat) : State :=
  s.modTick fun t => { t with disturbed := t.disturbed ||| BitVec.ofNat 16 (2 ^ g) }

/-- A difference of 128 or more is discarded, and the group is suspect. -/
def State.crossingDisturbed (s : State) (g index diff : Nat) : State :=
  if !s.ticks || diff < 128 then s
  else ((s.disturb g).suspectGroup g).raise 0x0F20 (put 60 4 g + put 48 12 index + put 40 8 diff + s.tickLow)

/-- A FIFO of a crossing whose two sides run overflows or underflows: the frame or block in transit on its stream is lost
(R25). [DEDUCED, safe: log 127] -/
def State.crossingFifo (s : State) (g index : Nat) (overflow : Bool) : State :=
  if !s.ticks || !s.domOn (groupDom g) then s
  else
    let (f, s) := s.fresh
    let k := f % streamsOf g
    let s := if streamsOf g = 0 || s.spoilt g k then s else s.modTick fun t => { t with transit := t.transit ++ [(g, k)] }
    (s.disturb g).raise 0x0F21 (put 60 4 g + put 48 12 index + put 40 1 (b2n overflow) + s.tickLow)

/-- Firmware issues RESYNC for a suspect group: it acts at the second tick after (R28, R30, R63).
[DEDUCED, unsafe: log 39] -/
def State.firmwareResync (s : State) (g : BitVec 4) : State :=
  if s.ticks && s.tick.suspect.getLsbD g.toNat && s.domOn (groupDom g.toNat) then
    s.modTick fun t => { t with resyncs := t.resyncs ++ [(t.number + 2, g)] }
  else s

/-- Firmware rewrites a sixteenth of a block's configuration from its record (R428). [DESIGN CHOICE, safe: log 40] -/
def State.crcRewrite (s : State) (block : Byte) (k : BitVec 4) : State :=
  (s.modFault fun x => { x with crcBad := x.crcBad.filter fun e => e ≠ (block, k) }).crcHolds

end Sys2Proof.Machine
end

