-- ==== Sys2Proof/Machine/BurstOps.lean ====
section
/-! DEFINITION. A burst's way from its partition to the fibre: decode and admission, assembly, the commit deadline,
start and end, and the laser guard's reactions (Upstream Bursts: Grants, the Burin and the Laser Guard). -/

namespace Sys2Proof.Machine

/-! ## The partition (R168 to R173, R184) -/

/-- Urgent refill work of an admitted burst: each allocation whose size exceeds what its entry has staged. -/
def State.urgentOf (s : State) (b : Burst) : List (Nat × Nat) :=
  (b.allocs.filter fun a => decide (a.size > (s.stage a.entry).bytes)).map fun a => (a.entry, a.size)

/-- The bursts of a partition in order of start. -/
def State.ordered (s : State) (c : Chan) (ds : List Draft) : List Draft :=
  ds.foldl (fun l d => insertBurst { d with burst := s.withStop c d.burst } l) []

/-- Insert an admitted burst among those that wait. -/
def insertKept (b : Burst) : List Burst → List Burst
  | [] => [b]
  | x :: r => if b.start < x.start then b :: x :: r else x :: insertKept b r

/-- Release the admitted bursts to assembly and refill. -/
def releaseBursts (c : Chan) : List Burst → State → State
  | [], s => s
  | b :: r, s =>
    let s := s.modB c fun x => { x with bursts := insertKept b x.bursts }
    releaseBursts c r { s with burin := { s.burin with urgent := s.urgentLeft ++ s.urgentOf b } }

/-- Phase 2 in time: admission, its events, and release (R173, R174, R180). [DEDUCED, unsafe: log 62] -/
def State.phaseTwo (s : State) (c : Chan) (ds : List Draft) : State :=
  let (a, s) := admitBursts c (s.ordered c ds) { kept := [], refused := 0, firstRefused := 0, overlapN := 0, firstOverlap := 0 } s
  let s := s.once c 0x0404 (a.refused ≠ 0) (pCh c + a.firstRefused + put 32 10 (sat 1023 a.refused) + s.tickLow)
  let s := s.once c 0x0401 (a.overlapN ≠ 0) (pCh c + a.firstOverlap + put 32 7 (sat 127 a.overlapN) + s.tickLow)
  releaseBursts c a.kept s

/-- Phase 2 not in time: every burst of the partition is suppressed (R172). How many own allocations were matched by the
end of the window is a free value. [DEDUCED, unsafe: log 62] -/
def State.phaseLate (s : State) (c : Chan) (own : Nat) : State :=
  let (f, s) := s.fresh
  let n := f % (own + 1)
  (s.bumpB c 4 n).noteOverrun (chanN c) s.tick.number (BitVec.ofNat 24 n)

/-- A BWmap partition, whole (R168). What comes once for a channel and tick is told once, where two partitions fall into one
tick (R14, R15). -/
def State.partition (s : State) (c : Chan) (structs : List AllocStruct) (inTime : Bool) (decodeTime : Nat) : State :=
  if !(s.ch c).fsOk then s
  else
    let n := minN 4096 structs.length
    let over_ := structs.length - n
    let s := (s.bumpB c 0 n).bumpB c 1 over_
    let s := s.once c 0x0403 (over_ ≠ 0) (pCh c + put 32 16 (sat 65535 structs.length) + s.tickLow)
    let before := (s.bch c).partOwn
    let (ds, own, s) := decodeStructs c (structs.take 4096) before [] s
    let s := (s.bumpB c 2 (own - before)).modB c fun x =>
      { x with structsLast := n, ownLast := own - before, decodeLast := decodeTime, partOwn := own }
    let s := s.once c 0x0402 (own > 1024) (pCh c + put 32 13 (sat 4096 own) + s.tickLow)
    if inTime then s.phaseTwo c ds.reverse else s.phaseLate c (own - before)

/-- The shadow decoder's list of a partition, kept while its bursts can still start (R192). A BUDGET_OVERRUN names every
structure of the partition as affected. [DESIGN CHOICE, unsafe: log 158] -/
def State.shadowPartition (s : State) (c : Chan) (structs : List AllocStruct) (inTime : Bool) : State :=
  if !(s.ch c).fsOk || !s.domOn (txDom c) then s
  else
    let n := s.tick.number
    let (wins, serials, own) := s.shadowWins c structs
    let live (t : BitVec 64) : Bool := decide (n.toNat < t.toNat + 4)
    let s := s.modB c fun x =>
      { x with shadow := (n, (s.ch c).sfc64, if inTime then some wins else none) :: x.shadow.filter fun e => live e.1
               serials := (if inTime then serials else []) ++ x.serials.filter fun e => live e.tick
               shadowOwn := own }
    if inTime then s else s.noteOverrun (12 + chanN c) n (BitVec.ofNat 24 structs.length)

/-! ## Assembly and deadline (R190, R191) -/

/-- Assemble and commit the first burst that waits for it. Where a FIFO fault of the transmit crossing has spoilt its
content, that is discarded and the burst counts as one of late content (R25). [DEDUCED, safe: log 127] -/
def State.assemble (s : State) (c : Chan) : State :=
  let g := 2 * chanN c + 1
  match (s.bch c).bursts.find? fun b => !b.committed with
  | none => s
  | some b =>
    let (d, s) := if s.spoilt g 0 then ({ s.lateBurst b with judged := b.judged }, (s.unspoil g 0).bumpB c 12 1)
                  else s.commitBurst c b
    s.modB c fun x => { x with bursts := x.bursts.map fun y => if y = b then d else y }

/-- Judge one burst at its deadline. -/
def State.judgeOne (s : State) (c : Chan) (b : Burst) : Burst × State :=
  if b.judged then (b, s)
  else if b.committed then ({ b with judged := true }, s)
  else (s.lateBurst b, ((s.bumpB c 12 1).noteOverrun (2 + chanN c) b.tick (BitVec.ofNat 24 1)).urgentDone b)

/-- The deadline of the first burst not yet judged. -/
def State.deadline (s : State) (c : Chan) : State :=
  match (s.bch c).bursts.find? fun b => !b.judged with
  | none => s
  | some b =>
    let (d, s) := s.judgeOne c b
    s.modB c fun x => { x with bursts := x.bursts.map fun y => if y = b then d else y }

/-! ## Start and end (R116, R173, R182, R195, R202) -/

/-- The shadow windows of a burst's partition are present (check 7). [DEDUCED, unsafe: log 63] -/
def State.shadowPresent (s : State) (c : Chan) (b : Burst) : Bool :=
  (s.bch c).shadow.any fun e => e.1 = b.tick && e.2.1 = b.frame && e.2.2.isSome

/-- A disagreement cuts the burst in progress off (R195), at its start or later; what waited for its end follows (R116,
R130). -/
def State.cutOff (s : State) (c : Chan) (cause : Nat) (whole : Bool) : State :=
  match (s.bch c).current with
  | some b => (((s.abandon c b whole).trip c cause b.vonu.toNat b.tick).leaveDisabled b.vonu.toNat c).txUpdate c
  | none => s.trip c cause 0 s.tick.number

/-- The laser is lit for a burst, or stays lit from the one before it (R181); a new episode counts in every window of a
serial-number grant that it begins in (R194). -/
def State.lightUp (s : State) (c : Chan) (b : Burst) : State :=
  s.modB c fun x =>
    { x with current := some b, lit := true, litFrom := if x.lit then x.litFrom else b.start
             serials := if x.lit then x.serials else x.serials.map fun w =>
               if w.start * cycleU ≤ b.start && b.start < w.stopU then { w with episodes := w.episodes + 1 } else w }

/-- The windows of serial-number grants that a burst begins in. -/
def State.serialsAt (s : State) (c : Chan) (b : Burst) : List SnWin :=
  (s.bch c).serials.filter fun w => decide (w.start * cycleU ≤ b.start) && decide (b.start < w.stopU)

/-- The disagreement at a burst's start: its enable is high outside every window, or it is an episode beyond the number
that the twin copy of SN_PER_WINDOW permits (R194, R195). -/
def State.startDisagrees (s : State) (c : Chan) (b : Burst) : Option Nat :=
  if (s.windowAt c b.start).isNone then some 0
  else if (s.serialsAt c b).any fun w => decide (w.episodes > (s.bch c).twin.perWindow) then some 2 else none

/-- The disagreement before a burst's end: its enable is still high at the end of its window, or the episode, which may have
begun with a burst before it, has lasted longer than the slot length (R181, R194, R195). -/
def State.endDisagrees (s : State) (c : Chan) (b : Burst) : Option Nat :=
  if (s.windowAt c b.start).any fun w => decide (w.stopU < b.stop) then some 0
  else if (s.serialsAt c b).any fun w => decide ((s.bch c).litFrom + w.slot < b.stop) then some 2 else none

/-- The start of the next burst, with checks 7 and 8 of Table BURIN-1, and the guard's (R195, R202).
[DEDUCED, unsafe: log 63] -/
def State.startBurst (s : State) (c : Chan) : State :=
  match (s.bch c).bursts, (s.bch c).current with
  | b :: r, none =>
    let s := s.modB c fun x => { x with bursts := r }
    let (b, s) := s.judgeOne c b
    let dark (s : State) : State := s.modB c fun x => { x with lit := false }
    if !s.shadowPresent c b then (dark (s.restoreBurst c b)).bumpB c 10 1
    else if (s.ch c).tx ≠ .ready || !s.inSync c then (dark (s.restoreBurst c b)).bumpB c 11 1
    else
      let s := s.lightUp c b
      if (s.bch c).testTrip then (s.modB c fun x => { x with testTrip := false }).cutOff c 3 true
      else match s.startDisagrees c b with
        | some cause => s.cutOff c cause true
        | none => s
  | _, _ => s

/-- The laser stays lit from a burst's end to the start of the next, where that is less than 2 ns away (R181): the
units between. -/
def State.litGap (s : State) (c : Chan) (b : Burst) : Option Int :=
  match (s.bch c).bursts with
  | n :: _ => if n.start < b.stop + 2 * nsU then some (n.start - b.stop) else none
  | [] => none

/-- The last bit of a burst has left. -/
def State.burstLeft (s : State) (c : Chan) (b : Burst) : State :=
  let v := b.vonu.toNat
  let s := (s.bumpB c 3 1).bumpB c 18 (burstBytes b)
  let s := if b.kind = .serial then s.bumpVonu v 7 else s
  let s := if b.up.isSome then s.bumpVonu v 1 else s
  let s := s.bump (vonuCtr v 5) (sumN (b.content.map fun k => k.omci.length))
  let s := s.burstStamps c b (burstBytes b + 1)
  let s := s.freeAll 0x09 (burstCells b)
  let gap := s.litGap c b
  let s := s.lived fun l => { l with laser := l.laser.set c (l.laser.get c + BitVec.ofInt 64 (b.stop - b.start + gap.getD 0)) }
  let s := (s.modCh c fun x => { x with burstDone := true, rateLast := b.profile.rate }).modB c fun x => { x with current := none, lit := gap.isSome }
  ((s.emit (.burst c b)).leaveDisabled v c).txUpdate c

/-- The end of the burst in progress, which the guard cuts off first where it disagrees (R182, R195).
[DEDUCED, safe: log 67] -/
def State.endBurst (s : State) (c : Chan) : State :=
  match (s.bch c).current with
  | none => s
  | some b =>
    match s.endDisagrees c b with
    | some cause => s.cutOff c cause false
    | none => s.burstLeft c b

/-! ## The guard (R195 to R198, R201) -/

/-- The Burin's enable outside the window, or a serial-number episode against R194. [DEDUCED, unsafe: log 65] -/
def State.disagree (s : State) (c : Chan) (snEpisode : Bool) : State :=
  if !s.domOn (txDom c) then s else s.cutOff c (if snEpisode then 2 else 0) false

/-- Light outside every window opens the bias switch (R196). [DEDUCED, unsafe: log 65] -/
def State.lightTrip (s : State) (c : Chan) : State :=
  if !s.domOn (txDom c) then s
  else (s.modB c fun x => { x with switchOpen := true }).trip c 1 (((s.bch c).current.map (·.vonu.toNat)).getD 0)
    (((s.bch c).current.map (·.tick)).getD s.tick.number)

/-- The switch closes at the start of the next shadow window, while nothing keeps it open. -/
def State.closeSwitch (s : State) (c : Chan) : State :=
  if s.switchHeld c then s else s.modB c fun x => { x with switchOpen := false }

/-- Firmware has rewritten both copies of the marked entries (R198). [DESIGN CHOICE, safe: log 40] -/
def State.rewriteTwins (s : State) (c : Chan) : State :=
  s.modB c fun x => { x with marks := [], twin := if s.twinLive c then x.own else x.twin }

/-- Firmware has reloaded both copies of the tables after the transmit domain's entry (R201). -/
def State.reloadTwins (s : State) (c : Chan) : State :=
  if !s.domOn (txDom c) then s
  else ((s.modCh c fun x => { x with holdReload := false }).modB c fun x => { x with twin := x.own }).txUpdate c

end Sys2Proof.Machine
end

