-- ==== Sys2Proof/Machine/Burin.lean ====
section
/-! DEFINITION. The meanings of the upstream path's and the laser guard's commands (Upstream Bursts: Grants, the Burin and
the Laser Guard). -/

namespace Sys2Proof.Machine

/-- A BWmap partition reaches the Burin (R168 to R180). -/
def execBwmapPartition (c : Chan) (structs : List AllocStruct) (inTime : Bool) (decodeTime : Nat) (s : State) :
    Host.Outcome State Fault Refusal := next (s.partition c structs inTime decodeTime)

/-- The same partition reaches the shadow decoder (R192 to R194). -/
def execShadowPartitionDecode (c : Chan) (structs : List AllocStruct) (inTime : Bool) (s : State) :
    Host.Outcome State Fault Refusal := next (s.shadowPartition c structs inTime)

/-- The SNAPSHOT of the latest tick is complete (R188). -/
def execSnapshotComplete (s : State) : Host.Outcome State Fault Refusal := next s.adoptSnapshots

/-- The next burst is assembled and committed (R178, R185, R190). -/
def execBurstAssembly (c : Chan) (s : State) : Host.Outcome State Fault Refusal := next (s.assemble c)

/-- The deadline of the next burst (R191). -/
def execCommitDeadline (c : Chan) (s : State) : Host.Outcome State Fault Refusal := next (s.deadline c)

/-- The start of the next burst (R173, R202). -/
def execBurstStart (c : Chan) (s : State) : Host.Outcome State Fault Refusal := next (s.startBurst c).finish

/-- The end of the burst in progress (R182). -/
def execBurstEnd (c : Chan) (s : State) : Host.Outcome State Fault Refusal := next (s.endBurst c).finish

/-- The refill engine stages a frame of an entry (R182 to R186). -/
def execRefillFrameStaged (i : BitVec 13) (s : State) : Host.Outcome State Fault Refusal := next (s.stageOne i.toNat)

/-- A disagreement of the laser guard (R194, R195). -/
def execGuardDisagreement (c : Chan) (snEpisode : Bool) (s : State) : Host.Outcome State Fault Refusal :=
  next (s.disagree c snEpisode).finish

/-- Light outside every shadow window (R196). -/
def execLightCheckTrip (c : Chan) (s : State) : Host.Outcome State Fault Refusal := next (s.lightTrip c).finish

/-- The bias switch closes (R196). -/
def execBiasSwitchClose (c : Chan) (s : State) : Host.Outcome State Fault Refusal := next (s.closeSwitch c)

/-- The marked twin entries are rewritten (R198). -/
def execTwinRewrite (c : Chan) (s : State) : Host.Outcome State Fault Refusal := next (s.rewriteTwins c)

/-- The guard's tables are reloaded (R201). -/
def execTwinReload (c : Chan) (s : State) : Host.Outcome State Fault Refusal := next (s.reloadTwins c).finish

/-- A REARM write (R200). -/
def execRearm (c : Chan) (s : State) : Host.Outcome State Fault Refusal := next (s.hostBits (burinAddr (8 + chanN c)) 1 1)

/-- A TEST_TRIP write (R202). -/
def execTestTrip (c : Chan) (s : State) : Host.Outcome State Fault Refusal := next (s.hostBits (burinAddr (8 + chanN c)) 2 2)

end Sys2Proof.Machine
end

