-- ==== Sys2Proof/Machine/NodeOps.lean ====
section
/-! DEFINITION. Admission of a classified packet, a node's release, and the hatch lists' own steps (Queues, Scheduling,
Shaping and Hatch Lists). -/

namespace Sys2Proof.Machine

/-! ## Admission (R252, R254) -/

/-- The packet that has waited longest after its last pass is metered and presented to its queue; one that a FIFO fault has spoilt
is dropped there (R25). [DESIGN CHOICE, unsafe: log 162] -/
def State.admitNext (s : State) : State :=
  match s.cls.toAdmit with
  | [] => s
  | x :: r =>
    if !s.domOn 6 || s.cls.restoring then s
    else
      let s := s.modCls fun c => { c with toAdmit := r }
      let (c, s) := s.meterPacket x.act.meter x.counted x.pkt.colour
      if s.spoilt 15 0 then
        let s := s.unspoil 15 0
        match x.act.queue with
        | some q => s.dropAt q.toNat (1 + minN 2 c.toNat) x.pkt
        | none => s.freeAll 0x06 x.pkt.cells
      else match x.act.queue with
      | some q => s.admitTo q.toNat { x.pkt with colour := c }
      | none => s.freeAll 0x06 x.pkt.cells

/-! ## Release (R245 to R249) -/

/-- Drop the heads of a node's queues that can no longer fit their gates (R262). [DEDUCED, unsafe: log 73] -/
def settleHeads (n : Nat) : List Nat → State → State
  | [], s => s
  | q :: r, s => settleHeads n r (s.settleHead n q)

/-- The output of a node can accept a packet, but for the packet's own length. [DEDUCED, unsafe: log 73] -/
def State.outputReady (s : State) (n : Nat) : Bool :=
  match nodeKind n with
  | .port _ => s.linkCarries
  | .ethernet e =>
    let x := ethPort s e
    s.domOn 10 && s.ethExists e && s.ethSends e && !x.paused && !x.lpiTx
  | .ces k => s.tribRuns k && mget [] s.ces.rx k = []
  | _ => false

/-- A released packet passes to the consumer that sends it, and leaves by its node's output (R282). -/
def State.deliver (s : State) (n : Nat) (p : Packet) (now : BitVec 64) : State :=
  match nodeKind n with
  | .port ch =>
    let s := s.passAll 0x07 0x0A p.cells
    ((s.sendFrame ch p.colour.toNat p.bytes).getD s).freeAll 0x0A p.cells
  | .ethernet e => (((s.passAll 0x07 0x0B p.cells).macSend e p.bytes now).freeAll 0x0B p.cells).loopBack e
  | .ces k =>
    let s := s.passAll 0x07 0x0C p.cells
    { s with ces := { s.ces with rx := mmod [] s.ces.rx k (· ++ [p]) } }
  | _ => s.freeAll 0x07 p.cells

/-- A strict release takes its credit (R264, R266). -/
def State.creditTaken (s : State) (n q : Nat) : State :=
  match nodeKind n, (s.queue q).pkts with
  | .ethernet e, p :: _ => if s.qPos q < 4 then s.cbsSpend e (s.qPos q) (s.accounted n p) else s
  | _, _ => s

/-- The head of a queue can be sent: a port node's needs its channel's credit (R246, R320). -/
def State.headSends (s : State) (n q : Nat) : Bool :=
  match nodeKind n, (s.queue q).pkts with
  | .port ch, p :: _ => s.creditFor ch p.bytes.length
  | _, _ => true

/-- One release of a node other than a T-CONT. -/
def State.nodeSend (s : State) (n : Nat) : State :=
  if !s.domOn 6 || s.cls.restoring || !s.outputReady n then s
  else
    let (now, s) := s.instant
    let s := s.creditsNow n now
    let s := (settleHeads n (s.queuesOf n) s).requalify n now
    if !s.tokensOk n now then s
    else match s.selectQueue n now with
      | none => s
      | some q =>
        if !s.headSends n q then s
        else
          let s := s.creditTaken n q
          match s.releaseHead n q now with
          | (none, s) => s
          | (some p, s) => s.deliver n p now

/-- NODE_RELEASE: a T-CONT node's release is a staging of the refill engine (R242). [DEDUCED, unsafe: log 73] -/
def State.nodeRun (s : State) (n : Nat) : State := if n < 8192 then s.stageOne n else s.nodeSend n

/-! ## Hatch lists (R258 to R260) -/

/-- The latest Stylus ns that this moment can be. [DEDUCED, unsafe: log 75] -/
def State.nsAtMost (s : State) : Nat := s.nsAt (s.time.count + BitVec.ofNat 64 s.tickSpan)

/-- Write entries to a shadow. -/
def shadowEntries (l : Nat) : Nat → List (BitVec 8 × Nat) → State → State
  | _, [], s => s
  | j, (g, d) :: r, s => shadowEntries l (j + 1) r (s.putCfg (hEntryAddr l j) (BitVec.ofNat 32 (g.toNat + 256 * d)))

/-- A shadow copy that is under way completes: the active copy stands in the shadow, and HATCH_STARTED is raised (R260). -/
def State.hatchCopied (s : State) (l : Nat) : State :=
  let h := s.hatch l
  match h.copying, h.active with
  | true, some x =>
    let s := shadowEntries l 0 x.entries s
    let s := (s.putCfg (hCfgAddr l 0) (wordOf x.base.toNat 0)).putCfg (hCfgAddr l 1) (wordOf x.base.toNat 1)
    let s := (s.putCfg (hCfgAddr l 2) (BitVec.ofNat 32 x.cycle)).putCfg (hCfgAddr l 3) (BitVec.ofNat 32 x.entries.length)
    let us := (h.begun.at_.toNat - h.begun.ns.toNat) / 1000
    (s.setHatch l { h with copying := false }).raise 0x0601 (put 56 6 l + put 32 24 (sat 16777215 us) + put 0 32 h.begun.tick.toNat)
  | _, _ => s

/-- The copy whose start has come, with that start: the one that a commit holds, or else an active one that restarts (R260,
R267). [DEDUCED, unsafe: log 75] -/
def Hatch.dueCopy (h : Hatch) (due : BitVec 64 → Bool) : Option (HCopy × HStart) :=
  match h.pending.filter fun _ => due h.start with
  | some x => some (x, { at_ := h.start, tick := h.commitTick, ns := h.commitNs })
  | .none => h.again.filter fun e => due e.2.at_

/-- A copy has come to its start: it governs from now on, and its copy into the shadow begins. One that restarts leaves a
held one to come; a held one ends what was to restart (R260, R267). [DEDUCED, unsafe: log 75] -/
def State.hatchBegin (s : State) (l : Nat) : State :=
  let due (t : BitVec 64) : Bool := s.domOn 12 && t.toNat ≤ s.nsAtMost
  match (s.hatch l).dueCopy due with
  | none => s
  | some (x, st) =>
    let held := due (s.hatch l).start
    let (now, s) := (s.hatchCopied l).instant
    let s := s.gateTouch l now
    let h := s.hatch l
    (s.setHatch l { h with active := some x, pending := if held then none else h.pending, again := none, begun := st
                           copying := true, current := 0 }).gateTouch l now

/-- The entry of the active copy that runs now; the queues of the list's nodes lose or gain their gates (R248). -/
def State.gateNow (s : State) (l : Nat) : State :=
  let h := s.hatch l
  match h.active with
  | some x =>
    if !s.domOn 12 then s
    else
      let (t, s) := s.instant
      (s.setHatch l { h with current := BitVec.ofNat 8 (runAt 0 x.runs (x.phase (s.nsAt t))).1 }).gateTouch l t
  | none => s

/-- Firmware has restored PD_PKT's configuration after its entry: the pipeline and admission accept packets (R237,
R267). -/
def State.pktRestore (s : State) : State :=
  if !s.domOn 6 || !s.cls.restoring then s else s.modCls fun c => { c with restoring := false }

end Sys2Proof.Machine
end

