-- ==== Sys2Proof/Machine/Ces.lean ====
section
/-! DEFINITION. The meanings of the circuit-emulation commands (Circuit Emulation for DS1 and E1). -/

namespace Sys2Proof.Machine

/-- The packet that node 8,708 + k released last is taken from its input; a disabled tributary discards it, and one that a FIFO
fault has spoilt is malformed (R384, R25). [DESIGN CHOICE, unsafe: log 162] -/
def State.pwTake (s : State) (k : Nat) : State :=
  match mget [] s.ces.rx k with
  | [] => s
  | p :: r =>
    let s := ({ s with ces := { s.ces with rx := mput [] s.ces.rx k r } }).freeAll 0x0C p.cells
    if !s.tribRuns k then s
    else if s.spoilt 7 0 then (s.unspoil 7 0).bump (cesCtr k 5) 1
    else s.pwReceive k p.bytes

/-- No slot-stream frame for 1 ms (R378). -/
def State.ssLost (s : State) (k : Nat) : State :=
  if s.tribRuns k && !(s.trib k).ssLoss then
    (s.modTrib k fun x => { x with ssLoss := true }).raise 0x0B03 (put 62 1 1 + pCes k + s.tickLow)
  else s

/-- The start timer expires: playout begins (R386). [DEDUCED, unsafe: log 96] -/
def State.jbStart (s : State) (k : Nat) : State :=
  if s.tribRuns k && (s.trib k).timer then s.modTrib k fun x => { x with timer := false, playing := true, slipBuf := [], lastFrame := none } else s

/-- No packet stored for LOPS_SET packet periods (R387). -/
def State.lopsSet (s : State) (k : Nat) : State :=
  if s.tribRuns k && !(s.trib k).lops then
    (s.modTrib k fun x => { x with lops := true, inSeq := 0 }).raise 0x0B01 (put 62 1 1 + pCes k + s.tickLow)
  else s

/-- The slip buffer exists in CESoPSN with a clock other than ADAPTIVE (R389). [DEDUCED, unsafe: log 96] -/
def State.slipNow (s : State) (k : Nat) (drop : Bool) : State :=
  if s.tribRuns k && (s.ces_ k).slips && (s.trib k).playing then s.slip k drop else s

/-- A slot-stream frame arrives (R377, R378). -/
def execSlotStreamFrame (k : BitVec 7) (bytes : List Byte) (s : State) : Host.Outcome State Fault Refusal :=
  next (s.slotStream k.toNat bytes)

/-- No slot-stream frame for 1 ms (R378). -/
def execCesSsLoss (k : BitVec 7) (s : State) : Host.Outcome State Fault Refusal := next (s.ssLost k.toNat)

/-- The packetiser builds a packet (R381, R383). -/
def execCesPacketBuild (k : BitVec 7) (s : State) : Host.Outcome State Fault Refusal :=
  next (if s.tribRuns k.toNat then s.packetBuild k.toNat else s)

/-- A pseudowire packet reaches the jitter buffer (R384, R385). -/
def execPwPacketReceived (k : BitVec 7) (s : State) : Host.Outcome State Fault Refusal := next (s.pwTake k.toNat)

/-- The start timer of the jitter buffer expires (R386). -/
def execJbStartTimer (k : BitVec 7) (s : State) : Host.Outcome State Fault Refusal := next (s.jbStart k.toNat)

/-- A position is due for playout (R386). -/
def execPlayoutPosition (k : BitVec 7) (s : State) : Host.Outcome State Fault Refusal :=
  next (if s.tribRuns k.toNat && (s.trib k.toNat).playing then s.playPosition k.toNat else s)

/-- LOPS is asserted (R387). -/
def execCesLops (k : BitVec 7) (s : State) : Host.Outcome State Fault Refusal := next (s.lopsSet k.toNat)

/-- The slip buffer would empty or overflow (R389). -/
def execCesSlip (k : BitVec 7) (drop : Bool) (s : State) : Host.Outcome State Fault Refusal := next (s.slipNow k.toNat drop)

/-- A slot-stream frame leaves (R379, R391), under row 1 of Table CES-2 while the CES clocks have failed (Table FAULT-4). -/
def execSlotStreamFrameSend (k : BitVec 7) (s : State) : Host.Outcome State Fault Refusal :=
  next (if s.tribRuns k.toNat then s.slotSend k.toNat else s)

/-- A write of CES_CFG's ENABLE to 1 (R392). -/
def execTributaryEnable (k : BitVec 7) (s : State) : Host.Outcome State Fault Refusal := next (s.hostBits (cesAddr k.toNat 0) 1 1)

/-- A write of CES_CFG's ENABLE to 0 (R392). -/
def execTributaryDisable (k : BitVec 7) (s : State) : Host.Outcome State Fault Refusal := next (s.hostBits (cesAddr k.toNat 0) 0 1)

end Sys2Proof.Machine
end

