-- ==== Sys2Proof/Machine/RxOps.lean ====
section
/-! DEFINITION. The downstream path: the registration hunt, frames in SYNC, line conditions, XGEM delivery and
reassembly, and the intake of PLOAM and OMCI messages (Optical Channels A and B, R94 to R118; R151, R152, R157, R401). -/

namespace Sys2Proof.Machine

/-! ## OMCI and PLOAM intake -/

/-- A downstream OMCI message of a vONU: its MIC is checked, and it goes to the next slot of the receive ring
(R157, R158). [DEDUCED, unsafe: log 57] -/
def State.omciIn (s : State) (v : Nat) (c : Chan) (msg : List Byte) (mic : BitVec 32) : State :=
  match s.keyBegin (mgmtSlot v (chanN c)) (aesBlocks msg.length) with
  | (false, s) => s
  | (true, s) =>
    if mic ≠ (Config.cmac (s.mgmtKey v c 1) msg).setWidth 32 then s.bumpVonu v 6
    else if s.omciBacklog ≥ 1024 then (s.bump (vonuBlkCtr 4) 1).raise 0x0309 (pCh c + put 48 9 v + s.tickLow)
    else
      let m : OmciMsg := { vonu := BitVec.ofNat 9 v, chan := c, tick := BitVec.ofNat 32 s.tickLow, data := msg }
      { s with vonu := { s.vonu with omciRing := mput none s.vonu.omciRing (s.vonu.omciProd.toNat % 1024) (some m)
                                     omciProd := s.vonu.omciProd + 1, omciWrote := true } }.bumpVonu v 4

/-- An OMCI message in transit to the receive ring holds a P10 cell meanwhile (Table BPM-3), where there is one.
[DEDUCED, unsafe: log 134] -/
def State.omciRelay (s : State) (v : Nat) (c : Chan) (msg : List Byte) (mic : BitVec 32) : State :=
  let (cell, s) := s.takeCell 10 0x0D false
  (s.omciIn v c msg mic).freeAll 0x0D (cell.toList.map fun k => (10, k))

/-- The vONUs that hold a serial number, enabled on a channel or not. -/
def State.bySn (s : State) (sn : BitVec 64) : List Nat :=
  (s.vonu.vonus.filter fun e => e.2.life ≠ .free && e.2.sn = sn).map (·.1)

/-- Where a PLOAM message goes (R151). -/
def State.ploamTargets (s : State) (c : Chan) (m : PloamMsg) : List Nat :=
  match m.body with
  | .assignOnuId sn _ => s.bySn sn
  | .disableSerialNumber (some sn) _ => s.bySn sn
  | .disableSerialNumber none _ => s.enabledOn c
  | _ => if m.onuId = 1023 then s.enabledOn c else (s.enabledOn c).filter fun v => (s.vch v c).onuId = some m.onuId

/-- One target's check of a message's MIC (R152, R406): whether it takes the message. [DEDUCED, unsafe: log 50] -/
def State.ploamCheck (s : State) (c : Chan) (m : PloamMsg) (v : Nat) : Bool × State :=
  let data := Config.ploamBytes m c
  match s.keyBegin (mgmtSlot v (chanN c)) (aesBlocks data.length) with
  | (false, s) => (false, s)
  | (true, s) =>
    if m.mic = Config.cmac (s.mgmtKey v c 0) data then (true, s.bumpVonu v 0)
    else (false, (s.bumpVonu v 2).modCh c fun x => { x with micFails := x.micFails + 1 })

/-- [DEDUCED, unsafe: log 50] -/
def ploamChecks (c : Chan) (m : PloamMsg) : List Nat → State → List VId × State
  | [], s => ([], s)
  | v :: r, s =>
    let (ok, s) := s.ploamCheck c m v
    let (l, s) := ploamChecks c m r s
    (if ok then BitVec.ofNat 9 v :: l else l, s)

/-- Route one message to the PLOAM assist: in transit it holds a P10 cell (Table BPM-3), where there is one.
[DEDUCED, unsafe: log 50, 134] -/
def State.ploamIn (s : State) (c : Chan) (m : PloamMsg) : State :=
  let vs := s.ploamTargets c m
  if vs = [] then s.bumpUnmatched c
  else
    let (l, s) := ploamChecks c m vs s
    if l = [] then s
    else
      let (cell, s) := s.takeCell 10 0x0D false
      s.modCh c fun x => { x with ploamQ := x.ploamQ ++ [{ msg := m, targets := l, arrived := s.tick.number, cell }] }

/-- [DEDUCED, unsafe: log 50] -/
def ploamAll (c : Chan) : List PloamMsg → State → State
  | [], s => s
  | m :: r, s => ploamAll c r (s.ploamIn c m)

/-! ## SD and SF (R111) -/

/-- The outcome of a window: asserted at once, cleared after 10 consecutive windows below the threshold.
[DEDUCED, unsafe: log 43] -/
def degrade (was : Bool) (good : Nat) (hit below : Bool) : Bool × Nat :=
  let g := if below then minN 10 (good + 1) else 0
  (if hit then true else if g ≥ 10 then false else was, g)

/-- Judge a whole window of 80 frames and begin the next. [DEDUCED, unsafe: log 43] -/
def State.sdSfEnd (s : State) (c : Chan) : State :=
  let x := s.ch c
  if x.winFrames < 80 then s
  else
    let sfT := (s.cfg (chAddr c 5)).toNat
    let sdT := (s.cfg (chAddr c 6)).toNat
    let (sd, sdGood) := degrade x.sd x.sdGood (x.winBits > sdT) (x.winBits < sdT)
    let (sf, sfGood) := degrade x.sf x.sfGood (x.winBits > sfT || x.winUncorr ≥ 8) (x.winBits < sfT && x.winUncorr < 8)
    let s := s.modCh c fun x => { x with sd, sdGood, sf, sfGood, winFrames := 0, winBits := 0, winUncorr := 0 }
    let s := s.raiseIf (sd ≠ x.sd) 0x0205 (pCh c + put 62 1 (b2n sd) + put 0 32 x.winBits)
    s.raiseIf (sf ≠ x.sf) 0x0206 (pCh c + put 62 1 (b2n sf) + put 0 32 x.winBits)

/-! ## Frames (R91, R92, R97, R98, R101, R104) -/

/-- The iterations of a frame's codewords (R92): at most FEC_MAX_ITER each (R90), and FEC_MAX_ITER for an uncorrectable
one. -/
def State.fecIterations (s : State) (c : Chan) (f : FecStat) : Nat :=
  let most := s.cfgF (chAddr c 0) 8 4
  minN f.iterations (most * (f.total - f.uncorrectable)) + most * f.uncorrectable

/-- Count one frame's FEC figures and add it to the SD and SF window. -/
def State.fecCount (s : State) (c : Chan) (f : FecStat) : State :=
  let s := (s.bumpCh c 0x48 f.total).bumpCh c 0x4A f.corrected
  let s := (s.bumpCh c 0x4C f.bits).bumpCh c 0x4E f.uncorrectable
  let s := if s.inXgs c then s else s.bumpCh c 0x50 (s.fecIterations c f)
  (s.sdSfEnd c).modCh c fun x =>
    { x with winFrames := x.winFrames + 1, winBits := x.winBits + f.bits, winUncorr := x.winUncorr + f.uncorrectable }

/-- Process the frame whose superframe number SFC64 now holds: its time latch, its FEC figures, its FS header. -/
def State.frameBody (s : State) (c : Chan) (f : DsFrame) : State :=
  let s := (s.bumpCh c 0x40 1).latch c (s.onlineSfc c) f.timeCount
  let s := s.modCh c fun x => { x with frameTime := f.timeCount }
  let s := s.fecCount c f.fec
  let ok := f.hlendOk && !f.hlendMarked
  let s := s.modCh c fun x => { x with fsOk := ok, payloadDrop := false }
  let s := if ok then ploamAll c f.ploam s else s.bumpCh c 0x52 1
  s.adapt c

/-- PSYNC_TOL and LOSS_COUNT (R94, R97). -/
def State.psyncTol (s : State) (c : Chan) : Nat := s.cfgF (chAddr c 3) 0 4
def State.lossCount (s : State) (c : Chan) : Nat := s.cfgF (chAddr c 3) 4 4

/-- Judge the SFC structure of a frame in SYNC (R98): whether a second mismatch in succession ends SYNC. -/
def State.sfcJudge (s : State) (c : Chan) (sfc : Option (BitVec 51)) : Bool × State :=
  match sfc with
  | none => (false, s.bumpCh c 0x44 1)
  | some v =>
    if v = s.onlineSfc c then (false, s.modCh c fun x => { x with mismatched := false })
    else ((s.ch c).mismatched, (s.bumpCh c 0x46 1).modCh c fun x => { x with mismatched := true })

/-- A frame at the predicted position in SYNC: it is processed, and then SYNC ends where a limit is reached.
[DEDUCED, unsafe: log 36, 43; DESIGN CHOICE, unsafe: log 148] -/
def State.frameIn (s : State) (c : Chan) (f : DsFrame) : State :=
  if !s.inSync c then s
  else
    let bad := f.psyncErrs > s.psyncTol c
    let s := s.modCh c fun x => { x with sfc64 := x.sfc64 + 1, badCount := if bad then x.badCount + 1 else 0 }
    let s := s.bumpIf bad (chAddr c 0x42) 1
    let (twice, s) := s.sfcJudge c f.sfc
    let s := s.frameBody c f
    if bad && (s.ch c).badCount.toNat ≥ s.lossCount c then s.leaveSync c 0 false
    else if twice then s.leaveSync c 1 false else s

/-! ## The registration hunt (R94 to R96, R102) -/

/-- A PSync match at a searched position. [DESIGN CHOICE, unsafe: log 42] -/
def State.sighting (s : State) (c : Chan) (pos errs : Nat) (sfc : Option (BitVec 51)) : State :=
  let x := s.ch c
  let p := pos % s.frameBits c
  match sfc with
  | none => s
  | some v =>
    let s := s.adapt c
    if !(x.hunt = .hunt || x.hunt = .candidate) || errs > s.psyncTol c || x.cands.any (·.pos = p) then s
    else if x.cands.length < 8 then
      s.modCh c fun x => { x with cands := x.cands ++ [{ pos := p, sfc := v, advances := 0 }], hunt := .candidate }
    else s.bumpCh c 0x62 1

/-- A candidate's second advance: SYNC, and the frame is the first processed. HUNT_AMBIGUOUS names the first created of the
advanced ones. [DESIGN CHOICE, unsafe: log 42] -/
def State.promote (s : State) (c : Chan) (k : Cand) (f : DsFrame) : State :=
  let x := s.ch c
  let others := x.cands.filter fun o => o.pos ≠ k.pos
  let advanced := others.find? fun o => o.advances ≥ 1
  let old := s.onlineSfc c
  let bits := s.frameBits c
  let s := s.sdSfEnd c
  let s := s.modCh c fun x =>
    { x with hunt := .sync, cands := [], promotedPos := k.pos, badCount := 0, mismatched := false, lof := false
             lossEdge := false, chLoss := false, sfc64 := x.sfc64.extractLsb' 51 13 ++ k.sfc, winFrames := 0, winBits := 0, winUncorr := 0 }
  let s := s.bumpCh c 0x60 others.length
  let s := s.raiseIf x.lof 0x0202 (pCh c + s.tickLow)
  let s := s.raiseIf x.chLoss 0x0204 (pCh c + s.tickLow)
  let s := s.raise 0x0203 (pCh c + k.sfc.toNat)
  let s := match advanced with
    | some o => s.raise 0x0208 (pCh c + put 32 23 ((o.pos + bits - k.pos) % bits) + s.tickLow)
    | none => s
  let s := s.raiseIf (k.sfc < old) 0x0207 (pCh c + k.sfc.toNat)
  s.frameBody c f

/-- A tracked candidate's predicted PSBd. [DESIGN CHOICE, unsafe: log 42] -/
def State.candidateAt (s : State) (c : Chan) (pos : Nat) (f : DsFrame) : State :=
  let x := s.ch c
  let p := pos % s.frameBits c
  match x.cands.find? fun k => k.pos = p with
  | none => s
  | some k =>
    let rest := x.cands.filter fun o => o.pos ≠ p
    let k' : Cand := { k with sfc := k.sfc + 1, advances := k.advances + 1 }
    let s := s.adapt c
    if x.hunt ≠ .candidate then s
    else if f.psyncErrs > s.psyncTol c || f.sfc ≠ some k'.sfc then
      (s.modCh c fun x => { x with cands := rest, hunt := if rest = [] then .hunt else .candidate }).bumpCh c 0x60 1
    else if k'.advances < 2 then
      s.modCh c fun x => { x with cands := x.cands.map fun o => if o.pos = p then k' else o }
    else s.promote c k' f

/-! ## Lock and light (R108, R110, R119) -/

/-- The CDR locks: the hunt begins, and a start or restart is complete. -/
def State.cdrLocked (s : State) (c : Chan) : State :=
  let x := s.ch c
  if !x.running || x.cdr then s
  else
    let s := s.modCh c fun x => { x with cdr := true, relocking := false, restarting := false, hunt := .hunt }
    (if x.restarting then s.restarted c else s).adapt c

def State.cdrLost (s : State) (c : Chan) : State :=
  if !(s.ch c).cdr then s else (s.modCh c fun x => { x with cdr := false }).assertLos c

def State.cdrLate (s : State) (c : Chan) : State :=
  if !(s.ch c).relocking then s else (s.modCh c fun x => { x with relocking := false }).assertLos c

def State.lightLost (s : State) (c : Chan) : State := if (s.ch c).running then s.assertLos c else s

/-- The light has been back for a tick with the CDR locked; a failed recovered clock holds LOS (Table FAULT-4).
[DEDUCED, unsafe: log 104] -/
def State.lightBack (s : State) (c : Chan) : State :=
  let x := s.ch c
  if !x.running || !x.cdr || !x.los || s.fault.clockGroups.getLsbD (1 + 2 * chanN c) then s
  else ((s.modCh c fun x => { x with los := false }).raise 0x0201 (pCh c + s.tickLow)).adapt c

/-- LOS or LOF has lasted CH_LOSS_MS. -/
def State.lossPersists (s : State) (c : Chan) : State :=
  if (s.ch c).los || (s.ch c).lof then s.assertLoss c 0 else s

/-! ## The transmitter (R114, R115, R118) -/

/-- [DESIGN CHOICE, safe: log 48] -/
def State.tecLock (s : State) (c : Chan) (v : Bool) : State :=
  if !s.domOn (txDom c) || (v && (s.ch c).tx = .fault) then s
  else (s.modCh c fun x => { x with tecLocked := v }).txUpdate c

/-- A TEC fault: TEC_LOCKED was not reached within 3 s of entering WARMUP, or (`lost`) stayed 0 for 100 ms in SYNC in a
WARMUP entered from READY by loss of lock (R115). [DESIGN CHOICE, safe: log 48] -/
def State.tecFails (s : State) (c : Chan) (lost : Bool) : State :=
  let x := s.ch c
  if x.tx ≠ .warmup || x.tecLocked || (lost && !(x.warmFromReady && s.inSync c)) then s
  else
    let s := (s.modCh c fun x => { x with tecLocked := false }).setTx c .fault
    s.raise 0x0209 (pCh c + put 56 2 (b2n lost) + put 32 16 x.mon.laserTemp.toNat + s.tickLow)

def State.biasDone (s : State) (c : Chan) : State :=
  if (s.ch c).tx ≠ .warmup then s else (s.modCh c fun x => { x with biasCal := true }).txReady c

/-- A sample of the monitors; TX_POWER reads -40.00 dBm where no burst was completed in the period, and the TEC carries no
current in FAULT or with its domain off (R114, R115). [DESIGN CHOICE, safe: log 48] -/
def State.monSample (s : State) (c : Chan) (m : MonSample) : State :=
  if !s.domOn (rxDom c) then s
  else
    let cold := (s.ch c).tx = .fault || !s.domOn (txDom c)
    s.modCh c fun x =>
      { x with mon := { m with txPower := if x.burstDone then m.txPower else BitVec.ofInt 16 (-4000)
                               tecCurrent := if cold then 0 else m.tecCurrent }, burstDone := false }

/-! ## XGEM frames (R105 to R107, R161, R162, R401) -/

/-- A copy of a downstream frame: the vONU, and its flow context; none: its OMCC. -/
structure XTarget where
  v : Nat
  flow : Option Nat
deriving DecidableEq, Repr

/-- A vONU enabled on both channels receives nothing on one where it is not in O5 (R162). -/
def State.pinnedOut (s : State) (v : Nat) (c : Chan) : Bool :=
  (s.vonuAt v).enable.a && (s.vonuAt v).enable.b && (s.vch v c).act ≠ .o5

/-- Who receives the frames of a port. [DEDUCED, unsafe: log 46; DESIGN CHOICE, unsafe: log 147, 154] -/
def State.xgemTargets (s : State) (c : Chan) (port : Nat) : List XTarget :=
  match (s.enabledOn c).find? fun v => (s.vch v c).onuId.any fun i => i.toNat = port with
  | some v => [{ v, flow := none }]
  | none =>
    (s.flows.filter fun e => flowChan e.2 = c && flowPort e.2 = port && (s.vonuAt (flowVonu e.2)).enable.get c &&
      !s.pinnedOut (flowVonu e.2) c).map fun e => { v := flowVonu e.2, flow := some e.1 }

/-- The use of a flow's frames by the cipher engine; an OMCC carries none of its own. [DEDUCED, unsafe: log 46] -/
def State.targetMode (s : State) (x : XTarget) : Nat :=
  match x.flow with
  | some f => s.flowMode f
  | none => 0

/-- A downstream unicast frame under key k moves upstream use to k. -/
def keyInUse (c : Chan) (k : BitVec 2) : List XTarget → State → State
  | [], s => s
  | x :: r, s => keyInUse c k r (if s.targetMode x = 2 then s else s.modVch x.v c fun y => { y with upKey := k })

/-- A frame without its key: counted, and reported once a channel and tick. -/
def State.keyMissing (s : State) (c : Chan) (slot : Nat) : State :=
  let told := (s.ch c).keyMissingRaised
  ((s.bump (cryCtr 0) 1).modCh c fun x => { x with keyMissingRaised := true }).raiseIf (!told) 0x0C03
    (pCh c + put 32 12 slot + s.tickLow)

/-- One fragment in clear for a target; none: it is discarded, as is one that a FIFO fault has spoilt on its way into the engine
(R25). [DEDUCED, unsafe: log 161; DESIGN CHOICE, unsafe: log 162] -/
def State.openPiece (s : State) (c : Chan) (x : XTarget) (p : Piece) : Option (List Byte) × State :=
  let mode := s.targetMode x
  match p.keyIndex.toNat with
  | 0 => if mode ≠ 0 then (none, s.bump (cryCtr 2) 1) else (some p.data, s)
  | 3 => (none, s.keyMissing c 4095)
  | k =>
    let slot := if mode = 2 then bcastSlot (chanN c) k else uniSlot x.v (chanN c) k
    if !s.engineOn then (none, s.bump (cryCtr 0) 1)
    else if s.spoilt 14 0 then (none, (s.unspoil 14 0).bump (cryCtr 0) 1)
    else match s.keyUse slot with
      | .missing => (none, s.keyMissing c slot)
      | .retired => (none, s.bump (cryCtr 1) 1)
      | .ok => (some (Config.cipherCtr (s.slot slot).key p.sfc.toNat p.pos p.data), s.useKey slot (aesBlocks p.data.length))

/-- [DEDUCED, unsafe: log 46] -/
def openAll (c : Chan) (x : XTarget) : List Piece → State → Option (List Byte) × State
  | [], s => (some [], s)
  | p :: r, s =>
    let (a, s) := s.openPiece c x p
    let (b, s) := openAll c x r s
    match a, b with
    | some a, some b => (some (a ++ b), s)
    | _, _ => (none, s)

/-- An SDU in clear goes to the vONU's OMCI relay, or into a cell for its first pass. -/
def State.sduTo (s : State) (c : Chan) (port : Nat) (x : XTarget) (b : List Byte) : State :=
  match x.flow with
  | none => s.omciRelay x.v c (b.take (b.length - 4)) (BitVec.ofNat 32 (leNat (b.drop (b.length - 4))))
  | some f =>
    if s.flowBad (some f) then s
    else match poolForSize b.length with
    | none => s
    | some p =>
      match s.takeCell p (BitVec.ofNat 6 (1 + chanN c)) false with
      | (none, s) => s
      | (some k, s) =>
        let pkt : Packet := { kind := BitVec.ofNat 2 (chanN c), index := BitVec.ofNat 9 x.v, xgemPort := BitVec.ofNat 16 port
                              colour := 0, bytes := b, cells := [(p, k)], creditCh := none, flow := some f }
        { s with cls := { s.cls with ingress := s.cls.ingress ++ [pkt] } }

/-- A PTP event message in a downstream frame is time-stamped once, at its first XGEM fragment (R364, R365). -/
def State.stampSdu (s : State) (c : Chan) (port : Nat) (x : XTarget) (b : List Byte) (first : BitVec 96) : State :=
  match x.flow, ptpOf b with
  | some _, some m => if s.inSync c then s.stamp (4 + chanN c) true m first port x.v else s
  | _, _ => s

/-- [DEDUCED, unsafe: log 46] -/
def deliverSdu (c : Chan) (port : Nat) (pieces : List Piece) (first : BitVec 96) : List XTarget → Bool → State → State
  | [], _, s => s
  | x :: r, stamped, s =>
    match openAll c x pieces s with
    | (none, s) => deliverSdu c port pieces first r stamped s
    | (some b, s) =>
      let s := if stamped then s else s.stampSdu c port x b first
      deliverSdu c port pieces first r true (s.sduTo c port x b)

def State.partialAt (s : State) (c : Chan) (port : Nat) : Option Partial := mget none (s.ch c).reasm port
def State.setPartial (s : State) (c : Chan) (port : Nat) (p : Option Partial) : State :=
  s.modCh c fun x => { x with reasm := mput none x.reasm port p }

/-- The owner class of a channel's receiver (Table BPM-4). -/
def rxCls (c : Chan) : BitVec 6 := BitVec.ofNat 6 (1 + chanN c)

/-- Discard the SDU in progress on a port, counted, with its cells. -/
def State.reasmDrop (s : State) (c : Chan) (port : Nat) : State :=
  match s.partialAt c port with
  | none => s
  | some p => ((s.setPartial c port none).freeAll (rxCls c) p.cells).bumpCh c 0x5E 1

/-- Build the P9 chain of an SDU that has come to `total` bytes (R107, R286). -/
def State.reasmGrow (s : State) (c : Chan) (cells : List (Nat × Nat)) (total : Nat) : Option (List (Nat × Nat)) × State :=
  State.buildChain 9 (rxCls c) 8 (if total > 16000 then 9 else (total + 2047) / 2048) cells s

def pieceBytes (l : List Piece) : Nat := sumN (l.map fun p => p.data.length)

/-- A fragment that begins, continues or completes an SDU: its chain grows, or the SDU is discarded. -/
def State.reasmAdd (s : State) (c : Chan) (port : Nat) (ts : List XTarget) (p : Partial) (x : XgemRx) (q : Piece) : State :=
  let pieces := p.pieces ++ [q]
  match s.reasmGrow c p.cells (pieceBytes pieces) with
  | (none, s) => (s.setPartial c port none).bumpCh c 0x5E 1
  | (some cells, s) =>
    if x.last then deliverSdu c port pieces p.first ts false ((s.setPartial c port none).freeAll (rxCls c) cells)
    else s.setPartial c port (some { p with pieces, cells })

/-- Reassembly of one frame of a port; an SDU that lies whole in one frame needs none. The time-stamp point lies the bit
offset of its XGEM header after the PSBd latch (Table TIME-3). -/
def State.reassemble (s : State) (c : Chan) (port : Nat) (ts : List XTarget) (x : XgemRx) : State :=
  let q : Piece := { sfc := (s.ch c).sfc64, pos := x.offset, keyIndex := x.keyIndex, data := x.data }
  let now := s.timeAtUnit ((s.ch c).frameTime.toNat * stylusU + x.offset * s.eqdU c : Nat)
  if x.first then
    let s := s.reasmDrop c port
    if x.last && x.data.length ≤ 16000 then deliverSdu c port [q] now ts false s
    else s.reasmAdd c port ts { pieces := [], cells := [], first := now } x q
  else match s.partialAt c port with
    | none => s.bumpCh c 0x5E 1
    | some p => s.reasmAdd c port ts p x q

/-- A downstream XGEM frame (R91, R105, R106). [DESIGN CHOICE, unsafe: log 146, 154] -/
def State.xgemIn (s : State) (c : Chan) (x : XgemRx) : State :=
  if !(s.ch c).fsOk || (s.ch c).payloadDrop then s
  else if s.spoilt (2 * chanN c) 0 then (s.unspoil (2 * chanN c) 0).bumpCh c 0x5E 1
  else if x.hdrMarked || x.hec = .bad then (s.modCh c fun y => { y with payloadDrop := true }).bumpCh c 0x58 1
  else
    let s := if x.hec = .corrected then s.bumpCh c 0x56 1 else s
    if x.idle then s
    else if x.marked then s.bumpCh c 0x5A 1
    else
      let port := x.port.toNat
      match s.xgemTargets c port with
      | [] => s.bumpCh c 0x5C 1
      | ts =>
        let s := s.bumpCh c 0x54 ts.length
        let s := if x.keyIndex = 1 || x.keyIndex = 2 then keyInUse c x.keyIndex ts s else s
        s.reassemble c port ts x

end Sys2Proof.Machine
end

