-- ==== Sys2Proof/Machine/Channel.lean ====
section
/-! DEFINITION. The meanings of the optical channels' commands (Optical Channels A and B). -/

namespace Sys2Proof.Machine

/-- CH_RESTART: a write of RESTART to CH_CTL (R119). -/
def execChRestart (c : Chan) (s : State) : Host.Outcome State Fault Refusal := next (s.hostBits (chAddr c 1) 1 1)

/-- RESET_EQ: the coefficients return to the preset (R87). -/
def execResetEq (c : Chan) (s : State) : Host.Outcome State Fault Refusal := next (s.hostBits (chAddr c 1) 2 2)

/-- CH_ENABLE: ENABLE is written to 1 (R120). -/
def execChEnable (c : Chan) (s : State) : Host.Outcome State Fault Refusal := next (s.hostBits (chAddr c 0) 1 1)

/-- CH_DISABLE: ENABLE is written to 0 (R120). -/
def execChDisable (c : Chan) (s : State) : Host.Outcome State Fault Refusal := next (s.hostBits (chAddr c 0) 0 1)

/-- A write of TX_PERMIT (Table CH-4). -/
def execTxPermitWrite (c : Chan) (v : Bool) (s : State) : Host.Outcome State Fault Refusal :=
  next (s.hostBits (chAddr c 0) (if v then 8 else 0) 8)

/-- The CDR locks (R119 step 4). -/
def execCdrLock (c : Chan) (s : State) : Host.Outcome State Fault Refusal := next (s.cdrLocked c).finish

/-- The CDR loses lock (R108). -/
def execCdrLockLoss (c : Chan) (s : State) : Host.Outcome State Fault Refusal := next (s.cdrLost c).finish

/-- The CDR has not locked within 1 ms of a start (R108). -/
def execCdrRelockTimeout (c : Chan) (s : State) : Host.Outcome State Fault Refusal := next (s.cdrLate c).finish

/-- A PSync match at a searched position (R94). -/
def execPsbdSighting (c : Chan) (pos errs : Nat) (sfc : Option (BitVec 51)) (s : State) : Host.Outcome State Fault Refusal :=
  next (s.sighting c pos errs sfc)

/-- A candidate's predicted PSBd (R95, R96). -/
def execCandidatePredictedPsbd (c : Chan) (pos : Nat) (f : DsFrame) (s : State) : Host.Outcome State Fault Refusal :=
  next (s.candidateAt c pos f).finish

/-- A frame at the predicted position in SYNC (R97, R98, R101, R104). -/
def execDownstreamFrame (c : Chan) (f : DsFrame) (s : State) : Host.Outcome State Fault Refusal := next (s.frameIn c f).finish

/-- An XGEM frame of the frame in hand (R105 to R107, R401). -/
def execXgemFrameReceived (c : Chan) (x : XgemRx) (s : State) : Host.Outcome State Fault Refusal := next (s.xgemIn c x)

/-- No continuation within 4 frames (R107). -/
def execXgemReassemblyTimeout (c : Chan) (port : BitVec 16) (s : State) : Host.Outcome State Fault Refusal :=
  next (s.reasmDrop c port.toNat)

/-- The power stays below LOS_THRESH for 4 µs (R108). -/
def execLosAssert (c : Chan) (s : State) : Host.Outcome State Fault Refusal := next (s.lightLost c).finish

/-- The power has been back for 125 µs (R108). -/
def execLosClear (c : Chan) (s : State) : Host.Outcome State Fault Refusal := next (s.lightBack c).finish

/-- LOS or LOF has lasted CH_LOSS_MS (R110). -/
def execChannelLossTimeout (c : Chan) (s : State) : Host.Outcome State Fault Refusal := next (s.lossPersists c)

/-- The 80th frame of a window has been processed (R111). -/
def execSdSfWindowEnd (c : Chan) (s : State) : Host.Outcome State Fault Refusal := next (s.sdSfEnd c)

/-- The equaliser's convergence, as CH_STATUS shows it (R86). -/
def execEqConvergedChange (c : Chan) (v : Bool) (s : State) : Host.Outcome State Fault Refusal :=
  next (if s.domOn (rxDom c) then s.modCh c fun x => { x with eqConverged := v } else s)

/-- TEC_LOCKED changes (R114). -/
def execTecLockChange (c : Chan) (v : Bool) (s : State) : Host.Outcome State Fault Refusal := next (s.tecLock c v).finish

/-- A TEC fault is declared (R115). -/
def execTecFault (e : TecCase) (s : State) : Host.Outcome State Fault Refusal := next (s.tecFails e.c e.lost).finish

/-- The bias of a transmitter in WARMUP is calibrated (R114). -/
def execBiasCalibrated (c : Chan) (s : State) : Host.Outcome State Fault Refusal := next (s.biasDone c)

/-- A 1 ms sample of the monitors (R118). -/
def execMonitorSample (c : Chan) (m : MonSample) (s : State) : Host.Outcome State Fault Refusal := next (s.monSample c m)

end Sys2Proof.Machine
end

