-- ==== Sys2Proof/Machine/PassOps.lean ====
section
/-! DEFINITION. Packets on their way through the classifier's passes: entry, recirculation, the second pass, retirement of
plates and the fragment table's removals (Parsing and Classification, R206 to R236; R345). -/

namespace Sys2Proof.Machine

/-- The first element that satisfies `p`, and the list without it. -/
def pluck {α : Type} (p : α → Bool) : List α → Option (α × List α)
  | [] => none
  | x :: r => if p x then some (x, r) else (pluck p r).map fun e => (e.1, x :: e.2)

/-- The pipeline accepts packets (R237). [DEDUCED, unsafe: log 68] -/
def State.passesRun (s : State) : Bool := s.domOn 6 && !s.cls.restoring

/-- The requester that took the cells of a packet of a kind of ingress (Table BPM-4). -/
def rxClass (kind : BitVec 2) : BitVec 6 :=
  match kind.toNat with
  | 0 => 0x01 | 1 => 0x02 | 2 => 0x05 | _ => 0x04

/-- The classifier takes ownership of a packet's cells: its link credit is returned (R316) and its port's waiting bytes
fall (R340). [DEDUCED, unsafe: log 72] -/
def State.takeOwnership (s : State) (k : Packet) : State :=
  let s := s.passAll (rxClass k.kind) 0x06 k.cells
  let s := match k.creditCh with | some ch => s.creditRelease ch k.bytes.length | none => s
  if k.kind = 3 then s.fcCheck k.index.toNat else s

/-- The first pass of the oldest packet of a source. Second passes go ahead of it (R210). [DEDUCED, unsafe: log 68] -/
def State.firstPass (s : State) (kind : BitVec 2) (index : BitVec 9) : State :=
  if !s.passesRun || s.cls.second ≠ [] then s
  else match pluck (fun k : Packet => k.kind = kind && k.index = index) s.cls.ingress with
    | none => s
    | some (k, rest) =>
      let s := (s.modCls fun c => { c with ingress := rest }).takeOwnership k
      s.classify { k with creditCh := none } s.cls.active .ethernet none

/-- The outer layers named by the action are stripped, as the first pass found them (R209). -/
def State.decapNext (s : State) : State :=
  match s.cls.toDecap with
  | [] => s
  | x :: r =>
    if !s.passesRun then s
    else
      let y := { x with pkt := { x.pkt with bytes := x.pkt.bytes.drop x.cut } }
      s.modCls fun c => { c with toDecap := r, second := c.second ++ [y] }

/-- The SecY verifies the oldest frame of a port that was disposed for DECRYPT (R345, R406). -/
def State.macsecNext (s : State) (e : BitVec 2) : State :=
  match pluck (fun x : InFlight => x.pkt.index.toNat = e.toNat) s.cls.toDecrypt with
  | none => s
  | some (x, r) =>
    if !s.passesRun then s
    else
      let s := s.modCls fun c => { c with toDecrypt := r }
      match s.secRx e.toNat x.pkt.bytes with
      | (.ok b, s) =>
        let y := { x with pkt := { x.pkt with bytes := b }, start := .ethernet }
        (s.bumpEth e.toNat 28 1).modCls fun c => { c with second := c.second ++ [y] }
      | (.drop k, s) => ((s.bumpEth e.toNat k 1).freeAll 0x06 x.pkt.cells).retireIfClear
      | (.noEngine, s) => ((s.bump (cryCtr 0) 1).freeAll 0x06 x.pkt.cells).retireIfClear
      | (.retired, s) => ((s.bump (cryCtr 1) 1).freeAll 0x06 x.pkt.cells).retireIfClear

/-- The second pass of the packet that has waited longest, on the plate it is stamped with (R229). -/
def State.secondPass (s : State) : State :=
  match s.cls.second with
  | [] => s
  | x :: r =>
    if !s.passesRun then s
    else
      let s := s.modCls fun c => { c with second := r }
      (s.classify x.pkt x.plate x.start (some x.act)).retireIfClear

/-- The swap at the CLASS clock edge of its tick (R228). [DEDUCED, unsafe: log 70] -/
def State.plateSwap (s : State) : State :=
  match s.cls.swapDue with
  | some p => if s.domOn 6 then (s.swapPlates p).answerSwap true else s
  | none => s

/-- Drop some stale packets, counted (R229). -/
def State.dropStale : List InFlight → State → State
  | [], s => s
  | x :: r, s => State.dropStale r ((s.dropPkt x.pkt 12).modCls fun c => { c with stale := c.stale + 1 })

/-- The old plate retires, 50 µs after the swap at the latest: what is still stamped with it is dropped (R229). -/
def State.plateRetire (s : State) : State :=
  if !s.cls.retiring then s
  else
    let old := !s.cls.active
    let stale (x : InFlight) : Bool := x.plate = old
    let gone := (s.cls.toDecap ++ s.cls.toDecrypt ++ s.cls.second).filter stale
    let s := s.modCls fun c => { c with toDecap := c.toDecap.filter (!stale ·), toDecrypt := c.toDecrypt.filter (!stale ·)
                                        second := c.second.filter (!stale ·) }
    (State.dropStale gone s).retireIfClear

/-- The copy of the active plate is complete (R231). -/
def State.copyEnd (s : State) : State :=
  if !s.cls.copyBusy then s
  else (s.copyPlate.modCls fun c => { c with copyBusy := false }).raise 0x0505 (put 63 1 (b2n (!s.cls.active)) + s.tickLow)

/-- Entries unused for FRAG_LIFETIME are removed (R232). [DEDUCED, unsafe: log 70] -/
def State.fragExpire (s : State) : State :=
  let life := 8 * s.cfgF (clsAddr 0) 0 7
  let live (f : Frag) : Bool := s.tick.number.toNat ≤ f.usedAt.toNat + life
  let n := (s.cls.frags.filter (!live ·)).length
  (s.modCls fun c => { c with frags := c.frags.filter live }).bump (clsCtr 11) n

/-- Under FLUSH_ON_COMMIT, the entries carried through a swap are discarded (R235). [DEDUCED, unsafe: log 70] -/
def State.fragFlush (s : State) : State :=
  if s.flushOnCommit then s.modCls fun c => { c with frags := c.frags.filter fun f => !f.carried } else s

/-- Firmware rewrites a marked entry from its golden image (R236).
[DESIGN CHOICE, safe: log 40; DEDUCED, unsafe: log 71] -/
def State.ruleRepair (s : State) (plate : Bool) (e : BitVec 14) : State :=
  if !s.domOn 6 || !s.cls.ruleMarks.contains (plate, e) then s
  else s.modCls fun c => { c with ruleMarks := without c.ruleMarks (plate, e), ruleBad := without c.ruleBad (plate, e) }

end Sys2Proof.Machine
end

