-- ==== Sys2Proof/Machine/Classifier.lean ====
section
/-! DEFINITION. The meanings of the classifier's commands (Parsing and Classification). -/

namespace Sys2Proof.Machine

/-- A first pass of the oldest packet of a source (R207 to R225). -/
def execClassifierFirstPass (kind : BitVec 2) (index : BitVec 9) (s : State) : Host.Outcome State Fault Refusal :=
  next (s.firstPass kind index)

/-- A layer is stripped for a second pass (R209, R224). -/
def execDecap (s : State) : Host.Outcome State Fault Refusal := next s.decapNext

/-- A frame is verified and decrypted for its second pass (R345). -/
def execMacsecVerify (e : BitVec 2) (s : State) : Host.Outcome State Fault Refusal := next (s.macsecNext e)

/-- A second pass (R209, R221). -/
def execClassifierSecondPass (s : State) : Host.Outcome State Fault Refusal := next s.secondPass

/-- The plates swap (R228). -/
def execPlateSwap (s : State) : Host.Outcome State Fault Refusal := next s.plateSwap

/-- The old plate is retired at the latest (R229). -/
def execPlateRetired (s : State) : Host.Outcome State Fault Refusal := next s.plateRetire

/-- A COPY_ACTIVE write (R231). -/
def execCopyActive (s : State) : Host.Outcome State Fault Refusal := next (s.hostBits (clsAddr 1) 1 1)

/-- The copy completes (R231). -/
def execCopyDone (s : State) : Host.Outcome State Fault Refusal := next s.copyEnd

/-- Fragment entries reach the end of their lifetime (R232). -/
def execFragExpired (s : State) : Host.Outcome State Fault Refusal := next s.fragExpire

/-- Carried fragment entries are discarded (R235). -/
def execFragCarriedDiscard (s : State) : Host.Outcome State Fault Refusal := next s.fragFlush

/-- A marked rule entry is rewritten (R236). -/
def execRuleEntryRepair (plate : Bool) (e : BitVec 14) (s : State) : Host.Outcome State Fault Refusal := next (s.ruleRepair plate e)

end Sys2Proof.Machine
end

