-- ==== Sys2Proof/Machine/Commands.lean ====
section
/-! DEFINITION. The meanings of the host opcodes (Table CMD-4), of the transports and of timed execution. A host opcode
runs its packet through acceptance, the checks of Table CMD-3 and the effect that `State.opRun` gives its code. -/

namespace Sys2Proof.Machine

/-- READ (R55, R57). -/
def execRead (r : Req) (s : State) : Host.Outcome State Fault Refusal := next (s.submit 0x01 r)

/-- WRITE (R57). -/
def execWrite (r : Req) (s : State) : Host.Outcome State Fault Refusal := next (s.submit 0x02 r)

/-- MODIFY (R59). -/
def execModify (r : Req) (s : State) : Host.Outcome State Fault Refusal := next (s.submit 0x03 r)

/-- BULK_READ (R57). -/
def execBulkRead (r : Req) (s : State) : Host.Outcome State Fault Refusal := next (s.submit 0x04 r)

/-- TABLE_LOAD (R511). -/
def execTableLoad (r : Req) (s : State) : Host.Outcome State Fault Refusal := next (s.submit 0x05 r)

/-- COMMIT_PLATE (R228). -/
def execCommitPlate (r : Req) (s : State) : Host.Outcome State Fault Refusal := next (s.submit 0x10 r)

/-- COMMIT_HATCH (R260). -/
def execCommitHatch (r : Req) (s : State) : Host.Outcome State Fault Refusal := next (s.submit 0x11 r)

/-- COMMIT_PROFILE (R150). -/
def execCommitProfile (r : Req) (s : State) : Host.Outcome State Fault Refusal := next (s.submit 0x12 r)

/-- VONU_CREATE (R128). -/
def execVonuCreate (r : Req) (s : State) : Host.Outcome State Fault Refusal := next (s.submit 0x20 r)

/-- VONU_ENABLE (R130). -/
def execVonuEnable (r : Req) (s : State) : Host.Outcome State Fault Refusal := next (s.submit 0x21 r)

/-- VONU_RETIRE (R131). -/
def execVonuRetire (r : Req) (s : State) : Host.Outcome State Fault Refusal := next (s.submit 0x22 r)

/-- SUBSCRIBE (R72). -/
def execSubscribe (r : Req) (s : State) : Host.Outcome State Fault Refusal := next (s.submit 0x30 r)

/-- FETCH (R72). -/
def execFetch (r : Req) (s : State) : Host.Outcome State Fault Refusal := next (s.submit 0x31 r)

/-- ACK (R72, R74). -/
def execAck (r : Req) (s : State) : Host.Outcome State Fault Refusal := next (s.submit 0x32 r)

/-- VOTE (R448). -/
def execVote (r : Req) (s : State) : Host.Outcome State Fault Refusal := next (s.submit 0x40 r)

/-- UNVOTE (R448, R449). -/
def execUnvote (r : Req) (s : State) : Host.Outcome State Fault Refusal := next (s.submit 0x41 r)

/-- SLEEP (R458). -/
def execSleep (r : Req) (s : State) : Host.Outcome State Fault Refusal := next (s.submit 0x42 r)

/-- IMAGE_BEGIN (R471). -/
def execImageBegin (r : Req) (s : State) : Host.Outcome State Fault Refusal := next (s.submit 0x50 r)

/-- IMAGE_DATA (R472). -/
def execImageData (r : Req) (s : State) : Host.Outcome State Fault Refusal := next (s.submit 0x51 r)

/-- IMAGE_VERIFY (R473). -/
def execImageVerify (r : Req) (s : State) : Host.Outcome State Fault Refusal := next (s.submit 0x52 r)

/-- IMAGE_ACTIVATE (R474). -/
def execImageActivate (r : Req) (s : State) : Host.Outcome State Fault Refusal := next (s.submit 0x53 r)

/-- LOOP_SET (R321, R347). -/
def execLoopSet (r : Req) (s : State) : Host.Outcome State Fault Refusal := next (s.submit 0x60 r)

/-- PRBS_CTL (R323, R324). -/
def execPrbsCtl (r : Req) (s : State) : Host.Outcome State Fault Refusal := next (s.submit 0x61 r)

/-- PRBS_READ (R325). -/
def execPrbsRead (r : Req) (s : State) : Host.Outcome State Fault Refusal := next (s.submit 0x62 r)

/-- RESYNC (R30, R31). -/
def execResync (r : Req) (s : State) : Host.Outcome State Fault Refusal := next (s.submit 0x6F r)

/-- SERVO_MODE (R355). -/
def execServoMode (r : Req) (s : State) : Host.Outcome State Fault Refusal := next (s.submit 0x70 r)

/-- TIME_STEP (R356). -/
def execTimeStep (r : Req) (s : State) : Host.Outcome State Fault Refusal := next (s.submit 0x71 r)

/-- TIME_RATE (R356). -/
def execTimeRate (r : Req) (s : State) : Host.Outcome State Fault Refusal := next (s.submit 0x72 r)

/-- OBJECT_WORD_WRITE: a write of one word over the two-wire port (R57). -/
def execObjectWordWrite (addr val : Word) (s : State) : Host.Outcome State Fault Refusal :=
  next (s.hostWords addr.toNat [val])

/-! ## Transports -/

/-- A write transaction (R38, R40, R42). -/
def execTwiWriteTransaction (target : BitVec 7) (bytes : List Byte) (s : State) : Host.Outcome State Fault Refusal :=
  next (s.twiWrite target bytes)

/-- A read transaction (R39). -/
def execTwiReadTransaction (target : BitVec 7) (count : Nat) (s : State) : Host.Outcome State Fault Refusal :=
  next (s.twiRead target count)

/-- MCK held low for more than 25 ms (R41). -/
def execTwiBusRecovery (s : State) : Host.Outcome State Fault Refusal := next s.busRecovery

/-- A write abandoned without STOP (R41). -/
def execTwiWriteAbandoned (s : State) : Host.Outcome State Fault Refusal := next s.recoverTwi

/-- A frame on Alanov channel 640 (R43). -/
def execManagementFrame (bytes : List Byte) (s : State) : Host.Outcome State Fault Refusal := next (s.mgmtFrame bytes)

/-- The acknowledgement bound of a command passes (R53). -/
def execInterimReply (t : Transport) (seq : BitVec 16) (s : State) : Host.Outcome State Fault Refusal :=
  next (s.interim t seq)

/-- A chain is not complete 1 ms after its first member (R64). -/
def execChainTimeout (t : Transport) (s : State) : Host.Outcome State Fault Refusal := next (s.chainTimeout t)

/-! ## Timed execution -/

/-- Commands whose tick has come take effect, in order of acceptance: at-tick and tick-bound ones (R62, R65 to R67). -/
def execAtTickEffect (s : State) : Host.Outcome State Fault Refusal := next ((effects s.heldDue s).stampDue s.heldDue).finish

/-- The same where tick-bound commands without AT_TICK are due, and firmware's own RESYNCs (R28, R63, R66). -/
def execTickBoundEffect (s : State) : Host.Outcome State Fault Refusal := next ((effects s.heldDue s).resyncsDue.stampDue s.heldDue).finish

/-- Work that took time completes, and the final reply is sent (R53). -/
def execCommandCompletion (t : Transport) (seq : BitVec 16) (s : State) : Host.Outcome State Fault Refusal :=
  next (s.complete t seq).finish

end Sys2Proof.Machine
end

