-- ==== Sys2Proof/Machine/KeyOps.lean ====
section
/-! DEFINITION. The key store's own steps: limits, the generator, the alarms, the test port and the fuses (Cipher Engine,
Key Store and Debug Closure, R404 to R417). -/

namespace Sys2Proof.Machine

/-- Whether a write by a row that names one object is accepted. -/
def State.hostAccepts (s : State) (t : Transport) (ws : List WordIn) : Bool :=
  s.takes .twi && s.phase = .ready && s.hostStatus t ws = 0

/-- Word 0 of CRYPTO_KEY_LOAD. -/
def loadWord (slot kind vonu chan : Nat) : Word :=
  BitVec.ofNat 32 (put 0 12 slot + put 12 2 kind + put 14 9 vonu + put 23 1 chan)

/-- A write of CRYPTO_KEY_LOAD with its material, unused bytes zero (R404). -/
def State.hostLoad (s : State) (head : Word) (material : List Word) : State :=
  s.hostWords (addrOf 0x68 0x10) (head :: (material ++ List.replicate (12 - material.length) 0))

/-- A slot's usage reaches the soft limit (R406). -/
def State.softLimit (s : State) (i : Nat) : State :=
  let x := s.slot i
  if x.state = 1 && 2 ^ s.cfgF (addrOf 0x68 0) 0 6 ≤ x.usage.toNat then
    (s.setSlot i { x with state := 2 }).raise 0x0C01 (put 32 12 i + s.tickLow)
  else s

/-- A slot's usage reaches the hard limit: its key is retired (R406). -/
def State.hardLimit (s : State) (i : Nat) : State :=
  let x := s.slot i
  if (x.state = 1 || x.state = 2) && 2 ^ s.cfgF (addrOf 0x68 0) 8 6 ≤ x.usage.toNat then
    (s.setSlot i { x with state := 3 }).raise 0x0C02 (put 32 12 i + s.tickLow)
  else s

/-- A health test of the entropy source fails (R408). [DEDUCED, unsafe: log 97] -/
def State.rngFails (s : State) : State :=
  (({ s with crypto := { s.crypto with rngOk := false } }).bump (cryCtr 6) 1).raise 0x0C06 (put 62 1 1 + s.tickLow)

/-- A reseed is tried again (R408). -/
def State.reseed (s : State) (pass : Bool) : State :=
  if s.crypto.rngOk || !pass then s
  else ({ s with crypto := { s.crypto with rngOk := true } }).raise 0x0C06 s.tickLow

/-- An alarm source becomes active (R410). [DEDUCED, unsafe: log 97] -/
def State.alarmOn (s : State) (src : Nat) : State :=
  if s.crypto.alarmActive.getLsbD src then s else s.alarmErase src true

/-- A source stops being active; the lid's never does (Table CRYPTO-3). [DEDUCED, unsafe: log 97] -/
def State.alarmOff (s : State) (src : Nat) : State :=
  if src = 0 then s
  else { s with crypto := { s.crypto with alarmActive := s.crypto.alarmActive &&& ~~~BitVec.ofNat 5 (2 ^ src) } }

/-- The test port's instruction register is updated; entering or leaving boundary scan is reported and holds or frees the
transmitters (R415). [PRESUMED, unsafe: log 98] -/
def State.tapUpdate (s : State) (i : Option TapInstr) : State :=
  let t := { s with crypto := { s.crypto with ir := i } }
  let v := t.crypto.bscan
  if s.crypto.bscan = v then t
  else (((t.raise 0x0C08 (put 62 1 (b2n v) + t.tickLow)).txUpdate .a).txUpdate .b).finish

/-- IDCODE: version, part, manufacturer code (R414). -/
def idcode : BitVec 32 := 0x1851266B

/-- A scan of `n` bits through a register of IEEE 1149.1 that holds `held`, least significant bit first: what leaves on
TDO, and what the register holds after. -/
def scanReg (held scan : List Bool) : List Bool × List Bool :=
  ((held ++ scan).take scan.length, (held ++ scan).drop scan.length)

/-- A data-register scan under the loaded instruction; SAMPLE/PRELOAD and EXTEST capture the contacts, whose levels no
rule gives (R414). [PRESUMED, unsafe: log 98] -/
def State.tapScan (s : State) (i : TapInstr) (scan : List Bool) : State :=
  match i, scan with
  | _, [] => s
  | .idcode, _ => s.emit (.tdo (scanReg ((List.range 32).map idcode.getLsbD) scan).1)
  | .bypass, _ | .clamp, _ | .highz, _ => s.emit (.tdo (scanReg [false] scan).1)
  | .sample, _ | .extest, _ =>
    let (v, s) := s.fresh
    let r := scanReg ((List.range Config.boundaryCells).map v.testBit) scan
    ({ s with crypto := { s.crypto with boundary := r.2 } }).emit (.tdo r.1)

/-- A drypoint instruction is loaded; with DBG_LOCK blown it is BYPASS (R416, R417). [PRESUMED, unsafe: log 98] -/
def State.drypoint (s : State) : State :=
  if s.fuses.dbgLock then s.tapUpdate (some .bypass)
  else
    let s := (s.tapUpdate none).alarmErase 5 false
    (({ s with crypto := { s.crypto with lockedOut := true } }).raise 0x0C07 s.tickLow).finish

/-- A write of FUSE_BLOW, with the blow that an accepted one completes (R413). [DESIGN CHOICE, safe: log 29] -/
def State.hostBlow (s : State) (t : Transport) (v : Word) : State :=
  let ws := wordsIn (addrOf 0x7E 2) [v]
  let go := s.hostAccepts t ws
  let s := s.hostWrite t ws
  if go then s.blowFuse (fld v 0 3) else s

end Sys2Proof.Machine
end

