-- ==== Sys2Proof/Machine/Crypto.lean ====
section
/-! DEFINITION. The meanings of the commands of the key store, the fuses and the test port (Cipher Engine, Key Store and
Debug Closure). -/

namespace Sys2Proof.Machine

/-- A key load of kind 0 (R404). -/
def execKeyLoadErase (slot : BitVec 12) (s : State) : Host.Outcome State Fault Refusal :=
  next (s.hostWords (addrOf 0x68 0x10) [loadWord slot.toNat 0 0 0])

/-- A key load of kind 1 (R402, R404). -/
def execKeyLoadMsk (slot : BitVec 12) (material : List Word) (s : State) : Host.Outcome State Fault Refusal :=
  next (s.hostLoad (loadWord slot.toNat 1 0 0) material)

/-- A key load of kind 2 (R404). -/
def execKeyLoadBroadcast (slot : BitVec 12) (v : BitVec 9) (c : Chan) (material : List Word) (s : State) :
    Host.Outcome State Fault Refusal := next (s.hostLoad (loadWord slot.toNat 2 v.toNat (chanN c)) material)

/-- A key load of kind 3 (R404). -/
def execKeyLoadMacsec (slot : BitVec 12) (material : List Word) (s : State) : Host.Outcome State Fault Refusal :=
  next (s.hostLoad (loadWord slot.toNat 3 0 0) material)

/-- The soft limit of a slot (R406). -/
def execKeySoftLimit (slot : BitVec 12) (s : State) : Host.Outcome State Fault Refusal := next (s.softLimit slot.toNat)

/-- The hard limit of a slot (R406). -/
def execKeyRetired (slot : BitVec 12) (s : State) : Host.Outcome State Fault Refusal := next (s.hardLimit slot.toNat)

/-- A write of ERASE_ALL (R410). -/
def execEraseAll (s : State) : Host.Outcome State Fault Refusal := next (s.hostWords (addrOf 0x68 1) [1])

/-- An alarm source of Table CRYPTO-3 becomes active (R410). -/
def execKeyStoreAlarm (source : Fin 4) (s : State) : Host.Outcome State Fault Refusal := next (s.alarmOn source.val)

/-- An alarm source stops being active (R410). -/
def execAlarmSourceCleared (source : Fin 5) (s : State) : Host.Outcome State Fault Refusal := next (s.alarmOff source.val)

/-- A failed entropy health test (R408). -/
def execRngFault (s : State) : Host.Outcome State Fault Refusal := next s.rngFails

/-- A reseed retry (R408). -/
def execReseedRetry (pass : Bool) (s : State) : Host.Outcome State Fault Refusal := next (s.reseed pass)

/-- A drypoint instruction is loaded (R416, R417). -/
def execDrypointOpened (s : State) : Host.Outcome State Fault Refusal := next s.drypoint

/-- The test port's instruction register is updated to an instruction of R414, and bits are scanned through the data
register it names (R415). -/
def execBscanActive (x : TapScan) (s : State) : Host.Outcome State Fault Refusal :=
  next ((s.tapUpdate (some x.instr)).tapScan x.instr x.scan)

/-- TRST_N resets the TAP, exposing crossing group 13 (R415, Table TICK-5). [PRESUMED, unsafe: log 98] -/
def execTrstNAssert (s : State) : Host.Outcome State Fault Refusal := next ((s.tapUpdate (some .idcode)).expose 13)

/-- A write of FUSE_ARM (R413). -/
def execFuseArm (val : Word) (s : State) : Host.Outcome State Fault Refusal := next (s.hostWords (addrOf 0x7E 1) [val])

/-- A write of FUSE_BLOW over a transport (R413). [DESIGN CHOICE, safe: log 29] -/
def execFuseBlow (t : Transport) (val : Word) (s : State) : Host.Outcome State Fault Refusal := next (s.hostBlow t val)

/-- 1 ms after FUSE_ARM without a FUSE_BLOW (R413). -/
def execFuseArmExpiry (s : State) : Host.Outcome State Fault Refusal :=
  next { s with crypto := { s.crypto with armed := false } }

end Sys2Proof.Machine
end

