-- ==== Sys2Proof/Machine/PortOps.lean ====
section
/-! DEFINITION. What an Ethernet port meets: its link's progress, received frames, holds, low-power idle and its LLDP agent
(Ethernet Ports, R329 to R347). -/

namespace Sys2Proof.Machine

/-! ## The port's link (Table ETH-2) -/

/-- Auto-negotiation completes with a FEC no higher than the port's own (R331). [DEDUCED, unsafe: log 87] -/
def State.anDone (s : State) (e : Nat) (fec : BitVec 2) : State :=
  if (ethPort s e).state ≠ .an || s.cfgF (ethAddr e 0) 2 2 < fec.toNat || !fecOk s e (s.cfgF (ethAddr e 0) 1 1) fec.toNat then s
  else
    let s := s.modEth e fun x => { x with fecActive := fec }
    s.setEth e (if s.ethCfgB e 5 then .train else .linkWait) 0

def State.trainDone (s : State) (e : Nat) : State := if (ethPort s e).state = .train then s.setEth e .linkWait 0 else s

/-- Training fails: back to AN, or it restarts. -/
def State.trainFails (s : State) (e : Nat) : State := if (ethPort s e).state = .train then s.setEth e (s.ethStart e) 0 else s

/-- PCS lock, alignment and FEC lock; the receive skew is measured on 100GBASE-KR4 and is 0 on every other port (R365).
[DEDUCED, unsafe: log 87] -/
def State.ethUp (s : State) (e : Nat) (skew : BitVec 32) : State :=
  if (ethPort s e).state ≠ .linkWait then s
  else (s.modEth e fun x => { x with skew := if s.kr4 then skew else 0 }).setEth e .up 0

def State.linkWaitEnds (s : State) (e : Nat) : State :=
  if (ethPort s e).state = .linkWait then s.setEth e (s.ethStart e) 0 else s

def State.pcsLost (s : State) (e : Nat) : State := if (ethPort s e).state = .up then s.setEth e (s.ethStart e) 0 else s

/-! ## Holds (R339, R340) -/

/-- A hold time runs out: the port's, or one priority's. -/
def State.holdEnds (s : State) (e : Nat) (prio : Option (BitVec 3)) : State :=
  match prio with
  | none => if (ethPort s e).paused then (s.holdChange e fun x => { x with paused := false }).lldpHeld e else s
  | some p =>
    if (ethPort s e).pfcHeld.getLsbD p.toNat then s.holdChange e fun x => { x with pfcHeld := withBit x.pfcHeld p.toNat false } else s

/-- Half of PAUSE_QUANTA has elapsed: the frame is repeated while the waiting bytes stay at or above XON_THRESH. -/
def State.pauseAgain (s : State) (e : Nat) : State :=
  let on := s.ethSends e && (ethPort s e).xoffSent && s.cfgB (ethAddr e 4) 2 && s.cfgF (ethAddr e 4) 0 2 ≠ 0
  if on && 1024 * s.cfgF (ethAddr e 5) 24 8 ≤ s.ethWaiting e then s.sendPause e (s.cfgF (ethAddr e 5) 0 16) else s

/-! ## Low-power idle and the LLDP agent (R341 to R343) -/

/-- A queue of the port's node has an eligible packet at a moment. -/
def State.nodeEligible (s : State) (n : Nat) (now : BitVec 64) : Bool := (s.selectQueue n now).isSome

/-- LPI_DELAY has passed with nothing to send. -/
def State.lpiEnter (s : State) (e : Nat) : State :=
  let x := ethPort s e
  if x.state ≠ .up || x.lpiTx || !s.cfgB (ethAddr e 6) 0 then s
  else
    let (now, s) := (s.txDone e).instant
    if s.domOn 6 && s.nodeEligible (8704 + e) now then s else (s.modEth e fun x => { x with lpiTx := true }).bumpEth e 24 1

def State.lpiLeave (s : State) (e : Nat) : State :=
  if (ethPort s e).lpiTx then s.modEth e fun x => { x with lpiTx := false } else s

/-- The receiver follows the partner's LPI signalling. -/
def State.lpiReceive (s : State) (e : Nat) (v : Bool) : State :=
  let x := ethPort s e
  if x.state ≠ .up || !s.cfgB (ethAddr e 6) 0 || x.lpiRx = v then s
  else (s.modEth e fun x => { x with lpiRx := v }).bumpEth e 25 (b2n v)

end Sys2Proof.Machine
end

