-- ==== Sys2Proof/Machine/Eth.lean ====
section
/-! DEFINITION. The meanings of the Ethernet ports' commands (Ethernet Ports). -/

namespace Sys2Proof.Machine

/-- A RESTART write (R332). -/
def execEthRestart (e : BitVec 2) (s : State) : Host.Outcome State Fault Refusal := next (s.hostWords (ethAddr e.toNat 1) [1])

/-- A write of RATE, FEC, AN_EN and TRAIN_EN (R333). -/
def execEthRerate (e : BitVec 2) (val : Word) (s : State) : Host.Outcome State Fault Refusal :=
  next (s.hostBits (ethAddr e.toNat 0) val 0x3E)

/-- A write of KR4 (R334). -/
def execKr4Change (v : Bool) (s : State) : Host.Outcome State Fault Refusal :=
  next (s.hostBits (addrOf 0x50 0) (BitVec.ofNat 32 (b2n v)) 1)

/-- Auto-negotiation completes with a resolved FEC (R331). -/
def execAnComplete (e : BitVec 2) (fec : BitVec 2) (s : State) : Host.Outcome State Fault Refusal := next (s.anDone e.toNat fec)

/-- Training completes (Table ETH-2). -/
def execTrainingComplete (e : BitVec 2) (s : State) : Host.Outcome State Fault Refusal := next (s.trainDone e.toNat)

/-- Training fails (Table ETH-2). -/
def execTrainingFailed (e : BitVec 2) (s : State) : Host.Outcome State Fault Refusal := next (s.trainFails e.toNat)

/-- The PCS link comes up (Table ETH-2). -/
def execEthLinkUp (e : BitVec 2) (skew : BitVec 32) (s : State) : Host.Outcome State Fault Refusal := next (s.ethUp e.toNat skew)

/-- LINK_WAIT for 50 ms (Table ETH-2). -/
def execLinkWaitTimeout (e : BitVec 2) (s : State) : Host.Outcome State Fault Refusal := next (s.linkWaitEnds e.toNat)

/-- The PCS link is lost (R332, R333). -/
def execEthLinkDown (e : BitVec 2) (s : State) : Host.Outcome State Fault Refusal := next (s.pcsLost e.toNat)

/-- A frame arrives (R335 to R338). -/
def execEthFrameReceived (e : BitVec 2) (bytes : List Byte) (fcsOk : Bool) (timeCount : BitVec 64) (s : State) :
    Host.Outcome State Fault Refusal := next (s.ethFrame e.toNat bytes fcsOk timeCount)

/-- A PAUSE frame arrives (R338, R339). -/
def execPauseFrameReceived (e : BitVec 2) (quanta : BitVec 16) (s : State) : Host.Outcome State Fault Refusal :=
  next (s.ethFrame e.toNat (pauseFrame quanta) true 0)

/-- A PFC frame arrives (R338, R339). -/
def execPfcFrameReceived (e : BitVec 2) (vec : Byte) (quanta : List (BitVec 16)) (s : State) : Host.Outcome State Fault Refusal :=
  next (s.ethFrame e.toNat (pfcFrame vec quanta) true 0)

/-- A pause or PFC hold runs out (R339). -/
def execPauseHoldExpiry (e : BitVec 2) (prio : Option (BitVec 3)) (s : State) : Host.Outcome State Fault Refusal :=
  next (s.holdEnds e.toNat prio)

/-- Half of PAUSE_QUANTA has elapsed (R340). -/
def execPauseRepeat (e : BitVec 2) (s : State) : Host.Outcome State Fault Refusal := next (s.pauseAgain e.toNat)

/-- The transmitter enters LPI (R341). -/
def execLpiEntry (e : BitVec 2) (s : State) : Host.Outcome State Fault Refusal := next (s.lpiEnter e.toNat)

/-- The transmitter leaves LPI (R341, R342). -/
def execLpiExit (e : BitVec 2) (s : State) : Host.Outcome State Fault Refusal := next (s.lpiLeave e.toNat)

/-- The LLDP agent sends an LLDPDU (R343). -/
def execLldpTransmit (e : BitVec 2) (s : State) : Host.Outcome State Fault Refusal := next (s.lldpSend e.toNat)

/-- The LLDP agent reads an EEE TLV (R343). -/
def execLldpduReceived (e : BitVec 2) (partnerRxTw : BitVec 16) (s : State) : Host.Outcome State Fault Refusal :=
  next (s.lldpIn e.toNat partnerRxTw)

/-- A write of ENABLE and HOLD (R332). -/
def execEthPortEnableWrite (e : BitVec 2) (enable hold : Bool) (s : State) : Host.Outcome State Fault Refusal :=
  next (s.hostBits (ethAddr e.toNat 0) (BitVec.ofNat 32 (b2n enable + 64 * b2n hold)) 0x41)

/-- The receiver enters or leaves LPI (R341). -/
def execReceiveLpiChange (e : BitVec 2) (v : Bool) (s : State) : Host.Outcome State Fault Refusal := next (s.lpiReceive e.toNat v)

end Sys2Proof.Machine
end

