-- ==== Sys2Proof/Machine/ClockOps.lean ====
section
/-! DEFINITION. The time block's own steps: results at their tick, the servo's and the equipment clock's timers, and the
PPS contacts (Time: the Stylus, Time-of-Day and PTP, R358 to R370). -/

namespace Sys2Proof.Machine

/-- The servo adjusts nothing while the cores change over (R438). -/
def State.servoStill (s : State) : Bool := s.fault.handover.any fun h => h.phase = 2

/-- The result of the input that is due (R363). -/
def State.todNow (s : State) (c : Chan) : State :=
  match s.time.todIn.get c with
  | none => s
  | some x => if s.timeOn && s.todDue c x then s.todCompute c x s.servoStill else s

/-- LOCKED without a usable result for 10 s, or with REF as tick source (R358). -/
def State.servoHolds (s : State) : State :=
  let late := s.time.lastUsable.toNat + 80000 ≤ s.tick.number.toNat
  if s.timeOn && s.time.servo = .locked && !s.servoStill && (late || s.tick.source = .ref) then s.setServo .holdover else s

/-- A channel has been tick source, and the loop in lock, for 10 s (Table TIME-2). [DEDUCED, unsafe: log 94] -/
def State.eecLocks (s : State) : State :=
  let long : Bool := s.time.chanSince.any fun n => decide (n.toNat + 80000 ≤ s.tick.number.toNat)
  if s.timeOn && s.tick.source ≠ .ref && long && s.time.eec ≠ .locked && !s.fault.clockGroups.getLsbD 8 then
    (s.modTime fun t => { t with eecSince := s.tick.number, lockedRates := [] }).setEec .locked
  else s

/-- 500 ms in TIME cycles. [DEDUCED, unsafe: log 92] -/
def halfSecond : Nat := 622080000

/-- The count, before the next tick, at which T next reaches a whole second (R369). -/
def State.secondAt (s : State) : Option (BitVec 64) :=
  let t := (s.timeAt s.time.count).toNat
  let unit := 1000000000 * 2 ^ 32
  let d := ((unit - t % unit) % unit + s.time.inc.toNat - 1) / s.time.inc.toNat
  if d ≤ s.tickSpan then some (s.time.count + BitVec.ofNat 64 d) else none

/-- PPS_OUT rises where T reaches a whole second, but not within 500 ms of its edge before (R369).
[DEDUCED, unsafe: log 92] -/
def State.ppsRises (s : State) : State :=
  if !s.outRuns || !s.cfgB (timeAddr 0xA) 0 then s
  else
    match s.secondAt with
    | none => s
    | some now =>
      let near : Bool := s.time.ppsLast.any fun l => (now - l).toNat < halfSecond
      if near then s
      else (s.modTime fun t => { t with ppsHigh := true, ppsLast := some now, ppsEnd := now + BitVec.ofNat 64 (s.cfgF (timeAddr 0xA) 6 9 * (2 * halfSecond / 1000)) }).emit .pps

/-- PPS_OUT falls where PPS_WIDTH of its pulse ends before the next tick (R369). [DEDUCED, unsafe: log 92] -/
def State.ppsFalls (s : State) : State :=
  if s.time.ppsHigh && decide (s.time.ppsEnd.toNat ≤ s.time.count.toNat + s.tickSpan) then s.modTime fun t => { t with ppsHigh := false } else s

/-- No edge of PPS_IN for 1.5 s (R370). -/
def State.ppsLost (s : State) : State :=
  if s.timeOn && s.time.ppsOk then (s.modTime fun t => { t with ppsOk := false }).raise 0x0A05 (put 62 1 1 + s.tickLow) else s

end Sys2Proof.Machine
end

