-- ==== Sys2Proof/Machine/LegacyOps.lean ====
section
/-! DEFINITION. Legacy mode's two-wire port: framing, the held reply, pacing and the waits (Legacy Mode, R480 to R492). -/

namespace Sys2Proof.Machine

def State.modLeg (s : State) (f : LegacySt → LegacySt) : State := { s with leg := f s.leg }

/-- The answer of a legacy command: its STATUS and the payload of its reply. -/
structure LAns where
  status : Nat
  payload : List Byte
deriving DecidableEq, Repr

/-- An error: a reply with any STATUS but OK has LENGTH 0 (R483). -/
def LAns.err (status : Nat) : LAns := { status, payload := [] }

/-- The byte that makes a frame sum to 0 modulo 256 (R481). -/
def checkByte (l : List Byte) : Byte := 0 - l.foldl (· + ·) 0

/-- A reply frame (R481). -/
def legacyFrame (tag : Byte) (a : LAns) : List Byte :=
  let payload := if a.status = 0 then a.payload else []
  let l := [BitVec.ofNat 8 a.status, tag] ++ leBytes 2 payload.length ++ payload
  l ++ [checkByte l]

/-- The port takes a command: no command runs, and no reply is withheld (R482). [DEDUCED, unsafe: log 116] -/
def State.legacyTakes (s : State) : Bool := !s.leg.busy && s.leg.paced.isNone && !s.leg.restart

/-- A command's reply is complete: readable at once, or withheld by pacing where 2 ms have not passed (R482, R490).
[DEDUCED, unsafe: log 116] -/
def State.legacyAnswer (s : State) (a : LAns) : State :=
  let f := legacyFrame s.leg.tag a
  if s.mram.pacing && !s.leg.late then s.modLeg fun x => { x with busy := false, paced := some f }
  else s.modLeg fun x => { x with busy := false, reply := f }

/-- A rule command answers once the plate that it replaced has retired, so that the next one can swap (R229, R491).
[DEDUCED, unsafe: log 112] -/
def State.legacySettle (s : State) : State :=
  match s.leg.editing with
  | some op =>
    if s.cls.retiring then s
    else (s.modLeg fun x => { x with editing := none }).legacyAnswer { status := 0, payload := (Config.legacyReply op []).take 248 }
  | none => s

/-- A legacy command of a tag: what `f` answers, or, where it answers nothing yet, execution goes on.
[DEDUCED, unsafe: log 116] -/
def State.legacyServe (s : State) (tag : Byte) (f : State → Option LAns × State) : State :=
  if !s.legacy || s.phase ≠ .ready then s
  else
    let s := s.legacySettle
    if !s.legacyTakes then s.emit .twiNack
    else
      let s := s.modLeg fun x => { x with tag, reply := [], late := false }
      match f s with
      | (some a, s) => s.legacyAnswer a
      | (none, s) => s.modLeg fun x => { x with busy := true }

/-- 2 ms have passed since the STOP: a reply that pacing withheld becomes readable, and one that takes longer is unaffected
(R490). [DEDUCED, unsafe: log 116] -/
def State.pacingEnds (s : State) : State :=
  let s := s.legacySettle
  match s.leg.paced with
  | some f => s.modLeg fun x => { x with paced := none, reply := f }
  | none => if s.leg.busy then s.modLeg fun x => { x with late := true } else s

/-- What a read returns from its byte 0: the held reply, or BUSY with the pending TAG (R482). -/
def State.legacyReadable (s : State) : List Byte :=
  if s.leg.busy || s.leg.paced.isSome || s.leg.reply = [] then legacyFrame s.leg.tag (.err 5) else s.leg.reply

/-- The device reset that RESET asked for (R486). -/
def State.legacyRestart (s : State) : State := if s.leg.restart then s.deviceReset 2 0 .internalReset else s

/-- A read transaction; the bytes after the frame's last are free values. [DESIGN CHOICE, safe: log 115] -/
def State.legacyRead (s : State) (count : Nat) : State :=
  if !s.legacy || s.phase ≠ .ready then s
  else
    let s := s.legacySettle
    let f := s.legacyReadable
    let whole := !s.leg.busy && s.leg.paced.isNone && f.length ≤ count
    let (x, s) := s.fresh
    let s := s.emit (.legacyBytes ((f ++ List.replicate (count - f.length) (BitVec.ofNat 8 x)).take count))
    if whole then s.legacyRestart else s

/-- The wait after the reply of SLEEP, of a command reset or of RESET ends (R459, R463, R486): it begins once RESET's reply is
readable. -/
def State.waitEnds (s : State) : State :=
  if s.leg.restart then (if s.leg.paced.isSome then s else s.legacyRestart) else s.endWait

/-- The end of a handover answers FW_ACTIVATE (R491). -/
def State.legacyHandover (s : State) (ok : Bool) : State :=
  if s.legacy && s.leg.busy && s.leg.editing.isNone then s.legacyAnswer (if ok then { status := 0, payload := Config.legacyReply 0x37 [] } else .err 0x0A) else s

/-- READY; in legacy mode channel B is enabled from then on, in XGS-PON mode (R485). [DEDUCED, unsafe: log 110] -/
def State.readyLegacy (s : State) : State :=
  let t := s.ready
  if t.legacy && s.phase = .booting && t.phase = .ready then
    let t := t.putCfg (chAddr .b 0) (t.cfg (chAddr .b 0) ||| 1)
    (if t.domOn 4 then t.startCh .b else t).txUpdate .b
  else t

end Sys2Proof.Machine
end

