-- ==== Sys2Proof/Machine/CoverOps.lean ====
section
/-! DEFINITION. Fault coverage's own steps: errors at reads, core pairs, monitors, and the firmware handover (Fault Coverage
and In-Service Change, R427 to R440). -/

namespace Sys2Proof.Machine

/-- A flow's partly received SDU is dropped when its context is lost (region 0 of Table FAULT-2).
[DEDUCED, unsafe: log 101] -/
def State.flowRestarts (s : State) (f : Nat) : State :=
  let w := s.cfg (flowAddr f)
  s.reasmDrop (flowChan w) (flowPort w)

/-- An uncorrectable error at a read (R427). -/
def State.eccError (s : State) (e : EccErr) : State :=
  if !s.domsRun then s
  else
    let s := (s.eccReport e).eccConsequence e
    (if e.region = 0 then s.flowRestarts e.index else s).finish

/-- Firmware rewrites what the errors held from the golden image (R427).
[DESIGN CHOICE, safe: log 40; DEDUCED, unsafe: log 101] -/
def State.goldenRewrites (s : State) : State :=
  { s with fault := { s.fault with goldenBad := [] }, qs := { s.qs with eccShut := [] } }

/-- A pair's two cores disagree (R429, R440). -/
def State.pairDisagrees (s : State) (svc : Bool) : State :=
  if !s.domsRun || !s.pairIn svc then s
  else if s.pairLast svc then (s.pairMismatch svc).enterSafe 2
  else
    let early := s.fault.handover.any fun h => h.phase = 0
    let s := s.pairMismatch svc
    let s := if svc then s.timeoutRunning else s
    (if svc && early then s.legacyHandover false else s).finish

/-- A halted pair has reloaded and passed its self-test (R429). -/
def State.pairResumes (s : State) (svc : Bool) : State :=
  s.modFault fun f => if svc then { f with svcOk := f.svcOk || !f.svcFailed } else { f with rtOk := f.rtOk || !f.rtFailed }

/-- An error in the memories of a pair is a mismatch of that pair (region 5). [DEDUCED, unsafe: log 101] -/
def State.eccAny (s : State) (e : EccErr) : State :=
  if e.region = 5 then (s.eccError e).pairDisagrees (e.index = 1) else s.eccError e

/-- The domain whose clocks a group holds: a stopped domain's clocks are not judged. -/
def groupOfDom (g : Nat) : Nat :=
  match g with
  | 1 => 2 | 2 => 3 | 3 => 4 | 4 => 5 | 5 => 9 | 6 => 10 | 7 => 11 | 8 => 12 | 9 => 0 | 10 => 0 | _ => 1

/-- A monitored domain's clock stops or is off by more than 30 % (R430). [DEDUCED, unsafe: log 100, 104] -/
def State.clockFails (s : State) (g permille : Nat) (ports : BitVec 4) : State :=
  if !s.domsRun || !s.domOn (groupOfDom g) || s.clocksOut g ≥ groupClocks g then s else s.clockFault g permille ports

/-- The domain in which a control state machine runs. -/
def ctlDom : Ctl → Nat
  | .receiver c => rxDom c
  | .transmitter c | .burin c | .shadow c => txDom c
  | .activation _ _ => 1
  | .link => 9
  | .port _ => 10
  | .allocator p => if p ≤ 8 then 6 else 1

def State.ctlIllegal (s : State) (m : Ctl) : State := if s.domsRun && s.domOn (ctlDom m) then s.illegal m else s

/-! ## The firmware handover (R438 to R440) -/

/-- The results that the servo kept are used in order (R438). [DEDUCED, unsafe: log 91] -/
def useErrors : List Int → State → State
  | [], s => s
  | e :: r, s => useErrors r (s.servoUse e)

/-- [DEDUCED, unsafe: log 91] -/
def State.servoResumes (s : State) : State :=
  let l := s.time.heldErr
  useErrors l (s.modTime fun t => { t with heldErr := [] })

/-- A handover's outcome is counted and reported. [DEDUCED, unsafe: log 103] -/
def State.handoverTold (s : State) (ok : Bool) (phase : Nat) : State :=
  (s.bump (fltCtr 10) 1).raise 0x0F0B (put 62 1 (b2n ok) + put 56 2 phase + s.tickLow)

/-- The handover ends: the answer of its IMAGE_ACTIVATE, and the servo's work. [DEDUCED, unsafe: log 103] -/
def State.handoverEnds (s : State) (ok : Bool) : State :=
  ((((s.modFault fun f => { f with handover := none }).answerActivate ok).legacyHandover ok).servoResumes).finish

/-- An accepted activation waits with its chain. [DEDUCED, unsafe: log 103] -/
def State.activationHeld (s : State) : Bool := s.waiting.any fun p => p.code = 0x53

/-- A phase begins at its tick (Table FAULT-6); phase 3 ends at once, when the preference can be recorded (R430). A pair that
failed is back at its duties at such a tick too (R440). [DEDUCED, unsafe: log 103, 104] -/
def State.handoverStarts (s : State) : State :=
  match s.fault.handover with
  | none => s
  | some h =>
    let due := h.from_.toNat ≤ s.tick.number.toNat
    if !due || (h.phase ≠ 0 && !h.passed) || (h.phase = 0 && s.activationHeld) then s
    else if h.failing then s.handoverEnds false
    else if h.phase = 2 then
      if s.fault.clockGroups.getLsbD 9 then s else ((s.imageInService h.bank).handoverTold true 3).handoverEnds true
    else s.modFault fun f => { f with handover := some { h with phase := h.phase + 1, passed := false } }

/-- The pair that is loading passes, be it on the image that it reloads after a failure: it takes its duties at the next
tick. -/
def State.handoverPasses (s : State) : State :=
  match s.fault.handover with
  | none => s
  | some h =>
    if h.phase = 0 || h.passed then s
    else s.modFault fun f => { f with handover := some { h with passed := true, from_ := s.tick.number + 1 } }

/-- The pair that is loading fails: the handover is abandoned and reported, and that pair reloads the previous image (R440).
[DEDUCED, unsafe: log 103] -/
def State.handoverFails (s : State) : State :=
  match s.fault.handover with
  | none => s
  | some h => 
    if h.phase = 0 || h.passed || h.failing then s
    else (s.modFault fun f => { f with handover := some { h with failing := true } }).handoverTold false h.phase.toNat

end Sys2Proof.Machine
end

