-- ==== Sys2Proof/Machine/FaultCover.lean ====
section
/-! DEFINITION. The meanings of fault coverage's commands (Fault Coverage and In-Service Change). -/

namespace Sys2Proof.Machine

/-- An uncorrectable memory error (R427). -/
def execEccUncorrectable (e : EccErr) (s : State) : Host.Outcome State Fault Refusal := next (s.eccAny e)

/-- The golden image rewrites what was lost (R427). -/
def execGoldenRewrite (s : State) : Host.Outcome State Fault Refusal := next s.goldenRewrites

/-- A lockstep mismatch of the service pair, or of the real-time pair (R429). -/
def execLockstepMismatch (service : Bool) (s : State) : Host.Outcome State Fault Refusal := next (s.pairDisagrees service)

/-- A halted pair resumes (R429). -/
def execCorePairResume (service : Bool) (s : State) : Host.Outcome State Fault Refusal := next (s.pairResumes service)

/-- A clock fault (R430). -/
def execClockFault (group : Fin 11) (permille : BitVec 16) (ports : BitVec 4) (s : State) : Host.Outcome State Fault Refusal :=
  next (s.clockFails group.val permille.toNat ports)

/-- A clock has been within limits for 1 ms (R430). -/
def execClockFaultClear (group : Fin 11) (s : State) : Host.Outcome State Fault Refusal := next (s.clockClear group.val).activateLater

/-- The transmit-burst clock misses an edge: the window closes on the burst in progress (R431, R195). -/
def execBurstClockActivityLoss (c : Chan) (s : State) : Host.Outcome State Fault Refusal :=
  next (if (s.bch c).current.isSome then (s.disagree c false).finish else s)

/-- A rail leaves its window (R432, R457). -/
def execRailFault (d : Fin 13) (s : State) : Host.Outcome State Fault Refusal := next (s.railFault d.val).swapLost.finish

/-- A rail is back in its window (R432). -/
def execRailFaultClear (d : Fin 13) (s : State) : Host.Outcome State Fault Refusal := next (s.railClear d.val).finish

/-- 1 ms after entry to the safe state (R433). -/
def execSafeStateReset (s : State) : Host.Outcome State Fault Refusal :=
  next (if s.phase = .safe then s.deviceReset 3 0 .internalReset else s)

/-- A control state machine in an illegal state (R434). -/
def execIllegalState (m : Ctl) (s : State) : Host.Outcome State Fault Refusal := next (s.ctlIllegal m)

/-- The operating conditions change: VIN_12V in mV, the die temperature in tenths of a degree (R497). -/
def execOperatingConditionsChange (now : Conditions) (s : State) : Host.Outcome State Fault Refusal :=
  next (s.conditions now.vin now.die)

/-- A phase of the handover begins (R438). -/
def execHandoverPhaseStart (s : State) : Host.Outcome State Fault Refusal := next s.handoverStarts

/-- A pair passes its self-test on the new image (R438). -/
def execHandoverSelfTestPass (s : State) : Host.Outcome State Fault Refusal := next s.handoverPasses

/-- A pair fails on the new image (R440). -/
def execHandoverFailure (s : State) : Host.Outcome State Fault Refusal := next s.handoverFails

end Sys2Proof.Machine
end

