-- ==== Sys2Proof/Machine/LegacyRun.lean ====
section
/-! DEFINITION. What each legacy opcode does to vONU 0, channel B, the classifier, the queues, port E0, the Stylus and the
banks, and what it reports (Legacy Mode, R485 to R492). The payload formats are those of the WM-4410 host interface, which
the manual does not restate: Config turns reported values into bytes and payloads into fields. -/

namespace Sys2Proof.Machine

/-- A legacy command's run: its answer, or none where execution goes on. -/
abbrev LRun := State → Option LAns × State

/-- OK with the values an opcode reports. -/
def okVals (op : Byte) (vals : List Nat) (s : State) : Option LAns × State :=
  (some { status := 0, payload := (Config.legacyReply op vals).take 248 }, s)

def fails (status : Nat) (s : State) : Option LAns × State := (some (.err status), s)

/-- A command's fields lie in their ranges, which the WM-4410 interface gives (R483, BAD_PARAM).
[DEDUCED, unsafe: log 113] -/
def inRange (op : Byte) (fields : List Nat) (f : LRun) : LRun := fun s =>
  if fields = [] || Config.legacyRange op fields then f s else fails 4 s

/-- The same configuration in a device at rest, all domains ON and vONU 0 created, with no flow binding: what is refused there
is refused for its value, whatever the ONU's state. [DEDUCED, unsafe: log 113] -/
def State.atRest (s : State) : State :=
  let on (d : Nat) : Nat × Dom := (d, { s.dom d with st := .on, isolated := false })
  let t := { State.reset with words := s.words, part := s.part, fuses := s.fuses, mram := s.mram }
  let t := { t with power := { t.power with doms := (List.range 12).map fun d => on (d + 1) }, cls := { t.cls with active := s.cls.active } }
  (t.dropCfg fun a => !(flowAddr 0 ≤ a && a < flowAddr 262144)).setVonu 0 { s.vonuAt 0 with life := .created }

/-- A configuration write beneath a legacy command, in the order of Table LEGACY-1: a value outside its range, a state that
forbids it, a named object that does not exist (`missing`), and a limit of Table LEGACY-3 (`full`).
[DEDUCED, unsafe: log 113] -/
def legacyWriteIn (op : Byte) (missing full : Bool) (ws : List WordIn) : LRun := fun s =>
  let v := s.atRest.writeCheck .twi ws
  if v = 5 then fails 4 s
  else if v = 4 then fails 8 s
  else if s.writeCheck .twi ws ≠ 0 then fails 7 s
  else if missing then fails 8 s
  else if full then fails 6 s
  else okVals op [] ((s.writeApply ws).finish)

/-- [DEDUCED, unsafe: log 113] -/
def legacyWrite (op : Byte) (ws : List WordIn) : LRun := legacyWriteIn op false false ws

/-! ## Counters (R488) -/

def satWord : Nat := 0xFFFFFFFF

/-- One legacy counter over the 64-bit counter at an address. -/
def State.legacyCount (s : State) (a : Nat) : Nat := sat satWord (s.ctr a - mget 0 s.leg.bases a).toNat

def clearBases : List Nat → State → State
  | [], s => s
  | a :: r, s => clearBases r (s.modLeg fun x => { x with bases := mput 0 x.bases a (s.ctr a) })

/-- The counters at some addresses; CLEAR acts after the values are taken. -/
def counters (op : Byte) (clear : Bool) (l : List Nat) : LRun := fun s =>
  okVals op (l.map s.legacyCount) (if clear then clearBases l s else s)

/-! ## System -/

/-- [DESIGN CHOICE, safe: log 115] -/
def reportFree (op : Byte) (n : Nat) : LRun := fun s =>
  let (f, s) := s.fresh
  okVals op ((List.range n).map fun i => f / 2 ^ (32 * i) % 2 ^ 32) s

/-- GET_IDENTITY: reply byte 30, counted from STATUS (R481, R482), is the identity mark (R491). -/
def lgIdentity : LRun := fun s =>
  let l := (Config.legacyReply 0x01 []).take 248
  (some { status := 0, payload := (l ++ List.replicate (27 - l.length) 0).set 26 0x4B }, s)

/-- The alarm word: bits 15 to 0 are the WM-4410's, free values; 16 GUARD_LATCHED, 17 DEVICE_FAULT (R491).
[DESIGN CHOICE, safe: log 115] -/
def State.alarmWord (s : State) : Nat × State :=
  let (f, s) := s.fresh
  (put 0 16 f + put 16 1 (b2n ((s.ch .b).tx = .latched)) + put 17 1 (b2n s.leg.deviceFault), s)

def lgAlarms : LRun := fun s => let (w, s) := s.alarmWord; okVals 0x06 [w] s

def lgAlarmMask (mask : Nat) : LRun := fun s => okVals 0x05 [] (s.modLeg fun x => { x with alarmMask := BitVec.ofNat 32 mask })

/-- A fault of the FAULT block persists. -/
def State.faultPersists (s : State) : Bool :=
  s.reasons ≠ 0 || s.fault.clockGroups ≠ 0 || !s.fault.rtOk || !s.fault.svcOk || s.fault.goldenBad ≠ [] ||
    s.fault.crcBad ≠ [] || (List.range 13).any fun d => (s.dom d).railBad

/-- CLEAR_ALARMS: DEVICE_FAULT clears once no fault persists; GUARD_LATCHED does not (R491). -/
def lgClearAlarms : LRun := fun s =>
  okVals 0x07 [] (if s.faultPersists then s else s.modLeg fun x => { x with deviceFault := false })

def lgVersion : LRun := fun s =>
  okVals 0x08 [(s.bank s.fw.runningBank).version.toNat, s.part.stepping.toNat] s

def lgStatus : LRun := fun s => let (w, s) := s.alarmWord; okVals 0x02 [w, actCode (s.vch 0 .b).act] s

/-- RESET: the reply first, then the device waits and resets with cause 2 (R486). -/
def lgReset : LRun := fun s => okVals 0x03 [] (s.modLeg fun x => { x with restart := true })

/-! ## PON -/

/-- The ONU is enabled. [DEDUCED, unsafe: log 114] -/
def State.ponOn (s : State) : Bool := (s.vonuAt 0).enable.b

/-- SET_SERIAL acts as VONU_CREATE (R485, R128). A created ONU that is not enabled takes the new serial number.
[DEDUCED, unsafe: log 114] -/
def lgSetSerial (sn : BitVec 64) : LRun := fun s =>
  let x := s.vonuAt 0
  match x.life with
  | .free => if s.snHeld sn then fails 7 s else okVals 0x09 [] (s.createVonu 0 sn x.regId)
  | .created => okVals 0x09 [] (s.createVonu 0 sn x.regId)
  | _ => fails 7 s

/-- [DEDUCED, unsafe: log 114] -/
def lgSetRegId (r : BitVec 288) : LRun := fun s =>
  match (s.vonuAt 0).life with
  | .free | .created => okVals 0x0B [] (s.setVonu 0 { s.vonuAt 0 with regId := r })
  | _ => fails 7 s

/-- ENABLE_PON and DISABLE_PON (R485, R130). [DEDUCED, unsafe: log 114] -/
def lgPon (op : Byte) (on : Bool) : LRun := fun s =>
  if s.isLive 0 then okVals op [] ((s.setMasks 0 (if on then 2 else 0) 0).finish) else fails 7 s

def lgOnuId : LRun := fun s =>
  okVals 0x0F (match (s.vch 0 .b).onuId with | some i => [1, i.toNat] | none => [0, 0]) s

def lgEqd : LRun := fun s => okVals 0x10 (match (s.vch 0 .b).eqd with | some e => [1, e.toNat] | none => [0, 0]) s

def lgOptical : LRun := fun s =>
  let m := (s.ch .b).mon
  okVals 0x11 [m.rxPower.toNat, m.txPower.toNat, m.laserBias.toNat, m.laserTemp.toNat, m.tecCurrent.toNat, m.apdBias.toNat] s

def lgTxEnable (on : Bool) : LRun := legacyWrite 0x12 [⟨chAddr .b 0, BitVec.ofNat 32 (8 * b2n on), 8⟩]

/-- Channel B's FEC and bit-error counters (Table CH-9). -/
def fecCounters : List Nat := [0x48, 0x4A, 0x4C, 0x4E].map (chAddr .b)

/-! ## OMCI -/

/-- OMCI_RX_FETCH reads the receive ring one message at a time (R485). -/
def lgOmciFetch : LRun := fun s =>
  if s.omciBacklog = 0 then okVals 0x14 [] s
  else
    let c := s.cfg (addrOf 0x20 0x11)
    match mget none s.vonu.omciRing (c.toNat % 1024) with
    | some m => okVals 0x14 (m.data.map (·.toNat)) (s.putCfg (addrOf 0x20 0x11) (c + 1))
    | none => okVals 0x14 [] (s.putCfg (addrOf 0x20 0x11) (c + 1))

def lgGetSerial : LRun := fun s => okVals 0x0A [(s.vonuAt 0).sn.toNat] s

def lgOnuState : LRun := fun s => okVals 0x0E [actCode (s.vch 0 .b).act] s

/-- The words of VONU_OMCI_TX for a message of vONU 0 on channel B. -/
def omciWords (msg : List Byte) : List Word :=
  BitVec.ofNat 32 (put 9 1 1 + put 10 11 msg.length) :: toWords (msg ++ List.replicate ((4 - msg.length % 4) % 4) 0)

def lgOmciTx (msg : List Byte) : LRun := fun s =>
  if msg.length < 48 || 1980 < msg.length then fails 4 s
  else match s.omciTxCheck (omciWords msg) with
    | 0 => okVals 0x15 [] (s.omciTxApply (omciWords msg))
    | _ => fails 7 s

def lgOmciStatus : LRun := fun s => okVals 0x16 [s.omciBacklog, (s.vch 0 .b).omciQ.length] s

def lgMsk (msk : BitVec 128) : LRun := fun s =>
  if s.loadCheck { slot := mgmtSlot 0 1, kind := 1, vonu := 0, chan := 0 } ≠ 0 then fails 7 s
  else okVals 0x17 [] (s.loadMsk (mgmtSlot 0 1) (leBytes 16 msk.toNat))

/-! ## XGEM ports and T-CONTs -/

/-- [PRESUMED, unsafe: log 111] -/
def State.gemAt (s : State) (i : Nat) : Option Nat :=
  let w := s.cfg (flowAddr i)
  if bit w 26 then some (flowPort w) else none

/-- ADD_GEM_PORT: a flow binding of vONU 0 on channel B, within 256 (R487). -/
def lgAddGem (i : Nat) (port : BitVec 16) : LRun := fun s =>
  legacyWriteIn 0x18 false (256 ≤ s.flows.length && (s.gemAt i).isNone) [⟨flowAddr i, BitVec.ofNat 32 (put 0 16 port.toNat + put 25 1 1 + put 26 1 1), all32⟩] s

def lgDelGem (i : Nat) : LRun := fun s =>
  legacyWriteIn 0x19 (s.gemAt i).isNone false [⟨flowAddr i, 0, all32⟩] s

def lgGetGem (i : Nat) : LRun := fun s => match s.gemAt i with | some p => okVals 0x1A [p] s | none => fails 8 s

/-- The VONU_ALLOC entry that vONU 0 holds for an Alloc-ID. -/
def State.entryOf (s : State) (a : BitVec 14) : Option Nat :=
  (s.vonu.alloc.find? fun e => e.2.any fun x => x.allocId = a && x.vonu = 0 && x.chan = .b).map (·.1)

/-- [PRESUMED, unsafe: log 111] -/
def State.tcont (s : State) (i : Nat) : Option (BitVec 14) := mget none s.leg.tconts i

/-- The Alloc-IDs in use once index i maps `a`, the default one included (Table LEGACY-3).
[PRESUMED, unsafe: log 111] -/
def State.tcontsWith (s : State) (i : Nat) (a : BitVec 14) : Nat :=
  let ids := (a :: (s.leg.tconts.filter fun e => e.1 ≠ i).filterMap (·.2)).eraseDups
  match (s.vch 0 .b).onuId with
  | some d => if ids.contains (d.setWidth 14) then ids.length else ids.length + 1
  | none => ids.length + 1

/-- MAP_TCONT: within 16 (R487). -/
def lgMapTcont (i : Nat) (a : BitVec 14) : LRun := fun s =>
  if 16 < s.tcontsWith i a then fails 6 s
  else okVals 0x1B [] (s.modLeg fun x => { x with tconts := mput none x.tconts i (some a) })

def lgUnmapTcont (i : Nat) : LRun := fun s =>
  if (s.tcont i).isNone then fails 8 s else okVals 0x1C [] (s.modLeg fun x => { x with tconts := mput none x.tconts i none })

def lgGetTcont (i : Nat) : LRun := fun s =>
  match s.tcont i with
  | some a => okVals 0x1D [a.toNat, b2n (s.entryOf a).isSome] s
  | none => fails 8 s

/-- SET_TCONT_QUEUE binds a queue to the node of the T-CONT; the OLT must have assigned its Alloc-ID.
[PRESUMED, unsafe: log 111] -/
def lgTcontQueue (i : Nat) (q : BitVec 16) : LRun := fun s =>
  match s.tcont i with
  | none => fails 8 s
  | some a =>
    match s.entryOf a with
    | none => fails 7 s
    | some n => legacyWrite 0x1E [⟨qAddr q.toNat 0, BitVec.ofNat 32 (n + 2 ^ 31), 0x80003FFF⟩] s

/-- The two match counters (packets, bytes) of an index. [PRESUMED, unsafe: log 111] -/
def matchCounters (i : Nat) : List Nat := [clsAddr (0x400000 + 4 * i), clsAddr (0x400002 + 4 * i)]

def lgGemCounters (i : Nat) (clear : Bool) : LRun := fun s =>
  if (s.gemAt i).isNone then fails 8 s else counters 0x1F clear (matchCounters i) s

/-! ## Classifier: the inactive plate is edited and committed (R491, R228) -/

/-- The plate that rule commands edit. -/
def State.editPlate (s : State) : Nat := 1 - b2n s.cls.active

/-- Edit a fresh copy of the active plate, and swap to it. [DEDUCED, unsafe: log 112] -/
def State.ruleEdit (s : State) (f : Nat → State → State) : State :=
  let p := s.editPlate
  (f p s.copyPlate).swapPlates (p = 1)

/-- A swap may begin: the pipeline runs. [DEDUCED, unsafe: log 112] -/
def State.mayEdit (s : State) : Bool := s.domOn 6

/-- A rule command that changed the plate: execution goes on while the old plate retires. [DEDUCED, unsafe: log 112] -/
def ruleDone (op : Byte) (s : State) : Option LAns × State :=
  if s.cls.retiring then (none, s.modLeg fun x => { x with editing := some op }) else okVals op [] s

def dropRule (e p : Nat) (s : State) : State := s.dropCfg fun a => !(ruleAddr p e 0 ≤ a && a < ruleAddr p (e + 1) 0)

def State.hasRule (s : State) (e : Nat) : Bool := (s.validRules (b2n s.cls.active)).contains e

/-- ADD_RULE: its fields are judged as in a write of the plate that it edits. [DEDUCED, unsafe: log 112] -/
def lgAddRule (e : Nat) (words : List Word) : LRun := fun s =>
  let p := s.editPlate
  let ws := wordsIn (ruleAddr p e 0) words
  if words.length > 44 || s.atRest.writeCheck .twi ws ≠ 0 then fails 4 s
  else if !s.mayEdit then fails 7 s
  else if 512 ≤ e then fails 6 s
  else ruleDone 0x20 (s.ruleEdit fun p s => ((dropRule e p s).writeApply ws).putCfg (ruleAddr p e 44) 1)

def lgDelRule (e : Nat) : LRun := fun s =>
  if !s.mayEdit then fails 7 s
  else if !s.hasRule e then fails 8 s
  else ruleDone 0x21 (s.ruleEdit (dropRule e))

def lgGetRule (e : Nat) : LRun := fun s =>
  if !s.hasRule e then fails 8 s
  else okVals 0x22 ((List.range 44).map fun i => (s.cfg (ruleAddr (b2n s.cls.active) e i)).toNat) s

def lgClearRules : LRun := fun s =>
  if !s.mayEdit then fails 7 s
  else ruleDone 0x23 (s.ruleEdit fun p s => s.dropCfg fun a => !(ruleAddr p 0 0 ≤ a && a < ruleAddr p 16384 0))

def lgDefaultAction (kind : Nat) (words : List Word) : LRun := legacyWrite 0x24 (wordsIn (clsAddr (0x10 + 4 * kind)) words)

/-- The counter that a rule's action names. -/
def lgRuleCounters (e : Nat) (clear : Bool) : LRun := fun s =>
  if !s.hasRule e then fails 8 s
  else match (s.actionAt (ruleAddr (b2n s.cls.active) e 40)).counter with
    | some i => counters 0x25 clear (matchCounters i.toNat) s
    | none => okVals 0x25 [0, 0] s

/-! ## Meters and queues -/

def lgSetMeter (m : Nat) (words : List Word) : LRun := fun s =>
  legacyWriteIn 0x26 false (64 ≤ m) (wordsIn (meterAddr m 0) words) s

def lgGetMeter (m : Nat) : LRun := fun s =>
  if 64 ≤ m then fails 8 s else okVals 0x27 ((List.range 5).map fun i => (s.cfg (meterAddr m i)).toNat) s

def lgSetQueue (q : Nat) (words : List Word) : LRun := legacyWrite 0x28 (wordsIn (qAddr q 0) words)

def lgGetQueue (q : Nat) : LRun := fun s =>
  okVals 0x29 (((List.range 4).map fun i => (s.cfg (qAddr q i)).toNat) ++ [(s.queue q).pkts.length]) s

def lgShaper (n : Nat) (rate burst : Word) : LRun :=
  legacyWrite 0x2A [⟨nodeAddr n 0, rate, all32⟩, ⟨nodeAddr n 1, burst, all32⟩]

def lgQueueCounters (q : Nat) (clear : Bool) : LRun := counters 0x2B clear ((List.range 4).map (queueCtr q))

/-! ## Ethernet: E0 at 10GBASE-KR only (R487) -/

def lgEthCfg (val : Word) : LRun := fun s =>
  if bit val 1 then fails 4 s else legacyWrite 0x2C [⟨ethAddr 0 0, val, 0x7F⟩] s

def lgEthStatus : LRun := fun s =>
  let x := ethPort s 0
  okVals 0x2D [ethCode x.state, x.rateActive.toNat, x.fecActive.toNat, b2n x.lpiTx, b2n x.lpiRx, b2n x.paused] s

def lgEthCounters (clear : Bool) : LRun := counters 0x2E clear ((List.range 37).map (ethAcc 0))

def lgPause (words : List Word) : LRun := legacyWrite 0x2F (wordsIn (ethAddr 0 4) words)

def lgMac (mac : BitVec 48) : LRun :=
  legacyWrite 0x30 (wordsIn (ethAddr 0 0x10) [mac.setWidth 32, BitVec.ofNat 32 (mac.toNat / 2 ^ 32 + 2 ^ 16)])

/-! ## Time (R489) -/

def billion : Nat := 1000000000

/-- GET_TOD: SECONDS and NS at acceptance, as 8 bytes. -/
def lgGetTod : LRun := fun s =>
  let (t, s) := s.instant
  let ns := s.nsAt t
  (some { status := 0, payload := leBytes 4 (ns / billion % 2 ^ 32) ++ leBytes 4 (ns % billion) }, s)

/-- SET_TOD: the next edge more than 500 ms after acceptance carries the time. [DEDUCED, unsafe: log 118] -/
def lgSetTod (seconds ns : Word) : LRun := fun s =>
  if ns ≠ 0 then fails 4 s
  else if !s.timeOn then fails 7 s
  else
    let (t, s) := s.instant
    let edge := ((s.nsAt t + 500000000) / billion + 1) * billion
    okVals 0x32 [] (s.stepTime ((seconds.toNat * billion : Nat) - (edge : Int)) false)

/-- SET_PPS: the PPS fields of TIME_OUT_CFG. -/
def lgPps (val : Word) : LRun := legacyWrite 0x33 [⟨timeAddr 0xA, val, 0x7FC1⟩]

/-- The 51-bit superframe next to a channel's count with given low 32 bits (R489, R362). [DEDUCED, unsafe: log 118] -/
def nearSfc (cur : BitVec 51) (low : Word) : BitVec 51 :=
  let d := low - cur.setWidth 32
  if d.toNat < 2 ^ 31 then cur + d.setWidth 51 else cur - (0 - d).setWidth 51

/-- SET_TOD_SF: one input of R362 for channel B. [DEDUCED, unsafe: log 118] -/
def lgTodSf (sfc seconds ns teqd : Word) : LRun := fun s =>
  let (t, s) := s.instant
  let hi := s.nsAt t / billion / 2 ^ 32
  let x : TodIn := { sfc := nearSfc (s.onlineSfc .b) sfc, seconds := BitVec.ofNat 48 (hi * 2 ^ 32 + seconds.toNat), ns, teqd }
  if s.todOk .b x then okVals 0x34 [] (s.todTake .b x) else fails 4 s

/-! ## Firmware (R491) -/

/-- [DEDUCED, unsafe: log 117] -/
def lgFwBegin (n : Nat) : LRun := fun s =>
  let b := !s.fw.runningBank
  if s.imageBeginOk (b2n b) n then okVals 0x35 [] (s.imageBegin b n) else fails 4 s

/-- [DEDUCED, unsafe: log 117] -/
def lgFwData (off : Nat) (data : List Byte) : LRun := fun s =>
  if s.imageDataOk off data.length && !s.fault.clockGroups.getLsbD 9 then okVals 0x36 [] (s.imageData s.openBank off data) else fails 0x0A s

/-- FW_ACTIVATE: a verified legacy-capable image comes in by handover, and the reply follows its end.
[DEDUCED, unsafe: log 117] -/
def lgFwActivate : LRun := fun s =>
  let b := !s.fw.runningBank
  let (w, t) := s.imageVerify b
  if w % 256 = 0 && Config.imageLegacy (t.bank b).image && t.imageActivateOk b && t.fault.handover.isNone then
    (none, t.modFault fun f => { f with handover := some { phase := 0, bank := b, from_ := t.tick.number + 2, passed := false, failing := false } })
  else fails 0x0A s

/-! ## Opcode 0x3F (R492) -/

def lgIdentify : LRun := fun s => (some { status := 0, payload := leBytes 8 s.sysId }, s)

/-- PACING_OFF and PACING_ON: the reply follows the MRAM write (R490), which a failed NVM clock stops (Table FAULT-4).
[DEDUCED, unsafe: log 77] -/
def lgPacing (on : Bool) : LRun := fun s =>
  if s.fault.clockGroups.getLsbD 9 then fails 7 s else
  let (f, s) := s.fresh
  let s := s.mramWrite 2 (f % 1024)
  (some { status := 0, payload := [] }, { s with mram := { s.mram with pacing := on } })

/-! ## From bytes to a command (R481, R483) -/

def bytesOf (l : List Nat) : List Byte := l.map fun x => BitVec.ofNat 8 x
def natsOf (l : List Word) : List Nat := l.map (·.toNat)
def wordsOf (l : List Nat) : List Word := l.map fun x => BitVec.ofNat 32 x

/-- The widths of an opcode's fields: the first ones, and each of those after them. [DEDUCED, unsafe: log 113] -/
def legacyWidths (op : Nat) : List Nat × Nat :=
  match op with
  | 0x05 | 0x2C | 0x33 | 0x35 => ([32], 32)
  | 0x09 => ([64], 64)
  | 0x0B => ([288], 288)
  | 0x12 => ([1], 1)
  | 0x15 => ([], 8)
  | 0x17 => ([128], 128)
  | 0x18 | 0x1E => ([8, 16], 16)
  | 0x1B => ([8, 14], 14)
  | 0x20 | 0x28 => ([16], 32)
  | 0x21 | 0x22 | 0x25 | 0x29 | 0x2B => ([16], 16)
  | 0x24 => ([2], 32)
  | 0x26 => ([8], 32)
  | 0x2A => ([14, 32, 32], 32)
  | 0x2F | 0x34 => ([], 32)
  | 0x30 => ([48], 48)
  | 0x36 => ([32], 8)
  | _ => ([8], 8)

def fieldsFit : List Nat → Nat → List Nat → Bool
  | _, _, [] => true
  | [], r, x :: l => x < 2 ^ r && fieldsFit [] r l
  | w :: ws, r, x :: l => x < 2 ^ w && fieldsFit ws r l

/-- A payload's fields lie in their ranges: what a field of this device's width cannot hold lies outside. The formats of
0x31, 0x32 and 0x3F are the manual's. [DEDUCED, unsafe: log 113] -/
def legacyFit (op : Nat) (l : List Nat) (f : LRun) : LRun :=
  if op = 0x31 || op = 0x32 || op = 0x3F then f
  else if fieldsFit (legacyWidths op).1 (legacyWidths op).2 l then inRange (BitVec.ofNat 8 op) l f
  else fails 4

/-- What an opcode does with its fields; `clear` is bit 0 of payload byte 0, where the opcode has a CLEAR bit. -/
def legacyRun (op : Nat) (clear : Bool) (l : List Nat) : LRun :=
  let o : Byte := BitVec.ofNat 8 op
  let a := l.getD 0 0
  let b := l.getD 1 0
  match op with
  | 0x01 => lgIdentity
  | 0x02 => lgStatus
  | 0x03 => lgReset
  | 0x04 => reportFree o 1
  | 0x05 => lgAlarmMask a
  | 0x06 => lgAlarms
  | 0x07 => lgClearAlarms
  | 0x08 => lgVersion
  | 0x09 => lgSetSerial (BitVec.ofNat 64 a)
  | 0x0A => lgGetSerial
  | 0x0B => lgSetRegId (BitVec.ofNat 288 a)
  | 0x0C => lgPon o true
  | 0x0D => lgPon o false
  | 0x0E => lgOnuState
  | 0x0F => lgOnuId
  | 0x10 => lgEqd
  | 0x11 => lgOptical
  | 0x12 => lgTxEnable (a ≠ 0)
  | 0x13 => counters o clear fecCounters
  | 0x14 => lgOmciFetch
  | 0x15 => lgOmciTx (bytesOf l)
  | 0x16 => lgOmciStatus
  | 0x17 => lgMsk (BitVec.ofNat 128 a)
  | 0x18 => lgAddGem a (BitVec.ofNat 16 b)
  | 0x19 => lgDelGem a
  | 0x1A => lgGetGem a
  | 0x1B => lgMapTcont a (BitVec.ofNat 14 b)
  | 0x1C => lgUnmapTcont a
  | 0x1D => lgGetTcont a
  | 0x1E => lgTcontQueue a (BitVec.ofNat 16 b)
  | 0x1F => lgGemCounters a clear
  | 0x20 => lgAddRule a (wordsOf (l.drop 1))
  | 0x21 => lgDelRule a
  | 0x22 => lgGetRule a
  | 0x23 => lgClearRules
  | 0x24 => lgDefaultAction a (wordsOf (l.drop 1))
  | 0x25 => lgRuleCounters a clear
  | 0x26 => lgSetMeter a (wordsOf (l.drop 1))
  | 0x27 => lgGetMeter a
  | 0x28 => lgSetQueue a (wordsOf (l.drop 1))
  | 0x29 => lgGetQueue a
  | 0x2A => lgShaper a (BitVec.ofNat 32 b) (BitVec.ofNat 32 (l.getD 2 0))
  | 0x2B => lgQueueCounters a clear
  | 0x2C => lgEthCfg (BitVec.ofNat 32 a)
  | 0x2D => lgEthStatus
  | 0x2E => lgEthCounters clear
  | 0x2F => lgPause (wordsOf l)
  | 0x30 => lgMac (BitVec.ofNat 48 a)
  | 0x31 => lgGetTod
  | 0x32 => lgSetTod (BitVec.ofNat 32 a) (BitVec.ofNat 32 b)
  | 0x33 => lgPps (BitVec.ofNat 32 a)
  | 0x34 => lgTodSf (BitVec.ofNat 32 a) (BitVec.ofNat 32 b) (BitVec.ofNat 32 (l.getD 2 0)) (BitVec.ofNat 32 (l.getD 3 0))
  | 0x35 => lgFwBegin a
  | 0x36 => lgFwData a (bytesOf (l.drop 1))
  | 0x37 => lgFwActivate
  | 0x3F =>
    match a with
    | 0 => lgIdentify
    | 1 => lgPacing false
    | 2 => lgPacing true
    | _ => fails 4
  | _ => fails 9

/-- The opcodes of Table LEGACY-2, and 0x3F. -/
def legacyKnown (op : Nat) : Bool := (1 ≤ op && op ≤ 0x3A) || op = 0x3F

/-- The fields of a payload: formats that the manual gives, and the WM-4410's for the rest; none: not the length the
opcode requires. -/
def legacyFieldsOf (op : Nat) (p : List Byte) : Option (List Nat) :=
  match op with
  | 0x31 => if p = [] then some [] else none
  | 0x32 => if p.length = 8 then some [leNat (p.take 4), leNat (p.drop 4)] else none
  | 0x3F => if p.length = 1 then some [leNat p] else none
  | _ => Config.legacyFields (BitVec.ofNat 8 op) p

/-- Table LEGACY-1 in its order. -/
def legacyParse (bytes : List Byte) : LRun :=
  let op := (bytes.getD 0 0).toNat
  let n := leNat (slice bytes 2 2)
  let p := slice bytes 4 n
  if bytes.length < 5 + n || (bytes.take (5 + n)).foldl (· + ·) 0 ≠ 0 then fails 2
  else if 248 < n then fails 3
  else if !legacyKnown op then fails 1
  else match legacyFieldsOf op p with
    | none => fails 3
    | some l => if 0x38 ≤ op && op ≤ 0x3A then fails 9 else legacyFit op l (legacyRun op ((p.getD 0 0).getLsbD 0) l)

/-- A write transaction at address 0x51 (R480, R481). -/
def State.legacyCommand (s : State) (bytes : List Byte) : State :=
  if bytes = [] then s else s.legacyServe (bytes.getD 1 0) (legacyParse bytes)

end Sys2Proof.Machine
end

