-- ==== Sys2Proof/Machine/Legacy.lean ====
section
/-! DEFINITION. The rows of the legacy command set: transactions at address 0x51, the end of pacing, and one command each
with its tag and fields (Legacy Mode, R480 to R492). -/

namespace Sys2Proof.Machine

open Host.Outcome

/-- A write transaction carries one command frame (R481). -/
def execLegacyCommandTransaction (bytes : List Byte) (s : State) : Host.Outcome State Fault Refusal := next (s.legacyCommand bytes)

/-- A read transaction returns the held reply (R482). -/
def execLegacyReadTransaction (count : Nat) (s : State) : Host.Outcome State Fault Refusal := next (s.legacyRead count)

/-- The reply becomes readable 2 ms after the command's STOP (R490). -/
def execPacingRelease (s : State) : Host.Outcome State Fault Refusal := next s.pacingEnds

def execGetIdentity (tag : Byte) (s : State) : Host.Outcome State Fault Refusal :=
  next (s.legacyServe tag lgIdentity)

def execGetStatus (tag : Byte) (s : State) : Host.Outcome State Fault Refusal :=
  next (s.legacyServe tag lgStatus)

def execReset (tag : Byte) (s : State) : Host.Outcome State Fault Refusal :=
  next (s.legacyServe tag lgReset)

def execGetTemperature (tag : Byte) (s : State) : Host.Outcome State Fault Refusal :=
  next (s.legacyServe tag (reportFree 0x04 1))

def execSetAlarmMask (tag : Byte) (mask : Word) (s : State) : Host.Outcome State Fault Refusal :=
  next (s.legacyServe tag (inRange 0x05 [mask.toNat] (lgAlarmMask mask.toNat)))

def execGetAlarms (tag : Byte) (s : State) : Host.Outcome State Fault Refusal :=
  next (s.legacyServe tag lgAlarms)

def execClearAlarms (tag : Byte) (s : State) : Host.Outcome State Fault Refusal :=
  next (s.legacyServe tag lgClearAlarms)

def execGetVersion (tag : Byte) (s : State) : Host.Outcome State Fault Refusal :=
  next (s.legacyServe tag lgVersion)

def execSetSerial (tag : Byte) (sn : BitVec 64) (s : State) : Host.Outcome State Fault Refusal :=
  next (s.legacyServe tag (inRange 0x09 [sn.toNat] (lgSetSerial sn)))

def execGetSerial (tag : Byte) (s : State) : Host.Outcome State Fault Refusal :=
  next (s.legacyServe tag lgGetSerial)

def execSetRegId (tag : Byte) (regId : BitVec 288) (s : State) : Host.Outcome State Fault Refusal :=
  next (s.legacyServe tag (inRange 0x0B [regId.toNat] (lgSetRegId regId)))

def execEnablePon (tag : Byte) (s : State) : Host.Outcome State Fault Refusal :=
  next (s.legacyServe tag (lgPon 0x0C true))

def execDisablePon (tag : Byte) (s : State) : Host.Outcome State Fault Refusal :=
  next (s.legacyServe tag (lgPon 0x0D false))

def execGetOnuState (tag : Byte) (s : State) : Host.Outcome State Fault Refusal :=
  next (s.legacyServe tag lgOnuState)

def execGetOnuId (tag : Byte) (s : State) : Host.Outcome State Fault Refusal :=
  next (s.legacyServe tag lgOnuId)

def execGetEqd (tag : Byte) (s : State) : Host.Outcome State Fault Refusal :=
  next (s.legacyServe tag lgEqd)

def execGetOptical (tag : Byte) (s : State) : Host.Outcome State Fault Refusal :=
  next (s.legacyServe tag lgOptical)

def execSetTxEnable (tag : Byte) (on : Bool) (s : State) : Host.Outcome State Fault Refusal :=
  next (s.legacyServe tag (inRange 0x12 [b2n on] (lgTxEnable on)))

def execGetFecStats (tag : Byte) (clear : Bool) (s : State) : Host.Outcome State Fault Refusal :=
  next (s.legacyServe tag (counters 0x13 clear fecCounters))

def execOmciRxFetch (tag : Byte) (s : State) : Host.Outcome State Fault Refusal :=
  next (s.legacyServe tag lgOmciFetch)

def execOmciTx (tag : Byte) (msg : List Byte) (s : State) : Host.Outcome State Fault Refusal :=
  next (s.legacyServe tag (inRange 0x15 (msg.map (·.toNat)) (lgOmciTx msg)))

def execOmciStatus (tag : Byte) (s : State) : Host.Outcome State Fault Refusal :=
  next (s.legacyServe tag lgOmciStatus)

def execSetMsk (tag : Byte) (msk : BitVec 128) (s : State) : Host.Outcome State Fault Refusal :=
  next (s.legacyServe tag (inRange 0x17 [msk.toNat] (lgMsk msk)))

def execAddGemPort (tag : Byte) (index : Byte) (port : BitVec 16) (s : State) : Host.Outcome State Fault Refusal :=
  next (s.legacyServe tag (inRange 0x18 [index.toNat, port.toNat] (lgAddGem index.toNat port)))

def execDelGemPort (tag : Byte) (index : Byte) (s : State) : Host.Outcome State Fault Refusal :=
  next (s.legacyServe tag (inRange 0x19 [index.toNat] (lgDelGem index.toNat)))

def execGetGemPort (tag : Byte) (index : Byte) (s : State) : Host.Outcome State Fault Refusal :=
  next (s.legacyServe tag (inRange 0x1A [index.toNat] (lgGetGem index.toNat)))

def execMapTcont (tag : Byte) (index : Byte) (allocId : BitVec 14) (s : State) : Host.Outcome State Fault Refusal :=
  next (s.legacyServe tag (inRange 0x1B [index.toNat, allocId.toNat] (lgMapTcont index.toNat allocId)))

def execUnmapTcont (tag : Byte) (index : Byte) (s : State) : Host.Outcome State Fault Refusal :=
  next (s.legacyServe tag (inRange 0x1C [index.toNat] (lgUnmapTcont index.toNat)))

def execGetTcont (tag : Byte) (index : Byte) (s : State) : Host.Outcome State Fault Refusal :=
  next (s.legacyServe tag (inRange 0x1D [index.toNat] (lgGetTcont index.toNat)))

def execSetTcontQueue (tag : Byte) (index : Byte) (queue : BitVec 16) (s : State) : Host.Outcome State Fault Refusal :=
  next (s.legacyServe tag (inRange 0x1E [index.toNat, queue.toNat] (lgTcontQueue index.toNat queue)))

def execGetGemCounters (tag : Byte) (index : Byte) (clear : Bool) (s : State) : Host.Outcome State Fault Refusal :=
  next (s.legacyServe tag (inRange 0x1F [index.toNat] (lgGemCounters index.toNat clear)))

def execAddRule (tag : Byte) (index : BitVec 16) (words : List Word) (s : State) : Host.Outcome State Fault Refusal :=
  next (s.legacyServe tag (inRange 0x20 (index.toNat :: natsOf words) (lgAddRule index.toNat words)))

def execDelRule (tag : Byte) (index : BitVec 16) (s : State) : Host.Outcome State Fault Refusal :=
  next (s.legacyServe tag (inRange 0x21 [index.toNat] (lgDelRule index.toNat)))

def execGetRule (tag : Byte) (index : BitVec 16) (s : State) : Host.Outcome State Fault Refusal :=
  next (s.legacyServe tag (inRange 0x22 [index.toNat] (lgGetRule index.toNat)))

def execClearRules (tag : Byte) (s : State) : Host.Outcome State Fault Refusal :=
  next (s.legacyServe tag lgClearRules)

def execSetDefaultAction (tag : Byte) (kind : BitVec 2) (words : List Word) (s : State) : Host.Outcome State Fault Refusal :=
  next (s.legacyServe tag (inRange 0x24 (kind.toNat :: natsOf words) (lgDefaultAction kind.toNat words)))

def execGetRuleCounters (tag : Byte) (index : BitVec 16) (clear : Bool) (s : State) : Host.Outcome State Fault Refusal :=
  next (s.legacyServe tag (inRange 0x25 [index.toNat] (lgRuleCounters index.toNat clear)))

def execSetMeter (tag : Byte) (index : Byte) (words : List Word) (s : State) : Host.Outcome State Fault Refusal :=
  next (s.legacyServe tag (inRange 0x26 (index.toNat :: natsOf words) (lgSetMeter index.toNat words)))

def execGetMeter (tag : Byte) (index : Byte) (s : State) : Host.Outcome State Fault Refusal :=
  next (s.legacyServe tag (inRange 0x27 [index.toNat] (lgGetMeter index.toNat)))

def execSetQueue (tag : Byte) (index : BitVec 16) (words : List Word) (s : State) : Host.Outcome State Fault Refusal :=
  next (s.legacyServe tag (inRange 0x28 (index.toNat :: natsOf words) (lgSetQueue index.toNat words)))

def execGetQueue (tag : Byte) (index : BitVec 16) (s : State) : Host.Outcome State Fault Refusal :=
  next (s.legacyServe tag (inRange 0x29 [index.toNat] (lgGetQueue index.toNat)))

def execSetShaper (tag : Byte) (node : BitVec 14) (rate : Word) (burst : Word) (s : State) : Host.Outcome State Fault Refusal :=
  next (s.legacyServe tag (inRange 0x2A [node.toNat, rate.toNat, burst.toNat] (lgShaper node.toNat rate burst)))

def execGetQueueCounters (tag : Byte) (index : BitVec 16) (clear : Bool) (s : State) : Host.Outcome State Fault Refusal :=
  next (s.legacyServe tag (inRange 0x2B [index.toNat] (lgQueueCounters index.toNat clear)))

def execSetEthCfg (tag : Byte) (val : Word) (s : State) : Host.Outcome State Fault Refusal :=
  next (s.legacyServe tag (inRange 0x2C [val.toNat] (lgEthCfg val)))

def execGetEthStatus (tag : Byte) (s : State) : Host.Outcome State Fault Refusal :=
  next (s.legacyServe tag lgEthStatus)

def execGetEthCounters (tag : Byte) (clear : Bool) (s : State) : Host.Outcome State Fault Refusal :=
  next (s.legacyServe tag (lgEthCounters clear))

def execSetPause (tag : Byte) (words : List Word) (s : State) : Host.Outcome State Fault Refusal :=
  next (s.legacyServe tag (inRange 0x2F (natsOf words) (lgPause words)))

def execSetMacAddr (tag : Byte) (mac : BitVec 48) (s : State) : Host.Outcome State Fault Refusal :=
  next (s.legacyServe tag (inRange 0x30 [mac.toNat] (lgMac mac)))

def execGetTod (tag : Byte) (s : State) : Host.Outcome State Fault Refusal :=
  next (s.legacyServe tag lgGetTod)

def execSetTod (tag : Byte) (seconds : Word) (ns : Word) (s : State) : Host.Outcome State Fault Refusal :=
  next (s.legacyServe tag (lgSetTod seconds ns))

def execSetPps (tag : Byte) (val : Word) (s : State) : Host.Outcome State Fault Refusal :=
  next (s.legacyServe tag (inRange 0x33 [val.toNat] (lgPps val)))

def execSetTodSf (tag : Byte) (sfc : Word) (seconds : Word) (ns : Word) (teqd : Word) (s : State) : Host.Outcome State Fault Refusal :=
  next (s.legacyServe tag (inRange 0x34 [sfc.toNat, seconds.toNat, ns.toNat, teqd.toNat] (lgTodSf sfc seconds ns teqd)))

def execFwBegin (tag : Byte) (length : Word) (s : State) : Host.Outcome State Fault Refusal :=
  next (s.legacyServe tag (inRange 0x35 [length.toNat] (lgFwBegin length.toNat)))

def execFwData (tag : Byte) (offset : Word) (bytes : List Byte) (s : State) : Host.Outcome State Fault Refusal :=
  next (s.legacyServe tag (inRange 0x36 (offset.toNat :: bytes.map (·.toNat)) (lgFwData offset.toNat bytes)))

def execFwActivate (tag : Byte) (s : State) : Host.Outcome State Fault Refusal :=
  next (s.legacyServe tag lgFwActivate)

def execFactoryCal (tag : Byte) (s : State) : Host.Outcome State Fault Refusal :=
  next (s.legacyServe tag (fails 9))

def execFactoryTest (tag : Byte) (s : State) : Host.Outcome State Fault Refusal :=
  next (s.legacyServe tag (fails 9))

def execFactoryFuse (tag : Byte) (s : State) : Host.Outcome State Fault Refusal :=
  next (s.legacyServe tag (fails 9))

def execIdentify (tag : Byte) (s : State) : Host.Outcome State Fault Refusal :=
  next (s.legacyServe tag lgIdentify)

def execPacingOff (tag : Byte) (s : State) : Host.Outcome State Fault Refusal :=
  next (s.legacyServe tag (lgPacing false))

def execPacingOn (tag : Byte) (s : State) : Host.Outcome State Fault Refusal :=
  next (s.legacyServe tag (lgPacing true))

end Sys2Proof.Machine
end

