-- ==== Sys2Proof/Machine/PloamOps.lean ====
section
/-! DEFINITION. The service of downstream PLOAM messages, the activation timers and tuning (Virtual ONUs: Identity,
Activation and PLOAM, R134 to R139, R149, R153 to R156, R164; R403). -/

namespace Sys2Proof.Machine

/-! ## Service -/

/-- Serve the message at the head of a channel's queue, where it is of the row's type. [DEDUCED, unsafe: log 49] -/
def State.served (s : State) (c : Chan) (k : State → PloamWait → Option State) : State :=
  match (s.ch c).ploamQ with
  | [] => s
  | w :: r =>
    match k ((s.modCh c fun x => { x with ploamQ := r }).freeAll 0x0D (w.cell.toList.map fun k => (10, k))) w with
    | some t => t.finish
    | none => s

/-- Serve a message for each vONU it reaches; one in a state that Table VONU-5 does not list is counted (R154). -/
def eachTarget (c : Chan) (listed : Act → Bool) (f : State → Nat → State) : List VId → State → State
  | [], s => s
  | v :: r, s =>
    eachTarget c listed f r (if listed (s.vch v.toNat c).act then f s v.toNat else s.bumpUnmatched c)

/-- The timers of the vONUs that a message reaches, where they have come to their tick, act before it (R134). -/
def State.expireFirst (s : State) (c : Chan) (w : PloamWait) : State :=
  w.targets.foldl (fun s v => s.expireDue c v.toNat) s

/-- The same, with the moves it makes reported as one cause (R137). [DEDUCED, unsafe: log 49] -/
def State.serveAll (s : State) (c : Chan) (w : PloamWait) (listed : Act → Bool) (f : State → Nat → State) : State :=
  let s := s.expireFirst c w
  let before := s.actsOf c (w.targets.map (·.toNat))
  (eachTarget c listed f w.targets s).reportMoves c before 0

/-- The states Table VONU-5 names for the messages. -/
def inO1toO6or89 (a : Act) : Bool := a ≠ .idle && a ≠ .o7
def inO23toO6or89 (a : Act) : Bool := a ≠ .idle && a ≠ .o7 && a ≠ .o1
def inRanging (a : Act) : Bool := a = .o4 || a = .o5 || a = .o9
def inRegistered (a : Act) : Bool := a = .o4 || a = .o5
def notIdle (a : Act) : Bool := a ≠ .idle
def isO5 (a : Act) : Bool := a = .o5

/-! ## The messages (Table VONU-5) -/

/-- Burst_Profile (R149). -/
def State.putProfile (s : State) (c : Chan) (idx : BitVec 2) (p : Profile) (v : Nat) : State :=
  let old := s.profileAt v c idx.toNat
  if old.valid && old.version = p.version then s
  else
    let s := s.modVch v c fun x => { x with profiles := x.profiles.set idx.toNat { p with valid := true, fromHost := false } }
    s.tryO23 v c

/-- Assign_ONU-ID: the ONU-ID and its default Alloc-ID, and TO1 (R169, Table VONU-3). [DEDUCED, unsafe: log 52] -/
def State.assignId (s : State) (c : Chan) (id : BitVec 10) (v : Nat) : State :=
  let due := s.tick.number + BitVec.ofNat 64 (8000 * s.cfgF (addrOf 0x20 (chanN c)) 4 8)
  let s := s.modVch v c fun x => { x with act := .o4, onuId := some id, expiry := some due }
  (s.allocTry (BitVec.ofNat 9 v) c (id.setWidth 14) true).2

/-- Ranging_Time (R144, R147). [DEDUCED, unsafe: log 51] -/
def State.assignEqd (s : State) (c : Chan) (value : BitVec 32) (relative ack : Bool) (arrived : BitVec 64) (v : Nat) : State :=
  let x := s.vch v c
  let eqd := if relative then x.eqd.getD 0 + value else value
  let seq := if x.eqd.isSome then x.eqdOrder else s.vonu.eqdSeq
  let s := { s with vonu := { s.vonu with eqdSeq := s.vonu.eqdSeq + (if x.eqd.isSome then 0 else 1) } }
  let s := s.modVch v c fun x => { x with eqd := some eqd, eqdOrder := seq, act := .o5, expiry := none }
  let s := s.eqdCheck v c
  let s := if x.act = .o9 then s.tuningDone c true v else s
  if ack then s.upPloam v c (.acknowledge .ok) arrived else s

/-- Deactivate_ONU-ID. -/
def State.deactivate (s : State) (c : Chan) (v : Nat) : State := (s.setAct v c .o1).tryO23 v c

/-- The disable form of Disable_Serial_Number (R138). [DEDUCED, unsafe: log 53] -/
def State.stopSerial (s : State) (c : Chan) (v : Nat) : State :=
  if (s.vch v c).act = .o7 then s
  else (s.modVch v c fun x => { x with act := .o7, expiry := none, tuneAt := none }).estopWrite (s.vonuAt v).sn c

/-- The enable form. -/
def State.startSerial (s : State) (c : Chan) (v : Nat) : State :=
  if (s.vch v c).act ≠ .o7 then s else ((s.estopErase (s.vonuAt v).sn c).setAct v c .o1).tryO23 v c

/-- Disable_Serial_Number, with its one EMERGENCY_STOP (R167). [DEDUCED, unsafe: log 53] -/
def State.serialService (s : State) (c : Chan) (w : PloamWait) (sn : Option (BitVec 64)) (disable : Bool) : State :=
  let s := s.expireFirst c w
  let vs := w.targets.map (·.toNat)
  let hit := vs.filter fun v =>
    if disable then (s.vch v c).act ≠ .o7 && (s.vch v c).act ≠ .idle else (s.vch v c).act = .o7
  let s := s.serveAll c w notIdle fun s v => if disable then s.stopSerial c v else s.startSerial c v
  s.raiseIf (hit ≠ []) 0x0307
    (pCh c + put 62 1 (b2n disable) + put 61 1 (b2n sn.isNone) + put 48 9 (if sn.isNone then 0 else hit.headD 0) +
      put 32 10 hit.length + s.tickLow)

/-- Assign_Alloc-ID (R155). [DEDUCED, unsafe: log 52] -/
def State.assignAlloc (s : State) (c : Chan) (id : BitVec 14) (release : Bool) (arrived : BitVec 64) (v : Nat) : State :=
  let reply (s : State) (ok : Bool) : State := s.upPloam v c (.acknowledge (if ok then .ok else .parameterError)) arrived
  if release then
    match s.allocFind c id with
    | some (i, a) => reply (if a.vonu.toNat = v then s.allocRelease i else s) true
    | none => reply s true
  else
    let (ok, s) := s.allocTry (BitVec.ofNat 9 v) c id false
    reply s ok

/-- Draw a data key into a unicast slot (R403). -/
def State.drawKey (s : State) (slot : Nat) : State :=
  let n := s.freeCount
  let s := { s with freeCount := n + 1 }
  (s.loadSlot slot (Config.random n 16)).bump (cryCtr 4) 1

/-- The Key_Report of index k: the key that slot holds, wrapped under the KEK where an operation can begin under it (R406).
[DEDUCED, unsafe: log 54] -/
def State.keyReport (s : State) (c : Chan) (k : BitVec 2) (arrived : BitVec 64) (v : Nat) : State :=
  let slot := uniSlot v (chanN c) k.toNat
  if (k = 1 || k = 2) && (s.slot slot).state ≠ 0 then
    let wrapped := Config.keyWrap (s.mgmtKey v c 2) (s.slot slot).key
    match s.keyBegin (mgmtSlot v (chanN c)) 1 with
    | (true, s) => s.upPloam v c (.keyReport k (some wrapped)) arrived
    | (false, s) => s
  else s.upPloam v c (.keyReport k none) arrived

/-- Key_Control: nothing is drawn or reported without the engine, or while the generator has failed (R403, R408, R410,
R411). [DEDUCED, unsafe: log 54] -/
def State.keyControlIn (s : State) (c : Chan) (k : BitVec 2) (generate : Bool) (arrived : BitVec 64) (v : Nat) : State :=
  let draw := generate && (k = 1 || k = 2) && (s.vch v c).upKey ≠ k
  if !s.engineOn || !s.crypto.rngOk then s
  else if !draw then s.keyReport c k arrived v
  else if s.crypto.alarmActive ≠ 0 || s.crypto.lockedOut then s
  else (s.drawKey (uniSlot v (chanN c) k.toNat)).keyReport c k arrived v

/-- Sleep_Allow: recorded. -/
def State.sleepAllowIn (s : State) (c : Chan) (value : Byte) (ack : Bool) (arrived : BitVec 64) (v : Nat) : State :=
  let s := s.modVch v c fun x => { x with sleepAllow := value }
  if ack then s.upPloam v c (.acknowledge .ok) arrived else s

/-- Tuning_Control: accepted where the pair is that of the other channel, the vONU stands by there, and that channel is
enabled (R164). [DEDUCED, unsafe: log 55] -/
def State.tuningIn (s : State) (c : Chan) (id : Byte) (sfc : BitVec 51) (arrived : BitVec 64) (v : Nat) : State :=
  let o := otherCh c
  let pair := mget Pair.other (s.vonu.chProfile.get c) id.toNat
  let ok := pair = .ofChan o && (s.vonuAt v).standby.get o && s.chEnabled o
  let s := if ok then s.modVch v c fun x => { x with tuneAt := some sfc } else s
  s.upPloam v c (.tuningResponse ok) arrived

/-! ## Tuning (R164) -/

/-- Move a vONU's bindings to another channel, except those whose port it has bound there. -/
def moveBindings (v : Nat) (o : Chan) : List (Nat × Word) → State → State
  | [], s => s
  | (f, w) :: r, s =>
    let taken := (s.flowFor v o (flowPort w)).isSome
    moveBindings v o r (if taken then s else s.putCfg (flowAddr f) (w ^^^ 0x02000000))

/-- Move a vONU's allocation entries to another channel. -/
def moveAllocs (o : Chan) : List (Nat × Option AllocE) → State → State
  | [], s => s
  | (i, some a) :: r, s => moveAllocs o r (s.setAlloc i (some { a with chan := o }))
  | (_, none) :: r, s => moveAllocs o r s

def State.moveKey (s : State) (v : Nat) (c o : Chan) (k : Nat) : State :=
  (s.setSlot (uniSlot v (chanN o) k) (s.slot (uniSlot v (chanN c) k))).eraseSlot (uniSlot v (chanN c) k)

/-- The tuning that a vONU has accepted, by its source channel. -/
def State.tuningOf (s : State) (v : Nat) : Option (Chan × BitVec 51) :=
  let one (c : Chan) : Option (Chan × BitVec 51) :=
    if (s.vch v c).act = .o5 then (s.vch v c).tuneAt.map fun f => (c, f) else none
  (one .a).orElse fun _ => one .b

/-- The superframe named in the request has come: steps 1 to 4. [DEDUCED, unsafe: log 55] -/
def State.tuneNow (s : State) (v : Nat) (c : Chan) : State :=
  let o := otherCh c
  let x := s.vch v c
  let before := s.actsOf c [v]
  let beforeO := s.actsOf o [v]
  let swap (t : Two Bool) : Two Bool := ⟨t.b, t.a⟩
  let y := s.vonuAt v
  let s := s.setVonu v { y with enable := swap y.enable, standby := swap y.standby }
  let mine := s.vonu.alloc.filter fun e => match e.2 with | some a => a.vonu.toNat = v && a.chan = c | none => false
  let s := moveAllocs o mine s
  let s := moveBindings v o ((s.flowsOf v).filter fun e => flowChan e.2 = c) s
  let s := (s.moveKey v c o 1).moveKey v c o 2
  let due := s.tick.number + BitVec.ofNat 64 (8 * s.cfgF (addrOf 0x20 2) 0 16)
  let s := s.setAct v c .idle
  let s := s.modVch v o fun z => { z with act := .o8, onuId := x.onuId, eqd := none, upKey := x.upKey, expiry := some due }
  (s.reportMoves c before 4).reportMoves o beforeO 4

def State.tuningSuperframeIn (s : State) (v : Nat) : State :=
  match s.tuningOf v with
  | some (c, f) => if sfcAhead (s.onlineSfc c) f < 2 ^ 50 then s.tuneNow v c else s
  | none => s

/-- The target channel is in SYNC, as delivered at ticks (R112): O8 to O9, and TO5 runs. [DEDUCED, unsafe: log 55] -/
def State.tuneSynced (s : State) (v : Nat) (c : Chan) : State :=
  if (s.vch v c).act = .o8 && s.syncSeen c then
    let before := s.actsOf c [v]
    let due := s.tick.number + BitVec.ofNat 64 (8 * s.cfgF (addrOf 0x20 2) 16 16)
    (s.modVch v c fun x => { x with act := .o9, expiry := some due }).reportMoves c before 4
  else s

end Sys2Proof.Machine
end

