-- ==== Sys2Proof/Machine/Ploam.lean ====
section
/-! DEFINITION. The meanings of the PLOAM messages and of the vONUs' own events (Virtual ONUs: Identity, Activation and
PLOAM). A row of a message serves the message at the head of its channel's queue; where that is of another type, or none
waits, nothing can be served and the state stays as it is. -/

namespace Sys2Proof.Machine

/-- Burst_Profile (R149). -/
def execBurstProfile (c : Chan) (s : State) : Host.Outcome State Fault Refusal :=
  next (s.served c fun s w => match w.msg.body with
    | .burstProfile idx p => some (s.serveAll c w inO1toO6or89 fun s v => s.putProfile c idx p v)
    | _ => none)

/-- Assign_ONU-ID (Table VONU-3). -/
def execAssignOnuId (c : Chan) (s : State) : Host.Outcome State Fault Refusal :=
  next (s.served c fun s w => match w.msg.body with
    | .assignOnuId _ id => some (s.serveAll c w (· = .o23) fun s v => s.assignId c id v)
    | _ => none)

/-- Ranging_Time (R144, R147). -/
def execRangingTime (c : Chan) (s : State) : Host.Outcome State Fault Refusal :=
  next (s.served c fun s w => match w.msg.body with
    | .rangingTime value relative ack => some (s.serveAll c w inRanging fun s v => s.assignEqd c value relative ack w.arrived v)
    | _ => none)

/-- Deactivate_ONU-ID (Table VONU-3). -/
def execDeactivateOnuId (c : Chan) (s : State) : Host.Outcome State Fault Refusal :=
  next (s.served c fun s w => match w.msg.body with
    | .deactivateOnuId => some (s.serveAll c w inO23toO6or89 fun s v => s.deactivate c v)
    | _ => none)

/-- Disable_Serial_Number (R138). -/
def execDisableSerialNumber (c : Chan) (s : State) : Host.Outcome State Fault Refusal :=
  next (s.served c fun s w => match w.msg.body with
    | .disableSerialNumber sn disable => some (s.serialService c w sn disable)
    | _ => none)

/-- Request_Registration (Table VONU-5). -/
def execRequestRegistration (c : Chan) (s : State) : Host.Outcome State Fault Refusal :=
  next (s.served c fun s w => match w.msg.body with
    | .requestRegistration =>
      some (s.serveAll c w inRegistered fun s v => s.upPloam v c (.registration (s.vonuAt v).regId) w.arrived)
    | _ => none)

/-- Assign_Alloc-ID (R155). -/
def execAssignAllocId (c : Chan) (s : State) : Host.Outcome State Fault Refusal :=
  next (s.served c fun s w => match w.msg.body with
    | .assignAllocId id release => some (s.serveAll c w isO5 fun s v => s.assignAlloc c id release w.arrived v)
    | _ => none)

/-- Key_Control (R403). -/
def execKeyControl (c : Chan) (s : State) : Host.Outcome State Fault Refusal :=
  next (s.served c fun s w => match w.msg.body with
    | .keyControl k generate => some (s.serveAll c w isO5 fun s v => s.keyControlIn c k generate w.arrived v)
    | _ => none)

/-- Sleep_Allow (Table VONU-5). -/
def execSleepAllow (c : Chan) (s : State) : Host.Outcome State Fault Refusal :=
  next (s.served c fun s w => match w.msg.body with
    | .sleepAllow value ack => some (s.serveAll c w isO5 fun s v => s.sleepAllowIn c value ack w.arrived v)
    | _ => none)

/-- System_Profile: stored per channel (Table VONU-5). -/
def execSystemProfile (c : Chan) (s : State) : Host.Outcome State Fault Refusal :=
  next (s.served c fun s w => match w.msg.body with
    | .systemProfile content =>
      some (s.serveAll c w notIdle fun s _ => { s with vonu := { s.vonu with sysProfile := s.vonu.sysProfile.set c content } })
    | _ => none)

/-- Channel_Profile: stored per channel, used by tuning (Table VONU-5, R164). -/
def execChannelProfile (c : Chan) (s : State) : Host.Outcome State Fault Refusal :=
  next (s.served c fun s w => match w.msg.body with
    | .channelProfile id pair =>
      some (s.serveAll c w notIdle fun s _ =>
        { s with vonu := { s.vonu with chProfile := s.vonu.chProfile.set c (mput Pair.other (s.vonu.chProfile.get c) id.toNat pair) } })
    | _ => none)

/-- Tuning_Control (R164). -/
def execTuningControl (c : Chan) (s : State) : Host.Outcome State Fault Refusal :=
  next (s.served c fun s w => match w.msg.body with
    | .tuningControl id sfc => some (s.serveAll c w isO5 fun s v => s.tuningIn c id sfc w.arrived v)
    | _ => none)

/-- What the four messages that would change a shared laser have in common: completion code "parameter error". -/
def State.noLaserChange (s : State) (c : Chan) (w : PloamWait) : State :=
  s.serveAll c w isO5 fun s v => s.upPloam v c (.acknowledge .parameterError) w.arrived

/-- Protection_Control (Table VONU-5). -/
def execProtectionControl (c : Chan) (s : State) : Host.Outcome State Fault Refusal :=
  next (s.served c fun s w => if w.msg.body = .protectionControl then some (s.noLaserChange c w) else none)

/-- Change_Power_Level (Table VONU-5). -/
def execChangePowerLevel (c : Chan) (s : State) : Host.Outcome State Fault Refusal :=
  next (s.served c fun s w => if w.msg.body = .changePowerLevel then some (s.noLaserChange c w) else none)

/-- Adjust_Tx_Wavelength (Table VONU-5). -/
def execAdjustTxWavelength (c : Chan) (s : State) : Host.Outcome State Fault Refusal :=
  next (s.served c fun s w => if w.msg.body = .adjustTxWavelength then some (s.noLaserChange c w) else none)

/-- Calibration_Request (Table VONU-5). -/
def execCalibrationRequest (c : Chan) (s : State) : Host.Outcome State Fault Refusal :=
  next (s.served c fun s w => if w.msg.body = .calibrationRequest then some (s.noLaserChange c w) else none)

/-- A message type outside Table VONU-5 (R154). -/
def execUnknownPloamType (c : Chan) (s : State) : Host.Outcome State Fault Refusal :=
  next (s.served c fun s w => match w.msg.body with
    | .unknown _ => some (s.serveAll c w (fun _ => true) fun s v => s.upPloam v c (.acknowledge .unknownType) w.arrived)
    | _ => none)

/-- The superframe of an accepted tuning has come (R164 steps 1 to 4). -/
def execTuningSuperframe (v : BitVec 9) (s : State) : Host.Outcome State Fault Refusal :=
  next (s.tuningSuperframeIn v.toNat).finish

/-- The target channel of a tuning is in SYNC (R164 step 5). -/
def execTuningTargetSync (v : BitVec 9) (s : State) : Host.Outcome State Fault Refusal :=
  next ((s.tuneSynced v.toNat .a).tuneSynced v.toNat .b)

/-- TO1 expires in O4 (Table VONU-3). -/
def execTo1Expiry (c : Chan) (v : BitVec 9) (s : State) : Host.Outcome State Fault Refusal := next (s.timerExpiry c v.toNat .o4)

/-- TO2 expires in O6 (Table VONU-3). -/
def execTo2Expiry (c : Chan) (v : BitVec 9) (s : State) : Host.Outcome State Fault Refusal := next (s.timerExpiry c v.toNat .o6)

/-- TO4 expires in O8 (R164). -/
def execTo4Expiry (c : Chan) (v : BitVec 9) (s : State) : Host.Outcome State Fault Refusal := next (s.tuningExpiry c v.toNat .o8)

/-- TO5 expires in O9 (R164). -/
def execTo5Expiry (c : Chan) (v : BitVec 9) (s : State) : Host.Outcome State Fault Refusal := next (s.tuningExpiry c v.toNat .o9)

/-- A retiring vONU has released what it held (R131). -/
def execVonuRetired (v : BitVec 9) (s : State) : Host.Outcome State Fault Refusal :=
  next (if (s.vonuAt v.toNat).life = .retiring then (s.freeVonu v.toNat).finish else s)

/-- A whole OMCI message of a vONU's OMCC (R157, R158). -/
def execOmciDownstreamMessage (c : Chan) (v : BitVec 9) (msg : List Byte) (mic : BitVec 32) (s : State) :
    Host.Outcome State Fault Refusal :=
  next (if s.inSync c && (s.vonuAt v.toNat).enable.get c && (s.vch v.toNat c).onuId.isSome then s.omciRelay v.toNat c msg mic else s)

/-- A write of VONU_OMCI_RX_CONSUMER (R158). -/
def execOmciRxConsumerWrite (val : Word) (s : State) : Host.Outcome State Fault Refusal :=
  next (s.hostWords (addrOf 0x20 0x11) [val])

/-- A write of VONU_OMCI_TX (R159). -/
def execVonuOmciTx (words : List Word) (s : State) : Host.Outcome State Fault Refusal := next (s.hostWords (omciTxAddr 0) words)

/-- A write of VONU_FLOW_BIND (R163). -/
def execVonuFlowBind (f : BitVec 18) (val : Word) (s : State) : Host.Outcome State Fault Refusal :=
  next (s.hostWords (flowAddr f.toNat) [val])

end Sys2Proof.Machine
end

