-- ==== Sys2Proof/Machine/Pool.lean ====
section
/-! DEFINITION. The meanings of the buffer pools' commands (Buffer Pools and Memories, R276 to R297). -/

namespace Sys2Proof.Machine

/-- One PKT cycle's requests for cells (R277 to R279). -/
def execAllocRequest (reqs : List PoolReq) (s : State) : Host.Outcome State Fault Refusal := next (s.allocCycle reqs)

/-- FREE (R283, R284). -/
def execFree (cls : BitVec 6) (ptr : BitVec 40) (s : State) : Host.Outcome State Fault Refusal := next (s.cellFree cls ptr)

/-- TRANSFER (R282, R283). -/
def execTransfer (cls : BitVec 6) (ptr : BitVec 40) (newOwner : BitVec 6) (s : State) : Host.Outcome State Fault Refusal :=
  next (s.cellTransfer cls ptr newOwner)

/-- SHARE with the number of its sharers (R284). -/
def execShare (cls : BitVec 6) (ptr : BitVec 40) (n : Nat) (s : State) : Host.Outcome State Fault Refusal :=
  next (if n = 0 then s else s.cellShare cls ptr n)

/-- RELEASE: a sharer gives up its reference (R284). -/
def execRelease (cls : BitVec 6) (ptr : BitVec 40) (s : State) : Host.Outcome State Fault Refusal := next (s.cellFree cls ptr)

/-- An interface retrains, its temperature having changed by 10 °C (R290). [DEDUCED, safe: log 133] -/
def execDramRetrain (i : BitVec 2) (temp : BitVec 16) (s : State) : Host.Outcome State Fault Refusal :=
  next (if s.domOn 8 then s.dramReading i.toNat temp else s)

/-- The re-initialisation of a pool completes (R291). -/
def execPoolReinitComplete (p : Nat) (s : State) : Host.Outcome State Fault Refusal :=
  next (if (s.pool p).reinit then s.setPool p { s.pool p with reinit := false } else s)

/-- An interface's DRAM temperature crosses 85 °C (R289). [DEDUCED, safe: log 133] -/
def execRefreshRateChange (i : BitVec 2) (temp : BitVec 16) (s : State) : Host.Outcome State Fault Refusal :=
  next (if s.domOn 8 then s.dramReading i.toNat temp else s)

end Sys2Proof.Machine
end

