-- ==== Sys2Proof/Machine/Power.lean ====
section
/-! DEFINITION. The meanings of the commands of power domains, sleep, reset and boot (Power Domains, Reset and Start-Up). -/

namespace Sys2Proof.Machine

/-- 10 ms after its first rail fault a FAILED domain is retried (R457). -/
def State.railRetry (s : State) (d : Nat) : State :=
  if (s.dom d).retryOk && (s.dom d).st = .failed then (s.modDom d fun x => { x with retryOk := false }).domRetry d else s

/-- The boot watchdog expires: the bank that started is marked (R467). -/
def State.bootFails (s : State) : State :=
  let running := s.fw.banks.a.st = .running || s.fw.banks.b.st = .running
  if s.phase = .booting && running then
    let mark := s.fw.failedMark ||| BitVec.ofNat 2 (2 ^ b2n s.fw.runningBank)
    ({ s with fw := { s.fw with failedMark := mark } }).deviceReset 4 0 .internalReset
  else s

/-- Quiesce of a domain ends (R450, R459). -/
def execQuiesceEnd (d : Fin 13) (s : State) : Host.Outcome State Fault Refusal := next (s.quiesceEnd d.val).swapLost.finish

/-- The power die acknowledges its request (R455); it cannot while the PWRLINK clock has failed (Table FAULT-4). -/
def execPowerDieAck (s : State) : Host.Outcome State Fault Refusal :=
  next (if s.fault.clockGroups.getLsbD 9 then s else s.dieAck.finish)

/-- A domain's power-up completes (R451). -/
def execDomainResetRelease (d : Fin 13) (s : State) : Host.Outcome State Fault Refusal := next (s.domUp d.val).finish

/-- No acknowledgement within 200 µs (R456). -/
def execPowerDieTimeout (s : State) : Host.Outcome State Fault Refusal := next s.dieTimeout.swapLost.finish

/-- The automatic retry after a rail fault (R457). -/
def execRailFaultRetry (d : Fin 13) (s : State) : Host.Outcome State Fault Refusal := next (s.railRetry d.val).finish

/-- A RETRY write (R457). -/
def execDomainRetry (d : Fin 13) (s : State) : Host.Outcome State Fault Refusal := next (s.hostWords (addrOf 0x70 (0x20 + d.val)) [1])

/-- The wait after the reply of SLEEP or of a command reset ends (R459, R463). -/
def execSleepWaitEnd (s : State) : Host.Outcome State Fault Refusal := next s.waitEnds

/-- The port's address wakes the device (R460). -/
def execWakeAddressMatch (s : State) : Host.Outcome State Fault Refusal := next (if s.phase = .asleep then s.wakeAddress else s.wake 0)

/-- WAKE_N wakes the device (R460). -/
def execWakeN (s : State) : Host.Outcome State Fault Refusal := next s.wakeContact

/-- The AON timer wakes the device (R460). -/
def execAonTimerWake (s : State) : Host.Outcome State Fault Refusal := next (s.wake 2)

/-- VIN_12V below 10.2 V for 10 µs (R462). -/
def execPowerOnReset (s : State) : Host.Outcome State Fault Refusal := next (s.deviceReset 0 0 .inReset)

/-- RESET_N low for 50 SENSE cycles (R462). -/
def execResetNAssert (s : State) : Host.Outcome State Fault Refusal :=
  next (if s.phase = .inReset then s else s.deviceReset 1 0 .inReset)

/-- The release of RESET_N with the levels of its straps (R1 to R3, R463). -/
def execResetNRelease (modeSel : Bool) (madr : BitVec 3) (s : State) : Host.Outcome State Fault Refusal :=
  next (if s.phase = .inReset then ({ s with pins := { s.pins with modeSel, madr } }).release else s)

/-- MODE_SEL changes: nothing follows until the next reset (R4). -/
def execModeSelChange (v : Bool) (s : State) : Host.Outcome State Fault Refusal :=
  next { s with pins := { s.pins with modeSel := v } }

/-- A write of PWR_RESET_CTL (R462). [DESIGN CHOICE, safe: log 29] -/
def execCommandReset (val : Word) (s : State) : Host.Outcome State Fault Refusal :=
  let ws := wordsIn (addrOf 0x70 2) [val]
  let t := s.hostWrite .twi ws
  next (if s.hostAccepts .twi ws then t.deviceReset 2 0 .internalReset else t)

/-- The internal reset of 100 µs ends (R463). -/
def execInternalResetEnd (s : State) : Host.Outcome State Fault Refusal :=
  next (if s.phase = .internalReset then s.release else s)

/-- READY was not asserted within 2 s (R467). -/
def execBootWatchdogExpiry (s : State) : Host.Outcome State Fault Refusal := next s.bootFails

/-- READY (R469). -/
def execReadyAssert (s : State) : Host.Outcome State Fault Refusal := next s.readyLegacy.finish

end Sys2Proof.Machine
end

