-- ==== Sys2Proof/Machine/Queues.lean ====
section
/-! DEFINITION. The meanings of the queues', the scheduler's and the hatch lists' commands (Queues, Scheduling, Shaping and
Hatch Lists). -/

namespace Sys2Proof.Machine

/-- A classified packet is metered and admitted or dropped (R252, R254). -/
def execQueueAdmission (s : State) : Host.Outcome State Fault Refusal := next s.admitNext

/-- A node releases a packet (R245 to R249, R261 to R266). -/
def execNodeRelease (n : Nat) (s : State) : Host.Outcome State Fault Refusal := next (if n < 8836 then s.nodeRun n else s)

/-- A FLUSH write (R257). -/
def execFlush (q : BitVec 16) (s : State) : Host.Outcome State Fault Refusal :=
  next (s.hostWords (addrOf 0x38 1) [BitVec.ofNat 32 (q.toNat + 65536)])

/-- The flush completes (R257). -/
def execFlushComplete (s : State) : Host.Outcome State Fault Refusal := next { s with qs := { s.qs with flushing := none } }

/-- A committed copy reaches its start instant (R260). -/
def execHatchCopyStart (l : BitVec 6) (s : State) : Host.Outcome State Fault Refusal := next (s.hatchBegin l.toNat)

/-- The copy into the shadow completes (R260). -/
def execHatchStarted (l : BitVec 6) (s : State) : Host.Outcome State Fault Refusal := next (s.hatchCopied l.toNat)

/-- The running entry of a list changes (R258). -/
def execGateChange (l : BitVec 6) (s : State) : Host.Outcome State Fault Refusal := next (s.gateNow l.toNat)

/-- PD_PKT's configuration is restored (R237, R267). -/
def execPktConfigRestore (s : State) : Host.Outcome State Fault Refusal := next s.pktRestore

end Sys2Proof.Machine
end

