-- ==== Sys2Proof/Machine/Tick.lean ====
section
/-! DEFINITION. The meanings of the tick's commands (Clocks, the 125 µs Tick and the Work Budget). -/

namespace Sys2Proof.Machine

/-- TICK (R12 to R15): `interval` is the length of the interval in REF cycles where a channel has become the source. -/
def execTick (interval : Nat) (found : List Finding) (s : State) : Host.Outcome State Fault Refusal :=
  next (s.doTick interval found)

/-- REF_FALLBACK_TICK (R14). -/
def execRefFallbackTick (found : List Finding) (s : State) : Host.Outcome State Fault Refusal := next (s.doFallback found)

/-- WORK_WINDOW_CLOSE (R16, R17). -/
def execWorkWindowClose (cls : BitVec 4) (n : BitVec 64) (complete : Bool) (items : BitVec 24) (s : State) :
    Host.Outcome State Fault Refusal := next (s.windowClose cls.toNat n complete items)

/-- STIPPLE_COPY (R77, R79). -/
def execStippleCopy (complete : Bool) (s : State) : Host.Outcome State Fault Refusal := next (s.stippleCopy complete)

/-- STIPPLE_COPY_COMPLETE (R77). -/
def execStippleCopyComplete (s : State) : Host.Outcome State Fault Refusal := next s.stippleDone

/-- CFG_CRC_REWRITE (R428). -/
def execCfgCrcRewrite (block : Byte) (sixteenth : BitVec 4) (s : State) : Host.Outcome State Fault Refusal :=
  next (s.crcRewrite block sixteenth).finish

/-- CROSSING_DISTURBANCE (R22, R27). -/
def execCrossingDisturbance (group : BitVec 4) (index : BitVec 12) (diff : Byte) (s : State) : Host.Outcome State Fault Refusal :=
  next (s.crossingDisturbed group.toNat index.toNat diff.toNat)

/-- CROSSING_FIFO_FAULT (R25). -/
def execCrossingFifoFault (group : BitVec 4) (index : BitVec 12) (overflow : Bool) (s : State) :
    Host.Outcome State Fault Refusal := next (s.crossingFifo group.toNat index.toNat overflow)

/-- FIRMWARE_RESYNC (R28, R30). -/
def execFirmwareResync (group : BitVec 4) (s : State) : Host.Outcome State Fault Refusal := next (s.firmwareResync group)

end Sys2Proof.Machine
end

