-- ==== Sys2Proof/Machine/Time.lean ====
section
/-! DEFINITION. The meanings of the time block's commands (Time: the Stylus, Time-of-Day and PTP). -/

namespace Sys2Proof.Machine

/-- A WRITE of TIME_TOD_IN (R362). -/
def execTodInputWrite (c : Chan) (words : List Word) (s : State) : Host.Outcome State Fault Refusal :=
  next (s.hostWords (timeAddr (0x20 + 8 * chanN c)) words)

/-- A TOD_INPUT message on channel 641 (R362, R368). -/
def execTodInput (bytes : List Byte) (s : State) : Host.Outcome State Fault Refusal :=
  next (if s.alink.state = .active then s.todMessage bytes else s)

/-- The result of a time-of-day input (R363, R358). -/
def execTodResult (c : Chan) (s : State) : Host.Outcome State Fault Refusal := next (s.todNow c)

/-- The servo enters HOLDOVER (R358). -/
def execServoHoldover (s : State) : Host.Outcome State Fault Refusal := next s.servoHolds

/-- The equipment clock locks (R359). -/
def execEecLocked (s : State) : Host.Outcome State Fault Refusal := next s.eecLocks

/-- PPS_OUT rises (R369). -/
def execPpsOutEdge (s : State) : Host.Outcome State Fault Refusal := next s.ppsRises

/-- PPS_IN rises (R370); legacy mode ignores it (R479). -/
def execPpsInEdge (timeCount : BitVec 64) (s : State) : Host.Outcome State Fault Refusal :=
  next (if s.legacy then s else s.ppsIn timeCount)

/-- No edge of PPS_IN for 1.5 s (R370). -/
def execPpsInLoss (s : State) : Host.Outcome State Fault Refusal := next s.ppsLost

/-- A time-stamp descriptor leaves its queue (R366). -/
def execTsDescriptorDelivery (s : State) : Host.Outcome State Fault Refusal := next s.tsDeliver

/-- A write of TIME_TS_CONSUMER (Table TIME-7). -/
def execTsConsumerWrite (val : Word) (s : State) : Host.Outcome State Fault Refusal := next (s.hostWords (timeAddr 0x11) [val])

/-- PPS_OUT falls after PPS_WIDTH (R369). -/
def execPpsPulseEnd (s : State) : Host.Outcome State Fault Refusal := next s.ppsFalls

end Sys2Proof.Machine
end

