-- ==== Sys2Proof/WellFormed.lean ====
section
/-! DEFINITION. Well-formed commands: the operands that name a part of the device name one that it has, and the word
lists have the length of the object they are written to. A command that is not well formed describes nothing that can
happen at the device: its meaning leaves the state as it is. -/

namespace Sys2Proof

/-- The lanes of the Alanov Link: L0 to L8. -/
def linkLane (n : Nat) : Bool := n < 9

/-- A lane with a PRBS generator and checker: one of the link, or 0x100 + e for an Ethernet port (R325, R347). -/
def prbsLane (n : Nat) : Bool := n < 9 || (0x100 ≤ n && n < 0x104)

/-- The scheduler's nodes (Table QSCHED-2). -/
def isNode (n : Nat) : Bool := n < 8836

/-- The credit groups: four channels each, of 648 channels (R317). -/
def creditGroup (g : Nat) : Bool := g < 162

/-- The pools that exist: P0 to P6 and P8 to P11 (Table BPM-3). -/
def isPool (p : Nat) : Bool := p < 7 || (8 ≤ p && p < 12)

/-- A payload that LENGTH can count (R45). -/
def Req.wf (r : Req) : Bool := r.payload.length ≤ 4080

/-- A request names a pool number; P7, which no pool is, can be named (R275). -/
def PoolReq.wf (r : PoolReq) : Bool :=
  match r.want with
  | .size _ => true
  | .pool p => p < 12

/-- The parts of an uncorrectable memory error that name what the device has. -/
def EccErr.wf (e : EccErr) : Bool := e.pool < 12

def Ctl.wf : Ctl → Bool
  | .receiver _ | .transmitter _ | .burin _ | .shadow _ | .activation _ _ | .link | .port _ => true
  | .allocator p => isPool p

/-- The operands that a command of the table can have; a constructor not named has no operand that could be wrong.
[DESIGN CHOICE, safe: log 3] -/
def Instr.wf : Instr → Bool
  | .read r | .write r | .modify r | .bulkRead r | .tableLoad r | .commitPlate r | .commitHatch r | .commitProfile r
  | .vonuCreate r | .vonuEnable r | .vonuRetire r | .subscribe r | .fetch r | .ack r | .vote r | .unvote r | .sleep r
  | .imageBegin r | .imageData r | .imageVerify r | .imageActivate r | .loopSet r | .prbsCtl r | .prbsRead r
  | .resync r | .servoMode r | .timeStep r | .timeRate r => r.wf
  | .laneBlockLock l | .lockLoss l => linkLane l
  | .alignBlock l b => linkLane l && b.bipErrs ≤ 8
  | .prbsCheckerSyncChange l _ => prbsLane l
  | .nodeRelease n => isNode n
  | .creditBlockReceived g _ _ _ _ | .creditLoss g => creditGroup g
  | .poolReinitComplete p => isPool p
  | .allocRequest l => l.all PoolReq.wf
  | .eccUncorrectable e => e.wf
  | .illegalState m => m.wf
  | .pfcFrameReceived _ _ q => q.length = 8
  | .todInputWrite _ ws => ws.length = 6
  | _ => true

end Sys2Proof
end

