-- ==== Sys2Proof/Machine/Dispatch.lean ====
section
/-! DEFINITION. The meaning of each command: one arm per constructor of `Instr`. -/

namespace Sys2Proof.Machine

def exec (i : Instr) (s : State) : Host.Outcome State Fault Refusal :=
  match i with
  | .read r => Sys2Proof.Machine.execRead r s
  | .write r => Sys2Proof.Machine.execWrite r s
  | .modify r => Sys2Proof.Machine.execModify r s
  | .bulkRead r => Sys2Proof.Machine.execBulkRead r s
  | .tableLoad r => Sys2Proof.Machine.execTableLoad r s
  | .objectWordWrite addr val => Sys2Proof.Machine.execObjectWordWrite addr val s
  | .commitPlate r => Sys2Proof.Machine.execCommitPlate r s
  | .commitHatch r => Sys2Proof.Machine.execCommitHatch r s
  | .commitProfile r => Sys2Proof.Machine.execCommitProfile r s
  | .vonuCreate r => Sys2Proof.Machine.execVonuCreate r s
  | .vonuEnable r => Sys2Proof.Machine.execVonuEnable r s
  | .vonuRetire r => Sys2Proof.Machine.execVonuRetire r s
  | .subscribe r => Sys2Proof.Machine.execSubscribe r s
  | .fetch r => Sys2Proof.Machine.execFetch r s
  | .ack r => Sys2Proof.Machine.execAck r s
  | .vote r => Sys2Proof.Machine.execVote r s
  | .unvote r => Sys2Proof.Machine.execUnvote r s
  | .sleep r => Sys2Proof.Machine.execSleep r s
  | .imageBegin r => Sys2Proof.Machine.execImageBegin r s
  | .imageData r => Sys2Proof.Machine.execImageData r s
  | .imageVerify r => Sys2Proof.Machine.execImageVerify r s
  | .imageActivate r => Sys2Proof.Machine.execImageActivate r s
  | .loopSet r => Sys2Proof.Machine.execLoopSet r s
  | .prbsCtl r => Sys2Proof.Machine.execPrbsCtl r s
  | .prbsRead r => Sys2Proof.Machine.execPrbsRead r s
  | .resync r => Sys2Proof.Machine.execResync r s
  | .servoMode r => Sys2Proof.Machine.execServoMode r s
  | .timeStep r => Sys2Proof.Machine.execTimeStep r s
  | .timeRate r => Sys2Proof.Machine.execTimeRate r s
  | .twiWriteTransaction target bytes => Sys2Proof.Machine.execTwiWriteTransaction target bytes s
  | .twiReadTransaction target count => Sys2Proof.Machine.execTwiReadTransaction target count s
  | .twiBusRecovery => Sys2Proof.Machine.execTwiBusRecovery s
  | .twiWriteAbandoned => Sys2Proof.Machine.execTwiWriteAbandoned s
  | .managementFrame bytes => Sys2Proof.Machine.execManagementFrame bytes s
  | .interimReply t seq => Sys2Proof.Machine.execInterimReply t seq s
  | .chainTimeout t => Sys2Proof.Machine.execChainTimeout t s
  | .atTickEffect => Sys2Proof.Machine.execAtTickEffect s
  | .tickBoundEffect => Sys2Proof.Machine.execTickBoundEffect s
  | .tick interval found => Sys2Proof.Machine.execTick interval found s
  | .refFallbackTick found => Sys2Proof.Machine.execRefFallbackTick found s
  | .workWindowClose cls n complete items => Sys2Proof.Machine.execWorkWindowClose cls n complete items s
  | .stippleCopy complete => Sys2Proof.Machine.execStippleCopy complete s
  | .stippleCopyComplete => Sys2Proof.Machine.execStippleCopyComplete s
  | .cfgCrcRewrite block sixteenth => Sys2Proof.Machine.execCfgCrcRewrite block sixteenth s
  | .crossingDisturbance group index diff => Sys2Proof.Machine.execCrossingDisturbance group index diff s
  | .crossingFifoFault group index overflow => Sys2Proof.Machine.execCrossingFifoFault group index overflow s
  | .firmwareResync group => Sys2Proof.Machine.execFirmwareResync group s
  | .chRestart c => Sys2Proof.Machine.execChRestart c s
  | .resetEq c => Sys2Proof.Machine.execResetEq c s
  | .chEnable c => Sys2Proof.Machine.execChEnable c s
  | .chDisable c => Sys2Proof.Machine.execChDisable c s
  | .cdrLock c => Sys2Proof.Machine.execCdrLock c s
  | .cdrLockLoss c => Sys2Proof.Machine.execCdrLockLoss c s
  | .cdrRelockTimeout c => Sys2Proof.Machine.execCdrRelockTimeout c s
  | .psbdSighting c pos errs sfc => Sys2Proof.Machine.execPsbdSighting c pos errs sfc s
  | .candidatePredictedPsbd c pos f => Sys2Proof.Machine.execCandidatePredictedPsbd c pos f s
  | .downstreamFrame c f => Sys2Proof.Machine.execDownstreamFrame c f s
  | .xgemFrameReceived c x => Sys2Proof.Machine.execXgemFrameReceived c x s
  | .xgemReassemblyTimeout c port => Sys2Proof.Machine.execXgemReassemblyTimeout c port s
  | .losAssert c => Sys2Proof.Machine.execLosAssert c s
  | .losClear c => Sys2Proof.Machine.execLosClear c s
  | .channelLossTimeout c => Sys2Proof.Machine.execChannelLossTimeout c s
  | .sdSfWindowEnd c => Sys2Proof.Machine.execSdSfWindowEnd c s
  | .eqConvergedChange c v => Sys2Proof.Machine.execEqConvergedChange c v s
  | .tecLockChange c v => Sys2Proof.Machine.execTecLockChange c v s
  | .tecFault e => Sys2Proof.Machine.execTecFault e s
  | .monitorSample c m => Sys2Proof.Machine.execMonitorSample c m s
  | .burstProfile c => Sys2Proof.Machine.execBurstProfile c s
  | .assignOnuId c => Sys2Proof.Machine.execAssignOnuId c s
  | .rangingTime c => Sys2Proof.Machine.execRangingTime c s
  | .deactivateOnuId c => Sys2Proof.Machine.execDeactivateOnuId c s
  | .disableSerialNumber c => Sys2Proof.Machine.execDisableSerialNumber c s
  | .requestRegistration c => Sys2Proof.Machine.execRequestRegistration c s
  | .assignAllocId c => Sys2Proof.Machine.execAssignAllocId c s
  | .keyControl c => Sys2Proof.Machine.execKeyControl c s
  | .sleepAllow c => Sys2Proof.Machine.execSleepAllow c s
  | .systemProfile c => Sys2Proof.Machine.execSystemProfile c s
  | .channelProfile c => Sys2Proof.Machine.execChannelProfile c s
  | .tuningControl c => Sys2Proof.Machine.execTuningControl c s
  | .protectionControl c => Sys2Proof.Machine.execProtectionControl c s
  | .changePowerLevel c => Sys2Proof.Machine.execChangePowerLevel c s
  | .adjustTxWavelength c => Sys2Proof.Machine.execAdjustTxWavelength c s
  | .calibrationRequest c => Sys2Proof.Machine.execCalibrationRequest c s
  | .unknownPloamType c => Sys2Proof.Machine.execUnknownPloamType c s
  | .tuningSuperframe v => Sys2Proof.Machine.execTuningSuperframe v s
  | .tuningTargetSync v => Sys2Proof.Machine.execTuningTargetSync v s
  | .to1Expiry c v => Sys2Proof.Machine.execTo1Expiry c v s
  | .to2Expiry c v => Sys2Proof.Machine.execTo2Expiry c v s
  | .to4Expiry c v => Sys2Proof.Machine.execTo4Expiry c v s
  | .to5Expiry c v => Sys2Proof.Machine.execTo5Expiry c v s
  | .vonuRetired v => Sys2Proof.Machine.execVonuRetired v s
  | .omciDownstreamMessage c v msg mic => Sys2Proof.Machine.execOmciDownstreamMessage c v msg mic s
  | .omciRxConsumerWrite val => Sys2Proof.Machine.execOmciRxConsumerWrite val s
  | .vonuOmciTx words => Sys2Proof.Machine.execVonuOmciTx words s
  | .vonuFlowBind f val => Sys2Proof.Machine.execVonuFlowBind f val s
  | .bwmapPartition c structs inTime decodeTime => Sys2Proof.Machine.execBwmapPartition c structs inTime decodeTime s
  | .shadowPartitionDecode c structs inTime => Sys2Proof.Machine.execShadowPartitionDecode c structs inTime s
  | .snapshotComplete => Sys2Proof.Machine.execSnapshotComplete s
  | .burstAssembly c => Sys2Proof.Machine.execBurstAssembly c s
  | .commitDeadline c => Sys2Proof.Machine.execCommitDeadline c s
  | .burstStart c => Sys2Proof.Machine.execBurstStart c s
  | .burstEnd c => Sys2Proof.Machine.execBurstEnd c s
  | .refillFrameStaged n => Sys2Proof.Machine.execRefillFrameStaged n s
  | .guardDisagreement c snEpisode => Sys2Proof.Machine.execGuardDisagreement c snEpisode s
  | .lightCheckTrip c => Sys2Proof.Machine.execLightCheckTrip c s
  | .biasSwitchClose c => Sys2Proof.Machine.execBiasSwitchClose c s
  | .twinRewrite c => Sys2Proof.Machine.execTwinRewrite c s
  | .twinReload c => Sys2Proof.Machine.execTwinReload c s
  | .rearm c => Sys2Proof.Machine.execRearm c s
  | .testTrip c => Sys2Proof.Machine.execTestTrip c s
  | .classifierFirstPass kind index => Sys2Proof.Machine.execClassifierFirstPass kind index s
  | .decap => Sys2Proof.Machine.execDecap s
  | .macsecVerify e => Sys2Proof.Machine.execMacsecVerify e s
  | .classifierSecondPass => Sys2Proof.Machine.execClassifierSecondPass s
  | .plateSwap => Sys2Proof.Machine.execPlateSwap s
  | .plateRetired => Sys2Proof.Machine.execPlateRetired s
  | .copyActive => Sys2Proof.Machine.execCopyActive s
  | .copyDone => Sys2Proof.Machine.execCopyDone s
  | .fragExpired => Sys2Proof.Machine.execFragExpired s
  | .fragCarriedDiscard => Sys2Proof.Machine.execFragCarriedDiscard s
  | .ruleEntryRepair plate e => Sys2Proof.Machine.execRuleEntryRepair plate e s
  | .queueAdmission => Sys2Proof.Machine.execQueueAdmission s
  | .nodeRelease n => Sys2Proof.Machine.execNodeRelease n s
  | .flush q => Sys2Proof.Machine.execFlush q s
  | .flushComplete => Sys2Proof.Machine.execFlushComplete s
  | .hatchCopyStart l => Sys2Proof.Machine.execHatchCopyStart l s
  | .hatchStarted l => Sys2Proof.Machine.execHatchStarted l s
  | .gateChange l => Sys2Proof.Machine.execGateChange l s
  | .pktConfigRestore => Sys2Proof.Machine.execPktConfigRestore s
  | .allocRequest reqs => Sys2Proof.Machine.execAllocRequest reqs s
  | .free cls ptr => Sys2Proof.Machine.execFree cls ptr s
  | .transfer cls ptr newOwner => Sys2Proof.Machine.execTransfer cls ptr newOwner s
  | .share cls ptr n => Sys2Proof.Machine.execShare cls ptr n s
  | .release cls ptr => Sys2Proof.Machine.execRelease cls ptr s
  | .dramRetrain n temp => Sys2Proof.Machine.execDramRetrain n temp s
  | .laneBlockLock lane => Sys2Proof.Machine.execLaneBlockLock lane s
  | .lockLoss lane => Sys2Proof.Machine.execLockLoss lane s
  | .alignBlock lane blk => Sys2Proof.Machine.execAlignBlock lane blk s
  | .alinkRetrain => Sys2Proof.Machine.execAlinkRetrain s
  | .alinkRepair k => Sys2Proof.Machine.execAlinkRepair k s
  | .alinkRestore => Sys2Proof.Machine.execAlinkRestore s
  | .arxcValid => Sys2Proof.Machine.execArxcValid s
  | .arxcLoss => Sys2Proof.Machine.execArxcLoss s
  | .clockStateTimeout => Sys2Proof.Machine.execClockStateTimeout s
  | .adaptDone => Sys2Proof.Machine.execAdaptDone s
  | .lockStateEnd => Sys2Proof.Machine.execLockStateEnd s
  | .deskewDone => Sys2Proof.Machine.execDeskewDone s
  | .deskewTimeout => Sys2Proof.Machine.execDeskewTimeout s
  | .waitPeerTimeout => Sys2Proof.Machine.execWaitPeerTimeout s
  | .failedRetry => Sys2Proof.Machine.execFailedRetry s
  | .alanovFrameReceived f => Sys2Proof.Machine.execAlanovFrameReceived f s
  | .creditBlockReceived group l0 l1 l2 l3 => Sys2Proof.Machine.execCreditBlockReceived group l0 l1 l2 l3 s
  | .calendarRound => Sys2Proof.Machine.execCalendarRound s
  | .creditLoss group => Sys2Proof.Machine.execCreditLoss group s
  | .cesLateDrop k => Sys2Proof.Machine.execCesLateDrop k s
  | .ethRestart e => Sys2Proof.Machine.execEthRestart e s
  | .ethRerate e val => Sys2Proof.Machine.execEthRerate e val s
  | .kr4Change v => Sys2Proof.Machine.execKr4Change v s
  | .anComplete e fec => Sys2Proof.Machine.execAnComplete e fec s
  | .trainingComplete e => Sys2Proof.Machine.execTrainingComplete e s
  | .trainingFailed e => Sys2Proof.Machine.execTrainingFailed e s
  | .ethLinkUp e skew => Sys2Proof.Machine.execEthLinkUp e skew s
  | .linkWaitTimeout e => Sys2Proof.Machine.execLinkWaitTimeout e s
  | .ethLinkDown e => Sys2Proof.Machine.execEthLinkDown e s
  | .ethFrameReceived e bytes fcsOk timeCount => Sys2Proof.Machine.execEthFrameReceived e bytes fcsOk timeCount s
  | .pauseFrameReceived e quanta => Sys2Proof.Machine.execPauseFrameReceived e quanta s
  | .pfcFrameReceived e vec quanta => Sys2Proof.Machine.execPfcFrameReceived e vec quanta s
  | .pauseHoldExpiry e prio => Sys2Proof.Machine.execPauseHoldExpiry e prio s
  | .pauseRepeat e => Sys2Proof.Machine.execPauseRepeat e s
  | .lpiEntry e => Sys2Proof.Machine.execLpiEntry e s
  | .lpiExit e => Sys2Proof.Machine.execLpiExit e s
  | .lldpTransmit e => Sys2Proof.Machine.execLldpTransmit e s
  | .lldpduReceived e partnerRxTw => Sys2Proof.Machine.execLldpduReceived e partnerRxTw s
  | .todInputWrite c words => Sys2Proof.Machine.execTodInputWrite c words s
  | .todInput bytes => Sys2Proof.Machine.execTodInput bytes s
  | .todResult c => Sys2Proof.Machine.execTodResult c s
  | .servoHoldover => Sys2Proof.Machine.execServoHoldover s
  | .eecLocked => Sys2Proof.Machine.execEecLocked s
  | .ppsOutEdge => Sys2Proof.Machine.execPpsOutEdge s
  | .ppsInEdge timeCount => Sys2Proof.Machine.execPpsInEdge timeCount s
  | .ppsInLoss => Sys2Proof.Machine.execPpsInLoss s
  | .tsDescriptorDelivery => Sys2Proof.Machine.execTsDescriptorDelivery s
  | .tsConsumerWrite val => Sys2Proof.Machine.execTsConsumerWrite val s
  | .slotStreamFrame k bytes => Sys2Proof.Machine.execSlotStreamFrame k bytes s
  | .cesSsLoss k => Sys2Proof.Machine.execCesSsLoss k s
  | .cesPacketBuild k => Sys2Proof.Machine.execCesPacketBuild k s
  | .pwPacketReceived k => Sys2Proof.Machine.execPwPacketReceived k s
  | .jbStartTimer k => Sys2Proof.Machine.execJbStartTimer k s
  | .playoutPosition k => Sys2Proof.Machine.execPlayoutPosition k s
  | .cesLops k => Sys2Proof.Machine.execCesLops k s
  | .cesSlip k drop => Sys2Proof.Machine.execCesSlip k drop s
  | .slotStreamFrameSend k => Sys2Proof.Machine.execSlotStreamFrameSend k s
  | .tributaryEnable k => Sys2Proof.Machine.execTributaryEnable k s
  | .tributaryDisable k => Sys2Proof.Machine.execTributaryDisable k s
  | .keyLoadErase slot => Sys2Proof.Machine.execKeyLoadErase slot s
  | .keyLoadMsk slot material => Sys2Proof.Machine.execKeyLoadMsk slot material s
  | .keyLoadBroadcast slot v c material => Sys2Proof.Machine.execKeyLoadBroadcast slot v c material s
  | .keyLoadMacsec slot material => Sys2Proof.Machine.execKeyLoadMacsec slot material s
  | .keySoftLimit slot => Sys2Proof.Machine.execKeySoftLimit slot s
  | .keyRetired slot => Sys2Proof.Machine.execKeyRetired slot s
  | .eraseAll => Sys2Proof.Machine.execEraseAll s
  | .keyStoreAlarm source => Sys2Proof.Machine.execKeyStoreAlarm source s
  | .rngFault => Sys2Proof.Machine.execRngFault s
  | .reseedRetry pass => Sys2Proof.Machine.execReseedRetry pass s
  | .drypointOpened => Sys2Proof.Machine.execDrypointOpened s
  | .bscanActive x => Sys2Proof.Machine.execBscanActive x s
  | .trstNAssert => Sys2Proof.Machine.execTrstNAssert s
  | .fuseArm val => Sys2Proof.Machine.execFuseArm val s
  | .fuseBlow t val => Sys2Proof.Machine.execFuseBlow t val s
  | .eccUncorrectable e => Sys2Proof.Machine.execEccUncorrectable e s
  | .goldenRewrite => Sys2Proof.Machine.execGoldenRewrite s
  | .lockstepMismatch service => Sys2Proof.Machine.execLockstepMismatch service s
  | .corePairResume service => Sys2Proof.Machine.execCorePairResume service s
  | .clockFault group permille ports => Sys2Proof.Machine.execClockFault group permille ports s
  | .clockFaultClear group => Sys2Proof.Machine.execClockFaultClear group s
  | .burstClockActivityLoss c => Sys2Proof.Machine.execBurstClockActivityLoss c s
  | .railFault d => Sys2Proof.Machine.execRailFault d s
  | .railFaultClear d => Sys2Proof.Machine.execRailFaultClear d s
  | .safeStateReset => Sys2Proof.Machine.execSafeStateReset s
  | .illegalState m => Sys2Proof.Machine.execIllegalState m s
  | .operatingConditionsChange now => Sys2Proof.Machine.execOperatingConditionsChange now s
  | .handoverPhaseStart => Sys2Proof.Machine.execHandoverPhaseStart s
  | .handoverSelfTestPass => Sys2Proof.Machine.execHandoverSelfTestPass s
  | .handoverFailure => Sys2Proof.Machine.execHandoverFailure s
  | .quiesceEnd d => Sys2Proof.Machine.execQuiesceEnd d s
  | .powerDieAck => Sys2Proof.Machine.execPowerDieAck s
  | .domainResetRelease d => Sys2Proof.Machine.execDomainResetRelease d s
  | .powerDieTimeout => Sys2Proof.Machine.execPowerDieTimeout s
  | .railFaultRetry d => Sys2Proof.Machine.execRailFaultRetry d s
  | .domainRetry d => Sys2Proof.Machine.execDomainRetry d s
  | .sleepWaitEnd => Sys2Proof.Machine.execSleepWaitEnd s
  | .wakeAddressMatch => Sys2Proof.Machine.execWakeAddressMatch s
  | .wakeN => Sys2Proof.Machine.execWakeN s
  | .aonTimerWake => Sys2Proof.Machine.execAonTimerWake s
  | .powerOnReset => Sys2Proof.Machine.execPowerOnReset s
  | .resetNAssert => Sys2Proof.Machine.execResetNAssert s
  | .resetNRelease modeSel madr => Sys2Proof.Machine.execResetNRelease modeSel madr s
  | .modeSelChange v => Sys2Proof.Machine.execModeSelChange v s
  | .commandReset val => Sys2Proof.Machine.execCommandReset val s
  | .internalResetEnd => Sys2Proof.Machine.execInternalResetEnd s
  | .bootWatchdogExpiry => Sys2Proof.Machine.execBootWatchdogExpiry s
  | .readyAssert => Sys2Proof.Machine.execReadyAssert s
  | .legacyCommandTransaction bytes => Sys2Proof.Machine.execLegacyCommandTransaction bytes s
  | .legacyReadTransaction count => Sys2Proof.Machine.execLegacyReadTransaction count s
  | .pacingRelease => Sys2Proof.Machine.execPacingRelease s
  | .getIdentity tag => Sys2Proof.Machine.execGetIdentity tag s
  | .getStatus tag => Sys2Proof.Machine.execGetStatus tag s
  | .reset tag => Sys2Proof.Machine.execReset tag s
  | .getTemperature tag => Sys2Proof.Machine.execGetTemperature tag s
  | .setAlarmMask tag mask => Sys2Proof.Machine.execSetAlarmMask tag mask s
  | .getAlarms tag => Sys2Proof.Machine.execGetAlarms tag s
  | .clearAlarms tag => Sys2Proof.Machine.execClearAlarms tag s
  | .getVersion tag => Sys2Proof.Machine.execGetVersion tag s
  | .setSerial tag sn => Sys2Proof.Machine.execSetSerial tag sn s
  | .getSerial tag => Sys2Proof.Machine.execGetSerial tag s
  | .setRegId tag regId => Sys2Proof.Machine.execSetRegId tag regId s
  | .enablePon tag => Sys2Proof.Machine.execEnablePon tag s
  | .disablePon tag => Sys2Proof.Machine.execDisablePon tag s
  | .getOnuState tag => Sys2Proof.Machine.execGetOnuState tag s
  | .getOnuId tag => Sys2Proof.Machine.execGetOnuId tag s
  | .getEqd tag => Sys2Proof.Machine.execGetEqd tag s
  | .getOptical tag => Sys2Proof.Machine.execGetOptical tag s
  | .setTxEnable tag on => Sys2Proof.Machine.execSetTxEnable tag on s
  | .getFecStats tag clear => Sys2Proof.Machine.execGetFecStats tag clear s
  | .omciRxFetch tag => Sys2Proof.Machine.execOmciRxFetch tag s
  | .omciTx tag msg => Sys2Proof.Machine.execOmciTx tag msg s
  | .omciStatus tag => Sys2Proof.Machine.execOmciStatus tag s
  | .setMsk tag msk => Sys2Proof.Machine.execSetMsk tag msk s
  | .addGemPort tag index port => Sys2Proof.Machine.execAddGemPort tag index port s
  | .delGemPort tag index => Sys2Proof.Machine.execDelGemPort tag index s
  | .getGemPort tag index => Sys2Proof.Machine.execGetGemPort tag index s
  | .mapTcont tag index allocId => Sys2Proof.Machine.execMapTcont tag index allocId s
  | .unmapTcont tag index => Sys2Proof.Machine.execUnmapTcont tag index s
  | .getTcont tag index => Sys2Proof.Machine.execGetTcont tag index s
  | .setTcontQueue tag index queue => Sys2Proof.Machine.execSetTcontQueue tag index queue s
  | .getGemCounters tag index clear => Sys2Proof.Machine.execGetGemCounters tag index clear s
  | .addRule tag index words => Sys2Proof.Machine.execAddRule tag index words s
  | .delRule tag index => Sys2Proof.Machine.execDelRule tag index s
  | .getRule tag index => Sys2Proof.Machine.execGetRule tag index s
  | .clearRules tag => Sys2Proof.Machine.execClearRules tag s
  | .setDefaultAction tag kind words => Sys2Proof.Machine.execSetDefaultAction tag kind words s
  | .getRuleCounters tag index clear => Sys2Proof.Machine.execGetRuleCounters tag index clear s
  | .setMeter tag index words => Sys2Proof.Machine.execSetMeter tag index words s
  | .getMeter tag index => Sys2Proof.Machine.execGetMeter tag index s
  | .setQueue tag index words => Sys2Proof.Machine.execSetQueue tag index words s
  | .getQueue tag index => Sys2Proof.Machine.execGetQueue tag index s
  | .setShaper tag node rate burst => Sys2Proof.Machine.execSetShaper tag node rate burst s
  | .getQueueCounters tag index clear => Sys2Proof.Machine.execGetQueueCounters tag index clear s
  | .setEthCfg tag val => Sys2Proof.Machine.execSetEthCfg tag val s
  | .getEthStatus tag => Sys2Proof.Machine.execGetEthStatus tag s
  | .getEthCounters tag clear => Sys2Proof.Machine.execGetEthCounters tag clear s
  | .setPause tag words => Sys2Proof.Machine.execSetPause tag words s
  | .setMacAddr tag mac => Sys2Proof.Machine.execSetMacAddr tag mac s
  | .getTod tag => Sys2Proof.Machine.execGetTod tag s
  | .setTod tag seconds ns => Sys2Proof.Machine.execSetTod tag seconds ns s
  | .setPps tag val => Sys2Proof.Machine.execSetPps tag val s
  | .setTodSf tag sfc seconds ns teqd => Sys2Proof.Machine.execSetTodSf tag sfc seconds ns teqd s
  | .fwBegin tag length => Sys2Proof.Machine.execFwBegin tag length s
  | .fwData tag offset bytes => Sys2Proof.Machine.execFwData tag offset bytes s
  | .fwActivate tag => Sys2Proof.Machine.execFwActivate tag s
  | .factoryCal tag => Sys2Proof.Machine.execFactoryCal tag s
  | .factoryTest tag => Sys2Proof.Machine.execFactoryTest tag s
  | .factoryFuse tag => Sys2Proof.Machine.execFactoryFuse tag s
  | .identify tag => Sys2Proof.Machine.execIdentify tag s
  | .pacingOff tag => Sys2Proof.Machine.execPacingOff tag s
  | .pacingOn tag => Sys2Proof.Machine.execPacingOn tag s
  | .txPermitWrite c v => Sys2Proof.Machine.execTxPermitWrite c v s
  | .biasCalibrated c => Sys2Proof.Machine.execBiasCalibrated c s
  | .ethPortEnableWrite e enable hold => Sys2Proof.Machine.execEthPortEnableWrite e enable hold s
  | .alinkEnableWrite enable hold => Sys2Proof.Machine.execAlinkEnableWrite enable hold s
  | .receiveLpiChange e v => Sys2Proof.Machine.execReceiveLpiChange e v s
  | .prbsCheckerSyncChange lane v => Sys2Proof.Machine.execPrbsCheckerSyncChange lane v s
  | .fuseArmExpiry => Sys2Proof.Machine.execFuseArmExpiry s
  | .alarmSourceCleared source => Sys2Proof.Machine.execAlarmSourceCleared source s
  | .poolReinitComplete p => Sys2Proof.Machine.execPoolReinitComplete p s
  | .refreshRateChange n temp => Sys2Proof.Machine.execRefreshRateChange n temp s
  | .ppsPulseEnd => Sys2Proof.Machine.execPpsPulseEnd s
  | .commandCompletion t seq => Sys2Proof.Machine.execCommandCompletion t seq s

end Sys2Proof.Machine
end

