-- ==== Sys2Proof/Machine/Contacts.lean ====
section
/-! DEFINITION. The levels of the output contacts, as functions of the state (R74, R360, R369, R433, R468, R469, R479, R491,
R502). -/

namespace Sys2Proof.Machine

/-- READY is high (R469), which legacy mode holds low (R479). [DEDUCED, unsafe: log 164] -/
def State.readyHigh (s : State) : Bool := s.phase = .ready && s.domOn 1 && !s.legacy

/-- An unmasked bit of the alarm word is set (R491). [DEDUCED, unsafe: log 110] -/
def State.alarmUnmasked (s : State) : Bool := BitVec.ofNat 32 s.alarmWord.1 &&& ~~~s.leg.alarmMask ≠ 0

/-- ALARM_N is driven low: in safe state (R433), in recovery (R468), in legacy mode by the alarm word (R491), and else by its
pending count (R74); PD_MGMT's own drivers are released with it (Table PWR-3). [DEDUCED, unsafe: log 164] -/
def State.alarmLow (s : State) : Bool :=
  s.phase = .safe || s.phase = .recovery || (s.domOn 1 && (if s.legacy then s.phase = .ready && s.alarmUnmasked else s.ev.alarm ≠ 0))

/-- ATTN_N is driven low by its pending count (R74), and released in legacy mode (R479). [DEDUCED, unsafe: log 164] -/
def State.attnLow (s : State) : Bool := s.domOn 1 && !s.legacy && s.ev.attn ≠ 0

/-- The levels of the output contacts other than the data lanes. -/
structure Contacts where
  ready : Bool
  alarmLow : Bool
  attnLow : Bool
  pps : Bool
  clk10m : Bool
  synceHz : Nat
deriving DecidableEq, Repr

def State.contacts (s : State) : Contacts :=
  { ready := s.readyHigh, alarmLow := s.alarmLow, attnLow := s.attnLow, pps := s.ppsLevel, clk10m := s.clk10mRuns, synceHz := s.synceHz }

end Sys2Proof.Machine
end

