-- ==== Sys2Proof/Safety.lean ====
section
/-! DEFINITION. The terms in which claims about the block are made: what a command leaves alone, the conditions under
which a host command is taken and runs, words that only hold what was written, and the canonical form of the state. -/

namespace Sys2Proof.Machine

/-! ## What a command leaves alone -/

/-- The parts of the state that a frame speaks of. Reports and settling go on beside every command: the event ring and
its contacts, the log in MRAM, DEVICE_FAULT, the votes and states of domains, GUARANTEE and the count of free values are
no parts here, and `counters` leaves out the counts of domains (block 0x70) and of dropped log records. -/
inductive Zone
  | queue | phase | straps | device | fuses | words | counters | stipple | tick | commands | channels | vonus | bursts
  | classifier | queues | pools | link | ethernet | time | ces | keys | images | contacts | faults | lasting | legacySet
deriving DecidableEq, Repr

/-- What MRAM keeps beside its log: emergency stops, the preferred bank, pacing, the lifetime counters as written last and
the count of safe states. -/
def Mram.kept (m : Mram) : List Estop × Option Bool × Bool × Lifetimes × BitVec 64 :=
  (m.estops, m.prefBank, m.pacing, m.life, m.safeStates)

/-- Fault coverage, but for GUARANTEE. -/
def FaultSt.found (f : FaultSt) : FaultSt := { f with guarantee := false }

/-- The legacy command set's state, but for DEVICE_FAULT. -/
def LegacySt.served (x : LegacySt) : LegacySt := { x with deviceFault := false }

/-- A counter that reporting and settling may advance. -/
def sideCount (a : Nat) : Bool := a / 2 ^ 24 = 0x70 || a = addrOf 0x40 0x108

/-- A part is the same in two states. -/
def Zone.same (p : Zone) (s t : State) : Prop :=
  match p with
  | .queue => t.pending = s.pending
  | .phase => t.phase = s.phase
  | .straps => t.legacy = s.legacy ∧ t.pins = s.pins
  | .device => t.part = s.part
  | .fuses => t.fuses = s.fuses
  | .words => t.words = s.words
  | .counters => ∀ a, sideCount a = false → t.ctr a = s.ctr a
  | .stipple => t.stipple = s.stipple
  | .tick => t.tick = s.tick
  | .commands => t.cmd = s.cmd
  | .channels => t.chans = s.chans
  | .vonus => t.vonu = s.vonu
  | .bursts => t.burin = s.burin
  | .classifier => t.cls = s.cls
  | .queues => t.qs = s.qs
  | .pools => t.bpm = s.bpm
  | .link => t.alink = s.alink
  | .ethernet => t.eth = s.eth
  | .time => t.time = s.time
  | .ces => t.ces = s.ces
  | .keys => t.crypto = s.crypto
  | .images => t.fw = s.fw
  | .contacts => t.out = s.out
  | .faults => t.fault.found = s.fault.found
  | .lasting => t.mram.kept = s.mram.kept ∧ t.power.life = s.power.life
  | .legacySet => t.leg.served = s.leg.served

/-- Every part but those listed is the same. -/
def SameBut (l : List Zone) (s t : State) : Prop := ∀ p, p ∉ l → p.same s t

/-! ## Host commands -/

/-- A command on its own: its transport takes it and has room, its SEQUENCE is the next, it is not posted or chained (nor
held for a tick where `m` is 0; held for one where `m` is 8), the device is ready, and nothing waits that a reply would end. -/
structure Lone (s : State) (r : Req) (m : Byte) : Prop where
  takes : s.takes r.t = true
  room : s.inExecution r.t < 32
  seq : (s.port r.t).expected = none ∨ (s.port r.t).expected = some r.seq
  noChain : (s.port r.t).chain = []
  notRefused : (s.port r.t).chainRefused = false
  flags : r.flags &&& 0x0E = m
  ready : s.phase = .ready
  noWait : s.cmd.wait = none
  noOpen : ∀ h ∈ (s.port r.t).history, h.seq = r.seq → h.reply.isSome

/-- The state in which an accepted command is decided (R49, R50). -/
def State.accepted (s : State) (r : Req) : State :=
  s.modPort r.t fun q =>
    let past := q.history ++ [{ seq := r.seq, posted := false, interim := false, reply := none }]
    { q with expected := some (r.seq + 1), history := past.drop (past.length - 32) }

/-- The final reply that a state remembers for a transport's latest accepted command (R50). -/
def State.lastReply (s : State) (t : Transport) : Option Reply :=
  match (s.port t).history.getLast? with
  | some h => h.reply
  | none => none

/-- A command passes every check of Table CMD-3 at its acceptance (R54). -/
def State.passes (s : State) (op : Byte) (r : Req) : Prop := opCheck (s.accepted r) (s.accepted r) true 0 { op, r } = 0

/-- The final reply to the latest accepted command of a transport, as a state remembers it. -/
def Answers (t : State) (op : Byte) (r : Req) (status : Byte) (param : BitVec 32) (payload : List Byte) : Prop :=
  ∃ y, t.lastReply r.t = some y ∧ y.op = op ∧ y.seq = r.seq ∧ y.status = status ∧ y.param = param ∧ y.payload = payload

/-- The row of a host opcode. -/
def rowOf (op : Nat) (r : Req) : Option Instr :=
  match op with
  | 0x01 => some (.read r) | 0x02 => some (.write r) | 0x03 => some (.modify r) | 0x04 => some (.bulkRead r)
  | 0x05 => some (.tableLoad r) | 0x10 => some (.commitPlate r) | 0x11 => some (.commitHatch r)
  | 0x12 => some (.commitProfile r) | 0x20 => some (.vonuCreate r) | 0x21 => some (.vonuEnable r)
  | 0x22 => some (.vonuRetire r) | 0x30 => some (.subscribe r) | 0x31 => some (.fetch r) | 0x32 => some (.ack r)
  | 0x40 => some (.vote r) | 0x41 => some (.unvote r) | 0x42 => some (.sleep r) | 0x50 => some (.imageBegin r)
  | 0x51 => some (.imageData r) | 0x52 => some (.imageVerify r) | 0x53 => some (.imageActivate r)
  | 0x60 => some (.loopSet r) | 0x61 => some (.prbsCtl r) | 0x62 => some (.prbsRead r) | 0x6F => some (.resync r)
  | 0x70 => some (.servoMode r) | 0x71 => some (.timeStep r) | 0x72 => some (.timeRate r) | _ => none

/-- A word that holds what is written to it and does nothing else. -/
structure PlainWord (a : Nat) (f : Found) : Prop where
  named : nameOf a = some (.word f)
  stored : ∀ u, computed u a f = none
  alone : specialAt f = none
  quiet : ∀ u old new, applyWord u a f old new = u

/-- A two-wire write by a row that names one object is taken: the port takes commands, the device is ready, and writes from
the port are not disabled (R68). -/
def State.hostMay (s : State) : Prop := s.takes .twi = true ∧ s.phase = .ready ∧ s.cfgB (addrOf 0x01 0x10) 0 = true

/-- A word holds what a write leaves: the bits that can be written, as given, and the others as before. -/
def Stored (s t : State) (a : Nat) (v : Word) : Prop :=
  ∃ f, nameOf a = some (.word f) ∧ t.cfg a = (s.cfg a &&& ~~~f.mask) ||| (v &&& f.mask)

/-- The legacy port takes a command, and no edit of the rules waits for its plate (R482, R491). -/
def State.legacyFree (s : State) : Prop := s.legacy = true ∧ s.phase = .ready ∧ s.legacyTakes = true ∧ s.leg.editing = none

/-- A write beneath a legacy command is good in its values and in the state (R483). -/
def State.legacyWrites (s : State) (ws : List WordIn) : Prop := s.atRest.writeCheck .twi ws = 0 ∧ s.writeCheck .twi ws = 0

/-- A legacy command has been answered: its frame is readable, or withheld by pacing (R481, R490). -/
def Told (t : State) (tag : Byte) (a : LAns) : Prop :=
  t.leg.busy = false ∧ t.leg.tag = tag ∧
    (if t.mram.pacing then t.leg.paced = some (legacyFrame tag a) else t.leg.reply = legacyFrame tag a)

/-- A legacy command whose fields lie in the ranges of the WM-4410 interface does what the rest says, and one whose fields do not is
answered BAD_PARAM and does nothing (R483). -/
def Ranged (s t : State) (tag op : Byte) (fields : List Nat) (p : Prop) : Prop :=
  if fields = [] ∨ Config.legacyRange op fields = true then p else Told t tag (.err 4) ∧ SameBut [.legacySet] s t

/-- A PLOAM message waits at the head of a channel's queue for one vONU, with others behind it, and no timer of the vONU's has
come to its tick, so that none acts first (R134). -/
def Waits (s : State) (c : Chan) (v : BitVec 9) (w : PloamWait) (rest : List PloamWait) : Prop :=
  (s.ch c).ploamQ = w :: rest ∧ w.targets = [v] ∧ ∀ a, s.timerDue c v.toNat a = false

/-! ## The canonical form -/

/-- Every sparse map of the state is in canonical form: keys strictly rising, and no entry equal to what an unlisted key
reads as, so that equal contents are equal data. -/
structure State.canonical (s : State) : Prop where
  words : SMap.wfBy resetWord s.words = true
  counters : SMap.wf (0 : BitVec 64) s.counters.now = true
  mirror : SMap.wf EvRec.blank s.ev.mirror = true
  overruns : SMap.wf (0 : BitVec 32) s.tick.overrunCount = true
  reasm : ∀ c, SMap.wf (none : Option Partial) (s.ch c).reasm = true
  vonus : SMap.wf Vonu.none s.vonu.vonus = true
  alloc : SMap.wf (none : Option AllocE) s.vonu.alloc = true
  omciRing : SMap.wf (none : Option OmciMsg) s.vonu.omciRing = true
  chProfile : ∀ c, SMap.wf Pair.other (s.vonu.chProfile.get c) = true
  stage : SMap.wf Stage.none s.burin.stage = true
  queues : SMap.wf Queue.none s.qs.queues = true
  nodes : SMap.wf (none : Option Node) s.qs.nodes = true
  meters : SMap.wf (none : Option Meter) s.qs.meters = true
  cbs : SMap.wf (none : Option Cbs) s.qs.credits = true
  hatch : SMap.wf Hatch.none s.qs.hatch = true
  pools : SMap.wf Pool.none s.bpm.pools = true
  cells : ∀ p, SMap.wf Cell.free (s.pool p).cells = true
  lanes : SMap.wf Lane.reset s.alink.lanes = true
  credits : SMap.wf (none : Option Credit) s.alink.credits = true
  prbs : SMap.wf Prbs.off s.alink.prbs = true
  sentAlign : SMap.wf (none : Option AlignTx) s.alink.sentAlign = true
  ports : SMap.wf EthPort.reset s.eth.ports = true
  tsRing : SMap.wf ([] : List Byte) s.time.tsRing = true
  tribs : SMap.wf Trib.none s.ces.tribs = true
  jitter : ∀ k, SMap.wf (none : Option JPos) (s.trib k).jb = true
  waiting : SMap.wf ([] : List Packet) s.ces.rx = true
  slots : SMap.wf Slot.empty s.crypto.slots = true
  doms : SMap.wf Dom.off s.power.doms = true
  images : SMap.wf (0 : Byte) s.fw.banks.a.image = true ∧ SMap.wf (0 : Byte) s.fw.banks.b.image = true
  pages : SMap.wf 0 s.mram.pageWrites = true
  bases : SMap.wf (0 : BitVec 64) s.leg.bases = true
  tconts : SMap.wf (none : Option (BitVec 14)) s.leg.tconts = true

/-- The outcome of a step or a command is a next state, and what holds of it. -/
def Completes (i : Instr) (s : State) (p : State → Prop) : Prop := ∃ t, exec i s = .next t ∧ p t

end Sys2Proof.Machine
end

