-- ==== Sys2Proof/Certificates/Slice0/Obligations.lean ====
section
/-! DEFINITION. The statements about the model, for the provers. A statement that says what the spec says cites its rule;
one that rests on the model's own choice says so and names the log entry. `Completes i s p`: the command `i` at `s` answers
a next state of which `p` holds. `SameBut l s t`: every part of the state but those listed is unchanged. -/

open Sys2Proof Sys2Proof.Machine

/-- A step takes the command at the front of the queue and runs it on the state with the rest of the queue; on an empty queue
the block idles. DESIGN CHOICE (log 1): the queue is the model's own. -/
def Obligations.StepRunsFront : Prop :=
  (∀ (c : Instr) (rest : List Instr) (s : State), s.pending = c :: rest → step s = exec c { s with pending := rest }) ∧
  (∀ s : State, s.pending = [] → step s = .next s)

/-- The state right after reset (R5, R74, R75, R445, R463): what the spec gives, in canonical form. -/
def Obligations.ResetState : Prop :=
  State.reset.canonical ∧ State.reset.pending = [] ∧ State.reset.phase = .inReset ∧ State.reset.counters = ⟨[], none⟩ ∧
  State.reset.words = [] ∧ (∀ d, (State.reset.dom d).st = if d = 0 then .on else .off) ∧
  State.reset.ev.ring = [] ∧ State.reset.ev.alarm = 0 ∧ State.reset.ev.attn = 0 ∧ (∀ t, State.reset.ev.pos.get t = 0) ∧
  (∀ c, (State.reset.ch c).tx = .off ∧ (State.reset.ch c).hunt = .off) ∧ State.reset.alink.state = .down ∧
  (∀ e, (ethPort State.reset e).state = .down) ∧ (∀ t, (State.reset.port t).expected = none)

/-- Every packet that carries a command reads back as that command (R43 to R48): no bit of a field is dropped. -/
def Obligations.PacketRoundTrip : Prop := ∀ (op : Byte) (r : Req), r.payload.length ≤ 4080 →
  parsePacket r.t (cmdBytes op r) = .command op r

/-- The configuration words stay in canonical form at every step: addresses strictly rising, and none listed that reads as at
reset, so that equal configurations are equal data. -/
def Obligations.WordsCanonicalKept : Prop := ∀ s t : State, SMap.wfBy resetWord s.words = true → step s = .next t →
  SMap.wfBy resetWord t.words = true

/-- No command brings a blown fuse back, alters the part, or takes a command from the queue (R413; the queue is the model's
own, log 1). -/
def Obligations.FusesForever : Prop := ∀ (c : Instr) (s t : State), exec c s = .next t →
  (∀ k, s.fuseBlown k = true → t.fuseBlown k = true) ∧ t.part = s.part ∧ t.pending = s.pending

/-- Every command of the block completes: whatever the state and the operands, it answers a next state, neither a fault nor a
refusal, and leaves the commands that wait behind it in the queue; so does every step. What each command does in its own
normal case is for its family's statement to say. -/
def Obligations.EveryCommandCompletes : Prop :=
  (∀ (i : Instr) (s : State), ∃ t, exec i s = .next t ∧ t.pending = s.pending) ∧
  (∀ s : State, ∃ t, step s = .next t ∧ t.pending = s.pending.tail)

/-- The tick and its source (R12 to R15), and the overruns that a tick judges (R17). REF gives a tick 19,440 REF cycles after
the last; a new channel's first tick lies 19,440 to 38,880 cycles after it, and REF's in its place at 38,880. -/
def Obligations.TicksAndSources : Prop := ∀ (s : State) (found : List Finding), s.canonical → s.ticks = true →
  let ticked (src : Src) (period : Nat) (t : State) : Prop :=
    t.tick.source = src ∧ t.tick.lastPeriod = BitVec.ofNat 16 period ∧ t.tick.stretched = decide (19440 < period) ∧
    t.tick.number = (if s.tick.started then s.tick.number + 1 else 0) ∧ t.tick.started = true ∧
    t.tick.selected = s.selectSource ∧ t.power.life.power = s.power.life.power + 1 ∧ t.tick.overran = [] ∧
    (∀ k, mget 0 t.tick.overrunCount k =
      mget 0 s.tick.overrunCount k + BitVec.ofNat 32 (s.tick.overran.filter fun o => o.cls = k).length) ∧
    (∀ o ∈ s.tick.overran, o.cls < 14 → t.tick.budget.getLsbD o.cls = true) ∧
    SameBut [.counters, .tick, .commands, .channels, .vonus, .bursts, .classifier, .queues, .pools, .link, .ethernet, .time,
      .keys, .contacts, .faults, .lasting] s t
  (∀ n, s.tick.selected = .ref → Completes (.tick n found) s (ticked .ref 19440)) ∧
  (∀ (n : Nat) (c : Chan), s.tick.selected = .chan c →
    (s.tick.source = .chan c → Completes (.tick n found) s (ticked (.chan c) 19440)) ∧
    (s.tick.source ≠ .chan c → s.inSync c = true → 19440 ≤ n → n ≤ 38880 →
      Completes (.tick n found) s (ticked (.chan c) n)) ∧
    (s.tick.source ≠ .chan c → s.inSync c = false → Completes (.refFallbackTick found) s (ticked .ref 38880)))

/-- Work windows, the stipple snapshot and crossings (R16, R17, R22, R25, R27, R28, R77, R79, R191, R428). An incomplete
window is noted once for a class and tick (log 37); a counter copied late has its value at the tick or one it has taken since. -/
def Obligations.WindowsAndCrossings : Prop := ∀ s : State, s.canonical → s.ticks = true →
  (∀ (cls : BitVec 4) (n : BitVec 64) (items : BitVec 24), cls.toNat < 14 → s.tick.started = true →
    n.toNat ≤ s.tick.number.toNat →
    (Completes (.workWindowClose cls n true items) s fun t =>
      t.tick.overran = s.tick.overran ∧ t.tick.foldLag = (if cls.toNat = 7 then 0 else s.tick.foldLag) ∧
      (cls.toNat = 6 → ∀ h ∈ t.cmd.held, h.due.toNat ≤ s.tick.number.toNat + 1 → h.verdict.isSome = true) ∧
      (cls.toNat = 5 → t.vonu.moved = []) ∧
      SameBut (if cls.toNat = 5 then [.vonus] else if cls.toNat = 6 then [.commands] else if cls.toNat = 7 then [.tick] else []) s t) ∧
    ((cls.toNat, n) ∉ s.tick.judged → (∀ o ∈ s.tick.overran, ¬ (o.cls = cls.toNat ∧ o.tick = n)) →
      Completes (.workWindowClose cls n false items) s fun t =>
      let late := (s.bch (chanOf (cls.toNat % 2))).bursts.filter fun b => b.tick = n && !b.judged && !b.committed
      t.tick.overran = s.tick.overran ++ [{ cls := cls.toNat, tick := n, items :=
        if cls.toNat = 2 ∨ cls.toNat = 3 then BitVec.ofNat 24 late.length else itemsOf cls.toNat items }] ∧
      (cls.toNat < 2 → ∀ b ∈ (t.bch (chanOf cls.toNat)).bursts, b.tick ≠ n) ∧
      (cls.toNat = 2 ∨ cls.toNat = 3 → ∀ b ∈ (t.bch (chanOf (cls.toNat % 2))).bursts, b.tick = n → b.judged = true) ∧
      (cls.toNat = 4 → 8192 ≤ items.toNat → ∀ a x, mget none s.vonu.alloc a = some x → (t.stage a).snapOk = false) ∧
      (cls.toNat = 6 → ∀ h ∈ t.cmd.held, (s.tick.number + 1).toNat < h.due.toNat ∨ h.due = s.tick.number + 2) ∧
      (cls.toNat = 7 → t.tick.foldLag = s.tick.foldLag + 1) ∧
      (12 ≤ cls.toNat → ∀ b : Burst, b.tick = n → t.shadowPresent (chanOf (cls.toNat % 2)) b = false) ∧
      SameBut [.counters, .tick, .commands, .vonus, .bursts, .queues, .pools, .faults] s t)) ∧
  (∀ m : SMap (BitVec 64), s.tick.snap = some m → s.domOn 8 = true →
    (Completes (.stippleCopy true) s fun t =>
      t.stipple = m ∧ t.tick.incomplete = false ∧ t.tick.second = BitVec.ofNat 30 (s.tick.number.toNat / 8000) ∧
      t.tick.copying = none ∧ t.tick.snap = none ∧ t.tick.secondSuspect = s.tick.snapSuspect ∧
      SameBut [.stipple, .tick] s t) ∧
    ((8, s.tick.number) ∉ s.tick.judged → (∀ o ∈ s.tick.overran, ¬ (o.cls = 8 ∧ o.tick = s.tick.number)) →
      Completes (.stippleCopy false) s fun t =>
      t.stipple = s.stipple ∧ t.tick.copying = some m ∧ t.tick.snap = none ∧ t.counters = s.counters ∧
      (∃ items, t.tick.overran = s.tick.overran ++ [{ cls := 8, tick := s.tick.number, items }]) ∧ SameBut [.tick] s t)) ∧
  (∀ old, s.tick.copying = some old → s.domOn 8 = true → Completes .stippleCopyComplete s fun t =>
    (∀ a, mget 0 t.stipple a = mget 0 old a ∨ (a, mget 0 t.stipple a) ∈ s.counters.trail.getD []) ∧
    t.tick.incomplete = true ∧ t.tick.copying = none ∧ t.counters.trail = none ∧ SameBut [.stipple, .tick] s t) ∧
  (∀ (b : Byte) (k : BitVec 4), Completes (.cfgCrcRewrite b k) s fun t =>
    (b, k) ∉ t.fault.crcBad ∧ (∀ e, e ≠ (b, k) → (e ∈ t.fault.crcBad ↔ e ∈ s.fault.crcBad)) ∧
    (∀ c, (t.ch c).holdCrc = t.fault.crcBad.any fun e => crcGoverns e.1.toNat c) ∧ SameBut [.channels, .faults] s t) ∧
  (∀ (g : BitVec 4) (i : BitVec 12) (d : Byte),
    (128 ≤ d.toNat → Completes (.crossingDisturbance g i d) s fun t =>
      t.tick.disturbed.getLsbD g.toNat = true ∧ t.tick.suspect.getLsbD g.toNat = true ∧ SameBut [.tick] s t) ∧
    (d.toNat < 128 → Completes (.crossingDisturbance g i d) s fun t => t = s) ∧
    (∀ o : Bool, s.domOn (groupDom g.toNat) = true → Completes (.crossingFifoFault g i o) s fun t =>
      t.tick.disturbed.getLsbD g.toNat = true ∧ t.tick.suspect = s.tick.suspect ∧
      (streamsOf g.toNat ≠ 0 → ∃ k, k < streamsOf g.toNat ∧ t.tick.transit = if s.spoilt g.toNat k then s.tick.transit else s.tick.transit ++ [(g.toNat, k)]) ∧
      SameBut [.tick] s t) ∧
    (s.tick.suspect.getLsbD g.toNat = true → s.domOn (groupDom g.toNat) = true → Completes (.firmwareResync g) s fun t =>
      t.tick = { s.tick with resyncs := s.tick.resyncs ++ [(s.tick.number + 2, g)] } ∧ SameBut [.tick] s t) ∧
    (∀ due : BitVec 64, s.tick.resyncs = [(due, g)] → due.toNat ≤ s.tick.number.toNat → s.domOn (groupDom g.toNat) = true →
      s.cmd.held = [] → Completes .tickBoundEffect s fun t =>
      (∀ k, k < 16 → t.tick.suspect.getLsbD k = (s.tick.suspect.getLsbD k && k ≠ g.toNat)) ∧
      t.tick.disturbed = s.tick.disturbed ∧ t.tick.resyncs = [] ∧ SameBut [.tick] s t))

/-- The event ring, its mirror and the contact of a fault (R69, R71, R73, R74), shown on a disturbed crossing (R22): one record
is added, with at most one more where MRAM wears out.
The levels of the output contacts (R74, R360, R369, R433, R468, R469, R479, R491). ALARM_N's level in legacy mode while the device
is not ready, and the alarm mask's sense there, are the model's choice (log 164). -/
def Obligations.EventRecords : Prop :=
  (∀ (s : State) (g : BitVec 4) (i : BitVec 12) (d : Byte), s.canonical →
  s.ticks = true → s.ringRuns = true → 128 ≤ d.toNat → Completes (.crossingDisturbance g i d) s fun t =>
  ∃ x : EvRec, x.code = 0x0F20 ∧ x.unmasked = !s.masked 0x0F20 ∧
    x.p = BitVec.ofNat 64 (g.toNat * 2 ^ 60 + i.toNat * 2 ^ 48 + d.toNat * 2 ^ 40 + s.tick.number.toNat % 2 ^ 32) ∧
    (s.domOn 12 = false → x.time = 0) ∧
    (s.ev.ring.length < 8191 → mget EvRec.blank t.ev.mirror (s.ev.next.toNat % 1048576) = x ∧
      (∃ more, t.ev.ring = s.ev.ring ++ x :: more ∧ more.length ≤ 1 ∧ t.ev.next = s.ev.next + 1 + BitVec.ofNat 32 more.length) ∧
      t.ev.pos = s.ev.pos ∧ t.ev.lost = s.ev.lost ∧
      t.ev.alarm = (if s.masked 0x0F20 ∨ s.ev.alarm = 65535 then s.ev.alarm else s.ev.alarm + 1)) ∧
    (∀ old rest w, s.ev.ring = old :: rest → s.ev.ring.length = 8192 → s.ev.pos.get w = s.ev.oldest →
      s.subscribed w old.code.toNat = true →
      x ∈ t.ev.ring ∧ t.ev.ring.length = 8192 ∧ t.ev.pos.get w ≠ s.ev.pos.get w ∧ t.ev.lost.get w ≠ s.ev.lost.get w ∧
      (s.ev.lossRun.get w = false → ∃ e ∈ t.ev.ring, e.code = 0x0E03 ∧
        e.p = BitVec.ofNat 64 (transN w * 2 ^ 62 + s.ev.oldest.toNat)))) ∧
  (∀ s : State, s.canonical →
  let c := s.contacts
  (s.legacy = true ∨ s.phase ≠ .ready → c.ready = false) ∧
  (s.legacy = false → s.phase = .ready → s.domOn 1 = true → c.ready = true) ∧
  (s.phase = .safe ∨ s.phase = .recovery → c.alarmLow = true) ∧
  (s.legacy = false → s.phase = .ready → s.domOn 1 = true →
    (c.alarmLow = true ↔ s.ev.alarm ≠ 0) ∧ (c.attnLow = true ↔ s.ev.attn ≠ 0)) ∧
  (s.legacy = true → s.phase = .ready → s.domOn 1 = true →
    (c.alarmLow = true ↔ ∃ i, i < 32 ∧ s.alarmWord.1.testBit i = true ∧ s.leg.alarmMask.getLsbD i = false)) ∧
  (s.legacy = true → c.attnLow = false ∧ c.clk10m = false ∧ c.synceHz = 0) ∧
  (s.outRuns = true → s.legacy = false → c.clk10m = s.cfgB (timeAddr 0xA) 1) ∧
  (s.timeOn = true → s.legacy = false → s.fault.clockGroups.getLsbD 8 = false → s.cfgB (timeAddr 0xA) 2 = true →
    c.synceHz * 2 ^ s.cfgF (timeAddr 0xA) 3 2 = 155520000) ∧
  (s.timeOn = false ∨ s.cfgB (timeAddr 0xA) 2 = false → c.synceHz = 0))

/-- Light and lock (R108, R110, R119): what the conditions of a channel's line do to it. The other channel is untouched. -/
def Obligations.LineConditions : Prop := ∀ (s : State) (c : Chan),
  ((s.ch c).running = true → Completes (.losAssert c) s fun t =>
    (t.ch c).los = true ∧ (t.ch c).hunt ≠ .sync ∧ ((s.ch c).hunt = .sync → (t.ch c).lof = true) ∧
    t.ch (otherCh c) = s.ch (otherCh c) ∧ SameBut [.channels, .tick] s t) ∧
  ((s.ch c).running = true → (s.ch c).cdr = true → s.fault.clockGroups.getLsbD (1 + 2 * chanN c) = false →
    Completes (.losClear c) s fun t =>
    (t.ch c).los = false ∧ (t.ch c).hunt = (s.ch c).hunt ∧ (t.ch c).lof = (s.ch c).lof ∧
    t.ch (otherCh c) = s.ch (otherCh c) ∧ SameBut [.channels] s t) ∧
  ((s.ch c).running = true → (s.ch c).cdr = false → Completes (.cdrLock c) s fun t =>
    (t.ch c).cdr = true ∧ (t.ch c).relocking = false ∧ (t.ch c).restarting = false ∧ (t.ch c).hunt = .hunt ∧
    t.ch (otherCh c) = s.ch (otherCh c) ∧ SameBut [.channels] s t) ∧
  ((s.ch c).cdr = true → Completes (.cdrLockLoss c) s fun t =>
    (t.ch c).cdr = false ∧ (t.ch c).los = true ∧ (t.ch c).hunt = .off ∧
    t.ch (otherCh c) = s.ch (otherCh c) ∧ SameBut [.channels, .tick] s t) ∧
  ((s.ch c).relocking = true → Completes (.cdrRelockTimeout c) s fun t =>
    (t.ch c).relocking = false ∧ (t.ch c).los = true ∧
    t.ch (otherCh c) = s.ch (otherCh c) ∧ SameBut [.channels, .tick] s t) ∧
  ((s.ch c).los = true ∨ (s.ch c).lof = true → Completes (.channelLossTimeout c) s fun t =>
    (t.ch c).chLoss = true ∧ (t.ch c).los = (s.ch c).los ∧ (t.ch c).lof = (s.ch c).lof ∧
    t.ch (otherCh c) = s.ch (otherCh c) ∧ SameBut [.channels] s t)

/-- The transmitter's own events and the receiver's samples (R86, R114, R115, R118). -/
def Obligations.TransmitterEvents : Prop := ∀ (s : State) (c : Chan),
  (s.domOn (txDom c) = true → (s.ch c).tx = .warmup → s.txHeld c = false → (s.ch c).biasCal = true →
    Completes (.tecLockChange c true) s fun t =>
    (t.ch c).tecLocked = true ∧ (t.ch c).tx = .ready ∧ t.ch (otherCh c) = s.ch (otherCh c) ∧ SameBut [.channels] s t) ∧
  (s.domOn (txDom c) = true → (s.ch c).tx = .ready → s.txHeld c = false →
    Completes (.tecLockChange c false) s fun t =>
    (t.ch c).tecLocked = false ∧ (t.ch c).tx = .warmup ∧ t.ch (otherCh c) = s.ch (otherCh c) ∧ SameBut [.channels] s t) ∧
  ((s.ch c).tx = .warmup → (s.ch c).tecLocked = false → ∀ lost : Bool,
    (lost = true → (s.ch c).warmFromReady = true ∧ s.inSync c = true) → Completes (.tecFault { c, lost }) s fun t =>
    (t.ch c).tx = .fault ∧ t.ch (otherCh c) = s.ch (otherCh c) ∧ SameBut [.channels] s t) ∧
  ((s.ch c).tx = .warmup → (s.ch c).tecLocked = true → Completes (.biasCalibrated c) s fun t =>
    (t.ch c).biasCal = true ∧ (t.ch c).tx = .ready ∧ t.ch (otherCh c) = s.ch (otherCh c) ∧ SameBut [.channels] s t) ∧
  (∀ m : MonSample, s.domOn (rxDom c) = true → Completes (.monitorSample c m) s fun t =>
    (t.ch c).mon.rxPower = m.rxPower ∧ (t.ch c).mon.laserTemp = m.laserTemp ∧
    ((s.ch c).burstDone = true → (s.ch c).tx ≠ .fault → s.domOn (txDom c) = true → (t.ch c).mon = m) ∧
    ((s.ch c).tx = .fault → (t.ch c).mon.tecCurrent = 0) ∧
    ((s.ch c).burstDone = false → (t.ch c).mon.txPower = BitVec.ofInt 16 (-4000)) ∧
    t.ch (otherCh c) = s.ch (otherCh c) ∧ SameBut [.channels] s t) ∧
  (∀ v : Bool, s.domOn (rxDom c) = true → Completes (.eqConvergedChange c v) s fun t =>
    (t.ch c).eqConverged = v ∧ t.ch (otherCh c) = s.ch (otherCh c) ∧ SameBut [.channels] s t)

/-- The registration hunt and the frames of SYNC (R94, R95, R97, R99, R101, R111). -/
def Obligations.HuntAndFrames : Prop := ∀ (s : State) (c : Chan),
  (∀ (pos errs : Nat) (v : BitVec 51), ((s.ch c).hunt = .hunt ∨ (s.ch c).hunt = .candidate) → errs ≤ s.psyncTol c →
    (∀ k ∈ (s.ch c).cands, k.pos ≠ pos % s.frameBits c) →
    ((s.ch c).cands.length < 8 → Completes (.psbdSighting c pos errs (some v)) s fun t =>
      (t.ch c).cands = (s.ch c).cands ++ [{ pos := pos % s.frameBits c, sfc := v, advances := 0 }] ∧
      (t.ch c).hunt = .candidate ∧ t.ch (otherCh c) = s.ch (otherCh c) ∧ SameBut [.channels] s t) ∧
    (8 ≤ (s.ch c).cands.length → s.canonical → Completes (.psbdSighting c pos errs (some v)) s fun t =>
      t.ctr (chAddr c 0x62) = s.ctr (chAddr c 0x62) + 1 ∧ (t.ch c).cands = (s.ch c).cands ∧
      t.ch (otherCh c) = s.ch (otherCh c) ∧ SameBut [.counters, .channels] s t)) ∧
  (∀ (pos : Nat) (f : DsFrame) (k : Cand), (s.ch c).hunt = .candidate →
    (s.ch c).cands.find? (fun x => x.pos = pos % s.frameBits c) = some k →
    ((f.psyncErrs > s.psyncTol c ∨ f.sfc ≠ some (k.sfc + 1)) → Completes (.candidatePredictedPsbd c pos f) s fun t =>
    SameBut [.counters, .channels, .bursts, .queues, .pools, .time, .keys] s t ∧
      (t.ch c).cands = (s.ch c).cands.filter (fun x => x.pos ≠ pos % s.frameBits c) ∧ (t.ch c).hunt ≠ .sync) ∧
    (f.psyncErrs ≤ s.psyncTol c → f.sfc = some (k.sfc + 1) → 1 ≤ k.advances →
      Completes (.candidatePredictedPsbd c pos f) s fun t =>
    SameBut [.counters, .channels, .bursts, .queues, .pools, .time, .keys] s t ∧
      (t.ch c).hunt = .sync ∧ (t.ch c).lof = false ∧ (t.ch c).chLoss = false ∧ (t.ch c).cands = [] ∧
      t.onlineSfc c = k.sfc + 1)) ∧
  (∀ f : DsFrame, (s.ch c).hunt = .sync →
    (f.psyncErrs ≤ s.psyncTol c → (s.ch c).mismatched = false → Completes (.downstreamFrame c f) s fun t =>
    SameBut [.counters, .tick, .channels, .bursts, .queues, .pools, .time, .keys] s t ∧
      (t.ch c).hunt = .sync ∧ (t.ch c).sfc64 = (s.ch c).sfc64 + 1 ∧ (t.ch c).badCount = 0) ∧
    (f.psyncErrs > s.psyncTol c → s.lossCount c ≤ ((s.ch c).badCount + 1).toNat →
      Completes (.downstreamFrame c f) s fun t =>
    SameBut [.counters, .tick, .channels, .bursts, .queues, .pools, .time, .keys] s t ∧
      (t.ch c).hunt ≠ .sync ∧ (t.ch c).lof = true ∧ (t.ch c).sfc64 = (s.ch c).sfc64 + 1)) ∧
  (80 ≤ (s.ch c).winFrames → Completes (.sdSfWindowEnd c) s fun t =>
    (t.ch c).winFrames = 0 ∧ (t.ch c).winBits = 0 ∧ (t.ch c).winUncorr = 0 ∧
    ((s.ch c).winBits > (s.cfg (chAddr c 6)).toNat → (t.ch c).sd = true) ∧
    ((s.ch c).winBits > (s.cfg (chAddr c 5)).toNat ∨ 8 ≤ (s.ch c).winUncorr → (t.ch c).sf = true) ∧
    t.ch (otherCh c) = s.ch (otherCh c) ∧ SameBut [.channels] s t)

/-- XGEM frames of a channel in SYNC (R105, R107): a single-bit error in a header is corrected and counted, an uncorrectable
one discards the rest of the FS frame's payload, and an idle frame is discarded without count; a first
fragment that fits a cell of P9 begins a reassembly; a reassembly without a continuation is dropped with its cells. -/
def Obligations.XgemFrames : Prop := ∀ (s : State) (c : Chan), s.canonical → s.spoilt (2 * chanN c) 0 = false →
  (∀ x : XgemRx, s.inSync c = true → (s.ch c).fsOk = true → (s.ch c).payloadDrop = true →
    Completes (.xgemFrameReceived c x) s fun t => t = s) ∧
  (∀ x : XgemRx, s.inSync c = true → (s.ch c).fsOk = true → (s.ch c).payloadDrop = false →
    (x.hec = .corrected → x.hdrMarked = false → exec (.xgemFrameReceived c x) s =
      exec (.xgemFrameReceived c { x with hec := .good }) (s.bump (chAddr c 0x56) 1)) ∧
    (x.hec = .good → x.hdrMarked = false → x.idle = true → Completes (.xgemFrameReceived c x) s fun t => t = s) ∧
    (x.hec = .bad → Completes (.xgemFrameReceived c x) s fun t =>
      (t.ch c).payloadDrop = true ∧ t.ctr (chAddr c 0x58) = s.ctr (chAddr c 0x58) + 1 ∧
      t.ch (otherCh c) = s.ch (otherCh c) ∧ SameBut [.channels, .counters] s t) ∧
    (x.hec = .good → x.hdrMarked = false → x.idle = false → x.marked = false → s.xgemTargets c x.port.toNat = [] →
      Completes (.xgemFrameReceived c x) s fun t =>
      t.ctr (chAddr c 0x5C) = s.ctr (chAddr c 0x5C) + 1 ∧ SameBut [.counters] s t) ∧
    (x.hec = .good → x.hdrMarked = false → x.idle = false → x.marked = false → s.xgemTargets c x.port.toNat ≠ [] →
      x.first = true → x.last = false → x.data.length ≤ 2048 → s.partialAt c x.port.toNat = none →
      s.poolServes 9 = true → s.freeCells 9 ≠ 0 → (s.pool 9).carried = [] → Completes (.xgemFrameReceived c x) s fun t =>
    SameBut [.counters, .channels, .vonus, .bursts, .classifier, .queues, .pools, .time, .keys] s t ∧
      (∃ p, t.partialAt c x.port.toNat = some p ∧
        p.pieces = [{ sfc := (s.ch c).sfc64, pos := x.offset, keyIndex := x.keyIndex, data := x.data }]) ∧
      (t.ch c).hunt = .sync ∧ t.ch (otherCh c) = s.ch (otherCh c))) ∧
  (∀ (port : BitVec 16) (p : Partial), s.partialAt c port.toNat = some p →
    Completes (.xgemReassemblyTimeout c port) s fun t =>
    t.partialAt c port.toNat = none ∧ t.ctr (chAddr c 0x5E) = s.ctr (chAddr c 0x5E) + 1 ∧
    t.ch (otherCh c) = s.ch (otherCh c) ∧ SameBut [.channels, .counters, .pools, .queues, .bursts] s t)

/-- Writes of CH_CFG and CH_CTL by their own rows (Table CH-4, R87, R119, R120). -/
def Obligations.ChannelControl : Prop := ∀ (s : State) (c : Chan), s.canonical → s.hostMay →
  (s.writeCheck .twi [⟨chAddr c 0, 1, 1⟩] = 0 → Completes (.chEnable c) s fun t =>
    SameBut [.words, .counters, .tick, .channels, .bursts, .queues, .pools, .contacts] s t ∧
    t.chEnabled c = true ∧
    (s.chEnabled c = false → (t.ch c).running = true ∧ (t.ch c).relocking = true ∧ (t.ch c).cdr = false ∧
      (t.ch c).hunt = .off) ∧
    t.ch (otherCh c) = s.ch (otherCh c)) ∧
  (s.writeCheck .twi [⟨chAddr c 0, 0, 1⟩] = 0 → Completes (.chDisable c) s fun t =>
    t.chEnabled c = false ∧
    (s.chEnabled c = true → (t.ch c).running = false ∧ (t.ch c).los = true ∧ (t.ch c).chLoss = true ∧
      (t.ch c).hunt = .off) ∧
    t.ch (otherCh c) = s.ch (otherCh c) ∧ SameBut [.words, .channels, .tick, .contacts] s t) ∧
  (∀ v : Bool, s.writeCheck .twi [⟨chAddr c 0, if v then 8 else 0, 8⟩] = 0 → Completes (.txPermitWrite c v) s fun t =>
    t.cfgB (chAddr c 0) 3 = v ∧ t.chEnabled c = s.chEnabled c ∧
    (v = false → s.chEnabled c = true → (s.ch c).tx = .ready → (t.ch c).tx = .off) ∧
    t.ch (otherCh c) = s.ch (otherCh c) ∧ SameBut [.words, .channels, .contacts] s t) ∧
  (s.writeCheck .twi [⟨chAddr c 1, 2, 2⟩] = 0 → Completes (.resetEq c) s fun t =>
    (t.ch c).taps = presetTaps c ∧ (t.ch c).hunt = (s.ch c).hunt ∧
    t.ch (otherCh c) = s.ch (otherCh c) ∧ SameBut [.channels, .contacts] s t) ∧
  (s.writeCheck .twi [⟨chAddr c 1, 1, 1⟩] = 0 → Completes (.chRestart c) s fun t =>
    SameBut [.words, .counters, .tick, .channels, .bursts, .queues, .pools, .contacts] s t ∧
    (t.ch c).chLoss = true ∧ (t.ch c).hunt = .off ∧ t.tick.suspect.getLsbD (2 * chanN c) = true ∧
    (s.chEnabled c = true → s.domOn (rxDom c) = true → (t.ch c).relocking = true ∧ (t.ch c).cdr = false) ∧
    t.ch (otherCh c) = s.ch (otherCh c))

/-- The PLOAM messages that move a vONU or give it what it needs to move (R137, R138, R144, R149, Tables VONU-3 and VONU-5),
each served from the head of its channel's queue for one vONU in a state that Table VONU-5 lists. -/
def Obligations.PloamActivation : Prop := ∀ (s : State) (c : Chan) (v : BitVec 9) (w : PloamWait) (rest : List PloamWait),
  s.canonical → Waits s c v w rest → (s.vch v.toNat c).profiles.length = 4 →
  (∀ (idx : BitVec 2) (p : Profile), w.msg.body = .burstProfile idx p → inO1toO6or89 (s.vch v.toNat c).act = true →
    ¬((s.profileAt v.toNat c idx.toNat).valid = true ∧ (s.profileAt v.toNat c idx.toNat).version = p.version) →
    Completes (.burstProfile c) s fun t =>
    t.profileAt v.toNat c idx.toNat = { p with valid := true, fromHost := false } ∧ (t.ch c).ploamQ = rest ∧
    SameBut [.counters, .channels, .vonus, .bursts, .queues, .pools] s t) ∧
  (∀ (sn : BitVec 64) (id : BitVec 10), w.msg.body = .assignOnuId sn id → (s.vch v.toNat c).act = .o23 →
    Completes (.assignOnuId c) s fun t =>
    (t.vch v.toNat c).act = .o4 ∧ (t.vch v.toNat c).onuId = some id ∧
    (t.vch v.toNat c).expiry = some (s.tick.number + BitVec.ofNat 64 (8000 * s.cfgF (addrOf 0x20 (chanN c)) 4 8)) ∧
    (t.ch c).ploamQ = rest ∧ SameBut [.counters, .channels, .vonus, .bursts, .queues, .pools] s t) ∧
  (∀ (value : BitVec 32) (relative ack : Bool), w.msg.body = .rangingTime value relative ack →
    inRanging (s.vch v.toNat c).act = true → Completes (.rangingTime c) s fun t =>
    (t.vch v.toNat c).act = .o5 ∧ (t.vch v.toNat c).expiry = none ∧
    (t.vch v.toNat c).eqd = some (if relative then (s.vch v.toNat c).eqd.getD 0 + value else value) ∧
    (t.ch c).ploamQ = rest ∧ SameBut [.counters, .channels, .vonus, .bursts, .queues, .pools, .keys] s t) ∧
  (w.msg.body = .deactivateOnuId → inO23toO6or89 (s.vch v.toNat c).act = true → Completes (.deactivateOnuId c) s fun t =>
    SameBut [.counters, .channels, .vonus, .bursts, .queues, .pools, .keys] s t ∧
    (t.vch v.toNat c).onuId = none ∧ (t.vch v.toNat c).eqd = none ∧
    ((t.vch v.toNat c).act = .o1 ∨ (t.vch v.toNat c).act = .o23) ∧ (t.ch c).ploamQ = rest) ∧
  (∀ sn : Option (BitVec 64), w.msg.body = .disableSerialNumber sn true → (s.vch v.toNat c).act ≠ .idle →
    (s.vch v.toNat c).act ≠ .o7 → Completes (.disableSerialNumber c) s fun t =>
    (t.vch v.toNat c).act = .o7 ∧ (t.vch v.toNat c).expiry = none ∧ t.hasEstop (s.vonuAt v.toNat).sn c = true ∧
    (t.ch c).ploamQ = rest ∧ SameBut [.counters, .channels, .vonus, .bursts, .queues, .pools, .lasting] s t) ∧
  (∀ sn : Option (BitVec 64), w.msg.body = .disableSerialNumber sn false → (s.vch v.toNat c).act = .o7 →
    Completes (.disableSerialNumber c) s fun t =>
    SameBut [.counters, .channels, .vonus, .bursts, .queues, .pools, .keys, .lasting] s t ∧
    ((t.vch v.toNat c).act = .o1 ∨ (t.vch v.toNat c).act = .o23) ∧ t.hasEstop (s.vonuAt v.toNat).sn c = false ∧
    (t.ch c).ploamQ = rest)

/-- The PLOAM messages that answer or record (R153 to R155, R403, Table VONU-5). -/
def Obligations.PloamService : Prop := ∀ (s : State) (c : Chan) (v : BitVec 9) (w : PloamWait) (rest : List PloamWait),
  s.canonical → Waits s c v w rest → (s.vch v.toNat c).upQ.length < 4 → s.engineOn = true →
  let mgmt := mgmtSlot v.toNat (chanN c)
  let up (t : State) (m : UpMsg) : Prop :=
    let mic := Config.cmac (s.mgmtKey v.toNat c 0) (Config.upPloamBytes m (s.vch v.toNat c).onuId)
    (∃ n, (t.vch v.toNat c).upQ = (s.vch v.toNat c).upQ ++ [{ msg := m, seq := n, mic }]) ∧
    (t.vch v.toNat c).act = (s.vch v.toNat c).act ∧ (t.ch c).ploamQ = rest
  (w.msg.body = .requestRegistration → inRegistered (s.vch v.toNat c).act = true → s.keyUse mgmt = .retired →
    Completes (.requestRegistration c) s fun t =>
    (t.vch v.toNat c).upQ = (s.vch v.toNat c).upQ ∧ t.ctr (cryCtr 1) = s.ctr (cryCtr 1) + 1 ∧ (t.ch c).ploamQ = rest ∧
    SameBut [.counters, .channels, .vonus, .bursts, .queues, .pools, .keys] s t) ∧
  (s.keyUse mgmt = .ok →
  (w.msg.body = .requestRegistration → inRegistered (s.vch v.toNat c).act = true →
    Completes (.requestRegistration c) s fun t =>
    up t (.registration (s.vonuAt v.toNat).regId) ∧
    SameBut [.counters, .channels, .vonus, .bursts, .queues, .pools, .keys] s t) ∧
  ((s.vch v.toNat c).act = .o5 →
    (∀ id : BitVec 14, w.msg.body = .assignAllocId id false → s.allocFind c id = none → s.allocsOf v < (if s.legacy then 16 else 64) →
      s.vonu.alloc.length < 8192 → Completes (.assignAllocId c) s fun t =>
      up t (.acknowledge .ok) ∧
      ((∃ k, k < 8192 ∧ s.allocAt k = none) → ∃ k, t.allocAt k = some { allocId := id, vonu := v, chan := c }) ∧
      SameBut [.counters, .channels, .vonus, .bursts, .queues, .pools, .keys] s t) ∧
    (∀ (id : BitVec 14) (i : Nat) (a : AllocE), w.msg.body = .assignAllocId id true → s.allocFind c id = some (i, a) →
      a.vonu = v → Completes (.assignAllocId c) s fun t =>
    SameBut [.counters, .channels, .vonus, .bursts, .queues, .pools, .keys] s t ∧ up t (.acknowledge .ok) ∧ t.allocAt i = none) ∧
    (∀ k : BitVec 2, w.msg.body = .keyControl k false → s.crypto.rngOk = false → Completes (.keyControl c) s fun t =>
      (t.vch v.toNat c).upQ = (s.vch v.toNat c).upQ ∧ (t.ch c).ploamQ = rest ∧
      SameBut [.counters, .channels, .vonus, .bursts, .queues, .pools] s t) ∧
    (∀ k : BitVec 2, w.msg.body = .keyControl k false → s.crypto.rngOk = true → (s.useKey mgmt 1).keyUse mgmt = .ok →
      Completes (.keyControl c) s fun t =>
      (∃ x, up t (.keyReport k x)) ∧ SameBut [.counters, .channels, .vonus, .bursts, .queues, .pools, .keys] s t) ∧
    (∀ k : BitVec 2, w.msg.body = .keyControl k true → k = 1 ∨ k = 2 → (s.vch v.toNat c).upKey ≠ k →
      s.crypto.rngOk = true → s.crypto.alarmActive = 0 → s.crypto.lockedOut = false → (s.useKey mgmt 1).keyUse mgmt = .ok →
      Completes (.keyControl c) s fun t =>
      (∃ x, up t (.keyReport k (some x))) ∧ (t.slot (uniSlot v.toNat (chanN c) k.toNat)).state = 1 ∧
      SameBut [.counters, .channels, .vonus, .bursts, .queues, .pools, .keys] s t) ∧
    (∀ (value : Byte) (ack : Bool), w.msg.body = .sleepAllow value ack → Completes (.sleepAllow c) s fun t =>
      (t.vch v.toNat c).sleepAllow = value ∧ (ack = true → up t (.acknowledge .ok)) ∧ (t.ch c).ploamQ = rest ∧
      SameBut [.counters, .channels, .vonus, .bursts, .queues, .pools, .keys] s t) ∧
    (∀ (id : Byte) (sfc : BitVec 51), w.msg.body = .tuningControl id sfc →
      mget Pair.other (s.vonu.chProfile.get c) id.toNat = .ofChan (otherCh c) →
      (s.vonuAt v.toNat).standby.get (otherCh c) = true → s.chEnabled (otherCh c) = true → Completes (.tuningControl c) s fun t =>
      (t.vch v.toNat c).tuneAt = some sfc ∧ up t (.tuningResponse true) ∧
      SameBut [.counters, .channels, .vonus, .bursts, .queues, .pools, .keys] s t) ∧
    (w.msg.body = .protectionControl → Completes (.protectionControl c) s fun t =>
    SameBut [.counters, .channels, .vonus, .bursts, .queues, .pools, .keys] s t ∧ up t (.acknowledge .parameterError)) ∧
    (w.msg.body = .changePowerLevel → Completes (.changePowerLevel c) s fun t =>
    SameBut [.counters, .channels, .vonus, .bursts, .queues, .pools, .keys] s t ∧ up t (.acknowledge .parameterError)) ∧
    (w.msg.body = .adjustTxWavelength → Completes (.adjustTxWavelength c) s fun t =>
    SameBut [.counters, .channels, .vonus, .bursts, .queues, .pools, .keys] s t ∧ up t (.acknowledge .parameterError)) ∧
    (w.msg.body = .calibrationRequest → Completes (.calibrationRequest c) s fun t =>
      up t (.acknowledge .parameterError) ∧ SameBut [.counters, .channels, .vonus, .bursts, .queues, .pools, .keys] s t)) ∧
  (∀ content : List Byte, w.msg.body = .systemProfile content → (s.vch v.toNat c).act ≠ .idle →
    Completes (.systemProfile c) s fun t =>
    t.vonu.sysProfile.get c = content ∧ (t.ch c).ploamQ = rest ∧
    SameBut [.counters, .channels, .vonus, .bursts, .queues, .pools] s t) ∧
  (∀ (id : Byte) (pair : Pair), w.msg.body = .channelProfile id pair → (s.vch v.toNat c).act ≠ .idle →
    Completes (.channelProfile c) s fun t =>
    mget Pair.other (t.vonu.chProfile.get c) id.toNat = pair ∧ (t.ch c).ploamQ = rest ∧
    SameBut [.counters, .channels, .vonus, .bursts, .queues, .pools] s t) ∧
  (∀ type : Byte, w.msg.body = .unknown type → Completes (.unknownPloamType c) s fun t =>
    up t (.acknowledge .unknownType) ∧ SameBut [.counters, .channels, .vonus, .bursts, .queues, .pools, .keys] s t))

/-- Timers, tuning and the end of a retirement (R131, R134, R135, R164, Table VONU-3). -/
def Obligations.VonuTimers : Prop := ∀ (s : State) (c : Chan) (v : BitVec 9), s.canonical →
  (s.timerDue c v.toNat .o4 = true → Completes (.to1Expiry c v) s fun t =>
    SameBut [.counters, .vonus, .bursts, .queues, .pools, .keys] s t ∧
    (t.vch v.toNat c).act = .o23 ∧ (t.vch v.toNat c).onuId = none ∧ (t.vch v.toNat c).expiry = none) ∧
  (s.timerDue c v.toNat .o6 = true → Completes (.to2Expiry c v) s fun t =>
    SameBut [.counters, .vonus, .bursts, .queues, .pools, .keys] s t ∧
    ((t.vch v.toNat c).act = .o1 ∨ (t.vch v.toNat c).act = .o23) ∧ (t.vch v.toNat c).onuId = none) ∧
  (s.timerDue c v.toNat .o8 = true → Completes (.to4Expiry c v) s fun t =>
    SameBut [.counters, .vonus, .bursts, .queues, .pools, .keys] s t ∧
    ((t.vch v.toNat c).act = .o1 ∨ (t.vch v.toNat c).act = .o23) ∧ (t.vonuAt v.toNat).enable = (s.vonuAt v.toNat).enable) ∧
  (s.timerDue c v.toNat .o9 = true → Completes (.to5Expiry c v) s fun t =>
    SameBut [.counters, .vonus, .bursts, .queues, .pools, .keys] s t ∧
    ((t.vch v.toNat c).act = .o1 ∨ (t.vch v.toNat c).act = .o23) ∧ (t.vonuAt v.toNat).enable = (s.vonuAt v.toNat).enable) ∧
  (∀ f : BitVec 51, s.tuningOf v.toNat = some (c, f) → sfcAhead (s.onlineSfc c) f < 2 ^ 50 →
    Completes (.tuningSuperframe v) s fun t =>
    SameBut [.words, .counters, .vonus, .bursts, .queues, .pools, .keys] s t ∧
    (t.vch v.toNat c).act = .idle ∧ (t.vch v.toNat (otherCh c)).act = .o8 ∧
    (t.vch v.toNat (otherCh c)).onuId = (s.vch v.toNat c).onuId ∧ (t.vch v.toNat (otherCh c)).eqd = none ∧
    (t.vonuAt v.toNat).enable = ⟨(s.vonuAt v.toNat).enable.b, (s.vonuAt v.toNat).enable.a⟩) ∧
  ((s.vch v.toNat c).act = .o8 → s.syncSeen c = true → Completes (.tuningTargetSync v) s fun t =>
    (t.vch v.toNat c).act = .o9 ∧ SameBut [.vonus] s t) ∧
  ((s.vonuAt v.toNat).life = .retiring → Completes (.vonuRetired v) s fun t =>
    SameBut [.words, .vonus, .keys] s t ∧ t.vonuAt v.toNat = Vonu.none)

/-- OMCI and flow bindings (R157 to R159, R163). -/
def Obligations.OmciAndFlows : Prop := ∀ (s : State) (c : Chan) (v : BitVec 9), s.canonical →
  (∀ (msg : List Byte) (mic : BitVec 32), s.inSync c = true → (s.vonuAt v.toNat).enable.get c = true →
    (s.vch v.toNat c).onuId.isSome = true → s.engineOn = true → s.keyUse (mgmtSlot v.toNat (chanN c)) = .ok →
    mic = (Config.cmac (s.mgmtKey v.toNat c 1) msg).setWidth 32 → s.omciBacklog < 1024 →
    Completes (.omciDownstreamMessage c v msg mic) s fun t =>
    t.vonu.omciProd = s.vonu.omciProd + 1 ∧
    mget none t.vonu.omciRing (s.vonu.omciProd.toNat % 1024) =
      some { vonu := v, chan := c, tick := BitVec.ofNat 32 s.tickLow, data := msg } ∧
    SameBut [.counters, .vonus, .bursts, .queues, .pools, .keys] s t) ∧
  (∀ val : Word, s.hostMay → s.writeCheck .twi [⟨addrOf 0x20 0x11, val, all32⟩] = 0 →
    Completes (.omciRxConsumerWrite val) s fun t =>
    t.cfg (addrOf 0x20 0x11) = val ∧ SameBut [.words, .contacts] s t) ∧
  (∀ (w0 : Word) (r : List Word), s.hostMay → s.writeCheck .twi (wordsIn (omciTxAddr 0) (w0 :: r)) = 0 →
    s.engineOn = true → s.keyUse (mgmtSlot (fld w0 0 9) (fld w0 9 1)) = .ok → Completes (.vonuOmciTx (w0 :: r)) s fun t =>
    SameBut [.vonus, .keys, .contacts] s t ∧
    (t.vch (fld w0 0 9) (chanOf (fld w0 9 1))).omciQ.length = (s.vch (fld w0 0 9) (chanOf (fld w0 9 1))).omciQ.length + 1) ∧
  (∀ (f : BitVec 18) (val : Word), s.hostMay → s.writeCheck .twi [⟨flowAddr f.toNat, val, all32⟩] = 0 →
    Completes (.vonuFlowBind f val) s fun t =>
    flowPort (t.cfg (flowAddr f.toNat)) = flowPort val ∧ flowVonu (t.cfg (flowAddr f.toNat)) = flowVonu val ∧
    flowChan (t.cfg (flowAddr f.toNat)) = flowChan val ∧ bit (t.cfg (flowAddr f.toNat)) 26 = bit val 26 ∧
    SameBut [.words, .contacts] s t)

/-- Key loads and the limits of use (R404, R406). -/
def Obligations.KeyLoads : Prop := ∀ (s : State) (slot : BitVec 12), s.canonical →
  (s.hostMay → s.writeCheck .twi [⟨addrOf 0x68 0x10, loadWord slot.toNat 0 0 0, all32⟩] = 0 →
    Completes (.keyLoadErase slot) s fun t =>
    t.slot slot.toNat =
      (if slotKind slot.toNat = 1 then { defaultSlot with loadTick := BitVec.ofNat 32 s.tickLow } else Slot.empty) ∧
    SameBut [.keys, .contacts] s t) ∧
  (∀ material : List Word, let full := material ++ List.replicate (12 - material.length) 0
    s.hostMay →
    (s.writeCheck .twi (wordsIn (addrOf 0x68 0x10) (loadWord slot.toNat 1 0 0 :: full)) = 0 →
      Completes (.keyLoadMsk slot material) s fun t =>
      (t.slot slot.toNat).state = 1 ∧ (t.slot slot.toNat).isDefault = false ∧ (t.slot slot.toNat).usage = 0 ∧
      (t.slot slot.toNat).key = (full.flatMap wordBytes).take 16 ∧ SameBut [.keys, .contacts] s t) ∧
    (∀ (v : BitVec 9) (c : Chan),
      s.writeCheck .twi (wordsIn (addrOf 0x68 0x10) (loadWord slot.toNat 2 v.toNat (chanN c) :: full)) = 0 →
      s.keyUse (mgmtSlot v.toNat (chanN c)) = .ok → Completes (.keyLoadBroadcast slot v c material) s fun t =>
      (t.slot slot.toNat).state = 1 ∧ (t.slot slot.toNat).usage = 0 ∧
      (t.slot slot.toNat).key = Config.keyUnwrap (s.mgmtKey v.toNat c 2) (full.flatMap wordBytes) ∧
      SameBut [.keys, .contacts] s t) ∧
    (s.writeCheck .twi (wordsIn (addrOf 0x68 0x10) (loadWord slot.toNat 3 0 0 :: full)) = 0 →
      Completes (.keyLoadMacsec slot material) s fun t =>
      (t.slot slot.toNat).state = 1 ∧ (t.slot slot.toNat).usage = 0 ∧
      (t.slot slot.toNat).key = (full.flatMap wordBytes).take 48 ∧ SameBut [.keys, .contacts] s t)) ∧
  ((s.slot slot.toNat).state = 1 → 2 ^ s.cfgF (addrOf 0x68 0) 0 6 ≤ (s.slot slot.toNat).usage.toNat →
    Completes (.keySoftLimit slot) s fun t =>
    t.slot slot.toNat = { s.slot slot.toNat with state := 2 } ∧ SameBut [.keys] s t) ∧
  ((s.slot slot.toNat).state = 1 ∨ (s.slot slot.toNat).state = 2 →
    2 ^ s.cfgF (addrOf 0x68 0) 8 6 ≤ (s.slot slot.toNat).usage.toNat → Completes (.keyRetired slot) s fun t =>
    t.slot slot.toNat = { s.slot slot.toNat with state := 3 } ∧ SameBut [.keys] s t)

/-- Erasure, alarms, the generator and drypoint (R408, R410, R416, R417): after an erase no loaded key is left in any slot.
The test port and the fuses (R413 to R416): the port's registers are IEEE 1149.1's (log 98), and a fuse is blown by an
armed write over the two-wire port only. -/
def Obligations.KeyStoreAndFuses : Prop :=
  (∀ s : State, s.canonical →
  let erased (t : State) : Prop :=
    (∀ i, t.slot i = Slot.empty ∨ t.slot i = defaultSlot) ∧ t.ctr (cryCtr 5) = s.ctr (cryCtr 5) + 1
  (s.hostMay → s.writeCheck .twi [⟨addrOf 0x68 1, 1, all32⟩] = 0 → Completes .eraseAll s fun t =>
    erased t ∧ t.crypto.alarmLatch = s.crypto.alarmLatch ||| 16 ∧ t.crypto.alarmActive = s.crypto.alarmActive ∧
    SameBut [.keys, .counters, .contacts] s t) ∧
  (∀ src : Fin 4, s.crypto.alarmActive.getLsbD src.val = false → Completes (.keyStoreAlarm src) s fun t =>
    erased t ∧ t.crypto.alarmActive.getLsbD src.val = true ∧ t.crypto.alarmLatch.getLsbD src.val = true ∧
    SameBut [.keys, .counters] s t) ∧
  (∀ src : Fin 5, src.val ≠ 0 → Completes (.alarmSourceCleared src) s fun t =>
    t.crypto.alarmActive.getLsbD src.val = false ∧ t.crypto.alarmLatch = s.crypto.alarmLatch ∧
    t.crypto.slots = s.crypto.slots ∧ SameBut [.keys] s t) ∧
  (Completes .rngFault s fun t =>
    t.crypto.rngOk = false ∧ t.ctr (cryCtr 6) = s.ctr (cryCtr 6) + 1 ∧ t.crypto.slots = s.crypto.slots ∧
    SameBut [.keys, .counters] s t) ∧
  (s.crypto.rngOk = false → Completes (.reseedRetry true) s fun t =>
    t.crypto.rngOk = true ∧ t.crypto.slots = s.crypto.slots ∧ SameBut [.keys] s t) ∧
  (s.fuses.dbgLock = false → Completes .drypointOpened s fun t =>
    erased t ∧ t.crypto.lockedOut = true ∧ t.crypto.ir = none ∧ SameBut [.keys, .channels, .counters] s t) ∧
  (s.fuses.dbgLock = true → Completes .drypointOpened s fun t =>
    t.crypto.ir = some .bypass ∧ t.crypto.slots = s.crypto.slots ∧ t.crypto.lockedOut = s.crypto.lockedOut ∧
    SameBut [.keys, .channels] s t)) ∧
  (∀ s : State,
  (∀ (i : TapInstr) (scan : List Bool), Completes (.bscanActive { instr := i, scan }) s fun t =>
    t.crypto.ir = some i ∧ t.crypto.slots = s.crypto.slots ∧
    (t.crypto.bscan = true → s.crypto.bscan = false → ∀ c, s.chEnabled c = true → (s.ch c).tx = .ready → (t.ch c).tx = .off) ∧
    (scan = [] → t.out = s.out) ∧
    (scan ≠ [] → i = .idcode → scan.length ≤ 32 →
      t.out = s.out ++ [.tdo ((List.range scan.length).map (0x1851266B : BitVec 32).getLsbD)]) ∧
    (scan ≠ [] → i = .bypass ∨ i = .clamp ∨ i = .highz → t.out = s.out ++ [.tdo ((false :: scan).take scan.length)]) ∧
    (scan.length ≥ Config.boundaryCells → i = .sample ∨ i = .extest → scan ≠ [] →
      t.crypto.boundary = scan.drop (scan.length - Config.boundaryCells)) ∧
    SameBut [.keys, .channels, .contacts] s t) ∧
  (Completes .trstNAssert s fun t =>
    t.crypto.ir = some .idcode ∧ t.crypto.bscan = false ∧ t.tick.suspect.getLsbD 13 = true ∧
    SameBut [.keys, .channels, .tick] s t) ∧
  (s.hostMay → s.writeCheck .twi [⟨addrOf 0x7E 1, 0x4B508512, all32⟩] = 0 → Completes (.fuseArm 0x4B508512) s fun t =>
    t.crypto.armed = true ∧ t.fuses = s.fuses ∧ SameBut [.keys, .contacts] s t) ∧
  (∀ val : Word, s.hostMay → s.writeCheck .twi [⟨addrOf 0x7E 2, val, all32⟩] = 0 →
    (s.fault.handover = none → Completes (.fuseBlow .twi val) s fun t =>
      t.fuseBlown (fld val 0 3) = true ∧ t.crypto.armed = false ∧ SameBut [.keys, .fuses, .contacts] s t) ∧
    (s.fault.handover ≠ none → Completes (.fuseBlow .twi val) s fun t =>
      t.fuses = s.fuses ∧ SameBut [.keys, .contacts] s t)) ∧
  (∀ val : Word, Completes (.fuseBlow .alanov val) s fun t =>
    SameBut [.keys, .contacts] s t ∧ t.fuses = s.fuses) ∧
  (Completes .fuseArmExpiry s fun t => t.crypto.armed = false ∧ t.fuses = s.fuses ∧ SameBut [.keys] s t))

/-- From the partition to admission (R168, R173, R174, R176, R188, R192, R197). By the Burin's own tables, a grant to a vONU in
O5 with a valid profile at an offered rate, with nothing else on the channel, becomes a burst at its instant. -/
def Obligations.GrantsAndWindows : Prop := ∀ (s : State) (c : Chan), s.canonical →
  (∀ (g : AllocStruct) (i : Nat) (a : AllocE) (n : Nat), (s.ch c).fsOk = true → g.snGrant = false → g.marked = false →
    let own := (s.bch c).own
    own.find g.allocId = some (i, a) → (own.vonu a.vonu.toNat).act = .o5 →
    (own.profile a.vonu.toNat g.profile).valid = true → s.rateOffered c (own.profile a.vonu.toNat g.profile) = true →
    (s.bch c).marks = [] → (s.bch c).bursts = [] → (s.bch c).current = none → (s.bch c).partOwn < 1024 →
    Completes (.bwmapPartition c [g] true n) s fun t =>
    (∃ b, (t.bch c).bursts = [b] ∧ b.vonu = a.vonu ∧ b.kind = .data ∧ b.tick = s.tick.number ∧ b.ploamu = g.ploamu ∧
      b.frame = (s.ch c).sfc64 ∧
      b.start = s.ideal c ((own.vonu a.vonu.toNat).eqd.getD 0).toNat g.start ∧ b.onuId = (own.vonu a.vonu.toNat).onuId ∧
      b.allocs = [{ entry := i, size := g.size, dbru := g.dbru }]) ∧
    (t.bch c).structsLast = 1 ∧ (t.bch c).ownLast = 1 ∧ t.bch (otherCh c) = s.bch (otherCh c) ∧
    SameBut [.bursts, .counters] s t) ∧
  (∀ (g : AllocStruct) (n : Nat), (s.ch c).fsOk = true → g.marked = true → Completes (.bwmapPartition c [g] true n) s fun t =>
    (t.bch c).bursts = (s.bch c).bursts ∧ (t.bch c).structsLast = 1 ∧ (t.bch c).ownLast = 0 ∧
    t.bch (otherCh c) = s.bch (otherCh c) ∧ SameBut [.bursts, .counters] s t) ∧
  (∀ structs : List AllocStruct, (s.ch c).fsOk = true → s.domOn (txDom c) = true →
    Completes (.shadowPartitionDecode c structs true) s fun t =>
    (t.bch c).shadow.head? = some (s.tick.number, (s.ch c).sfc64, some (s.shadowWins c structs).1) ∧
    (∀ b : Burst, b.tick = s.tick.number → b.frame = (s.ch c).sfc64 → t.shadowPresent c b = true) ∧ (t.bch c).bursts = (s.bch c).bursts ∧
    t.bch (otherCh c) = s.bch (otherCh c) ∧ SameBut [.bursts] s t) ∧
  (Completes .snapshotComplete s fun t =>
    (∀ (i q : Nat), s.allocAt i ≠ none → (s.stage i).taken = some q →
      (t.stage i).snapshot = q ∧ (t.stage i).snapOk = true ∧ (t.stage i).removed = (s.stage i).takenRemoved ∧
      (t.stage i).frames = (s.stage i).frames) ∧
    t.burin.ch = s.burin.ch ∧ SameBut [.bursts] s t)

/-- A burst's way to the fibre (R25, R173, R182, R190, R191, R194, R195): commit, deadline, start and end, each cut off
where the guard disagrees.
The refill engine (R182 to R186): the entry whose turn it is has the head frame of the queue that its node selects, of at
most one cell of P8, join what it has staged. -/
def Obligations.BurstLife : Prop :=
  (∀ (s : State) (c : Chan), s.canonical →
  (∀ b : Burst, (s.bch c).bursts.find? (fun x => !x.committed) = some b → Completes (.burstAssembly c) s fun t =>
    SameBut [.counters, .tick, .vonus, .bursts, .keys] s t ∧
    (s.spoilt (2 * chanN c + 1) 0 = true → t.ctr (burinCtr c 12) = s.ctr (burinCtr c 12) + 1) ∧
    (s.spoilt (2 * chanN c + 1) 0 = false → t.tick = s.tick) ∧
    (∃ d : Burst, d.committed = true ∧ d.vonu = b.vonu ∧ d.start = b.start ∧ d.stop = b.stop ∧ d.judged = b.judged ∧
      (t.bch c).bursts = (s.bch c).bursts.map fun y => if y = b then d else y) ∧
    (t.bch c).current = (s.bch c).current ∧ t.bch (otherCh c) = s.bch (otherCh c)) ∧
  (∀ b : Burst, (s.bch c).bursts.find? (fun x => !x.judged) = some b → Completes (.commitDeadline c) s fun t =>
    (∃ d : Burst, d.committed = true ∧ d.judged = true ∧ d.vonu = b.vonu ∧ d.start = b.start ∧
      (b.committed = true → d.content = b.content) ∧
      (t.bch c).bursts = (s.bch c).bursts.map fun y => if y = b then d else y) ∧
    (b.committed = false → t.ctr (burinCtr c 12) = s.ctr (burinCtr c 12) + 1) ∧
    t.bch (otherCh c) = s.bch (otherCh c) ∧ SameBut [.bursts, .counters, .tick] s t) ∧
  (∀ (b : Burst) (r : List Burst), (s.bch c).bursts = b :: r → (s.bch c).current = none → b.judged = true →
    (s.shadowPresent c b = true → (s.ch c).tx = .ready → s.inSync c = true → (s.bch c).testTrip = false →
      let u := (s.modB c fun x => { x with bursts := r }).lightUp c b
      (u.startDisagrees c b = none → Completes (.burstStart c) s fun t =>
        (t.bch c).current = some b ∧ (t.bch c).lit = true ∧ (t.bch c).bursts = r ∧ t.bch (otherCh c) = s.bch (otherCh c) ∧
        SameBut [.bursts] s t) ∧
      (∀ k, u.startDisagrees c b = some k → Completes (.burstStart c) s fun t =>
        (t.bch c).current = none ∧ (t.bch c).lit = false ∧ (t.bch c).lastCause = BitVec.ofNat 2 k ∧
        t.ctr (burinCtr c 17) = s.ctr (burinCtr c 17) + BitVec.ofNat 64 (burstBytes b) ∧
        t.bch (otherCh c) = s.bch (otherCh c) ∧
        SameBut [.counters, .channels, .vonus, .bursts, .queues, .pools, .keys, .lasting] s t)) ∧
    (s.shadowPresent c b = false → b.content = [] → b.up = none → Completes (.burstStart c) s fun t =>
      (t.bch c).current = none ∧ (t.bch c).bursts = r ∧ t.ctr (burinCtr c 10) = s.ctr (burinCtr c 10) + 1 ∧
      SameBut [.bursts, .counters] s t)) ∧
  (∀ b : Burst, (s.bch c).current = some b → s.endDisagrees c b = none → Completes (.burstEnd c) s fun t =>
    SameBut [.counters, .channels, .vonus, .bursts, .queues, .pools, .time, .keys, .contacts, .lasting] s t ∧
    (t.bch c).current = none ∧ t.out = s.out ++ [.burst c b] ∧ (t.ch c).burstDone = true ∧
    (t.ch c).rateLast = b.profile.rate ∧ t.bch (otherCh c) = s.bch (otherCh c))) ∧
  (∀ (s : State) (i : BitVec 13) (a : AllocE) (q : Nat) (p : Packet) (r : List Packet),
  s.canonical → s.domOn 6 = true → s.allocAt i.toNat = some a → s.poolServes 8 = true → s.freeCells 8 ≠ 0 → (s.pool 8).carried = [] →
  (∀ f, s.flowBad f = false) →
  let now := s.instant.1
  s.instant.2.refillNext now = some i.toNat →
  let u := (s.instant.2.turnPast i.toNat now).requalify i.toNat now
  u.tokensOk i.toNat now = true → u.selectQueue i.toNat now = some q → (u.queue q).pkts = p :: r →
  p.bytes.length ≤ 256 → Completes (.refillFrameStaged i) s fun t =>
    SameBut [.counters, .bursts, .queues, .pools] s t ∧
    ∃ f : SFrame, (t.stage i.toNat).frames = (s.stage i.toNat).frames ++ [f] ∧ f.data = p.bytes ∧ f.vonu = a.vonu ∧
      f.off = 0 ∧ f.ends = true)

/-- The laser guard (R195 to R201): trips open what they must, the third within a second latches the channel, and REARM
releases it. -/
def Obligations.LaserGuard : Prop := ∀ (s : State) (c : Chan), s.canonical →
  (∀ sn : Bool, s.domOn (txDom c) = true → Completes (.guardDisagreement c sn) s fun t =>
    SameBut [.counters, .channels, .vonus, .bursts, .queues, .pools, .keys, .lasting] s t ∧
    (t.bch c).current = none ∧ (t.bch c).lastCause = (if sn then 2 else 0) ∧
    t.ctr (burinCtr c 16) = s.ctr (burinCtr c 16) + 1 ∧ t.power.life.trips = s.power.life.trips + 1 ∧
    (2 ≤ (s.recentTrips c).length → (t.ch c).tx = .latched ∧
      ((s.ch c).tx ≠ .latched → (t.bch c).switchOpen = true)) ∧
    ((s.recentTrips c).length < 2 → (s.ch c).tx = .ready → (s.ch c).tecLocked = true → s.txHeld c = false →
      (t.ch c).tx = .ready) ∧ t.bch (otherCh c) = s.bch (otherCh c)) ∧
  (s.domOn (txDom c) = true → Completes (.lightCheckTrip c) s fun t =>
    (t.bch c).switchOpen = true ∧ (t.bch c).lastCause = 1 ∧ t.ctr (burinCtr c 16) = s.ctr (burinCtr c 16) + 1 ∧
    (2 ≤ (s.recentTrips c).length → (t.ch c).tx = .latched) ∧ t.bch (otherCh c) = s.bch (otherCh c) ∧
    SameBut [.bursts, .channels, .counters, .lasting] s t) ∧
  (Completes (.biasSwitchClose c) s fun t => s.switchHeld c = true → t = s) ∧
  ((s.ch c).tx ≠ .latched → (s.ch c).holdRail = false → s.phase ≠ .safe → Completes (.biasSwitchClose c) s fun t =>
    (t.bch c).switchOpen = false ∧ t.bch (otherCh c) = s.bch (otherCh c) ∧ SameBut [.bursts] s t) ∧
  (Completes (.twinRewrite c) s fun t =>
    (t.bch c).marks = [] ∧ (t.bch c).bursts = (s.bch c).bursts ∧ t.bch (otherCh c) = s.bch (otherCh c) ∧
    SameBut [.bursts] s t) ∧
  (s.domOn (txDom c) = true → Completes (.twinReload c) s fun t =>
    (t.ch c).holdReload = false ∧ t.ch (otherCh c) = s.ch (otherCh c) ∧ (t.bch c).twin = (s.bch c).own ∧
    t.bch (otherCh c) = s.bch (otherCh c) ∧ SameBut [.channels, .bursts] s t) ∧
  (s.hostMay → s.writeCheck .twi [⟨burinAddr (8 + chanN c), 1, 1⟩] = 0 → Completes (.rearm c) s fun t =>
    (t.bch c).trips = [] ∧ (t.bch c).switchOpen = (s.ch c).holdRail ∧ (t.ch c).tx ≠ .latched ∧
    t.tick.suspect.getLsbD (2 * chanN c + 1) = true ∧ t.bch (otherCh c) = s.bch (otherCh c) ∧
    SameBut [.bursts, .channels, .tick, .contacts] s t) ∧
  (s.hostMay → s.writeCheck .twi [⟨burinAddr (8 + chanN c), 2, 2⟩] = 0 → Completes (.testTrip c) s fun t =>
    (t.bch c).testTrip = true ∧ (t.bch c).current = (s.bch c).current ∧ t.bch (otherCh c) = s.bch (otherCh c) ∧
    SameBut [.bursts, .contacts] s t)

/-- Packets through the classifier's passes (R206, R209, R210, R224, R345). -/
def Obligations.ClassifierPasses : Prop := ∀ s : State, s.passesRun = true →
  (∀ (kind : BitVec 2) (index : BitVec 9) (k : Packet) (rest : List Packet), s.cls.second = [] →
    pluck (fun x : Packet => x.kind = kind && x.index = index) s.cls.ingress = some (k, rest) →
    Completes (.classifierFirstPass kind index) s fun t =>
    SameBut [.counters, .bursts, .classifier, .queues, .pools, .link, .ethernet, .contacts] s t ∧
    t.cls.ingress = rest ∧ t.cls.second = [] ∧ t.cls.active = s.cls.active ∧ t.vonu = s.vonu ∧ t.chans = s.chans) ∧
  (∀ (x : InFlight) (r : List InFlight), s.cls.toDecap = x :: r → Completes .decap s fun t =>
    t.cls.toDecap = r ∧
    t.cls.second = s.cls.second ++ [{ x with pkt := { x.pkt with bytes := x.pkt.bytes.drop x.cut } }] ∧
    SameBut [.classifier] s t) ∧
  (∀ (e : BitVec 2) (x : InFlight) (r : List InFlight),
    pluck (fun y : InFlight => y.pkt.index.toNat = e.toNat) s.cls.toDecrypt = some (x, r) →
    Completes (.macsecVerify e) s fun t =>
    SameBut [.words, .counters, .bursts, .classifier, .queues, .pools, .keys] s t ∧ t.cls.toDecrypt = r ∧
    (match ((s.modCls fun c => { c with toDecrypt := r }).secRx e.toNat x.pkt.bytes).1 with
     | .ok b => t.cls.second = s.cls.second ++ [{ x with pkt := { x.pkt with bytes := b }, start := .ethernet }]
     | _ => t.cls.second = s.cls.second)) ∧
  (∀ (x : InFlight) (r : List InFlight), s.cls.second = x :: r → Completes .classifierSecondPass s fun t =>
    SameBut [.counters, .bursts, .classifier, .queues, .pools] s t ∧
    t.cls.second = r ∧ t.cls.ingress = s.cls.ingress ∧ t.cls.active = s.cls.active)

/-- Plates and the fragment table (R228, R229, R231, R232, R235, R236). -/
def Obligations.PlatesAndFragments : Prop := ∀ s : State, s.canonical →
  (∀ p : Bool, s.cls.swapDue = some p → s.domOn 6 = true → Completes .plateSwap s fun t =>
    t.cls.active = p ∧ t.cls.swapDue = none ∧ t.cls.generation = s.cls.generation + 1 ∧
    (∀ f ∈ t.cls.frags, f.carried = true) ∧ t.cls.frags.length = s.cls.frags.length ∧
    (∀ (x : Transport) (r : Running), r ∈ (t.port x).running → ∀ n, r.work ≠ .plateSwap n) ∧
    SameBut [.classifier, .commands, .link, .contacts] s t) ∧
  (s.cls.retiring = true → Completes .plateRetired s fun t =>
    SameBut [.counters, .bursts, .classifier, .queues, .pools] s t ∧
    t.cls.retiring = false ∧ t.cls.active = s.cls.active ∧
    (∀ x ∈ t.cls.toDecap ++ t.cls.toDecrypt ++ t.cls.second, x.plate = t.cls.active)) ∧
  (s.hostMay → s.writeCheck .twi [⟨clsAddr 1, 1, 1⟩] = 0 → Completes .copyActive s fun t =>
    t.cls.copyBusy = true ∧ t.cls.active = s.cls.active ∧ SameBut [.classifier, .contacts] s t) ∧
  (s.cls.copyBusy = true → Completes .copyDone s fun t =>
    t.cls.copyBusy = false ∧ t.cls.active = s.cls.active ∧ SameBut [.classifier, .words] s t) ∧
  (let life := 8 * s.cfgF (clsAddr 0) 0 7
   let live (f : Frag) : Bool := s.tick.number.toNat ≤ f.usedAt.toNat + life
   Completes .fragExpired s fun t =>
    t.cls.frags = s.cls.frags.filter live ∧
    t.ctr (clsCtr 11) = s.ctr (clsCtr 11) + BitVec.ofNat 64 (s.cls.frags.filter (fun f => !live f)).length ∧
    SameBut [.classifier, .counters] s t) ∧
  (s.flushOnCommit = true → Completes .fragCarriedDiscard s fun t =>
    t.cls.frags = s.cls.frags.filter (fun f => !f.carried) ∧ SameBut [.classifier] s t) ∧
  (∀ (plate : Bool) (e : BitVec 14), s.domOn 6 = true → (plate, e) ∈ s.cls.ruleMarks →
    Completes (.ruleEntryRepair plate e) s fun t =>
    (plate, e) ∉ t.cls.ruleMarks ∧ (plate, e) ∉ t.cls.ruleBad ∧ SameBut [.classifier] s t)

/-- Admission and release (R242, R246, R254, R257, R267): a packet within its queue's limit joins its tail, and a T-CONT
node's release is the refill engine's. -/
def Obligations.QueueFlow : Prop := ∀ s : State, s.canonical →
  (∀ (x : InFlight) (r : List InFlight) (q : BitVec 16), s.cls.toAdmit = x :: r → s.domOn 6 = true →
    s.cls.restoring = false → s.spoilt 15 0 = false → x.act.meter = none → x.act.queue = some q →
    (s.qBound q.toNat = true → s.cfgB (qAddr q.toNat 0) 30 = true → x.pkt.colour = 0 →
      s.depth q.toNat + x.pkt.bytes.length ≤ (s.cfg (qAddr q.toNat 1)).toNat → (s.queue q.toNat).pkts ≠ [] →
      Completes .queueAdmission s fun t =>
    SameBut [.counters, .bursts, .classifier, .queues, .pools] s t ∧
      t.cls.toAdmit = r ∧ (t.queue q.toNat).pkts = (s.queue q.toNat).pkts ++ [x.pkt] ∧
      t.ctr (queueCtr q.toNat 0) = s.ctr (queueCtr q.toNat 0) + 1) ∧
    (s.qBound q.toNat = false → Completes .queueAdmission s fun t =>
    SameBut [.counters, .bursts, .classifier, .queues, .pools] s t ∧
      t.cls.toAdmit = r ∧ (t.queue q.toNat).pkts = (s.queue q.toNat).pkts ∧
      t.ctr (queueCtr q.toNat 2) = s.ctr (queueCtr q.toNat 2) + 1)) ∧
  (∀ i : BitVec 13, exec (.nodeRelease i.toNat) s = exec (.refillFrameStaged i) s) ∧
  (∀ (n q : Nat) (p : Packet) (r : List Packet), 8192 ≤ n → n < 8836 → s.domOn 6 = true → s.cls.restoring = false →
    s.outputReady n = true →
    let u := (settleHeads n (s.queuesOf n) (s.instant.2.creditsNow n s.instant.1)).requalify n s.instant.1
    u.tokensOk n s.instant.1 = true → u.selectQueue n s.instant.1 = some q → u.headSends n q = true →
    (u.queue q).pkts = p :: r → Completes (.nodeRelease n) s fun t =>
    (∃ l, r = l ++ (t.queue q).pkts ∧ (s.nodeHatch n = none → l = [])) ∧
    (∀ k, k ≠ q → (∀ j ∈ s.queuesOf n, k ≠ j) → t.queue k = s.queue k) ∧ t.ctr (nodeCtr n 0) = s.ctr (nodeCtr n 0) + 1 ∧
    (∀ ch, nodeKind n = .port ch →
      (s.spoilt 4 1 = false → ∃ d, t.out = s.out ++ [.alanov d (linkBytes p.bytes)]) ∧
      (s.credit ch).consumed + BitVec.ofNat 12 (creditUnits p.bytes.length) = (t.credit ch).consumed) ∧
    (∀ e, nodeKind n = .ethernet e → (ethPort s e).state = .up → s.spoilt 5 (4 + e) = false →
      s.cfgB (ethAddr e 0x40) 0 = false → (padded p.bytes).length + 4 ≤ s.cfgF (ethAddr e 3) 0 14 →
      (ethPort t e).txFrame = some (padded p.bytes)) ∧
    (∀ k, nodeKind n = .ces k → mget [] t.ces.rx k = [p]) ∧
    SameBut [.words, .counters, .tick, .bursts, .classifier, .queues, .pools, .link, .ethernet, .time, .ces, .keys, .contacts] s t) ∧
  (∀ q : BitVec 16, s.hostMay → s.writeCheck .twi [⟨addrOf 0x38 1, BitVec.ofNat 32 (q.toNat + 65536), all32⟩] = 0 →
    Completes (.flush q) s fun t =>
    SameBut [.words, .counters, .bursts, .queues, .pools, .contacts] s t ∧ (t.queue q.toNat).pkts = [] ∧ t.qs.flushing = some q) ∧
  (Completes .flushComplete s fun t =>
    t.qs.flushing = none ∧ t.qs.queues = s.qs.queues ∧ SameBut [.queues] s t) ∧
  (s.domOn 6 = true → s.cls.restoring = true → Completes .queueAdmission s fun t => t = s) ∧
  (s.domOn 6 = true → s.cls.restoring = true → Completes .pktConfigRestore s fun t =>
    t = { s with cls := { s.cls with restoring := false } })

/-- Hatch lists (R258, R260, R267): a committed copy comes to its start, one that restarts to its own (log 75), and each is
copied to the shadow, and its entry shows. -/
def Obligations.HatchLists : Prop := ∀ (s : State) (l : BitVec 6) (x : HCopy), s.canonical →
  let samePackets (t : State) : Prop := ∀ q, (t.queue q).pkts = (s.queue q).pkts
  ((s.hatch l.toNat).pending = some x → s.domOn 12 = true → (s.hatch l.toNat).start.toNat ≤ s.nsAtMost →
    Completes (.hatchCopyStart l) s fun t =>
    (t.hatch l.toNat).active = some x ∧ (t.hatch l.toNat).pending = none ∧ (t.hatch l.toNat).again = none ∧
    (t.hatch l.toNat).copying = true ∧ (t.hatch l.toNat).current = 0 ∧
    (t.hatch l.toNat).begun = { at_ := (s.hatch l.toNat).start, tick := (s.hatch l.toNat).commitTick, ns := (s.hatch l.toNat).commitNs } ∧
    (∀ k, k ≠ l.toNat → t.hatch k = s.hatch k) ∧ samePackets t ∧ SameBut [.queues, .words] s t) ∧
  (∀ st : HStart, (s.hatch l.toNat).again = some (x, st) → s.domOn 12 = true → st.at_.toNat ≤ s.nsAtMost →
    (s.hatch l.toNat).pending = none ∨ s.nsAtMost < (s.hatch l.toNat).start.toNat → Completes (.hatchCopyStart l) s fun t =>
    (t.hatch l.toNat).active = some x ∧ (t.hatch l.toNat).pending = (s.hatch l.toNat).pending ∧ (t.hatch l.toNat).again = none ∧
    (t.hatch l.toNat).copying = true ∧ (t.hatch l.toNat).begun = st ∧
    (∀ k, k ≠ l.toNat → t.hatch k = s.hatch k) ∧ samePackets t ∧ SameBut [.queues, .words] s t) ∧
  ((s.hatch l.toNat).copying = true → (s.hatch l.toNat).active = some x → Completes (.hatchStarted l) s fun t =>
    (t.hatch l.toNat).copying = false ∧ (t.hatch l.toNat).active = some x ∧
    t.cfg (hCfgAddr l.toNat 2) = BitVec.ofNat 32 x.cycle ∧
    t.cfg (hCfgAddr l.toNat 3) = BitVec.ofNat 32 x.entries.length ∧
    (∀ k, k ≠ l.toNat → t.hatch k = s.hatch k) ∧ SameBut [.queues, .words] s t) ∧
  ((s.hatch l.toNat).active = some x → s.domOn 12 = true → Completes (.gateChange l) s fun t =>
    (∃ ns, (t.hatch l.toNat).current = BitVec.ofNat 8 (runAt 0 x.runs (x.phase ns)).1) ∧
    (t.hatch l.toNat).active = some x ∧ (∀ k, k ≠ l.toNat → t.hatch k = s.hatch k) ∧ samePackets t ∧ SameBut [.queues] s t)

/-- The buffer pools (R277 to R284, R289 to R291): a served request takes one free cell, and an owned cell does what its
owner's operation says. -/
def Obligations.BufferPools : Prop := ∀ s : State, s.canonical →
  (∀ (r : PoolReq) (p : Nat), asks r = true → wantPool r.want = some p → p ≤ 11 → p ≠ 7 → s.poolServes p = true → s.freeCells p ≠ 0 →
    (s.pool p).carried = [] → Completes (.allocRequest [r]) s fun t =>
    SameBut [.counters, .bursts, .queues, .pools] s t ∧
    t.freeCells p + 1 = s.freeCells p ∧ t.ctr (poolCtr p 0) = s.ctr (poolCtr p 0) + 1) ∧
  (∀ (cls : BitVec 6) (ptr : BitVec 40) (p k : Nat), atPtr cls ptr = .cell p k →
    ((s.cell p k).state = 1 → (s.cell p k).owner = cls →
      (Completes (.free cls ptr) s fun t =>
        t.cell p k = Cell.free ∧ t.ctr (poolCtr p 4) = s.ctr (poolCtr p 4) + 1 ∧
        SameBut [.pools, .queues, .bursts, .counters] s t) ∧
      (∀ o : BitVec 6, Completes (.transfer cls ptr o) s fun t =>
        t.cell p k = { s.cell p k with owner := o } ∧ SameBut [.pools] s t) ∧
      (∀ n : Nat, 2 ≤ n → n ≤ 1023 → Completes (.share cls ptr n) s fun t =>
        t.cell p k = { state := 2, owner := cls, refs := BitVec.ofNat 10 n } ∧ SameBut [.pools] s t)) ∧
    ((s.cell p k).state = 2 →
      (∀ n : Nat, 1 ≤ n → (s.cell p k).refs.toNat + n ≤ 1023 → Completes (.share cls ptr n) s fun t =>
        t.cell p k = { s.cell p k with refs := (s.cell p k).refs + BitVec.ofNat 10 n } ∧ SameBut [.pools] s t) ∧
      ((s.cell p k).refs > 1 → Completes (.release cls ptr) s fun t =>
        t.cell p k = { s.cell p k with refs := (s.cell p k).refs - 1 } ∧ SameBut [.pools] s t) ∧
      ((s.cell p k).refs ≤ 1 → Completes (.release cls ptr) s fun t =>
        t.cell p k = Cell.free ∧ t.ctr (poolCtr p 4) = s.ctr (poolCtr p 4) + 1 ∧
        SameBut [.pools, .queues, .bursts, .counters] s t))) ∧
  (∀ (i : BitVec 2) (temp : BitVec 16), s.domOn 8 = true → s.bpm.temps.length = 4 →
    let top := hottest (s.bpm.temps.set i.toNat temp)
    (20 ≤ (temp.toInt - (s.bpm.trainedAt.getD i.toNat 0).toInt).natAbs → Completes (.dramRetrain i temp) s fun t =>
      t.bpm.trained.getLsbD i.toNat = true ∧ t.bpm.trainedAt = s.bpm.trainedAt.set i.toNat temp ∧ t.bpm.dramTemp = top ∧
      t.bpm.refresh2x = decide (170 < top.toInt) ∧ t.tick.suspect.getLsbD 6 = true ∧
      t.bpm.pools = s.bpm.pools ∧ SameBut [.pools, .tick] s t) ∧
    ((temp.toInt - (s.bpm.trainedAt.getD i.toNat 0).toInt).natAbs < 20 → Completes (.refreshRateChange i temp) s fun t =>
      t.bpm.temps = s.bpm.temps.set i.toNat temp ∧ t.bpm.dramTemp = top ∧ t.bpm.refresh2x = decide (170 < top.toInt) ∧
      t.bpm.trained = s.bpm.trained ∧ t.bpm.trainedAt = s.bpm.trainedAt ∧
      t.bpm.pools = s.bpm.pools ∧ SameBut [.pools] s t)) ∧
  (∀ p : Nat, (s.pool p).reinit = true → Completes (.poolReinitComplete p) s fun t =>
    t.pool p = { s.pool p with reinit := false } ∧ SameBut [.pools] s t)

/-- The lanes of the Alanov Link (R304 to R309): lock, its loss, the repair that follows, and the moves to L8 and back.
A PRBS checker's sync (R323), on each lane of the link and of the Ethernet ports. -/
def Obligations.LinkLanes : Prop :=
  (∀ (s : State) (n : Nat), s.canonical → n < 9 → s.lanesRun = true →
  ((s.lane n).locked = false → Completes (.laneBlockLock n) s fun t =>
    (t.lane n).locked = true ∧ (t.lane n).deskewed = false ∧ (t.lane n).logical = 15 ∧ (∀ m, m ≠ n → t.lane m = s.lane m) ∧
    t.alink.state = s.alink.state ∧ SameBut [.link, .counters, .contacts] s t) ∧
  ((s.lane n).locked = true →
    (Completes (.lockLoss n) s fun t =>
      (t.lane n).locked = false ∧ t.ctr (laneCtr n 2) = s.ctr (laneCtr n 2) + 1 ∧
      (∃ f, t.ctr (laneCtr n 0) = s.ctr (laneCtr n 0) + BitVec.ofNat 64 (24 + f)) ∧
      SameBut [.link, .counters, .tick, .contacts] s t) ∧
    (s.alink.state = .active → s.cfgB (alAddr 0) 1 = true → (s.lane n).failed = false → (s.lane n).logical.toNat < 8 →
      (n ≠ 8 → s.spareOk = true → Completes (.lockLoss n) s fun t =>
        SameBut [.counters, .link, .contacts] s t ∧
        t.alink.state = .active ∧ t.alink.request = some ((s.lane n).logical.setWidth 3)) ∧
      (n = 8 ∨ s.spareOk = false → Completes (.lockLoss n) s fun t =>
        SameBut [.counters, .link, .tick, .contacts] s t ∧
        t.alink.state = .lock ∧ t.alink.request = none ∧ t.tick.suspect.getLsbD 4 = true ∧ t.ctr (linkCtr 10) = s.ctr (linkCtr 10) + 1)) ∧
    (∀ b : AlignBlk, Completes (.alignBlock n b) s fun t =>
      (t.lane n).ready = b.rxReady ∧ (t.lane n).period = some b.period ∧
      t.ctr (laneCtr n 1) = s.ctr (laneCtr n 1) + BitVec.ofNat 64 b.bipErrs ∧
      (s.alink.period = none → ((t.lane n).deskewed = true ↔ b.skew ≤ 96)) ∧
      (n = 8 → ∀ k : BitVec 3, b.logical = k.setWidth 4 → b.repairReq = s.alink.peerRequest → s.alink.rxUse ≠ some k →
        (s.lane 8).logical ≠ b.logical → s.alink.movedAt ≠ some b.period →
        t.alink.rxUse = some k ∧ t.ctr (linkCtr 11) = s.ctr (linkCtr 11) + 1) ∧
      (∀ m < 9, mget none t.alink.sentAlign m = t.alignTx m) ∧
      SameBut [.link, .counters, .tick, .classifier, .contacts] s t))) ∧
  (∀ (s : State) (n : Nat) (v : Bool), s.canonical → laneOk n = true →
  (s.prbs n).chk = true → (s.prbs n).pattern ≠ 0 → Completes (.prbsCheckerSyncChange n v) s fun t =>
    (t.prbs n).sync = v ∧ (t.prbs n).pattern = (s.prbs n).pattern ∧ t.alink.state = s.alink.state ∧
    t.alink.lanes = s.alink.lanes ∧ ((s.prbs n).sync = v → t.prbs n = s.prbs n) ∧ SameBut [.link] s t)

/-- The states of the link (Table ALINK-3, R310) and the host's orders to it (R309, R310). -/
def Obligations.LinkStates : Prop := ∀ s : State, s.canonical →
  (s.alink.state = .clock → s.fault.clockGroups.getLsbD 5 = false → Completes .arxcValid s fun t =>
    t.alink.state = .adapt ∧ SameBut [.link, .contacts] s t) ∧
  (s.alink.state ≠ .down → s.alink.state ≠ .clock → (s.alink.state = .failed → s.cfgF (alAddr 0) 12 12 ≠ 0) →
    Completes .arxcLoss s fun t =>
    t.alink.state = .clock ∧ t.alink.rxUse = none ∧ t.alink.txUse = none ∧ t.alink.request = none ∧
    SameBut [.link, .tick, .counters, .contacts] s t) ∧
  (s.alink.state = .clock → Completes .clockStateTimeout s fun t =>
    t.alink.state = .failed ∧ t.alink.failCause = 1 ∧ SameBut [.link, .contacts] s t) ∧
  (s.alink.state = .adapt → Completes .adaptDone s fun t => t.alink.state = .lock ∧ SameBut [.link, .contacts] s t) ∧
  (s.alink.state = .lock → Completes .lockStateEnd s fun t =>
    (8 ≤ ((List.range 9).filter fun n => (s.lane n).locked).length → t.alink.state = .deskew) ∧
    (((List.range 9).filter fun n => (s.lane n).locked).length < 8 → t.alink.state = .failed ∧ t.alink.failCause = 2) ∧
    SameBut [.link, .contacts] s t) ∧
  (s.alink.state = .deskew → s.lanesUp = 8 → Completes .deskewDone s fun t =>
    (t.alink.state = .waitPeer ∨ t.alink.state = .active) ∧
    ((∀ n, (s.lane n).ready = false) → t.alink.state = .waitPeer) ∧ SameBut [.link, .classifier, .contacts] s t) ∧
  (s.alink.state = .deskew → Completes .deskewTimeout s fun t =>
    t.alink.state = .failed ∧ t.alink.failCause = 3 ∧ SameBut [.link, .contacts] s t) ∧
  (s.alink.state = .waitPeer → Completes .waitPeerTimeout s fun t =>
    t.alink.state = .failed ∧ t.alink.failCause = 4 ∧ SameBut [.link, .contacts] s t) ∧
  (s.alink.state = .failed → s.cfgF (alAddr 0) 12 12 ≠ 0 → Completes .failedRetry s fun t =>
    t.alink.state = .clock ∧ SameBut [.link, .contacts] s t) ∧
  (s.hostMay →
    (s.writeCheck .twi [⟨alAddr 1, 1, all32⟩] = 0 → s.alink.state = .active ∨ s.alink.state = .failed →
      Completes .alinkRetrain s fun t =>
      t.alink.state = .lock ∧ t.ctr (linkCtr 10) = s.ctr (linkCtr 10) + 1 ∧
      t.tick.suspect.getLsbD 4 = true ∧ SameBut [.link, .counters, .tick, .contacts] s t) ∧
    (∀ k : BitVec 3, s.writeCheck .twi [⟨alAddr 1, BitVec.ofNat 32 (2 + 16 * k.toNat), all32⟩] = 0 →
      Completes (.alinkRepair k) s fun t =>
      t.alink.request = some k ∧ t.alink.commanded = true ∧ t.alink.state = s.alink.state ∧ SameBut [.link, .contacts] s t) ∧
    (s.writeCheck .twi [⟨alAddr 1, 4, all32⟩] = 0 → Completes .alinkRestore s fun t =>
      t.alink.request = s.alink.rxUse ∧ t.alink.commanded = true ∧ SameBut [.link, .contacts] s t) ∧
    (∀ enable hold : Bool, s.domOn 9 = true →
      s.writeCheck .twi [⟨alAddr 0, BitVec.ofNat 32 (b2n enable + 4 * b2n hold), 5⟩] = 0 →
      Completes (.alinkEnableWrite enable hold) s fun t =>
      (enable = true → hold = false → t.alink.state = (if s.alink.state = .down then .clock else s.alink.state)) ∧
      (enable = false ∨ hold = true → t.alink.state = .down) ∧ SameBut [.link, .words, .tick, .counters, .contacts] s t))

/-- Frames and credit (R313 to R318, R320). A data frame that passes the checks of R315 reaches the classifier with a cell
of its own and its units held; one that fails them changes its counter alone. -/
def Obligations.FramesAndCredit : Prop := ∀ s : State, s.canonical →
  (∀ (f : AlFrame) (data : List Byte) (ch p : Nat), s.linkCarries = true → s.spoilt 4 0 = false →
    (f.ending = .noDesc → Completes (.alanovFrameReceived f) s fun t =>
      t.alink.badRun = true ∧
      (s.alink.badRun = false ∨ f.afterIdle = true → t.ctr (linkCtr 5) = s.ctr (linkCtr 5) + 1) ∧
      (s.alink.badRun = true → f.afterIdle = false → t.ctr (linkCtr 5) = s.ctr (linkCtr 5)) ∧
      SameBut [.link, .counters] s t) ∧
    (f.ending ≠ .noDesc → descOk f.desc = false → Completes (.alanovFrameReceived f) s fun t =>
      t.ctr (linkCtr 0) = s.ctr (linkCtr 0) + 1 ∧ t.alink.credits = s.alink.credits ∧ SameBut [.link, .counters] s t) ∧
    (f.ending = .whole → descOk f.desc = true → descField f.desc 0 10 = ch → ch < 512 → descField f.desc 10 14 = data.length →
      descField f.desc 24 2 ≠ 3 → 14 ≤ data.length → data.length ≤ 16000 →
      (s.credit ch).held.toNat + creditUnits data.length ≤ (s.credit ch).adv.toNat → poolForSize data.length = some p →
      s.poolServes p = true → s.freeCells p ≠ 0 → (s.pool p).carried = [] →
      (f.bytes = data ++ crcTrailer data → Completes (.alanovFrameReceived f) s fun t =>
        (∃ pk : Packet, t.cls.ingress = s.cls.ingress ++ [pk] ∧ pk.bytes = data ∧ pk.index.toNat = ch ∧ pk.cells.length = 1) ∧
        (t.credit ch).held = (s.credit ch).held + BitVec.ofNat 12 (creditUnits data.length) ∧
        (t.credit ch).seen.toNat = descField f.desc 26 12 ∧ t.ctr (chCtr ch 0) = s.ctr (chCtr ch 0) + 1 ∧
        SameBut [.link, .classifier, .queues, .pools, .bursts, .counters] s t) ∧
      (∀ crc : List Byte, f.bytes = data ++ crc → crc.length = 4 → crc ≠ crcTrailer data →
        Completes (.alanovFrameReceived f) s fun t =>
        t.cls.ingress = s.cls.ingress ∧ (t.credit ch).held = (s.credit ch).held ∧
        t.ctr (linkCtr 6) = s.ctr (linkCtr 6) + 1 ∧ SameBut [.link, .queues, .pools, .bursts, .counters] s t))) ∧
  (∀ (g : Nat) (l0 l1 l2 l3 : BitVec 12), g ≤ 161 → s.alink.state = .active → s.cmd.wait = none → s.spoilt 4 1 = false →
    Completes (.creditBlockReceived g l0 l1 l2 l3) s fun t =>
    (t.credit (4 * g)).peerLimit = l0 ∧ (t.credit (4 * g + 1)).peerLimit = l1 ∧ (t.credit (4 * g + 2)).peerLimit = l2 ∧
    (t.credit (4 * g + 3)).peerLimit = l3 ∧ t.alink.lossRun.contains g = false ∧
    SameBut [.link, .counters, .commands, .contacts] s t) ∧
  (s.alink.state = .active → s.cmd.wait = none → s.spoilt 4 1 = false → Completes .calendarRound s fun t =>
    (∀ ch, ch < 648 → (t.credit ch).limit = (creditRound (advertise s ch) (s.credit ch)).limit) ∧
    (∃ more, t.out = s.out ++ ((List.range 162).map fun g =>
      .credit g ((List.range 4).map fun i => (creditRound (advertise s (4 * g + i)) (s.credit (4 * g + i))).limit)) ++ more) ∧
    SameBut [.link, .counters, .commands, .contacts] s t) ∧
  (∀ g : Nat, g ≤ 161 → s.alink.state = .active → Completes (.creditLoss g) s fun t =>
    t.alink.lossRun.contains g = true ∧ t.alink.credits = s.alink.credits ∧
    (s.alink.lossRun = [] ∨ s.alink.lossRun.head? = some g → t.ctr (linkCtr 9) = s.ctr (linkCtr 9) + 4) ∧
    (s.alink.lossRun ≠ [] → s.alink.lossRun.head? ≠ some g → t.ctr (linkCtr 9) = s.ctr (linkCtr 9)) ∧
    SameBut [.link, .counters] s t) ∧
  (∀ (k : BitVec 7) (d : List Byte) (before after : List (BitVec 7 × List Byte)),
    s.alink.cesWait = before ++ (k, d) :: after → (∀ x ∈ before, x.1 ≠ k) → Completes (.cesLateDrop k) s fun t =>
    t.alink.cesWait = before ++ after ∧ t.ctr (linkCtr 8) = s.ctr (linkCtr 8) + 1 ∧ SameBut [.link, .counters] s t)

/-- The life of an Ethernet port (Table ETH-2, R329 to R334). No other port is touched but by the lane grouping. -/
def Obligations.EthernetPorts : Prop := ∀ (s : State) (e : BitVec 2), s.canonical →
  let p (t : State) : EthPort := ethPort t e.toNat
  let rest (t : State) : Prop := ∀ j, j ≠ e.toNat → ethPort t j = ethPort s j
  (∀ fec : BitVec 2, (p s).state = .an → fec.toNat ≤ s.cfgF (ethAddr e.toNat 0) 2 2 →
    fecOk s e.toNat (s.cfgF (ethAddr e.toNat 0) 1 1) fec.toNat = true → Completes (.anComplete e fec) s fun t =>
    (p t).fecActive = fec ∧ (p t).state = (if s.ethCfgB e.toNat 5 then .train else .linkWait) ∧ rest t ∧ SameBut [.ethernet, .counters, .contacts] s t) ∧
  ((p s).state = .train → Completes (.trainingComplete e) s fun t =>
    (p t).state = .linkWait ∧ rest t ∧ SameBut [.ethernet, .counters, .contacts] s t) ∧
  ((p s).state = .train → Completes (.trainingFailed e) s fun t =>
    (p t).state = s.ethStart e.toNat ∧ rest t ∧ SameBut [.ethernet, .counters, .contacts] s t) ∧
  (∀ skew : BitVec 32, (p s).state = .linkWait → Completes (.ethLinkUp e skew) s fun t =>
    (p t).state = .up ∧ (p t).skew = (if s.kr4 then skew else 0) ∧ ((p t).txTw, (p t).rxTw) = s.wakeTimes e.toNat ∧
    rest t ∧ SameBut [.ethernet, .counters, .contacts] s t) ∧
  ((p s).state = .linkWait → Completes (.linkWaitTimeout e) s fun t =>
    (p t).state = s.ethStart e.toNat ∧ rest t ∧ SameBut [.ethernet, .counters, .contacts] s t) ∧
  ((p s).state = .up → Completes (.ethLinkDown e) s fun t =>
    (p t).state = s.ethStart e.toNat ∧ (p t).paused = false ∧ (p t).pfcHeld = 0 ∧ (p t).txFrame = none ∧ rest t ∧
    SameBut [.ethernet, .queues, .counters, .contacts] s t) ∧
  (s.hostMay →
    (s.writeCheck .twi [⟨ethAddr e.toNat 1, 1, all32⟩] = 0 → Completes (.ethRestart e) s fun t =>
      (p t).state = (if s.ethMayRun e.toNat then s.ethStart e.toNat else .down) ∧ rest t ∧
      SameBut [.ethernet, .queues, .counters, .tick, .contacts] s t) ∧
    (∀ val : Word, s.writeCheck .twi [⟨ethAddr e.toNat 0, val, 0x3E⟩] = 0 → s.ethMayRun e.toNat = true →
      val &&& 0x3E ≠ s.cfg (ethAddr e.toNat 0) &&& 0x3E → Completes (.ethRerate e val) s fun t =>
      (p t).state = (if bit val 4 then .an else .train) ∧ t.tick.suspect.getLsbD 5 = true ∧ rest t ∧
      SameBut [.ethernet, .queues, .words, .counters, .tick, .contacts] s t) ∧
    (∀ v : Bool, s.kr4 ≠ v → s.writeCheck .twi [⟨addrOf 0x50 0, BitVec.ofNat 32 (b2n v), 1⟩] = 0 →
      Completes (.kr4Change v) s fun t =>
      t.kr4 = v ∧ t.tick.suspect.getLsbD 5 = true ∧
      (∀ j, j < 4 → (ethPort t j).state = (if t.ethMayRun j then s.ethStart j else .down)) ∧
      SameBut [.ethernet, .queues, .words, .counters, .tick, .contacts] s t) ∧
    (∀ enable hold : Bool, s.domOn 10 = true → s.ethExists e.toNat = true → s.fault.clockPorts.getLsbD e.toNat = false →
      s.writeCheck .twi [⟨ethAddr e.toNat 0, BitVec.ofNat 32 (b2n enable + 64 * b2n hold), 0x41⟩] = 0 →
      Completes (.ethPortEnableWrite e enable hold) s fun t =>
      (enable = true → hold = false → (p t).state = (if (p s).state = .down then s.ethStart e.toNat else (p s).state)) ∧
      (enable = false ∨ hold = true → (p t).state = .down) ∧ rest t ∧
      SameBut [.ethernet, .queues, .words, .counters, .tick, .contacts] s t))

/-- What an Ethernet port does with a frame (R335 to R338, Table ETH-5). The length here includes the 4 bytes of the FCS. A port
that is not UP takes nothing from ERX, nor does one in a loop (R347); a frame that a FIFO fault has spoilt counts as one whose
FCS is bad (R25, the model's choice: log 127). -/
def Obligations.EthernetReceive : Prop := ∀ (s : State) (e : BitVec 2) (b : List Byte) (count : BitVec 64), s.canonical →
  let counted (k : Nat) (t : State) : Prop :=
    t.ctr (ethRc e.toNat k) = s.ctr (ethRc e.toNat k) + 1 ∧ t.ctr (ethAcc e.toNat k) = s.ctr (ethAcc e.toNat k) + 1
  let most := s.cfgF (ethAddr e.toNat 3) 0 14
  (∀ good : Bool, (ethPort s e.toNat).state ≠ .up → Completes (.ethFrameReceived e b good count) s fun t => t = s) ∧
  ((ethPort s e.toNat).state = .up → s.spoilt 5 e.toNat = true → ∀ good : Bool, Completes (.ethFrameReceived e b good count) s fun t =>
    counted 4 t ∧ t.tick.transit = s.tick.transit.erase (5, e.toNat) ∧ SameBut [.counters, .tick] s t) ∧
  ((ethPort s e.toNat).state = .up → s.spoilt 5 e.toNat = false →
  (∀ good : Bool, b.length + 4 < 64 → Completes (.ethFrameReceived e b good count) s fun t =>
    counted 5 t ∧ SameBut [.counters] s t) ∧
  (∀ good : Bool, 64 ≤ b.length + 4 → most < b.length + 4 → Completes (.ethFrameReceived e b good count) s fun t =>
    counted 6 t ∧ SameBut [.counters] s t) ∧
  (64 ≤ b.length + 4 → b.length + 4 ≤ most →
    (Completes (.ethFrameReceived e b false count) s fun t => counted 4 t ∧ SameBut [.counters] s t) ∧
    (s.ethPasses e.toNat b = false → Completes (.ethFrameReceived e b true count) s fun t =>
      counted 0 t ∧ counted 7 t ∧ t.cls.ingress = s.cls.ingress ∧ SameBut [.counters, .time] s t) ∧
    (s.ethPasses e.toNat b = true → isMacControl b = true → beNat (slice b 14 2) ≠ 0x0001 → beNat (slice b 14 2) ≠ 0x0101 →
      Completes (.ethFrameReceived e b true count) s fun t =>
      counted 0 t ∧ t.cls.ingress = s.cls.ingress ∧ SameBut [.counters, .time] s t) ∧
    (s.ethPasses e.toNat b = true → isMacControl b = false → s.cfgB (ethAddr e.toNat 0x40) 1 = true → hasSecTag b = false →
      isEapol b = false → Completes (.ethFrameReceived e b true count) s fun t =>
      counted 0 t ∧ counted 34 t ∧ t.cls.ingress = s.cls.ingress ∧ SameBut [.counters, .time] s t) ∧
    (s.ethPasses e.toNat b = true → isMacControl b = false →
      (s.cfgB (ethAddr e.toNat 0x40) 1 = false ∨ hasSecTag b = true ∨ isEapol b = true) →
      (isLldp b = false ∨ s.cfgB (ethAddr e.toNat 6) 1 = false) → s.ethWaiting e.toNat + b.length ≤ 262144 →
      (b.length + 2047) / 2048 ≤ s.cfgF (addrOf 0x40 0) 0 4 → s.poolServes 0 = true →
      (b.length + 2047) / 2048 ≤ s.freeCells 0 → (s.pool 0).carried = [] → Completes (.ethFrameReceived e b true count) s fun t =>
      counted 0 t ∧
      (∃ pk : Packet, t.cls.ingress = s.cls.ingress ++ [pk] ∧ pk.bytes = b ∧ pk.kind = 3 ∧ pk.index.toNat = e.toNat ∧
        pk.cells.length = (b.length + 2047) / 2048) ∧
      SameBut [.ethernet, .classifier, .queues, .pools, .counters, .time, .contacts] s t)))

/-- Holds on a port (R339, R340): PAUSE and PFC frames that arrive, their expiry, and the repeat of a frame sent. -/
def Obligations.PauseAndPriorities : Prop := ∀ (s : State) (e : BitVec 2), s.canonical →
  let p (t : State) : EthPort := ethPort t e.toNat
  ((p s).state = .up → s.spoilt 5 e.toNat = false → 64 ≤ s.cfgF (ethAddr e.toNat 3) 0 14 →
    (∀ quanta : BitVec 16, Completes (.pauseFrameReceived e quanta) s fun t =>
      (s.cfgF (ethAddr e.toNat 4) 0 2 = 1 → (p t).paused = decide (quanta ≠ 0)) ∧
      (s.cfgF (ethAddr e.toNat 4) 0 2 ≠ 1 → (p t).paused = (p s).paused) ∧ (p t).pfcHeld = (p s).pfcHeld ∧
      t.ctr (ethRc e.toNat 9) = s.ctr (ethRc e.toNat 9) + 1 ∧
      SameBut [.ethernet, .queues, .counters, .time, .words, .keys, .contacts] s t) ∧
    (∀ (vec : Byte) (quanta : List (BitVec 16)), Completes (.pfcFrameReceived e vec quanta) s fun t =>
      (s.cfgF (ethAddr e.toNat 4) 0 2 = 2 → ∀ k, k < 8 → (p t).pfcHeld.getLsbD k =
        (if vec.getLsbD k && (s.cfgF (ethAddr e.toNat 4) 3 8).testBit k then decide (quanta.getD k 0 ≠ 0)
         else (p s).pfcHeld.getLsbD k)) ∧
      (s.cfgF (ethAddr e.toNat 4) 0 2 ≠ 2 → p t = p s) ∧ (p t).paused = (p s).paused ∧
      t.ctr (ethRc e.toNat 10) = s.ctr (ethRc e.toNat 10) + 1 ∧ SameBut [.ethernet, .queues, .counters, .time] s t)) ∧
  ((p s).paused = true → Completes (.pauseHoldExpiry e none) s fun t =>
    (p t).paused = false ∧ (p t).pfcHeld = (p s).pfcHeld ∧ (p t).lldpDue = false ∧
    SameBut [.ethernet, .queues, .counters, .time, .words, .keys, .contacts] s t) ∧
  (∀ k : BitVec 3, (p s).pfcHeld.getLsbD k.toNat = true → Completes (.pauseHoldExpiry e (some k)) s fun t =>
    (∀ j, j < 8 → (p t).pfcHeld.getLsbD j = (decide (j ≠ k.toNat) && (p s).pfcHeld.getLsbD j)) ∧
    (p t).paused = (p s).paused ∧ SameBut [.ethernet, .queues] s t) ∧
  ((p s).state = .up → (p s).xoffSent = true → s.cfgB (ethAddr e.toNat 4) 2 = true →
    1024 * s.cfgF (ethAddr e.toNat 5) 24 8 ≤ s.ethWaiting e.toNat →
    (s.cfgF (ethAddr e.toNat 4) 0 2 = 1 → Completes (.pauseRepeat e) s fun t =>
      t.out = (s.txDone e.toNat).out ++ [.control e 0 (BitVec.ofNat 16 (s.cfgF (ethAddr e.toNat 5) 0 16))] ∧
      t.ctr (ethRc e.toNat 20) = s.ctr (ethRc e.toNat 20) + 1 ∧ SameBut [.ethernet, .counters, .contacts] s t) ∧
    (s.cfgF (ethAddr e.toNat 4) 0 2 = 2 → Completes (.pauseRepeat e) s fun t =>
      t.out = (s.txDone e.toNat).out ++ [.control e (BitVec.ofNat 8 (s.cfgF (ethAddr e.toNat 4) 11 8))
        (BitVec.ofNat 16 (s.cfgF (ethAddr e.toNat 5) 0 16))] ∧
      t.ctr (ethRc e.toNat 21) = s.ctr (ethRc e.toNat 21) + 1 ∧ SameBut [.ethernet, .counters, .contacts] s t))

/-- Low-power idle and the LLDP agent (R341 to R343). -/
def Obligations.IdleAndLldp : Prop := ∀ (s : State) (e : BitVec 2), s.canonical → (ethPort s e.toNat).state = .up →
  let p (t : State) : EthPort := ethPort t e.toNat
  let sent := (s.txDone e.toNat).instant
  (s.cfgB (ethAddr e.toNat 6) 0 = true →
    ((p s).lpiTx = false → (s.domOn 6 && sent.2.nodeEligible (8704 + e.toNat) sent.1) = false →
      Completes (.lpiEntry e) s fun t =>
      (p t).lpiTx = true ∧ t.ctr (ethRc e.toNat 24) = s.ctr (ethRc e.toNat 24) + 1 ∧
      SameBut [.ethernet, .counters, .contacts] s t) ∧
    (∀ v : Bool, (p s).lpiRx ≠ v → Completes (.receiveLpiChange e v) s fun t =>
      (p t).lpiRx = v ∧ (v = true → t.ctr (ethRc e.toNat 25) = s.ctr (ethRc e.toNat 25) + 1) ∧
      SameBut [.ethernet, .counters] s t)) ∧
  ((p s).lpiTx = true → Completes (.lpiExit e) s fun t => (p t).lpiTx = false ∧ SameBut [.ethernet] s t) ∧
  (s.cfgB (ethAddr e.toNat 6) 1 = true →
    (∀ tw : BitVec 16, Completes (.lldpduReceived e tw) s fun t =>
      (p t).partnerTw = tw ∧ ((p t).txTw, (p t).rxTw) = t.wakeTimes e.toNat ∧ SameBut [.ethernet] s t) ∧
    (∀ d : List Byte,
      d = lldpdu (leBytes 6 ((s.cfg (ethAddr e.toNat 0x10)).toNat + 2 ^ 32 * s.cfgF (ethAddr e.toNat 0x11) 0 16)) e.toNat
        (p s).txTw (p s).rxTw (p s).partnerTw → (p s).paused = false →
      s.cfgB (ethAddr e.toNat 0x40) 0 = false → s.spoilt 5 (4 + e.toNat) = false → Completes (.lldpTransmit e) s fun t =>
      (maxN 64 (d.length + 4) ≤ s.cfgF (ethAddr e.toNat 3) 0 14 → (p t).txFrame = some (padded d) ∧ (p t).lpiTx = false) ∧
      (p t).lldpDue = false ∧ SameBut [.ethernet, .counters, .time, .contacts] s t) ∧
    ((p s).paused = true → Completes (.lldpTransmit e) s fun t =>
      p t = { p s with lldpDue := true } ∧ SameBut [.ethernet] s t))

/-- Time-of-day inputs and results (R361 to R363, R368). A result's error is T of the frame as given, with the downstream
delay, less T as latched. -/
def Obligations.TimeOfDay : Prop := ∀ (s : State) (c : Chan), s.canonical →
  (∀ words : List Word, s.hostMay → s.timeOn = true →
    s.writeCheck .twi (wordsIn (timeAddr (0x20 + 8 * chanN c)) words) = 0 → Completes (.todInputWrite c words) s fun t =>
    t.time.todIn.get c = some (todOf words) ∧ t.time.todIn.get (otherCh c) = s.time.todIn.get (otherCh c) ∧
    SameBut [.time, .words, .contacts] s t) ∧
  (∀ b : List Byte, s.alink.state = .active →
    (b.length ≠ 28 → Completes (.todInput b) s fun t =>
      t.ctr (timeCtr 7) = s.ctr (timeCtr 7) + 1 ∧ SameBut [.counters] s t) ∧
    (b.length = 28 → b.take 4 = [0x40, BitVec.ofNat 8 (chanN c), 0, 0] → s.timeOn = true →
      s.todOk c (todOf (toWords (b.drop 4))) = true → Completes (.todInput b) s fun t =>
      t.time.todIn.get c = some (todOf (toWords (b.drop 4))) ∧ SameBut [.time] s t) ∧
    (b.length = 28 → b.take 4 = [0x40, BitVec.ofNat 8 (chanN c), 0, 0] → s.todOk c (todOf (toWords (b.drop 4))) = false →
      Completes (.todInput b) s fun t =>
      (t.time.todOut.get c).status = 3 ∧ t.time.todIn = s.time.todIn ∧ t.ctr (timeCtr 7) = s.ctr (timeCtr 7) + 1 ∧
      t.ctr (timeCtr 4) = s.ctr (timeCtr 4) + 1 ∧ SameBut [.time, .counters] s t)) ∧
  (∀ x : TodIn, s.time.todIn.get c = some x → s.timeOn = true → s.todDue c x = true → Completes (.todResult c) s fun t =>
    t.time.todIn.get c = none ∧ (t.time.todOut.get c).sfc = x.sfc ∧ t.ctr (timeCtr 3) = s.ctr (timeCtr 3) + 1 ∧
    (mget none (s.time.latches.get c) x.sfc.toNat = none → (t.time.todOut.get c).status = 2) ∧
    (∀ l, mget none (s.time.latches.get c) x.sfc.toNat = some l →
      (s.todDelay c x = none → (t.time.todOut.get c).status = 1) ∧
      (∀ d, s.todDelay c x = some d → (t.time.todOut.get c).status = 0 ∧ (t.time.todOut.get c).dPs = BitVec.ofInt 32 d ∧
        (t.time.todOut.get c).errorPs = BitVec.ofInt 64
          ((x.seconds.toNat : Int) * 10 ^ 12 + x.ns.toNat * 1000 + d - nearest ((l.toNat : Int) * 1000) (2 ^ 32)))) ∧
    SameBut [.time, .counters] s t)

/-- The servo, the equipment clock and the PPS contacts (R358, R359, R369, R370). In legacy mode PPS_IN does nothing
(R479).
Time-stamp descriptors (R366): the head of the queue goes to the ring, or to channel 641 as its credit allows. -/
def Obligations.ClocksAndStamps : Prop :=
  (∀ s : State,
  (s.timeOn = true →
    (s.time.servo = .locked → s.servoStill = false →
      s.time.lastUsable.toNat + 80000 ≤ s.tick.number.toNat ∨ s.tick.source = .ref → Completes .servoHoldover s fun t =>
      t.time.servo = .holdover ∧ t.time.inc = s.time.inc ∧ SameBut [.time] s t) ∧
    (∀ n, s.tick.source ≠ .ref → s.time.eec ≠ .locked → s.time.chanSince = some n →
      n.toNat + 80000 ≤ s.tick.number.toNat → s.fault.clockGroups.getLsbD 8 = false → Completes .eecLocked s fun t =>
      t.time.eec = .locked ∧ t.time.eecSince = s.tick.number ∧ t.time.lockedRates = [] ∧ t.time.inc = s.time.inc ∧ SameBut [.time] s t) ∧
    (s.time.ppsOk = true → Completes .ppsInLoss s fun t => t.time.ppsOk = false ∧ SameBut [.time] s t) ∧
    (∀ count : BitVec 64, s.legacy = false → Completes (.ppsInEdge count) s fun t =>
      t.time.ppsOk = true ∧ t.time.ppsEdge = BitVec.ofNat 64 (s.nsAt count) ∧
      t.time.ppsDev = BitVec.ofInt 32 (ppsDeviation (s.nsAt count)) ∧ t.ctr (timeCtr 6) = s.ctr (timeCtr 6) + 1 ∧
      SameBut [.time, .counters] s t)) ∧
  (∀ count : BitVec 64, s.legacy = true → Completes (.ppsInEdge count) s fun t => SameBut [] s t) ∧
  (∀ now, s.outRuns = true → s.cfgB (timeAddr 0xA) 0 = true → s.secondAt = some now →
    (∀ l, s.time.ppsLast = some l → halfSecond ≤ (now - l).toNat) → Completes .ppsOutEdge s fun t =>
    t.time.ppsHigh = true ∧ t.time.ppsLast = some now ∧
    t.time.ppsEnd = now + BitVec.ofNat 64 (s.cfgF (timeAddr 0xA) 6 9 * 1244160) ∧ t.out = s.out ++ [.pps] ∧ SameBut [.time, .contacts] s t) ∧
  (s.outRuns = false ∨ s.cfgB (timeAddr 0xA) 0 = false → Completes .ppsOutEdge s fun t => SameBut [] s t) ∧
  (s.time.ppsHigh = true → s.time.ppsEnd.toNat ≤ s.time.count.toNat + s.tickSpan → Completes .ppsPulseEnd s fun t =>
    t.time.ppsHigh = false ∧ t.time.ppsLast = s.time.ppsLast ∧ SameBut [.time] s t)) ∧
  (∀ s : State, s.canonical →
  (∀ (d : List Byte) (r : List (List Byte)), s.time.tsQueue = d :: r →
    (s.cfgB (timeAddr 0) 0 = true → (s.time.producer - s.cfg (timeAddr 0x11)).toNat < 256 →
      Completes .tsDescriptorDelivery s fun t =>
      t.time.tsQueue = r ∧ mget [] t.time.tsRing (s.time.producer.toNat % 256) = d ∧
      t.time.producer = s.time.producer + 1 ∧ SameBut [.time] s t) ∧
    (s.cfgB (timeAddr 0) 0 = false → s.linkCarries = true → s.creditFor 641 d.length = true → s.spoilt 4 1 = false →
      Completes .tsDescriptorDelivery s fun t =>
      t.time.tsQueue = r ∧ t.time.producer = s.time.producer ∧
      (∃ desc, t.out = s.out ++ [.alanov desc (linkBytes d)]) ∧
      (t.credit 641).consumed = (s.credit 641).consumed + BitVec.ofNat 12 (creditUnits d.length) ∧
      SameBut [.time, .link, .counters, .contacts] s t)) ∧
  (∀ val : Word, s.hostMay → s.writeCheck .twi [⟨timeAddr 0x11, val, all32⟩] = 0 → Completes (.tsConsumerWrite val) s fun t =>
    t.cfg (timeAddr 0x11) = val ∧ t.time = s.time ∧ SameBut [.words, .contacts] s t))

/-- A tributary towards the packets (R377 to R383). No other tributary is touched. -/
def Obligations.TributaryUp : Prop := ∀ (s : State) (k : BitVec 7), s.canonical →
  let x := s.trib k.toNat
  let g := s.ces_ k.toNat
  let y (t : State) : Trib := t.trib k.toNat
  let rest (t : State) : Prop := ∀ j, j ≠ k.toNat → t.trib j = s.trib j
  (∀ b : List Byte, s.domOn 11 = true →
    (b.length ≠ (if g.frameBits = 193 then 29 else 36) → Completes (.slotStreamFrame k b) s fun t =>
      t.ctr malformedSs = s.ctr malformedSs + 1 ∧ SameBut [.counters] s t) ∧
    (b.length = (if g.frameBits = 193 then 29 else 36) → s.tribRuns k.toNat = true →
      Completes (.slotStreamFrame k b) s fun t =>
      (y t).ssSeq = some (b.getD 0 0) ∧ (y t).ssLoss = false ∧ (y t).hostLos = (b.getD 1 0).getLsbD 0 ∧
      (∀ last, x.ssSeq = some last → (y t).lineBits = x.lineBits ++
        onesBits ((b.getD 0 0 - last - 1).toNat * g.frameBits - x.owed) ++ (bitsOf (b.drop 4)).take g.frameBits) ∧
      (y t).owed = 0 ∧
      rest t ∧ SameBut [.ces, .counters] s t)) ∧
  (s.tribRuns k.toNat = true → x.ssLoss = false → Completes (.cesSsLoss k) s fun t =>
    y t = { x with ssLoss := true } ∧ rest t ∧ SameBut [.ces] s t) ∧
  (∀ (data : List Byte) (l : Bool) (used p : Nat), s.tribRuns k.toNat = true → takePayload g x = some (data, l, used) →
    poolForSize ((s.txHdr k.toNat).length + 4 + (if g.rtp then 12 else 0) + data.length) = some p →
    s.poolServes p = true → s.freeCells p ≠ 0 → (s.pool p).carried = [] → s.spoilt 7 1 = false → Completes (.cesPacketBuild k) s fun t =>
    (y t).seqTx = x.seqTx + 1 ∧ (y t).lineBits = x.lineBits.drop used ∧
    (y t).owed = x.owed + ((if g.cesopsn then g.frames * g.frameBits else g.satop * 8) - used) ∧
    t.ctr (cesCtr k.toNat 0) = s.ctr (cesCtr k.toNat 0) + 1 ∧ rest t ∧ SameBut [.ces, .queues, .pools, .bursts, .counters] s t) ∧
  (s.hostMay →
    (s.writeCheck .twi [⟨cesAddr k.toNat 0, 1, 1⟩] = 0 → s.cfgB (cesAddr k.toNat 0) 0 = false → s.domOn 11 = true →
      Completes (.tributaryEnable k) s fun t =>
      t.tribRuns k.toNat = true ∧ rest t ∧
      (∃ seq base c, y t =
        { Trib.none with seqTx := seq, rtpBase := base, slipAt := x.slipAt, generator := { Gen.start with crc := c } }) ∧
      SameBut [.ces, .words, .contacts] s t) ∧
    (s.writeCheck .twi [⟨cesAddr k.toNat 0, 0, 1⟩] = 0 → s.cfgB (cesAddr k.toNat 0) 0 = true →
      Completes (.tributaryDisable k) s fun t =>
      t.tribRuns k.toNat = false ∧ y t = { Trib.none with slipAt := x.slipAt } ∧ rest t ∧ SameBut [.ces, .words, .contacts] s t))

/-- A tributary towards its line (R384 to R391, Table FAULT-4): the jitter buffer, playout, LOPS, slips and the slot-stream frames. -/
def Obligations.TributaryDown : Prop := ∀ (s : State) (k : BitVec 7), s.canonical → s.tribRuns k.toNat = true →
  let x := s.trib k.toNat
  let g := s.ces_ k.toNat
  let y (t : State) : Trib := t.trib k.toNat
  let rest (t : State) : Prop := ∀ j, j ≠ k.toNat → t.trib j = s.trib j
  (∀ (p : Packet) (r : List Packet), mget [] s.ces.rx k.toNat = p :: r → s.spoilt 7 0 = false →
    (s.pwParse k.toNat p.bytes = none → Completes (.pwPacketReceived k) s fun t =>
      t.ctr (cesCtr k.toNat 5) = s.ctr (cesCtr k.toNat 5) + 1 ∧ mget [] t.ces.rx k.toNat = r ∧ y t = x ∧ rest t ∧
      SameBut [.ces, .queues, .pools, .bursts, .counters] s t) ∧
    (∀ (seq : BitVec 16) (l rdi : Bool) (data : List Byte), s.pwParse k.toNat p.bytes = some (seq, l, rdi, data) →
      Completes (.pwPacketReceived k) s fun t =>
      mget [] t.ces.rx k.toNat = r ∧ (y t).lRx = l ∧ (y t).rRx = rdi ∧
      (x.playing = false → x.jb = [] → (y t).nextPlay = seq ∧ (y t).timer = true ∧
        mget none (y t).jb seq.toNat = some { data := if l then onesBytes data.length else data, l } ∧
        t.ctr (cesCtr k.toNat 2) = s.ctr (cesCtr k.toNat 2) + 1) ∧
      rest t ∧ SameBut [.ces, .queues, .pools, .bursts, .counters] s t)) ∧
  (x.timer = true → Completes (.jbStartTimer k) s fun t =>
    y t = { x with timer := false, playing := true, slipBuf := [], lastFrame := none } ∧ rest t ∧ SameBut [.ces] s t) ∧
  (x.playing = true → Completes (.playoutPosition k) s fun t =>
    (∀ p, mget none x.jb x.nextPlay.toNat = some p → mget none (y t).jb x.nextPlay.toNat = none ∧
      (y t).nextPlay = x.nextPlay + 1) ∧
    (mget none x.jb x.nextPlay.toNat = none → x.jb ≠ [] → (y t).nextPlay = x.nextPlay + 1 ∧
      t.ctr (cesCtr k.toNat 3) = s.ctr (cesCtr k.toNat 3) + 1) ∧
    (x.jb = [] → (y t).playing = false ∧ (y t).toPlay = [] ∧ (y t).slipBuf = [] ∧ t.ctr (cesCtr k.toNat 6) = s.ctr (cesCtr k.toNat 6) + 1) ∧
    rest t ∧ SameBut [.ces, .counters] s t) ∧
  (x.lops = false → Completes (.cesLops k) s fun t =>
    y t = { x with lops := true, inSeq := 0 } ∧ rest t ∧ SameBut [.ces] s t) ∧
  (g.cesopsn = true → g.clock ≠ 1 → x.playing = true →
    (2 - x.slipBuf.length < x.toPlay.length → Completes (.cesSlip k true) s fun t =>
      (y t).slipBuf = x.slipBuf ++ (x.toPlay.take (2 - x.slipBuf.length)).map (g.chosen x) ∧
      (y t).toPlay = x.toPlay.drop (2 - x.slipBuf.length + 1) ∧ t.ctr (cesCtr k.toNat 9) = s.ctr (cesCtr k.toNat 9) + 1 ∧
      rest t ∧ SameBut [.ces, .counters] s t) ∧
    (x.toPlay.length ≤ 2 - x.slipBuf.length → Completes (.cesSlip k true) s fun t => t = s) ∧
    (∀ c, x.lastFrame = some c → x.slipBuf = [] → x.toPlay = [] → Completes (.cesSlip k false) s fun t =>
      (y t).slipBuf = [c] ∧ (y t).toPlay = [] ∧ t.ctr (cesCtr k.toNat 8) = s.ctr (cesCtr k.toNat 8) + 1 ∧ rest t ∧
      SameBut [.ces, .counters] s t) ∧
    (x.slipBuf ≠ [] ∨ x.toPlay ≠ [] ∨ x.lastFrame = none → Completes (.cesSlip k false) s fun t => t = s)) ∧
  (∀ f : Played, nextFrame g (if g.slips && x.playing && decide (x.slipBuf = []) && decide (x.toPlay = []) then { x with slipBuf := x.lastFrame.toList } else x) = some f →
    s.fault.clockGroups.getLsbD 7 = false → s.spoilt 4 1 = false →
    let d := [x.ssTxSeq, if f.ais then 1 else 0, 0, 0] ++ packBits ((g.frameBits + 7) / 8) f.bits
    Completes (.slotStreamFrameSend k) s fun t =>
    (y t).ssTxSeq = x.ssTxSeq + 1 ∧ (y t).aisTx = f.ais ∧ (y t).toPlay = f.after.toPlay ∧ (y t).slipBuf = f.after.slipBuf ∧
    (y t).lastFrame = f.after.lastFrame ∧
    ((s.linkCarries && s.creditFor (512 + k.toNat) d.length) = true →
      ∃ desc, t.out = s.out ++ [.alanov desc (linkBytes d)]) ∧
    ((s.linkCarries && s.creditFor (512 + k.toNat) d.length) = false →
      t.alink.cesWait = s.alink.cesWait ++ [(k, d)] ∧ t.out = s.out) ∧
    rest t ∧ SameBut [.ces, .link, .counters, .contacts] s t) ∧
  (s.fault.clockGroups.getLsbD 7 = true →
    (g.cesopsn = false → Completes (.slotStreamFrameSend k) s fun t => t = s) ∧
    (g.cesopsn = true → s.spoilt 4 1 = false → Completes (.slotStreamFrameSend k) s fun t =>
      (y t).ssTxSeq = x.ssTxSeq + 1 ∧ (y t).aisTx = true ∧ (y t).toPlay = x.toPlay ∧ (y t).slipBuf = x.slipBuf ∧ rest t ∧
      SameBut [.ces, .link, .counters, .contacts] s t))

/-- What an uncorrectable error costs, by its region (R427, Table FAULT-2). -/
def Obligations.EccRegions : Prop := ∀ (s : State) (e : EccErr), s.canonical → s.domsRun = true →
  (e.region ≠ 5 → Completes (.eccUncorrectable e) s fun t =>
    t.fault.lastEcc = BitVec.ofNat 64 (put 0 4 e.region.toNat + put 4 1 (b2n e.addrMismatch) + put 5 1 (b2n e.byScrub) +
      put 6 26 e.word.toNat + put 32 32 s.tickLow) ∧
    SameBut [.faults, .counters, .stipple, .tick, .channels, .vonus, .bursts, .classifier, .queues, .pools, .ces, .keys, .images,
      .lasting] s t) ∧
  (e.region = 0 → Completes (.eccUncorrectable e) s fun t => t.fault.goldenBad = s.fault.goldenBad ++ [e] ∧
    SameBut [.faults, .counters, .channels, .bursts, .queues, .pools] s t) ∧
  (e.region = 2 → e.index < poolCells e.pool → (s.cell e.pool e.index).state ≠ 3 → Completes (.eccUncorrectable e) s fun t =>
    t.cell e.pool e.index = { state := 3, owner := 0, refs := 0 } ∧ t.ctr (bpmCtr 2) = s.ctr (bpmCtr 2) + 1 ∧
    t.ctr (fltCtr 1) = s.ctr (fltCtr 1) + 1 ∧
    SameBut [.faults, .counters, .bursts, .queues, .pools] s t) ∧
  (e.region = 3 → Completes (.eccUncorrectable e) s fun t => (t.queue e.index).pkts = [] ∧
    SameBut [.faults, .counters, .bursts, .queues, .pools] s t) ∧
  (e.region = 4 → e.index ≠ fltCtr 1 → sideCount e.index = false → Completes (.eccUncorrectable e) s fun t =>
    (∃ f, f ≤ (s.ctr e.index - mget 0 (s.tick.folds.getLast?.getD []) e.index).toNat ∧
      t.ctr e.index = s.ctr e.index - BitVec.ofNat 64 f) ∧ t.tick.suspectSecond = true ∧ SameBut [.faults, .counters, .tick] s t) ∧
  (∀ c, e.region = 6 → e.chan = some c → Completes (.eccUncorrectable e) s fun t =>
    (∀ b ∈ (t.bch c).bursts, b.tick ≠ s.tick.number) ∧
    SameBut [.faults, .counters, .channels, .vonus, .bursts, .queues, .pools] s t) ∧
  (e.region = 6 → e.chan = none → e.index < 64 → Completes (.eccUncorrectable e) s fun t =>
    t.qs.eccShut = s.qs.eccShut ++ [BitVec.ofNat 6 e.index] ∧ t.fault.goldenBad = s.fault.goldenBad ++ [e] ∧
    SameBut [.faults, .counters, .queues] s t) ∧
  (e.region = 8 → Completes (.eccUncorrectable e) s fun t =>
    (slotKind (e.index % 4096) ≠ 1 → t.slot (e.index % 4096) = Slot.empty) ∧
    (slotKind (e.index % 4096) = 1 → (t.slot (e.index % 4096)).isDefault = true) ∧
    SameBut [.faults, .counters, .keys] s t) ∧
  (e.region = 10 → e.pool = 0 → sideCount e.index = false → e.index ≠ fltCtr 1 → Completes (.eccUncorrectable e) s fun t =>
    t.ctr e.index = 0 ∧ SameBut [.faults, .counters] s t) ∧
  (e.region = 11 → e.pool = 2 → Completes (.eccUncorrectable e) s fun t =>
    t.mram.prefBank = none ∧ t.fw = s.fw ∧ SameBut [.faults, .counters, .lasting] s t) ∧
  (Completes .goldenRewrite s fun t =>
    t.fault.goldenBad = [] ∧ t.qs.eccShut = [] ∧ t.qs.queues = s.qs.queues ∧ SameBut [.faults, .queues] s t)

/-- The core pairs (R429): a disagreement halts its pair; the last pair's leads to the safe state; a pair that has not failed
for good comes back.
A control state machine found in an illegal state restarts (R434). -/
def Obligations.CoresAndMachines : Prop :=
  (∀ (s : State) (svc : Bool), s.canonical →
  let ok (t : State) (v : Bool) : Bool := if v then t.fault.svcOk else t.fault.rtOk
  let bad (t : State) (v : Bool) : Bool := if v then t.fault.svcFailed else t.fault.rtFailed
  let past := if svc then s.fault.svcMismatches else s.fault.rtMismatches
  (s.domsRun = true → s.pairIn svc = true →
    (s.pairLast svc = false → Completes (.lockstepMismatch svc) s fun t =>
      ok t svc = false ∧ ok t (!svc) = ok s (!svc) ∧ t.phase = s.phase ∧
      bad t svc = (bad s svc || decide (2 ≤ (s.pairRecent past).length)) ∧
      t.ctr (fltCtr 5) = s.ctr (fltCtr 5) + 1 ∧ SameBut [.faults, .counters, .link, .commands, .contacts] s t) ∧
    (s.pairLast svc = true → Completes (.lockstepMismatch svc) s fun t =>
      t.phase = .safe ∧ t.power.safeCause = 2 ∧ (∀ c, (t.bch c).switchOpen = true ∧ (t.bch c).current = none ∧ (t.ch c).tx ≠ .ready) ∧
      SameBut [.faults, .counters, .phase, .channels, .bursts, .lasting] s t)) ∧
  (Completes (.corePairResume svc) s fun t =>
    ok t svc = (ok s svc || !bad s svc) ∧ ok t (!svc) = ok s (!svc) ∧ bad t svc = bad s svc ∧ SameBut [.faults] s t)) ∧
  (∀ (s : State) (m : Ctl), s.canonical → s.domsRun = true → s.domOn (ctlDom m) = true →
  Completes (.illegalState m) s fun t =>
    t.ctr (fltCtr 8) = s.ctr (fltCtr 8) + 1 ∧
    (m = .link → s.alink.state ≠ .down → t.alink.state = .lock) ∧
    (∀ c, m = .burin c → ∀ b ∈ (t.bch c).bursts, b.tick ≠ s.tick.number) ∧
    (∀ e, m = .port e → (ethPort t e.toNat).state = (if s.ethMayRun e.toNat then s.ethStart e.toNat else .down)) ∧
    SameBut [.words, .counters, .tick, .channels, .vonus, .bursts, .classifier, .queues, .pools, .link, .ethernet, .keys,
      .contacts] s t)

/-- Monitors of clocks and rails (R430 to R432, R457, Table FAULT-4) and the safe state that the gravest lead to (R433). The counters
lie in DRAM (Table BPM-2) and are lost with it (R445), its own rail fault among them. -/
def Obligations.Monitors : Prop := ∀ s : State, s.canonical →
  (∀ (g : Fin 11) (permille : BitVec 16) (ports : BitVec 4), s.domsRun = true → s.domOn (groupOfDom g.val) = true →
    s.clocksOut g.val < groupClocks g.val → Completes (.clockFault g permille ports) s fun t =>
    t.fault.clockGroups = s.fault.clockGroups ||| BitVec.ofNat 11 (2 ^ g.val) ∧ t.clocksOut g.val = s.clocksOut g.val + 1 ∧
    t.ctr (fltCtr 6) = s.ctr (fltCtr 6) + 1 ∧ (g.val = 0 → t.phase = .safe) ∧ (g.val ≠ 0 → t.phase = s.phase) ∧
    (g.val = 1 → (t.ch .a).los = true) ∧ (g.val = 3 → (t.ch .b).los = true) ∧ (g.val = 2 → (t.ch .a).holdClock = true) ∧
    (g.val = 4 → (t.ch .b).holdClock = true) ∧ (g.val = 5 → s.alink.state ≠ .down → t.alink.state = .clock) ∧
    (g.val = 6 → t.fault.clockPorts = s.fault.clockPorts ||| ports) ∧ (g.val = 8 → t.time.eec = .freeRun) ∧
    SameBut [.faults, .counters, .tick, .channels, .bursts, .classifier, .queues, .link, .ethernet, .time, .phase, .contacts, .lasting] s t) ∧
  (∀ g : Fin 11, s.fault.clockGroups.getLsbD g.val = true →
    (s.fault.clockMore.contains (BitVec.ofNat 4 g.val) = true → g.val ≠ 9 → Completes (.clockFaultClear g) s fun t =>
      t.fault.clockGroups = s.fault.clockGroups ∧ t.fault.clockMore = s.fault.clockMore.erase (BitVec.ofNat 4 g.val) ∧
      SameBut [.faults] s t) ∧
    (s.fault.clockMore.contains (BitVec.ofNat 4 g.val) = false → g.val ≠ 9 ∨ s.phase ≠ .recovery →
      Completes (.clockFaultClear g) s fun t =>
      t.fault.clockGroups.getLsbD g.val = false ∧ (∀ k, k ≠ g.val → t.fault.clockGroups.getLsbD k = s.fault.clockGroups.getLsbD k) ∧
      (g.val = 6 → t.fault.clockPorts = 0) ∧ t.phase = s.phase ∧
      SameBut [.faults, .counters, .channels, .bursts, .queues, .ethernet, .tick, .contacts] s t)) ∧
  (∀ (c : Chan) (b : Burst), s.domOn (txDom c) = true → (s.bch c).current = some b →
    Completes (.burstClockActivityLoss c) s fun t =>
    (t.bch c).current = none ∧ (t.bch c).lastCause = 0 ∧ t.ctr (burinCtr c 16) = s.ctr (burinCtr c 16) + 1 ∧
    t.bch (otherCh c) = s.bch (otherCh c) ∧ SameBut [.counters, .channels, .vonus, .bursts, .queues, .pools, .keys, .lasting] s t) ∧
  (∀ d : Fin 13, s.domsRun = true → s.railJudged d.val = true → (s.dom d.val).railBad = false →
    Completes (.railFault d) s fun t =>
    (d.val ≠ 8 → t.ctr (fltCtr 7) = s.ctr (fltCtr 7) + 1) ∧ (d.val = 1 ∨ d.val = 6 → t.phase = .safe) ∧
    (d.val ≠ 1 → d.val ≠ 6 → t.phase = s.phase) ∧
    (d.val = 3 → (t.ch .a).holdRail = true ∧ (t.bch .a).switchOpen = true) ∧
    (d.val = 5 → (t.ch .b).holdRail = true ∧ (t.bch .b).switchOpen = true) ∧
    (d.val ∈ [2, 4, 7, 8, 9, 10, 11, 12] → (t.dom d.val).st = .failed) ∧
    SameBut [.words, .counters, .stipple, .phase, .tick, .commands, .channels, .bursts, .classifier, .queues, .pools, .link,
      .ethernet, .time, .ces, .keys, .lasting, .contacts] s t) ∧
  (∀ d : Fin 13, s.railJudged d.val = true → (s.dom d.val).railBad = true → Completes (.railFaultClear d) s fun t =>
    (t.dom d.val).railBad = false ∧ (d.val = 3 → (t.ch .a).holdRail = false) ∧ (d.val = 5 → (t.ch .b).holdRail = false) ∧
    SameBut [.channels, .bursts] s t) ∧
  (∀ (vin : BitVec 16) (die : BitVec 12), Completes (.operatingConditionsChange { vin, die }) s fun t =>
    t.fault.outside = (supplyBad vin || s.dieBad die) ∧ t.fault.supplyOut = supplyBad vin ∧ t.fault.guarantee = decide (t.reasons = 0) ∧ SameBut [.faults] s t)

/-- The firmware handover (R438, R440): phase by phase, each with its self-test, to the new image or back: a pair that fails
reloads the image before, and the handover is over when it is back at its duties. -/
def Obligations.Handovers : Prop := ∀ (s : State) (h : Handover), s.canonical → s.fault.handover = some h →
  (h.from_.toNat ≤ s.tick.number.toNat → (h.phase = 0 ∧ s.activationHeld = false) ∨ (h.phase = 1 ∧ h.passed = true) →
    h.failing = false →
    Completes .handoverPhaseStart s fun t =>
    t.fault.handover = some { h with phase := h.phase + 1, passed := false } ∧ t.fw = s.fw ∧ SameBut [.faults] s t) ∧
  (h.from_.toNat ≤ s.tick.number.toNat → h.phase = 2 → h.passed = true → h.failing = false →
    s.fault.clockGroups.getLsbD 9 = false → Completes .handoverPhaseStart s fun t =>
    t.fault.handover = none ∧ t.fw.runningBank = h.bank ∧ t.fw.pref = h.bank ∧ t.mram.prefBank = some h.bank ∧
    (t.bank h.bank).st = .running ∧ (t.bank (!h.bank)).st ≠ .running ∧ t.time.heldErr = [] ∧
    t.ctr (fltCtr 10) = s.ctr (fltCtr 10) + 1 ∧
    SameBut [.faults, .counters, .link, .time, .commands, .images, .lasting, .legacySet, .contacts] s t) ∧
  (h.phase ≠ 0 → h.passed = false →
    (Completes .handoverSelfTestPass s fun t =>
      t.fault.handover = some { h with passed := true, from_ := s.tick.number + 1 } ∧ SameBut [.faults] s t) ∧
    (h.failing = false → Completes .handoverFailure s fun t =>
      t.fault.handover = some { h with failing := true } ∧ t.ctr (fltCtr 10) = s.ctr (fltCtr 10) + 1 ∧
      SameBut [.faults, .counters] s t)) ∧
  (h.from_.toNat ≤ s.tick.number.toNat → h.phase ≠ 0 → h.passed = true → h.failing = true → Completes .handoverPhaseStart s fun t =>
    t.fault.handover = none ∧ t.fw = s.fw ∧ t.time.heldErr = [] ∧
    SameBut [.faults, .counters, .link, .time, .commands, .legacySet, .contacts] s t)

/-- The power die and the domains (R446, R450, R451, R455 to R457). A request is answered in its turn; settling may let a
domain that is needed again power up, or one that is not needed shut down, at once. -/
def Obligations.PowerDomains : Prop := ∀ s : State, s.canonical →
  (∀ d : Fin 13, (s.dom d.val).st = .shuttingDown → (s.dom d.val).isolated = false → (s.dom d.val).offAsked = false →
    (d.val = 1 → s.phase = .sleeping → s.power.wakeLow = false) → Completes (.quiesceEnd d) s fun t =>
    (t.dom d.val).isolated = true ∧ (t.dom d.val).st = .shuttingDown ∧
    (∃ more, t.power.die = s.power.die ++ { dom := d.val, on := false, reissued := false } :: more) ∧
    (d.val = 1 → s.phase = .sleeping → t.phase = .asleep ∧ t.power.wakeArmed = true) ∧
    SameBut [.words, .counters, .stipple, .phase, .tick, .commands, .channels, .vonus, .bursts, .classifier, .queues, .pools, .link,
      .ethernet, .time, .ces, .keys, .contacts] s t) ∧
  (∀ (r : DieReq) (l : List DieReq), s.power.die = r :: l →
    (s.fault.clockGroups.getLsbD 9 = false →
      (r.on = true → (s.dom r.dom).st = .poweringUp → (∀ q ∈ l, q.dom ≠ r.dom) → Completes .powerDieAck s fun t =>
        (t.dom r.dom).acked = true ∧ (t.dom r.dom).st = .poweringUp ∧ (∃ more, t.power.die = l ++ more) ∧ SameBut [] s t) ∧
      (r.on = false → (s.dom r.dom).st = .shuttingDown → Completes .powerDieAck s fun t =>
        (t.dom r.dom).st ≠ .shuttingDown ∧ (t.dom r.dom).st ≠ .on ∧ (∃ more, t.power.die = l ++ more) ∧
        SameBut [.counters, .bursts, .classifier, .queues, .pools] s t)) ∧
    (r.reissued = false → Completes .powerDieTimeout s fun t =>
      (∃ more, t.power.die = { r with reissued := true } :: l ++ more) ∧ t.tick.suspect.getLsbD 10 = true ∧
      t.ctr (pwrCtr r.dom 3) = s.ctr (pwrCtr r.dom 3) + 1 ∧
      SameBut [.counters, .tick, .commands, .link, .contacts] s t) ∧
    (r.reissued = true → Completes .powerDieTimeout s fun t =>
      (t.dom r.dom).st = .failed ∧ (r.dom = 1 ∨ r.dom = 6 ∨ r.dom = 8 → s.domsRun = true → t.phase = .safe) ∧
      SameBut [.words, .counters, .stipple, .phase, .tick, .commands, .channels, .vonus, .bursts, .classifier, .queues, .pools, .link,
        .ethernet, .time, .ces, .keys, .lasting, .contacts] s t)) ∧
  (∀ d : Fin 13, (s.dom d.val).st = .poweringUp → (s.dom d.val).acked = true → Completes (.domainResetRelease d) s fun t =>
    ((t.dom d.val).st = .on ∨ (t.dom d.val).st = .shuttingDown) ∧ (t.dom d.val).isolated = false ∧
    (t.dom d.val).acked = false ∧
    (d.val = 6 → t.qs.queues = [] ∧ t.qs.nodes = [] ∧ t.qs.credits = [] ∧ t.qs.meters = [] ∧ t.qs.rearm = true ∧
      t.cls.ingress = [] ∧ t.cls.restoring = true ∧ t.cls.generation = 0 ∧ t.burin.stage = []) ∧
    SameBut [.words, .counters, .stipple, .phase, .tick, .channels, .vonus, .bursts, .classifier, .queues, .pools, .link, .ethernet, .time,
      .ces, .images, .contacts] s t) ∧
  (∀ d : Fin 13, (s.dom d.val).st = .failed →
    ((s.dom d.val).retryOk = true → Completes (.railFaultRetry d) s fun t =>
      ((t.dom d.val).st = .off ∨ (t.dom d.val).st = .poweringUp) ∧ (t.dom d.val).retryOk = false ∧ SameBut [] s t) ∧
    (s.hostMay → s.writeCheck .twi [⟨addrOf 0x70 (0x20 + d.val), 1, all32⟩] = 0 → Completes (.domainRetry d) s fun t =>
      ((t.dom d.val).st = .off ∨ (t.dom d.val).st = .poweringUp) ∧ SameBut [.contacts] s t))

/-- Resets, sleep and waking (R459 to R464): what each kind keeps. All else is as at reset. -/
def Obligations.ResetsAndSleep : Prop := ∀ s : State, s.canonical →
  let wiped (cause : Nat) (ph : Phase) (t : State) : Prop :=
    t.pending = s.pending ∧ t.phase = ph ∧ t.pins = s.pins ∧ t.legacy = false ∧ t.part = s.part ∧ t.fuses = s.fuses ∧
    t.mram.kept = s.mram.kept ∧ (∀ v, (t.vonuAt v).life = .free) ∧ t.mram.estops = s.mram.estops ∧
    t.power.cause = BitVec.ofNat 3 cause ∧ t.crypto.slots = [] ∧ t.fw.digest = (if cause = 5 then s.fw.digest else none) ∧
    t.bpm = (if cause = 5 then { State.reset.bpm with trainedAt := s.bpm.trainedAt } else State.reset.bpm) ∧
    t.fw.banks.a.image = s.fw.banks.a.image ∧ t.fw.banks.b.image = s.fw.banks.b.image ∧
    (∀ a, t.ctr a = if a = fltCtr 9 then s.mram.safeStates else 0) ∧
    t.fault.outside = s.fault.outside ∧ t.fault.supplyOut = s.fault.supplyOut ∧
    SameBut [.queue, .phase, .straps, .device, .fuses, .words, .counters, .pools, .keys, .images, .contacts, .faults, .lasting]
      State.reset t
  (Completes .powerOnReset s fun t =>
    wiped 0 .inReset t ∧ t.power.history = 0 ∧ t.cfg sleepCfgAddr = resetWord sleepCfgAddr ∧ t.out = s.out) ∧
  (s.phase ≠ .inReset → Completes .resetNAssert s fun t =>
    wiped 1 .inReset t ∧ t.power.history = s.power.history ||| 2 ∧ t.cfg sleepCfgAddr = s.cfg sleepCfgAddr ∧ t.out = s.out) ∧
  (∀ val : Word, s.hostMay → s.writeCheck .twi [⟨addrOf 0x70 2, val, all32⟩] = 0 → Completes (.commandReset val) s fun t =>
    wiped 2 .internalReset t ∧ t.power.history = s.power.history ||| 4 ∧ t.out = s.out ++ [.writeStatus 0]) ∧
  (s.phase = .safe → Completes .safeStateReset s fun t =>
    wiped 3 .internalReset t ∧ t.power.safeCause = s.power.safeCause ∧ t.out = s.out) ∧
  (s.phase = .booting → (s.fw.banks.a.st = .running ∨ s.fw.banks.b.st = .running) → Completes .bootWatchdogExpiry s fun t =>
    wiped 4 .internalReset t ∧ t.fw.failedMark.getLsbD (b2n s.fw.runningBank) = true ∧ t.out = s.out) ∧
  (s.phase = .asleep → s.power.wakeArmed = true →
    (s.power.wakeMask.getLsbD 0 = true → Completes .wakeAddressMatch s fun t =>
      wiped 5 .internalReset t ∧ t.power.wakeSrc = 1 ∧ t.out = s.out ++ [.twiByteNack]) ∧
    (s.power.wakeMask.getLsbD 1 = true → Completes .wakeN s fun t =>
      wiped 5 .internalReset t ∧ t.power.wakeSrc = 2 ∧ t.out = s.out) ∧
    (s.power.wakeMask.getLsbD 2 = true → Completes .aonTimerWake s fun t =>
      wiped 5 .internalReset t ∧ t.power.wakeSrc = 4 ∧ t.out = s.out)) ∧
  (s.phase = .asleep → (s.power.wakeArmed && s.power.wakeMask.getLsbD 0) = false → Completes .wakeAddressMatch s fun t =>
    t.out = s.out ++ [.twiNack] ∧ SameBut [.contacts] s t) ∧
  (s.phase = .sleeping → Completes .wakeN s fun t => t.power.wakeLow = true ∧ SameBut [] s t) ∧
  (∀ src : BitVec 2, src ≠ 3 → s.phase = .internalReset → s.power.cause = 5 → s.power.wakeMask.getLsbD src.toNat = true →
    Completes (if src = 0 then .wakeAddressMatch else if src = 1 then .wakeN else .aonTimerWake) s fun t =>
    t.power.wakeSrc = s.power.wakeSrc ||| BitVec.ofNat 3 (2 ^ src.toNat) ∧ SameBut [] s t) ∧
  (∀ w : WaitSt, s.cmd.wait = some w → s.leg.restart = false →
    (w.what = .reset → Completes .sleepWaitEnd s fun t => wiped 2 .internalReset t ∧ t.out = s.out) ∧
    (w.what = .sleep → Completes .sleepWaitEnd s fun t =>
      t.phase = .sleeping ∧ t.cmd.wait = none ∧ (∀ d ∈ domOrder, (t.dom d).votes &&& 3 = 0) ∧
      (∀ i, t.slot i = Slot.empty ∨ t.slot i = defaultSlot) ∧ SameBut [.phase, .commands, .keys] s t))

/-- Release, READY and MODE_SEL (R2 to R4, R463, R467, R469): the mode is decided at the release and only there. -/
def Obligations.BootAndMode : Prop := ∀ s : State, s.canonical →
  (∀ (m : Bool) (a : BitVec 3), s.phase = .inReset → Completes (.resetNRelease m a) s fun t =>
    t.phase = .booting ∧ t.legacy = (s.fuses.legacyLock || m) ∧ t.pins = { modeSel := m, madr := a, madrSampled := a } ∧
    SameBut [.phase, .straps] s t) ∧
  (s.phase = .internalReset → Completes .internalResetEnd s fun t =>
    t.phase = .booting ∧ t.legacy = (s.fuses.legacyLock || s.pins.modeSel) ∧ t.pins.madrSampled = s.pins.madr ∧
    SameBut [.phase, .straps] s t) ∧
  (∀ v : Bool, Completes (.modeSelChange v) s fun t =>
    t.pins = { s.pins with modeSel := v } ∧ t.legacy = s.legacy ∧ SameBut [.straps] s t) ∧
  (s.phase = .booting → (s.fw.banks.a.st = .running ∨ s.fw.banks.b.st = .running) → (s.dom 1).st = .on → (s.dom 8).st = .on →
    (s.dom 6).st = .on → Completes .readyAssert s fun t =>
    t.phase = .ready ∧ t.fw.failedMark = 0 ∧ t.leg.busy = false ∧ t.power.safePending = false ∧
    (s.legacy = true → t.chEnabled .b = true) ∧ (s.legacy = false → SameBut [.phase, .images, .legacySet] s t) ∧
    SameBut [.words, .counters, .phase, .channels, .bursts, .queues, .pools, .images, .legacySet] s t)

/-- The transports (R38 to R43, R48, R53, R64): a packet with a good CRC and VERSION 2 is the command it spells, and one
without is answered and changes nothing. -/
def Obligations.Transports : Prop := ∀ s : State, s.canonical →
  let own : BitVec 7 := 0x58 + s.pins.madrSampled.setWidth 7
  (∀ (r : Req) (op : Byte) (i : Instr), rowOf op.toNat r = some i → r.payload.length ≤ 4080 →
    (r.t = .twi → s.spoilt 9 0 = false → ∃ t, exec (.twiWriteTransaction own (cmdBytes op r)) s = .next t ∧ exec i s = .next t) ∧
    (r.t = .alanov → s.spoilt 4 0 = false → ∃ t, exec (.managementFrame (cmdBytes op r)) s = .next t ∧ exec i s = .next t)) ∧
  (∀ (a : BitVec 7) (l : List Byte), a ≠ own → Completes (.twiWriteTransaction a l) s fun t => t = s) ∧
  (s.takes .twi = true →
    (32 ≤ s.inExecution .twi → ∀ l, Completes (.twiWriteTransaction own l) s fun t =>
      t.out = s.out ++ [.twiNack] ∧ SameBut [.contacts] s t) ∧
    (s.inExecution .twi < 32 →
      (∀ l : List Byte, l.length < 20 → Completes (.twiWriteTransaction own l) s fun t =>
        (t.port .twi).runt = (s.port .twi).runt + 1 ∧ t.port .alanov = s.port .alanov ∧ SameBut [.commands] s t) ∧
      (∀ (r : Req) (op : Byte), r.t = .twi → r.payload = [] →
        let bad : List Byte := (cmdBytes op r).set 19 ((cmdBytes op r).getD 19 0 ^^^ 1)
        Completes (.twiWriteTransaction own bad) s fun t =>
        (t.port .twi).badCrc = (s.port .twi).badCrc + 1 ∧ (t.port .twi).expected = (s.port .twi).expected ∧
        (∃ y : Reply, (t.port .twi).replies = (s.port .twi).replies ++ [y] ∧ y.op = op ∧ y.seq = r.seq ∧ y.status = 2) ∧
        SameBut [.commands, .tick] s t ∧ (s.spoilt 9 0 = false → t.tick = s.tick)) ∧
      (∀ (r : Req) (op : Byte), r.t = .twi → r.payload.length ≤ 4080 → s.spoilt 9 0 = true →
        Completes (.twiWriteTransaction own (cmdBytes op r)) s fun t =>
        (t.port .twi).badCrc = (s.port .twi).badCrc + 1 ∧ t.tick.transit = s.tick.transit.erase (9, 0) ∧ SameBut [.commands, .tick] s t)) ∧
    (∀ n : Nat, (s.port .twi).replies = [] → Completes (.twiReadTransaction own n) s fun t =>
      t.out = s.out ++ [.bytes .twi (List.replicate n 0)] ∧ SameBut [.contacts] s t) ∧
    (∀ (n : Nat) (y : Reply) (rest : List Reply), (s.port .twi).replies = y :: rest → s.cmd.wait = none →
      Completes (.twiReadTransaction own n) s fun t =>
      t.out = s.out ++ [.bytes .twi ((replyBytes y ++ List.replicate n 0).take n)] ∧
      (t.port .twi).replies = (if (replyBytes y).length ≤ n then rest else y :: rest) ∧ SameBut [.commands, .contacts] s t) ∧
    (Completes .twiBusRecovery s fun t =>
      (t.port .twi).expected = none ∧ (t.port .twi).recovered = (s.port .twi).recovered + 1 ∧
      (t.port .twi).replies = (s.port .twi).replies ∧ t.tick.suspect.getLsbD 9 = true ∧ SameBut [.commands, .tick] s t) ∧
    (Completes .twiWriteAbandoned s fun t =>
      (t.port .twi).expected = none ∧ (t.port .twi).recovered = (s.port .twi).recovered + 1 ∧
      (t.port .twi).replies = (s.port .twi).replies ∧ SameBut [.commands] s t)) ∧
  (∀ (x : Running) (k : BitVec 16), (s.port .twi).running = [x] → x.pkt.r.seq = k → x.pkt.ackReq = true →
    x.pkt.posted = false → (∀ h ∈ (s.port .twi).history, h.seq = k → h.interim = false) →
    Completes (.interimReply .twi k) s fun t =>
    (∃ y : Reply, (t.port .twi).replies = (s.port .twi).replies ++ [y] ∧ y.op = x.pkt.op ∧ y.seq = k ∧ y.status = 0 ∧
      y.flags.getLsbD 4 = true) ∧ (t.port .twi).running = [x] ∧ SameBut [.commands] s t) ∧
  (∀ p : Pkt, (s.port .twi).chain = [p] → p.r.t = .twi → p.posted = false → Completes (.chainTimeout .twi) s fun t =>
    (t.port .twi).chain = [] ∧ (∃ y : Reply, (t.port .twi).replies = (s.port .twi).replies ++ [y] ∧ y.op = p.op ∧
      y.seq = p.r.seq ∧ y.status = 6) ∧ SameBut [.commands] s t)

/-- READ, BULK_READ, SUBSCRIBE, FETCH, ACK and PRBS_READ (R55, R57, R68, R72, R325). They are accepted on a transport whose
writes are disabled too. -/
def Obligations.HostReads : Prop := ∀ (s : State) (r : Req), s.canonical → Lone s r 0 → r.payload = [] →
  (∀ x, nameOf r.addr.toNat = some x → s.domOn x.dom = true → Completes (.read r) s fun t =>
    Answers t 0x01 r 0 r.param (wordBytes ((s.accepted r).wordAt r.addr.toNat x)) ∧
    SameBut [.commands, .counters, .bursts, .pools, .link, .contacts] s t) ∧
  (∀ x : Nat → Named, 1 ≤ r.param.toNat → r.param.toNat ≤ 1020 →
    (∀ i, i < r.param.toNat → nameOf (r.addr.toNat + i) = some (x i) ∧ s.domOn (x i).dom = true) →
    Completes (.bulkRead r) s fun t =>
    Answers t 0x04 r 0 r.param ((List.range r.param.toNat).flatMap fun i =>
      wordBytes ((s.accepted r).wordAt (r.addr.toNat + i) (x i))) ∧
    SameBut [.commands, .counters, .bursts, .pools, .link, .contacts] s t) ∧
  (Completes (.subscribe r) s fun t =>
    t.cfg (subAddr (transN r.t)) = r.param &&& 0xFFFE ∧
    Answers t 0x30 r 0 r.param (wordBytes (s.cfg (subAddr (transN r.t)))) ∧
    SameBut [.words, .commands, .counters, .link, .contacts] s t) ∧
  (1 ≤ r.param.toNat → r.param.toNat ≤ 255 → Completes (.fetch r) s fun t =>
    let got := (s.backlog r.t).take r.param.toNat
    Answers t 0x31 r 0 (BitVec.ofNat 32 got.length) (got.flatMap recBytes) ∧
    SameBut [.commands, .counters, .link, .contacts] s t) ∧
  (s.ackOk r.t r.addr = true → s.ev.ring.length ≤ 8000 → Completes (.ack r) s fun t =>
    t.ev.pos.get r.t = r.addr + 1 ∧ Answers t 0x32 r 0 r.param [] ∧ SameBut [.commands, .counters, .link, .contacts] s t) ∧
  (laneOk r.addr.toNat = true → s.domOn (if r.addr.toNat < 9 then 9 else 10) = true → Completes (.prbsRead r) s fun t =>
    Answers t 0x62 r 0 r.param ((prbsWords (t.prbs r.addr.toNat)).flatMap wordBytes) ∧
    SameBut [.commands, .counters, .link, .contacts] s t)

/-- WRITE, MODIFY and TABLE_LOAD of a word that only holds what is written, and the same over the two-wire port in one row
(R57, R59, R511): the bits that can be written change, and no others. -/
def Obligations.HostWrites : Prop := ∀ (s : State) (r : Req) (f : Found) (v m : Word), s.canonical →
  PlainWord r.addr.toNat f →
  (Lone s r 0 →
    (r.param = 1 → r.payload = wordBytes v →
      (s.passes 0x02 r → Completes (.write r) s fun t =>
        t.cfg r.addr.toNat = (s.cfg r.addr.toNat &&& ~~~f.mask) ||| (v &&& f.mask) ∧ Answers t 0x02 r 0 r.param [] ∧
        (∀ b, b ≠ r.addr.toNat → t.cfg b = s.cfg b) ∧ SameBut [.words, .commands, .counters, .link, .contacts] s t) ∧
      (s.passes 0x05 r → Completes (.tableLoad r) s fun t =>
        t.cfg r.addr.toNat = (s.cfg r.addr.toNat &&& ~~~f.mask) ||| (v &&& f.mask) ∧ Answers t 0x05 r 0 r.param [] ∧
        (∀ b, b ≠ r.addr.toNat → t.cfg b = s.cfg b) ∧ SameBut [.words, .commands, .counters, .link, .contacts] s t)) ∧
    (r.payload = wordBytes v ++ wordBytes m → s.passes 0x03 r → Completes (.modify r) s fun t =>
      t.cfg r.addr.toNat = (s.cfg r.addr.toNat &&& ~~~(f.mask &&& m)) ||| (v &&& (f.mask &&& m)) ∧
      Answers t 0x03 r 0 r.param (wordBytes (s.cfg r.addr.toNat)) ∧
      SameBut [.words, .commands, .counters, .pools, .bursts, .link, .contacts] s t)) ∧
  (s.hostMay → s.writeCheck .twi [⟨r.addr.toNat, v, all32⟩] = 0 → Completes (.objectWordWrite r.addr v) s fun t =>
    t.cfg r.addr.toNat = (s.cfg r.addr.toNat &&& ~~~f.mask) ||| (v &&& f.mask) ∧
    (∀ b, b ≠ r.addr.toNat → t.cfg b = s.cfg b) ∧ SameBut [.words, .contacts] s t)

/-- A command that fails a check answers that check's status, and does nothing that its rule does not keep for a refused one
(R54, R57, R458). -/
def Obligations.HostRefusals : Prop := ∀ (s : State) (r : Req) (op : Byte) (i : Instr), s.canonical → Lone s r 0 →
  rowOf op.toNat r = some i → ¬ s.passes op r → Completes i s fun t =>
    Answers t op r (BitVec.ofNat 8 (opCheck (s.accepted r) (s.accepted r) true 0 { op, r })) r.param [] ∧
    SameBut [.commands, .keys, .counters, .link, .contacts] s t

/-- Opcodes that act only at ticks wait for the second tick after their acceptance, and at-tick commands for the tick they
name (R60, R61, R63); neither changes anything before. -/
def Obligations.HeldCommands : Prop := ∀ (s : State) (r : Req), s.canonical →
  let held (op : Byte) (due : BitVec 64) (k : Bool) (t : State) : Prop :=
    t.cmd.held = s.cmd.held ++ [{ pkts := [{ op, r }], due, atTick := k, verdict := none }] ∧ t.lastReply r.t = none ∧
      SameBut [.commands] s t
  (Lone s r 0 →
    (s.passes 0x10 r → Completes (.commitPlate r) s (held 0x10 (s.tick.number + 2) false)) ∧
    (s.passes 0x11 r → Completes (.commitHatch r) s (held 0x11 (s.tick.number + 2) false)) ∧
    (s.passes 0x12 r → Completes (.commitProfile r) s (held 0x12 (s.tick.number + 2) false)) ∧
    (s.passes 0x20 r → Completes (.vonuCreate r) s (held 0x20 (s.tick.number + 2) false)) ∧
    (s.passes 0x21 r → Completes (.vonuEnable r) s (held 0x21 (s.tick.number + 2) false)) ∧
    (s.passes 0x22 r → Completes (.vonuRetire r) s (held 0x22 (s.tick.number + 2) false)) ∧
    (s.passes 0x6F r → Completes (.resync r) s (held 0x6F (s.tick.number + 2) false))) ∧
  (Lone s r 8 → ∀ (op : Byte) (i : Instr), rowOf op.toNat r = some i → s.passes op r →
    Completes i s (held op (BitVec.ofNat 64 (leNat (r.payload.take 8))) true) ∧
    s.tick.number.toNat + 2 ≤ leNat (r.payload.take 8))

/-- What a held command does when its tick has come and its second check passes (R62, R63, R65, R128, R130, R131, R150,
R228, R260, R30, R448). -/
def Obligations.HeldEffects : Prop := ∀ (s : State) (p : Pkt) (due : BitVec 64) (k : Bool) (vd : Option (List Nat))
    (row : Instr), s.canonical → row = .atTickEffect ∨ row = .tickBoundEffect → vd = none ∨ vd = some [0] →
  let u : State := (({ s with cmd := { s.cmd with held := [] } }).modPort .twi fun x => { x with chain := [] }).modPort .alanov fun x => { x with chain := [] }
  s.cmd.held = [{ pkts := [p], due, atTick := k, verdict := vd }] → due.toNat ≤ s.tick.number.toNat → opCheck u u false 0 p = 0 →
  (∀ e ∈ s.tick.resyncs, s.tick.number.toNat < e.1.toNat) →
  (p.code = 0x10 → Completes row s fun t =>
    t.cls.swapDue = some (decide (p.param % 2 = 1)) ∧ t.cmd.held = [] ∧ t.lastReply p.r.t = s.lastReply p.r.t ∧
    { pkt := p, work := .plateSwap (BitVec.ofNat 32 s.tickLow) } ∈ (t.port p.r.t).running ∧
    SameBut [.commands, .counters, .bursts, .classifier, .link, .contacts] s t) ∧
  (p.code = 0x11 → Completes row s fun t =>
    (t.hatch p.param).commitTick = s.tick.number ∧ (t.hatch p.param).pending = s.shadowCopy p.param ∧ t.cmd.held = [] ∧
    SameBut [.commands, .counters, .bursts, .queues, .link, .contacts] s t) ∧
  (p.code = 0x12 → (s.vch (p.param % 512) (chanOf (fld p.r.param 12 1))).profiles.length = 4 → Completes row s fun t =>
    t.profileAt (p.param % 512) (chanOf (fld p.r.param 12 1)) (fld p.r.param 14 2) =
      s.shadowProfile (p.param % 512) (fld p.r.param 12 1) (fld p.r.param 14 2) ∧ t.cmd.held = [] ∧
    SameBut [.commands, .counters, .vonus, .bursts, .queues, .pools, .keys, .link, .contacts] s t) ∧
  (p.code = 0x20 → Completes row s fun t =>
    t.vonuAt (p.param % 512) = { Vonu.none with life := .created, sn := p.sn, regId := p.regId } ∧
    (∀ k, k < 2 → t.slot (mgmtSlot (p.param % 512) k) = defaultSlot) ∧ t.cmd.held = [] ∧
    (∀ v, v ≠ p.param % 512 → t.vonuAt v = s.vonuAt v) ∧ SameBut [.commands, .counters, .bursts, .vonus, .keys, .link, .contacts] s t) ∧
  (p.code = 0x21 → Completes row s fun t =>
    (t.vonuAt (p.param % 512)).enable = ⟨bit p.r.param 16, bit p.r.param 17⟩ ∧
    (t.vonuAt (p.param % 512)).standby = ⟨bit p.r.param 18, bit p.r.param 19⟩ ∧ t.cmd.held = [] ∧
    SameBut [.commands, .counters, .vonus, .bursts, .queues, .pools, .keys, .link, .contacts] s t) ∧
  (p.code = 0x22 → Completes row s fun t =>
    (t.vonuAt (p.param % 512)).life = .retiring ∧ (∀ c, (t.vch (p.param % 512) c).act = .idle) ∧
    (∀ c, ∀ b ∈ (t.bch c).bursts, b.vonu.toNat ≠ p.param % 512) ∧ t.cmd.held = [] ∧
    SameBut [.commands, .counters, .vonus, .bursts, .queues, .pools, .keys, .link, .contacts] s t) ∧
  (p.code = 0x6F → Completes row s fun t =>
    t.tick.suspect = s.tick.suspect &&& ~~~BitVec.ofNat 16 p.param ∧ t.cmd.held = [] ∧
    SameBut [.commands, .counters, .bursts, .tick, .link, .contacts] s t) ∧
  (p.code = 0x40 → Completes row s fun t =>
    (t.dom p.addr).votes.getLsbD 0 = true ∧ t.cmd.held = [] ∧ SameBut [.commands, .counters, .bursts, .link, .contacts] s t)

/-- VOTE, UNVOTE and SLEEP (R448, R458), and the commands of firmware images (R471 to R474). -/
def Obligations.HostPowerAndImages : Prop := ∀ (s : State) (r : Req), s.canonical → Lone s r 0 →
  let bank := decide (r.addr.toNat = 1)
  let works (op : Byte) (w : Work) (t : State) : Prop :=
    (t.port r.t).running = (s.port r.t).running ++ [{ pkt := { op, r }, work := w }] ∧ t.lastReply r.t = none
  (s.passes 0x40 r → Completes (.vote r) s fun t =>
    (t.dom r.addr.toNat).votes.getLsbD 0 = true ∧ Answers t 0x40 r 0 r.param [] ∧
    SameBut [.commands, .counters, .link, .contacts] s t) ∧
  (s.passes 0x41 r → Completes (.unvote r) s fun t =>
    (t.dom r.addr.toNat).votes.getLsbD 0 = false ∧ Answers t 0x41 r 0 r.param [] ∧
    SameBut [.commands, .counters, .link, .contacts] s t) ∧
  (s.passes 0x42 r → Completes (.sleep r) s fun t =>
    Answers t 0x42 r 0 r.param [] ∧ t.power.wakeMask = BitVec.ofNat 3 r.param.toNat ∧
    (r.t = .twi → t.cmd.wait = some { what := .sleep, t := .twi, seq := r.seq } ∧ t.phase = .ready) ∧
    (r.t = .alanov → t.phase = .ready ∨ t.phase = .sleeping) ∧
    SameBut [.phase, .commands, .counters, .keys, .link, .contacts] s t) ∧
  (s.passes 0x50 r → Completes (.imageBegin r) s fun t =>
    t.fw.open_ = some (bank, BitVec.ofNat 24 r.param.toNat) ∧ (t.bank bank).st = .writing ∧
    t.bank (!bank) = s.bank (!bank) ∧ Answers t 0x50 r 0 r.param [] ∧
    SameBut [.commands, .counters, .images, .link, .contacts] s t) ∧
  (∀ (b : Bool) (n : BitVec 24), s.fw.open_ = some (b, n) → s.passes 0x51 r → Completes (.imageData r) s fun t =>
    works 0x51 (.imageData b) t ∧ t.fw = s.fw ∧ SameBut [.commands] s t) ∧
  (s.passes 0x52 r → Completes (.imageVerify r) s fun t =>
    works 0x52 (.imageVerify bank) t ∧ t.fw = s.fw ∧ SameBut [.commands] s t) ∧
  (s.passes 0x53 r → Completes (.imageActivate r) s fun t =>
    works 0x53 (.imageActivate bank) t ∧
    t.fault.handover = some { phase := 0, bank, from_ := s.tick.number + 2, passed := false, failing := false } ∧ t.fw = s.fw ∧
    SameBut [.commands, .faults] s t)

/-- Work that took time completes (R53, R413, R473). -/
def Obligations.Completions : Prop := ∀ (s : State) (t : Transport) (seq : BitVec 16) (x : Running), s.canonical →
  (s.port t).running.find? (fun x => x.pkt.r.seq = seq) = some x → x.pkt.r.t = t →
  (∀ b, x.work = .imageVerify b → s.dataRuns b = true → Completes (.commandCompletion t seq) s fun u => SameBut [] s u) ∧
  (∀ b, x.work = .imageVerify b → s.dataRuns b = false → Completes (.commandCompletion t seq) s fun u =>
    (u.port t).running = (s.port t).running.erase x ∧ u.bank b = (s.imageVerify b).2.bank b ∧
    (u.bank b).image = (s.bank b).image ∧ u.bank (!b) = s.bank (!b) ∧
    SameBut [.commands, .counters, .images, .link, .contacts] s u) ∧
  (∀ b, x.work = .imageData b →
    (s.fault.clockGroups.getLsbD 9 = true → Completes (.commandCompletion t seq) s fun u => SameBut [] s u) ∧
    (s.fault.clockGroups.getLsbD 9 = false → Completes (.commandCompletion t seq) s fun u =>
      (∀ k, mget 0 (u.bank b).image k =
        if x.pkt.addr ≤ k ∧ k < x.pkt.addr + x.pkt.body.length then x.pkt.body.getD (k - x.pkt.addr) 0
        else mget 0 (s.bank b).image k) ∧
      ((s.bank b).st ≠ .running → (u.bank b).st = .writing) ∧ u.bank (!b) = s.bank (!b) ∧
      (u.port t).running = (s.port t).running.erase x ∧ SameBut [.commands, .counters, .images, .link, .contacts] s u)) ∧
  (∀ n, n < 6 → x.work = .fuseBlow n → Completes (.commandCompletion t seq) s fun u =>
    u.fuseBlown n = true ∧ (∀ k, k < 6 → s.fuseBlown k = true → u.fuseBlown k = true) ∧ u.crypto.armed = false ∧
    (u.port t).running = (s.port t).running.erase x ∧ SameBut [.commands, .counters, .fuses, .keys, .link, .contacts] s u)

/-- LOOP_SET, PRBS_CTL, SERVO_MODE, TIME_STEP and TIME_RATE (R321 to R325, R347, R354 to R356). A step moves the offset by
whole nanoseconds, and a change of rate leaves the time of the moment as it was. -/
def Obligations.HostLoopsAndTime : Prop := ∀ (s : State) (r : Req), s.canonical → Lone s r 0 →
  let v := BitVec.ofNat 64 (leNat r.payload)
  (s.passes 0x60 r → Completes (.loopSet r) s fun t =>
    (r.addr = 0 → r.param ≠ 0 → t.alink.loopKind = r.param.setWidth 2 ∨ t.alink.state = .down) ∧
    (r.addr = 0 → r.param = 0 → t.alink.state ≠ .loop) ∧
    (∀ e : BitVec 2, r.addr.toNat = 0x100 + e.toNat → r.param = 0 → (ethPort t e.toNat).state ≠ .loop) ∧
    (∀ e : BitVec 2, r.addr.toNat = 0x100 + e.toNat → r.param ≠ 0 → s.ethMayRun e.toNat = true →
      (ethPort t e.toNat).state = .loop ∧ (ethPort t e.toNat).loopKind = r.param.setWidth 2) ∧
    SameBut [.commands, .counters, .tick, .classifier, .queues, .pools, .link, .ethernet, .time, .contacts] s t) ∧
  (s.passes 0x61 r → Completes (.prbsCtl r) s fun t =>
    (t.prbs r.addr.toNat).pattern = BitVec.ofNat 2 (fld r.param 0 2) ∧ (t.prbs r.addr.toNat).invert = bit r.param 2 ∧
    (t.prbs r.addr.toNat).gen = bit r.param 3 ∧ (t.prbs r.addr.toNat).chk = bit r.param 4 ∧
    (bit r.param 4 = true → (s.prbs r.addr.toNat).chk = false →
      (t.prbs r.addr.toNat).errors = 0 ∧ (t.prbs r.addr.toNat).bits = 0 ∧ (t.prbs r.addr.toNat).sync = false) ∧
    Answers t 0x61 r 0 r.param [] ∧ SameBut [.commands, .counters, .link, .contacts] s t) ∧
  (s.passes 0x70 r → Completes (.servoMode r) s fun t =>
    t.time.hostOwner = decide (r.param.toNat = 1) ∧ t.time.inc = s.time.inc ∧ t.time.offset = s.time.offset ∧
    (s.time.hostOwner ≠ decide (r.param.toNat = 1) → t.time.servo = (if r.param.toNat = 1 then .host else .acquiring)) ∧
    Answers t 0x70 r 0 r.param [] ∧ SameBut [.commands, .counters, .time, .link, .contacts] s t) ∧
  (s.passes 0x71 r → Completes (.timeStep r) s fun t =>
    t.time.offset = s.time.offset + nsUnits v.toInt ∧ t.time.stepSeq = s.time.stepSeq + 1 ∧
    t.ctr (timeCtr 5) = s.ctr (timeCtr 5) + 1 ∧ t.time.inc = s.time.inc ∧ Answers t 0x71 r 0 r.param [] ∧
    SameBut [.commands, .counters, .time, .link, .contacts] s t) ∧
  (s.passes 0x72 r → Completes (.timeRate r) s fun t =>
    t.time.inc = v ∧ t.timeAt (s.accepted r).instant.1 = s.timeAt (s.accepted r).instant.1 ∧
    t.time.stepSeq = s.time.stepSeq ∧ Answers t 0x72 r 0 r.param [] ∧
    SameBut [.commands, .counters, .time, .link, .contacts] s t)

/-- What the legacy commands that only report answer (R485 to R492): values of the state, in the WM-4410's own formats but
where the manual gives the bytes. -/
def Obligations.LegacyReports : Prop := ∀ (s : State) (tag : Byte), s.canonical → s.legacyFree →
  let tells (op : Byte) (vals : List Nat) (t : State) : Prop :=
    Told t tag { status := 0, payload := (Config.legacyReply op vals).take 248 } ∧ SameBut [.legacySet] s t
  let x := s.vch 0 .b
  let m := (s.ch .b).mon
  let e := ethPort s 0
  let ns := s.nsAt s.instant.1
  (Completes (.getIdentity tag) s fun t => ∃ l : List Byte, l.getD 26 0 = 0x4B ∧ l.length ≤ 248 ∧
    Told t tag { status := 0, payload := l } ∧ SameBut [.legacySet] s t) ∧
  (Completes (.getStatus tag) s fun t => ∃ low, low < 65536 ∧ tells 0x02
    [low + 65536 * b2n ((s.ch .b).tx = .latched) + 131072 * b2n s.leg.deviceFault, actCode x.act] t) ∧
  (Completes (.getTemperature tag) s fun t => ∃ v, v < 2 ^ 32 ∧ tells 0x04 [v] t) ∧
  (Completes (.getAlarms tag) s fun t => ∃ low, low < 65536 ∧ tells 0x06
    [low + 65536 * b2n ((s.ch .b).tx = .latched) + 131072 * b2n s.leg.deviceFault] t) ∧
  (Completes (.getVersion tag) s (tells 0x08 [(s.bank s.fw.runningBank).version.toNat, s.part.stepping.toNat])) ∧
  (Completes (.getSerial tag) s (tells 0x0A [(s.vonuAt 0).sn.toNat])) ∧
  (Completes (.getOnuState tag) s (tells 0x0E [actCode x.act])) ∧
  (Completes (.getOnuId tag) s (tells 0x0F (match x.onuId with | some i => [1, i.toNat] | none => [0, 0]))) ∧
  (Completes (.getEqd tag) s (tells 0x10 (match x.eqd with | some q => [1, q.toNat] | none => [0, 0]))) ∧
  (Completes (.getOptical tag) s (tells 0x11 [m.rxPower.toNat, m.txPower.toNat, m.laserBias.toNat, m.laserTemp.toNat,
    m.tecCurrent.toNat, m.apdBias.toNat])) ∧
  (Completes (.omciStatus tag) s (tells 0x16 [s.omciBacklog, x.omciQ.length])) ∧
  (Completes (.getEthStatus tag) s (tells 0x2D [ethCode e.state, e.rateActive.toNat, e.fecActive.toNat, b2n e.lpiTx,
    b2n e.lpiRx, b2n e.paused])) ∧
  (Completes (.identify tag) s fun t => Told t tag { status := 0, payload := leBytes 8 s.sysId } ∧ SameBut [.legacySet] s t) ∧
  (Completes (.getTod tag) s fun t =>
    Told t tag { status := 0, payload := leBytes 4 (ns / 1000000000 % 2 ^ 32) ++ leBytes 4 (ns % 1000000000) } ∧
    SameBut [.legacySet] s t) ∧
  (∀ (i : Byte) (p : Nat), s.gemAt i.toNat = some p → Completes (.getGemPort tag i) s fun t => Ranged s t tag 0x1A [i.toNat] (tells 0x1A [p] t)) ∧
  (∀ (i : Byte) (a : BitVec 14), s.tcont i.toNat = some a →
    Completes (.getTcont tag i) s fun t => Ranged s t tag 0x1D [i.toNat] (tells 0x1D [a.toNat, b2n (s.entryOf a).isSome] t)) ∧
  (∀ i : BitVec 16, s.hasRule i.toNat = true → Completes (.getRule tag i) s fun t => Ranged s t tag 0x22 [i.toNat]
    (tells 0x22 ((List.range 44).map fun k => (s.cfg (ruleAddr (b2n s.cls.active) i.toNat k)).toNat) t)) ∧
  (∀ i : Byte, i.toNat < 64 → Completes (.getMeter tag i) s fun t => Ranged s t tag 0x27 [i.toNat]
    (tells 0x27 ((List.range 5).map fun k => (s.cfg (meterAddr i.toNat k)).toNat) t)) ∧
  (∀ i : BitVec 16, Completes (.getQueue tag i) s fun t => Ranged s t tag 0x29 [i.toNat]
    (tells 0x29 (((List.range 4).map fun k => (s.cfg (qAddr i.toNat k)).toNat) ++ [(s.queue i.toNat).pkts.length]) t))

/-- Legacy counters (R488): the count since the latest CLEAR, stopping at 2³² − 1; CLEAR acts after the value is taken. -/
def Obligations.LegacyCounters : Prop := ∀ (s : State) (tag : Byte) (clear : Bool), s.canonical → s.legacyFree →
  let counts (op : Byte) (l : List Nat) (t : State) : Prop :=
    Told t tag { status := 0, payload := (Config.legacyReply op (l.map s.legacyCount)).take 248 } ∧
    (clear = true → ∀ a ∈ l, t.legacyCount a = 0) ∧ (∀ a ∉ l, t.legacyCount a = s.legacyCount a) ∧ SameBut [.legacySet] s t
  (Completes (.getFecStats tag clear) s (counts 0x13 fecCounters)) ∧
  (∀ i : Byte, s.gemAt i.toNat ≠ none → Completes (.getGemCounters tag i clear) s fun t =>
    Ranged s t tag 0x1F [i.toNat] (counts 0x1F (matchCounters i.toNat) t)) ∧
  (∀ (i : BitVec 16) (k : BitVec 18), s.hasRule i.toNat = true →
    (s.actionAt (ruleAddr (b2n s.cls.active) i.toNat 40)).counter = some k →
    Completes (.getRuleCounters tag i clear) s fun t => Ranged s t tag 0x25 [i.toNat] (counts 0x25 (matchCounters k.toNat) t)) ∧
  (∀ i : BitVec 16, Completes (.getQueueCounters tag i clear) s fun t =>
    Ranged s t tag 0x2B [i.toNat] (counts 0x2B ((List.range 4).map (queueCtr i.toNat)) t)) ∧
  (Completes (.getEthCounters tag clear) s (counts 0x2E ((List.range 37).map (ethAcc 0))))

/-- Legacy commands on the ONU, its keys and its XGEM ports (R485, R487, R491). -/
def Obligations.LegacyOnu : Prop := ∀ (s : State) (tag : Byte), s.canonical → s.legacyFree →
  let done (op : Byte) (t : State) : Prop := Told t tag { status := 0, payload := (Config.legacyReply op []).take 248 }
  (∀ mask : Word, Completes (.setAlarmMask tag mask) s fun t =>
    Ranged s t tag 0x05 [mask.toNat] (done 0x05 t ∧ t.leg.alarmMask = mask ∧ SameBut [.legacySet] s t)) ∧
  (Completes (.clearAlarms tag) s fun t =>
    done 0x07 t ∧ t.leg.deviceFault = (s.leg.deviceFault && s.faultPersists) ∧ SameBut [.legacySet] s t) ∧
  (Completes (.reset tag) s fun t => done 0x03 t ∧ t.leg.restart = true ∧ SameBut [.legacySet] s t) ∧
  (∀ sn : BitVec 64, ((s.vonuAt 0).life = .free ∧ s.snHeld sn = false) ∨ (s.vonuAt 0).life = .created →
    Completes (.setSerial tag sn) s fun t =>
    Ranged s t tag 0x09 [sn.toNat] (done 0x09 t ∧ (t.vonuAt 0).sn = sn ∧ (t.vonuAt 0).life = .created ∧
      (t.vonuAt 0).regId = (s.vonuAt 0).regId ∧ SameBut [.vonus, .keys, .legacySet] s t)) ∧
  (∀ regId : BitVec 288, (s.vonuAt 0).life = .free ∨ (s.vonuAt 0).life = .created → Completes (.setRegId tag regId) s fun t =>
    Ranged s t tag 0x0B [regId.toNat] (done 0x0B t ∧ t.vonuAt 0 = { s.vonuAt 0 with regId } ∧ SameBut [.vonus, .legacySet] s t)) ∧
  (s.isLive 0 = true →
    (Completes (.enablePon tag) s fun t =>
      done 0x0C t ∧ (t.vonuAt 0).enable = ⟨false, true⟩ ∧
      SameBut [.counters, .vonus, .bursts, .queues, .pools, .keys, .legacySet] s t) ∧
    (Completes (.disablePon tag) s fun t =>
      done 0x0D t ∧ (t.vonuAt 0).enable = ⟨false, false⟩ ∧ (s.bursting 0 .b = false → (s.vonuAt 0).enable.b = true →
        (t.vch 0 .b).act = .idle) ∧ SameBut [.counters, .vonus, .bursts, .queues, .pools, .keys, .legacySet] s t)) ∧
  (∀ on : Bool, s.legacyWrites [⟨chAddr .b 0, BitVec.ofNat 32 (8 * b2n on), 8⟩] →
    Completes (.setTxEnable tag on) s fun t =>
    Ranged s t tag 0x12 [b2n on] (done 0x12 t ∧ bit (t.cfg (chAddr .b 0)) 3 = on ∧ SameBut [.words, .channels, .legacySet] s t)) ∧
  (Completes (.omciRxFetch tag) s fun t =>
    (s.omciBacklog = 0 → done 0x14 t ∧ SameBut [.legacySet] s t) ∧
    (∀ m, s.omciBacklog ≠ 0 → mget none s.vonu.omciRing ((s.cfg (addrOf 0x20 0x11)).toNat % 1024) = some m →
      Told t tag { status := 0, payload := (Config.legacyReply 0x14 (m.data.map (·.toNat))).take 248 } ∧
      t.cfg (addrOf 0x20 0x11) = s.cfg (addrOf 0x20 0x11) + 1 ∧ SameBut [.words, .legacySet] s t)) ∧
  (∀ msg : List Byte, 48 ≤ msg.length → msg.length ≤ 1980 → (s.vch 0 .b).act = .o5 → (s.vch 0 .b).omciQ.length < 8 →
    s.engineOn = true → s.keyUse (mgmtSlot 0 1) = .ok → Completes (.omciTx tag msg) s fun t =>
    Ranged s t tag 0x15 (msg.map (·.toNat)) (done 0x15 t ∧
      (∃ mic n, (t.vch 0 .b).omciQ = (s.vch 0 .b).omciQ ++ [{ data := msg ++ mic, seq := n }] ∧ mic.length = 4) ∧
      SameBut [.vonus, .keys, .legacySet] s t)) ∧
  (∀ msk : BitVec 128, s.loadCheck { slot := mgmtSlot 0 1, kind := 1, vonu := 0, chan := 0 } = 0 →
    Completes (.setMsk tag msk) s fun t =>
    Ranged s t tag 0x17 [msk.toNat] (done 0x17 t ∧ (t.slot (mgmtSlot 0 1)).key = leBytes 16 msk.toNat ∧
      (t.slot (mgmtSlot 0 1)).isDefault = false ∧ SameBut [.keys, .legacySet] s t)) ∧
  (∀ (i : Byte) (port : BitVec 16), s.flows.length < 256 ∨ s.gemAt i.toNat ≠ none →
    s.legacyWrites [⟨flowAddr i.toNat, BitVec.ofNat 32 (put 0 16 port.toNat + put 25 1 1 + put 26 1 1), all32⟩] →
    Completes (.addGemPort tag i port) s fun t => Ranged s t tag 0x18 [i.toNat, port.toNat]
      (done 0x18 t ∧ t.gemAt i.toNat = some port.toNat ∧ SameBut [.words, .legacySet] s t)) ∧
  (∀ i : Byte, s.gemAt i.toNat ≠ none → s.legacyWrites [⟨flowAddr i.toNat, 0, all32⟩] →
    Completes (.delGemPort tag i) s fun t => Ranged s t tag 0x19 [i.toNat]
      (done 0x19 t ∧ t.gemAt i.toNat = none ∧ SameBut [.words, .legacySet] s t)) ∧
  (∀ (i : Byte) (a : BitVec 14), Completes (.mapTcont tag i a) s fun t => Ranged s t tag 0x1B [i.toNat, a.toNat]
    (if s.tcontsWith i.toNat a ≤ 16 then done 0x1B t ∧ t.tcont i.toNat = some a ∧ SameBut [.legacySet] s t
      else Told t tag (.err 6) ∧ SameBut [.legacySet] s t)) ∧
  (∀ i : Byte, s.tcont i.toNat ≠ none → Completes (.unmapTcont tag i) s fun t => Ranged s t tag 0x1C [i.toNat]
    (done 0x1C t ∧ t.tcont i.toNat = none ∧ SameBut [.legacySet] s t)) ∧
  (∀ (i : Byte) (q : BitVec 16) (a : BitVec 14) (n : Nat), s.tcont i.toNat = some a → s.entryOf a = some n → n < 8192 →
    s.legacyWrites [⟨qAddr q.toNat 0, BitVec.ofNat 32 (n + 2 ^ 31), 0x80003FFF⟩] →
    Completes (.setTcontQueue tag i q) s fun t => Ranged s t tag 0x1E [i.toNat, q.toNat]
      (done 0x1E t ∧ s.cfg (qAddr q.toNat 0) &&& 0x7FFFC000 = t.cfg (qAddr q.toNat 0) &&& 0x7FFFC000 ∧
      fld (t.cfg (qAddr q.toNat 0)) 0 14 = n ∧ bit (t.cfg (qAddr q.toNat 0)) 31 = true ∧ SameBut [.words, .legacySet] s t))

/-- Legacy commands on rules, queues, port E0 and time (R487, R489, R491): a value that a write of the same object would take
is taken. An edit of the rules acts on a copy of the active plate, which it then makes active. -/
def Obligations.LegacyTables : Prop := ∀ (s : State) (tag : Byte), s.canonical → s.legacyFree →
  let done (op : Byte) (t : State) : Prop := Told t tag { status := 0, payload := (Config.legacyReply op []).take 248 }
  let ranged (op : Byte) (fields : List Nat) (t : State) (l : List Zone) (p : Prop) : Prop :=
    Ranged s t tag op fields (done op t ∧ p ∧ SameBut (.legacySet :: l) s t)
  let edited (op : Byte) (t : State) : Prop :=
    t.cls.active = (!s.cls.active) ∧ SameBut [.words, .classifier, .legacySet] s t ∧
    (if t.cls.retiring then t.leg.busy = true ∧ t.leg.tag = tag ∧ t.leg.editing = some op else done op t)
  (∀ (i : BitVec 16) (words : List Word), s.mayEdit = true → i.toNat < 512 → words.length ≤ 44 →
    s.legacyWrites (wordsIn (ruleAddr s.editPlate i.toNat 0) words) → Completes (.addRule tag i words) s fun t =>
    Ranged s t tag 0x20 (i.toNat :: natsOf words) (edited 0x20 t ∧
      t.hasRule i.toNat = true ∧ ∀ k, k < words.length → t.cfg (ruleAddr s.editPlate i.toNat k) = words.getD k 0)) ∧
  (∀ i : BitVec 16, s.mayEdit = true → s.hasRule i.toNat = true → Completes (.delRule tag i) s fun t =>
    Ranged s t tag 0x21 [i.toNat] (edited 0x21 t ∧ t.hasRule i.toNat = false)) ∧
  (s.mayEdit = true → Completes (.clearRules tag) s fun t => edited 0x23 t ∧ ∀ i, t.hasRule i = false) ∧
  (∀ (i : BitVec 16) (words : List Word),
    let v := s.atRest.writeCheck .twi (wordsIn (qAddr i.toNat 0) words)
    v = 5 ∨ v = 4 ∨ s.writeCheck .twi (wordsIn (qAddr i.toNat 0) words) ≠ 0 → Completes (.setQueue tag i words) s fun t =>
    Ranged s t tag 0x28 (i.toNat :: natsOf words)
      (Told t tag (.err (if v = 5 then 4 else if v = 4 then 8 else 7)) ∧ SameBut [.legacySet] s t)) ∧
  (∀ (k : BitVec 2) (words : List Word), words.length ≤ 4 →
    s.legacyWrites (wordsIn (clsAddr (0x10 + 4 * k.toNat)) words) → Completes (.setDefaultAction tag k words) s fun t =>
    ranged 0x24 (k.toNat :: natsOf words) t [.words]
      (∀ j, j < words.length → Stored s t (clsAddr (0x10 + 4 * k.toNat) + j) (words.getD j 0))) ∧
  (∀ (i : Byte) (words : List Word), i.toNat < 64 → words.length ≤ 5 →
    s.legacyWrites (wordsIn (meterAddr i.toNat 0) words) → Completes (.setMeter tag i words) s fun t =>
    ranged 0x26 (i.toNat :: natsOf words) t [.words, .queues]
      (∀ j, j < words.length → Stored s t (meterAddr i.toNat 0 + j) (words.getD j 0))) ∧
  (∀ (i : BitVec 16) (words : List Word), words.length ≤ 4 →
    s.legacyWrites (wordsIn (qAddr i.toNat 0) words) → Completes (.setQueue tag i words) s fun t =>
    ranged 0x28 (i.toNat :: natsOf words) t [.words]
      (∀ j, j < words.length → Stored s t (qAddr i.toNat 0 + j) (words.getD j 0))) ∧
  (∀ (n : BitVec 14) (rate burst : Word),
    s.legacyWrites [⟨nodeAddr n.toNat 0, rate, all32⟩, ⟨nodeAddr n.toNat 1, burst, all32⟩] →
    Completes (.setShaper tag n rate burst) s fun t =>
    ranged 0x2A [n.toNat, rate.toNat, burst.toNat] t [.words, .queues]
      (Stored s t (nodeAddr n.toNat 0) rate ∧ Stored s t (nodeAddr n.toNat 1) burst)) ∧
  (∀ val : Word, bit val 1 = false →
    s.legacyWrites [⟨ethAddr 0 0, val, 0x7F⟩] → Completes (.setEthCfg tag val) s fun t =>
    ranged 0x2C [val.toNat] t [.words, .ethernet, .queues, .counters, .tick, .contacts] (t.cfg (ethAddr 0 0) &&& 0x7F = val &&& 0x7F)) ∧
  (∀ words : List Word, words.length ≤ 2 →
    s.legacyWrites (wordsIn (ethAddr 0 4) words) → Completes (.setPause tag words) s fun t =>
    ranged 0x2F (natsOf words) t [.words, .ethernet, .counters, .contacts]
      (∀ j, j < words.length → Stored s t (ethAddr 0 4 + j) (words.getD j 0))) ∧
  (∀ mac : BitVec 48, s.legacyWrites (wordsIn (ethAddr 0 0x10) [mac.setWidth 32,
      BitVec.ofNat 32 (mac.toNat / 2 ^ 32 + 2 ^ 16)]) → Completes (.setMacAddr tag mac) s fun t =>
    ranged 0x30 [mac.toNat] t [.words] (t.cfg (ethAddr 0 0x10) = mac.setWidth 32 ∧
      fld (t.cfg (ethAddr 0 0x11)) 0 16 = mac.toNat / 2 ^ 32 ∧ bit (t.cfg (ethAddr 0 0x11)) 16 = true)) ∧
  (∀ seconds : Word, s.timeOn = true → Completes (.setTod tag seconds 0) s fun t =>
    done 0x32 t ∧ t.time.stepSeq = s.time.stepSeq + 1 ∧ t.time.inc = s.time.inc ∧
    t.time.offset = s.time.offset + nsUnits ((seconds.toNat * 1000000000 : Nat) -
      ((((s.nsAt s.instant.1 + 500000000) / 1000000000 + 1) * 1000000000 : Nat) : Int)) ∧
    SameBut [.time, .counters, .legacySet] s t) ∧
  (∀ val : Word, s.legacyWrites [⟨timeAddr 0xA, val, 0x7FC1⟩] →
    Completes (.setPps tag val) s fun t =>
    ranged 0x33 [val.toNat] t [.words] (t.cfg (timeAddr 0xA) &&& 0x7FC1 = val &&& 0x7FC1 ∧
      t.cfg (timeAddr 0xA) &&& 0x3E = s.cfg (timeAddr 0xA) &&& 0x3E)) ∧
  (∀ sfc seconds ns teqd : Word, ns.toNat ≤ 999999999 → s.timeOn = true →
    sfcAhead (nearSfc (s.onlineSfc .b) sfc) (s.onlineSfc .b) ≤ 65536 ∨
      sfcAhead (s.onlineSfc .b) (nearSfc (s.onlineSfc .b) sfc) ≤ 65536 → Completes (.setTodSf tag sfc seconds ns teqd) s fun t =>
    ranged 0x34 [sfc.toNat, seconds.toNat, ns.toNat, teqd.toNat] t [.time] (∃ x, t.time.todIn.b = some x ∧
      x.sfc.setWidth 32 = sfc ∧ x.seconds.setWidth 32 = seconds ∧ x.ns = ns ∧ x.teqd = teqd))

/-- Legacy images, factory commands, pacing and the port itself (R480 to R483, R490 to R492, Table LEGACY-1). -/
def Obligations.LegacyPort : Prop := ∀ (s : State) (tag : Byte), s.canonical →
  (s.legacyFree →
    let other := !s.fw.runningBank
    (∀ n : Word, s.imageBeginOk (b2n other) n.toNat = true → Completes (.fwBegin tag n) s fun t =>
      Ranged s t tag 0x35 [n.toNat] (Told t tag { status := 0, payload := (Config.legacyReply 0x35 []).take 248 } ∧
        t.fw.open_ = some (other, BitVec.ofNat 24 n.toNat) ∧ (t.bank other).st = .writing ∧ SameBut [.images, .legacySet] s t)) ∧
    (∀ (off : Word) (data : List Byte) (b : Bool) (n : BitVec 24), s.fw.open_ = some (b, n) → off.toNat % 4 = 0 →
      off.toNat + data.length ≤ n.toNat → s.fault.clockGroups.getLsbD 9 = false → Completes (.fwData tag off data) s fun t =>
      Ranged s t tag 0x36 (off.toNat :: data.map (·.toNat))
        (Told t tag { status := 0, payload := (Config.legacyReply 0x36 []).take 248 } ∧
        (∀ k, k < data.length → mget 0 (t.bank b).image (off.toNat + k) = data.getD k 0) ∧ SameBut [.images, .legacySet] s t)) ∧
    (let v := s.imageVerify other
     let good := v.1 % 256 = 0 ∧ Config.imageLegacy (v.2.bank other).image = true ∧ v.2.imageActivateOk other = true ∧ s.fault.handover = none
     Completes (.fwActivate tag) s fun t =>
      (good → t.leg.busy = true ∧ t.leg.tag = tag ∧
        t.fault.handover = some { phase := 0, bank := other, from_ := s.tick.number + 2, passed := false, failing := false }) ∧
      (¬ good → Told t tag (.err 10) ∧ t.fault = s.fault ∧ t.fw = s.fw) ∧ SameBut [.images, .faults, .legacySet] s t) ∧
    (Completes (.factoryCal tag) s fun t => Told t tag (.err 9) ∧ SameBut [.legacySet] s t) ∧
    (Completes (.factoryTest tag) s fun t => Told t tag (.err 9) ∧ SameBut [.legacySet] s t) ∧
    (Completes (.factoryFuse tag) s fun t => Told t tag (.err 9) ∧ SameBut [.legacySet] s t) ∧
    (s.fault.clockGroups.getLsbD 9 = false → Completes (.pacingOff tag) s fun t =>
      Told t tag { status := 0, payload := [] } ∧ t.mram.pacing = false ∧ SameBut [.legacySet, .lasting] s t) ∧
    (s.fault.clockGroups.getLsbD 9 = false → Completes (.pacingOn tag) s fun t =>
      Told t tag { status := 0, payload := [] } ∧ t.mram.pacing = true ∧ SameBut [.legacySet, .lasting] s t) ∧
    (∀ bytes : List Byte, bytes ≠ [] →
      bytes.length < 5 + leNat (slice bytes 2 2) ∨ (bytes.take (5 + leNat (slice bytes 2 2))).foldl (· + ·) 0 ≠ 0 →
      Completes (.legacyCommandTransaction bytes) s fun t => Told t (bytes.getD 1 0) (.err 2) ∧ SameBut [.legacySet] s t) ∧
    (∀ op check : Byte, legacyKnown op.toNat = false → op + tag + check = 0 →
      Completes (.legacyCommandTransaction [op, tag, 0, 0, check]) s fun t => Told t tag (.err 1) ∧ SameBut [.legacySet] s t) ∧
    (∀ check : Byte, 0x31 + tag + check = 0 →
      ∃ t, exec (.legacyCommandTransaction [0x31, tag, 0, 0, check]) s = .next t ∧ exec (.getTod tag) s = .next t)) ∧
  (∀ (op : Byte) (bytes : List Byte), s.legacy = true → s.phase = .ready → s.leg.editing = some op → s.cls.retiring = false → bytes ≠ [] →
    exec (.legacyCommandTransaction bytes) s = exec (.legacyCommandTransaction bytes) s.legacySettle ∧
    s.legacySettle.leg.editing = none ∧ s.legacySettle.leg.busy = false ∧ SameBut [.legacySet] s s.legacySettle) ∧
  (s.legacy = true → s.phase = .ready → s.leg.editing = none ∨ s.cls.retiring = true →
    (s.legacyTakes = false → ∀ bytes : List Byte, bytes ≠ [] → Completes (.legacyCommandTransaction bytes) s fun t =>
      t.out = s.out ++ [.twiNack] ∧ SameBut [.contacts] s t) ∧
    (∀ count : Nat, s.leg.restart = false → Completes (.legacyReadTransaction count) s fun t =>
      (∃ l, t.out = s.out ++ [.legacyBytes l] ∧ l.length = count ∧
        l.take s.legacyReadable.length = s.legacyReadable.take count) ∧ SameBut [.contacts] s t) ∧
    (∀ count : Nat, s.leg.restart = true → s.leg.busy = false → s.leg.paced = none → s.legacyReadable.length ≤ count →
      Completes (.legacyReadTransaction count) s fun t => t.phase = .internalReset ∧ t.power.cause = 2 ∧ t.fuses = s.fuses)) ∧
  (s.leg.editing = none ∨ s.cls.retiring = true →
    (∀ f : List Byte, s.leg.paced = some f → Completes .pacingRelease s fun t =>
      t.leg.reply = f ∧ t.leg.paced = none ∧ SameBut [.legacySet] s t) ∧
    (s.leg.paced = none → s.leg.busy = true → Completes .pacingRelease s fun t =>
      t.leg = { s.leg with late := true } ∧ SameBut [.legacySet] s t))
end

