-- ==== Sys2Proof/Laws/State.lean ====
section
/-! SUPPORT. What each plain update of the state leaves alone: one lemma per field and update, true by unfolding, so that
no proof unfolds a record update. -/

namespace Sys2Proof.Machine

variable (s : State)

/-! ### putCfg -/

@[simp] theorem State.putCfg_pending (a : Nat) (v : Word) : (s.putCfg a v).pending = s.pending := rfl
@[simp] theorem State.putCfg_phase (a : Nat) (v : Word) : (s.putCfg a v).phase = s.phase := rfl
@[simp] theorem State.putCfg_legacy (a : Nat) (v : Word) : (s.putCfg a v).legacy = s.legacy := rfl
@[simp] theorem State.putCfg_pins (a : Nat) (v : Word) : (s.putCfg a v).pins = s.pins := rfl
@[simp] theorem State.putCfg_part (a : Nat) (v : Word) : (s.putCfg a v).part = s.part := rfl
@[simp] theorem State.putCfg_fuses (a : Nat) (v : Word) : (s.putCfg a v).fuses = s.fuses := rfl
@[simp] theorem State.putCfg_mram (a : Nat) (v : Word) : (s.putCfg a v).mram = s.mram := rfl
@[simp] theorem State.putCfg_counters (a : Nat) (v : Word) : (s.putCfg a v).counters = s.counters := rfl
@[simp] theorem State.putCfg_stipple (a : Nat) (v : Word) : (s.putCfg a v).stipple = s.stipple := rfl
@[simp] theorem State.putCfg_tick (a : Nat) (v : Word) : (s.putCfg a v).tick = s.tick := rfl
@[simp] theorem State.putCfg_cmd (a : Nat) (v : Word) : (s.putCfg a v).cmd = s.cmd := rfl
@[simp] theorem State.putCfg_ev (a : Nat) (v : Word) : (s.putCfg a v).ev = s.ev := rfl
@[simp] theorem State.putCfg_chans (a : Nat) (v : Word) : (s.putCfg a v).chans = s.chans := rfl
@[simp] theorem State.putCfg_vonu (a : Nat) (v : Word) : (s.putCfg a v).vonu = s.vonu := rfl
@[simp] theorem State.putCfg_burin (a : Nat) (v : Word) : (s.putCfg a v).burin = s.burin := rfl
@[simp] theorem State.putCfg_cls (a : Nat) (v : Word) : (s.putCfg a v).cls = s.cls := rfl
@[simp] theorem State.putCfg_qs (a : Nat) (v : Word) : (s.putCfg a v).qs = s.qs := rfl
@[simp] theorem State.putCfg_bpm (a : Nat) (v : Word) : (s.putCfg a v).bpm = s.bpm := rfl
@[simp] theorem State.putCfg_alink (a : Nat) (v : Word) : (s.putCfg a v).alink = s.alink := rfl
@[simp] theorem State.putCfg_eth (a : Nat) (v : Word) : (s.putCfg a v).eth = s.eth := rfl
@[simp] theorem State.putCfg_time (a : Nat) (v : Word) : (s.putCfg a v).time = s.time := rfl
@[simp] theorem State.putCfg_ces (a : Nat) (v : Word) : (s.putCfg a v).ces = s.ces := rfl
@[simp] theorem State.putCfg_crypto (a : Nat) (v : Word) : (s.putCfg a v).crypto = s.crypto := rfl
@[simp] theorem State.putCfg_fault (a : Nat) (v : Word) : (s.putCfg a v).fault = s.fault := rfl
@[simp] theorem State.putCfg_power (a : Nat) (v : Word) : (s.putCfg a v).power = s.power := rfl
@[simp] theorem State.putCfg_fw (a : Nat) (v : Word) : (s.putCfg a v).fw = s.fw := rfl
@[simp] theorem State.putCfg_leg (a : Nat) (v : Word) : (s.putCfg a v).leg = s.leg := rfl
@[simp] theorem State.putCfg_freeCount (a : Nat) (v : Word) : (s.putCfg a v).freeCount = s.freeCount := rfl
@[simp] theorem State.putCfg_out (a : Nat) (v : Word) : (s.putCfg a v).out = s.out := rfl

/-! ### dropCfg -/

@[simp] theorem State.dropCfg_pending (k : Nat → Bool) : (s.dropCfg k).pending = s.pending := rfl
@[simp] theorem State.dropCfg_phase (k : Nat → Bool) : (s.dropCfg k).phase = s.phase := rfl
@[simp] theorem State.dropCfg_legacy (k : Nat → Bool) : (s.dropCfg k).legacy = s.legacy := rfl
@[simp] theorem State.dropCfg_pins (k : Nat → Bool) : (s.dropCfg k).pins = s.pins := rfl
@[simp] theorem State.dropCfg_part (k : Nat → Bool) : (s.dropCfg k).part = s.part := rfl
@[simp] theorem State.dropCfg_fuses (k : Nat → Bool) : (s.dropCfg k).fuses = s.fuses := rfl
@[simp] theorem State.dropCfg_mram (k : Nat → Bool) : (s.dropCfg k).mram = s.mram := rfl
@[simp] theorem State.dropCfg_counters (k : Nat → Bool) : (s.dropCfg k).counters = s.counters := rfl
@[simp] theorem State.dropCfg_stipple (k : Nat → Bool) : (s.dropCfg k).stipple = s.stipple := rfl
@[simp] theorem State.dropCfg_tick (k : Nat → Bool) : (s.dropCfg k).tick = s.tick := rfl
@[simp] theorem State.dropCfg_cmd (k : Nat → Bool) : (s.dropCfg k).cmd = s.cmd := rfl
@[simp] theorem State.dropCfg_ev (k : Nat → Bool) : (s.dropCfg k).ev = s.ev := rfl
@[simp] theorem State.dropCfg_chans (k : Nat → Bool) : (s.dropCfg k).chans = s.chans := rfl
@[simp] theorem State.dropCfg_vonu (k : Nat → Bool) : (s.dropCfg k).vonu = s.vonu := rfl
@[simp] theorem State.dropCfg_burin (k : Nat → Bool) : (s.dropCfg k).burin = s.burin := rfl
@[simp] theorem State.dropCfg_cls (k : Nat → Bool) : (s.dropCfg k).cls = s.cls := rfl
@[simp] theorem State.dropCfg_qs (k : Nat → Bool) : (s.dropCfg k).qs = s.qs := rfl
@[simp] theorem State.dropCfg_bpm (k : Nat → Bool) : (s.dropCfg k).bpm = s.bpm := rfl
@[simp] theorem State.dropCfg_alink (k : Nat → Bool) : (s.dropCfg k).alink = s.alink := rfl
@[simp] theorem State.dropCfg_eth (k : Nat → Bool) : (s.dropCfg k).eth = s.eth := rfl
@[simp] theorem State.dropCfg_time (k : Nat → Bool) : (s.dropCfg k).time = s.time := rfl
@[simp] theorem State.dropCfg_ces (k : Nat → Bool) : (s.dropCfg k).ces = s.ces := rfl
@[simp] theorem State.dropCfg_crypto (k : Nat → Bool) : (s.dropCfg k).crypto = s.crypto := rfl
@[simp] theorem State.dropCfg_fault (k : Nat → Bool) : (s.dropCfg k).fault = s.fault := rfl
@[simp] theorem State.dropCfg_power (k : Nat → Bool) : (s.dropCfg k).power = s.power := rfl
@[simp] theorem State.dropCfg_fw (k : Nat → Bool) : (s.dropCfg k).fw = s.fw := rfl
@[simp] theorem State.dropCfg_leg (k : Nat → Bool) : (s.dropCfg k).leg = s.leg := rfl
@[simp] theorem State.dropCfg_freeCount (k : Nat → Bool) : (s.dropCfg k).freeCount = s.freeCount := rfl
@[simp] theorem State.dropCfg_out (k : Nat → Bool) : (s.dropCfg k).out = s.out := rfl

/-! ### bump -/

@[simp] theorem State.bump_pending (a n : Nat) : (s.bump a n).pending = s.pending := rfl
@[simp] theorem State.bump_phase (a n : Nat) : (s.bump a n).phase = s.phase := rfl
@[simp] theorem State.bump_legacy (a n : Nat) : (s.bump a n).legacy = s.legacy := rfl
@[simp] theorem State.bump_pins (a n : Nat) : (s.bump a n).pins = s.pins := rfl
@[simp] theorem State.bump_part (a n : Nat) : (s.bump a n).part = s.part := rfl
@[simp] theorem State.bump_fuses (a n : Nat) : (s.bump a n).fuses = s.fuses := rfl
@[simp] theorem State.bump_mram (a n : Nat) : (s.bump a n).mram = s.mram := rfl
@[simp] theorem State.bump_words (a n : Nat) : (s.bump a n).words = s.words := rfl
@[simp] theorem State.bump_stipple (a n : Nat) : (s.bump a n).stipple = s.stipple := rfl
@[simp] theorem State.bump_tick (a n : Nat) : (s.bump a n).tick = s.tick := rfl
@[simp] theorem State.bump_cmd (a n : Nat) : (s.bump a n).cmd = s.cmd := rfl
@[simp] theorem State.bump_ev (a n : Nat) : (s.bump a n).ev = s.ev := rfl
@[simp] theorem State.bump_chans (a n : Nat) : (s.bump a n).chans = s.chans := rfl
@[simp] theorem State.bump_vonu (a n : Nat) : (s.bump a n).vonu = s.vonu := rfl
@[simp] theorem State.bump_burin (a n : Nat) : (s.bump a n).burin = s.burin := rfl
@[simp] theorem State.bump_cls (a n : Nat) : (s.bump a n).cls = s.cls := rfl
@[simp] theorem State.bump_qs (a n : Nat) : (s.bump a n).qs = s.qs := rfl
@[simp] theorem State.bump_bpm (a n : Nat) : (s.bump a n).bpm = s.bpm := rfl
@[simp] theorem State.bump_alink (a n : Nat) : (s.bump a n).alink = s.alink := rfl
@[simp] theorem State.bump_eth (a n : Nat) : (s.bump a n).eth = s.eth := rfl
@[simp] theorem State.bump_time (a n : Nat) : (s.bump a n).time = s.time := rfl
@[simp] theorem State.bump_ces (a n : Nat) : (s.bump a n).ces = s.ces := rfl
@[simp] theorem State.bump_crypto (a n : Nat) : (s.bump a n).crypto = s.crypto := rfl
@[simp] theorem State.bump_fault (a n : Nat) : (s.bump a n).fault = s.fault := rfl
@[simp] theorem State.bump_power (a n : Nat) : (s.bump a n).power = s.power := rfl
@[simp] theorem State.bump_fw (a n : Nat) : (s.bump a n).fw = s.fw := rfl
@[simp] theorem State.bump_leg (a n : Nat) : (s.bump a n).leg = s.leg := rfl
@[simp] theorem State.bump_freeCount (a n : Nat) : (s.bump a n).freeCount = s.freeCount := rfl
@[simp] theorem State.bump_out (a n : Nat) : (s.bump a n).out = s.out := rfl

/-! ### emit -/

@[simp] theorem State.emit_pending (o : Output) : (s.emit o).pending = s.pending := rfl
@[simp] theorem State.emit_phase (o : Output) : (s.emit o).phase = s.phase := rfl
@[simp] theorem State.emit_legacy (o : Output) : (s.emit o).legacy = s.legacy := rfl
@[simp] theorem State.emit_pins (o : Output) : (s.emit o).pins = s.pins := rfl
@[simp] theorem State.emit_part (o : Output) : (s.emit o).part = s.part := rfl
@[simp] theorem State.emit_fuses (o : Output) : (s.emit o).fuses = s.fuses := rfl
@[simp] theorem State.emit_mram (o : Output) : (s.emit o).mram = s.mram := rfl
@[simp] theorem State.emit_words (o : Output) : (s.emit o).words = s.words := rfl
@[simp] theorem State.emit_counters (o : Output) : (s.emit o).counters = s.counters := rfl
@[simp] theorem State.emit_stipple (o : Output) : (s.emit o).stipple = s.stipple := rfl
@[simp] theorem State.emit_tick (o : Output) : (s.emit o).tick = s.tick := rfl
@[simp] theorem State.emit_cmd (o : Output) : (s.emit o).cmd = s.cmd := rfl
@[simp] theorem State.emit_ev (o : Output) : (s.emit o).ev = s.ev := rfl
@[simp] theorem State.emit_chans (o : Output) : (s.emit o).chans = s.chans := rfl
@[simp] theorem State.emit_vonu (o : Output) : (s.emit o).vonu = s.vonu := rfl
@[simp] theorem State.emit_burin (o : Output) : (s.emit o).burin = s.burin := rfl
@[simp] theorem State.emit_cls (o : Output) : (s.emit o).cls = s.cls := rfl
@[simp] theorem State.emit_qs (o : Output) : (s.emit o).qs = s.qs := rfl
@[simp] theorem State.emit_bpm (o : Output) : (s.emit o).bpm = s.bpm := rfl
@[simp] theorem State.emit_alink (o : Output) : (s.emit o).alink = s.alink := rfl
@[simp] theorem State.emit_eth (o : Output) : (s.emit o).eth = s.eth := rfl
@[simp] theorem State.emit_time (o : Output) : (s.emit o).time = s.time := rfl
@[simp] theorem State.emit_ces (o : Output) : (s.emit o).ces = s.ces := rfl
@[simp] theorem State.emit_crypto (o : Output) : (s.emit o).crypto = s.crypto := rfl
@[simp] theorem State.emit_fault (o : Output) : (s.emit o).fault = s.fault := rfl
@[simp] theorem State.emit_power (o : Output) : (s.emit o).power = s.power := rfl
@[simp] theorem State.emit_fw (o : Output) : (s.emit o).fw = s.fw := rfl
@[simp] theorem State.emit_leg (o : Output) : (s.emit o).leg = s.leg := rfl
@[simp] theorem State.emit_freeCount (o : Output) : (s.emit o).freeCount = s.freeCount := rfl

/-! ### setDom -/

@[simp] theorem State.setDom_pending (d : Nat) (x : Dom) : (s.setDom d x).pending = s.pending := rfl
@[simp] theorem State.setDom_phase (d : Nat) (x : Dom) : (s.setDom d x).phase = s.phase := rfl
@[simp] theorem State.setDom_legacy (d : Nat) (x : Dom) : (s.setDom d x).legacy = s.legacy := rfl
@[simp] theorem State.setDom_pins (d : Nat) (x : Dom) : (s.setDom d x).pins = s.pins := rfl
@[simp] theorem State.setDom_part (d : Nat) (x : Dom) : (s.setDom d x).part = s.part := rfl
@[simp] theorem State.setDom_fuses (d : Nat) (x : Dom) : (s.setDom d x).fuses = s.fuses := rfl
@[simp] theorem State.setDom_mram (d : Nat) (x : Dom) : (s.setDom d x).mram = s.mram := rfl
@[simp] theorem State.setDom_words (d : Nat) (x : Dom) : (s.setDom d x).words = s.words := rfl
@[simp] theorem State.setDom_counters (d : Nat) (x : Dom) : (s.setDom d x).counters = s.counters := rfl
@[simp] theorem State.setDom_stipple (d : Nat) (x : Dom) : (s.setDom d x).stipple = s.stipple := rfl
@[simp] theorem State.setDom_tick (d : Nat) (x : Dom) : (s.setDom d x).tick = s.tick := rfl
@[simp] theorem State.setDom_cmd (d : Nat) (x : Dom) : (s.setDom d x).cmd = s.cmd := rfl
@[simp] theorem State.setDom_ev (d : Nat) (x : Dom) : (s.setDom d x).ev = s.ev := rfl
@[simp] theorem State.setDom_chans (d : Nat) (x : Dom) : (s.setDom d x).chans = s.chans := rfl
@[simp] theorem State.setDom_vonu (d : Nat) (x : Dom) : (s.setDom d x).vonu = s.vonu := rfl
@[simp] theorem State.setDom_burin (d : Nat) (x : Dom) : (s.setDom d x).burin = s.burin := rfl
@[simp] theorem State.setDom_cls (d : Nat) (x : Dom) : (s.setDom d x).cls = s.cls := rfl
@[simp] theorem State.setDom_qs (d : Nat) (x : Dom) : (s.setDom d x).qs = s.qs := rfl
@[simp] theorem State.setDom_bpm (d : Nat) (x : Dom) : (s.setDom d x).bpm = s.bpm := rfl
@[simp] theorem State.setDom_alink (d : Nat) (x : Dom) : (s.setDom d x).alink = s.alink := rfl
@[simp] theorem State.setDom_eth (d : Nat) (x : Dom) : (s.setDom d x).eth = s.eth := rfl
@[simp] theorem State.setDom_time (d : Nat) (x : Dom) : (s.setDom d x).time = s.time := rfl
@[simp] theorem State.setDom_ces (d : Nat) (x : Dom) : (s.setDom d x).ces = s.ces := rfl
@[simp] theorem State.setDom_crypto (d : Nat) (x : Dom) : (s.setDom d x).crypto = s.crypto := rfl
@[simp] theorem State.setDom_fault (d : Nat) (x : Dom) : (s.setDom d x).fault = s.fault := rfl
@[simp] theorem State.setDom_fw (d : Nat) (x : Dom) : (s.setDom d x).fw = s.fw := rfl
@[simp] theorem State.setDom_leg (d : Nat) (x : Dom) : (s.setDom d x).leg = s.leg := rfl
@[simp] theorem State.setDom_freeCount (d : Nat) (x : Dom) : (s.setDom d x).freeCount = s.freeCount := rfl
@[simp] theorem State.setDom_out (d : Nat) (x : Dom) : (s.setDom d x).out = s.out := rfl

/-! ### modDom -/

@[simp] theorem State.modDom_pending (d : Nat) (f : Dom → Dom) : (s.modDom d f).pending = s.pending := rfl
@[simp] theorem State.modDom_phase (d : Nat) (f : Dom → Dom) : (s.modDom d f).phase = s.phase := rfl
@[simp] theorem State.modDom_legacy (d : Nat) (f : Dom → Dom) : (s.modDom d f).legacy = s.legacy := rfl
@[simp] theorem State.modDom_pins (d : Nat) (f : Dom → Dom) : (s.modDom d f).pins = s.pins := rfl
@[simp] theorem State.modDom_part (d : Nat) (f : Dom → Dom) : (s.modDom d f).part = s.part := rfl
@[simp] theorem State.modDom_fuses (d : Nat) (f : Dom → Dom) : (s.modDom d f).fuses = s.fuses := rfl
@[simp] theorem State.modDom_mram (d : Nat) (f : Dom → Dom) : (s.modDom d f).mram = s.mram := rfl
@[simp] theorem State.modDom_words (d : Nat) (f : Dom → Dom) : (s.modDom d f).words = s.words := rfl
@[simp] theorem State.modDom_counters (d : Nat) (f : Dom → Dom) : (s.modDom d f).counters = s.counters := rfl
@[simp] theorem State.modDom_stipple (d : Nat) (f : Dom → Dom) : (s.modDom d f).stipple = s.stipple := rfl
@[simp] theorem State.modDom_tick (d : Nat) (f : Dom → Dom) : (s.modDom d f).tick = s.tick := rfl
@[simp] theorem State.modDom_cmd (d : Nat) (f : Dom → Dom) : (s.modDom d f).cmd = s.cmd := rfl
@[simp] theorem State.modDom_ev (d : Nat) (f : Dom → Dom) : (s.modDom d f).ev = s.ev := rfl
@[simp] theorem State.modDom_chans (d : Nat) (f : Dom → Dom) : (s.modDom d f).chans = s.chans := rfl
@[simp] theorem State.modDom_vonu (d : Nat) (f : Dom → Dom) : (s.modDom d f).vonu = s.vonu := rfl
@[simp] theorem State.modDom_burin (d : Nat) (f : Dom → Dom) : (s.modDom d f).burin = s.burin := rfl
@[simp] theorem State.modDom_cls (d : Nat) (f : Dom → Dom) : (s.modDom d f).cls = s.cls := rfl
@[simp] theorem State.modDom_qs (d : Nat) (f : Dom → Dom) : (s.modDom d f).qs = s.qs := rfl
@[simp] theorem State.modDom_bpm (d : Nat) (f : Dom → Dom) : (s.modDom d f).bpm = s.bpm := rfl
@[simp] theorem State.modDom_alink (d : Nat) (f : Dom → Dom) : (s.modDom d f).alink = s.alink := rfl
@[simp] theorem State.modDom_eth (d : Nat) (f : Dom → Dom) : (s.modDom d f).eth = s.eth := rfl
@[simp] theorem State.modDom_time (d : Nat) (f : Dom → Dom) : (s.modDom d f).time = s.time := rfl
@[simp] theorem State.modDom_ces (d : Nat) (f : Dom → Dom) : (s.modDom d f).ces = s.ces := rfl
@[simp] theorem State.modDom_crypto (d : Nat) (f : Dom → Dom) : (s.modDom d f).crypto = s.crypto := rfl
@[simp] theorem State.modDom_fault (d : Nat) (f : Dom → Dom) : (s.modDom d f).fault = s.fault := rfl
@[simp] theorem State.modDom_fw (d : Nat) (f : Dom → Dom) : (s.modDom d f).fw = s.fw := rfl
@[simp] theorem State.modDom_leg (d : Nat) (f : Dom → Dom) : (s.modDom d f).leg = s.leg := rfl
@[simp] theorem State.modDom_freeCount (d : Nat) (f : Dom → Dom) : (s.modDom d f).freeCount = s.freeCount := rfl
@[simp] theorem State.modDom_out (d : Nat) (f : Dom → Dom) : (s.modDom d f).out = s.out := rfl

/-! ### modPower -/

@[simp] theorem State.modPower_pending (f : PowerSt → PowerSt) : (s.modPower f).pending = s.pending := rfl
@[simp] theorem State.modPower_phase (f : PowerSt → PowerSt) : (s.modPower f).phase = s.phase := rfl
@[simp] theorem State.modPower_legacy (f : PowerSt → PowerSt) : (s.modPower f).legacy = s.legacy := rfl
@[simp] theorem State.modPower_pins (f : PowerSt → PowerSt) : (s.modPower f).pins = s.pins := rfl
@[simp] theorem State.modPower_part (f : PowerSt → PowerSt) : (s.modPower f).part = s.part := rfl
@[simp] theorem State.modPower_fuses (f : PowerSt → PowerSt) : (s.modPower f).fuses = s.fuses := rfl
@[simp] theorem State.modPower_mram (f : PowerSt → PowerSt) : (s.modPower f).mram = s.mram := rfl
@[simp] theorem State.modPower_words (f : PowerSt → PowerSt) : (s.modPower f).words = s.words := rfl
@[simp] theorem State.modPower_counters (f : PowerSt → PowerSt) : (s.modPower f).counters = s.counters := rfl
@[simp] theorem State.modPower_stipple (f : PowerSt → PowerSt) : (s.modPower f).stipple = s.stipple := rfl
@[simp] theorem State.modPower_tick (f : PowerSt → PowerSt) : (s.modPower f).tick = s.tick := rfl
@[simp] theorem State.modPower_cmd (f : PowerSt → PowerSt) : (s.modPower f).cmd = s.cmd := rfl
@[simp] theorem State.modPower_ev (f : PowerSt → PowerSt) : (s.modPower f).ev = s.ev := rfl
@[simp] theorem State.modPower_chans (f : PowerSt → PowerSt) : (s.modPower f).chans = s.chans := rfl
@[simp] theorem State.modPower_vonu (f : PowerSt → PowerSt) : (s.modPower f).vonu = s.vonu := rfl
@[simp] theorem State.modPower_burin (f : PowerSt → PowerSt) : (s.modPower f).burin = s.burin := rfl
@[simp] theorem State.modPower_cls (f : PowerSt → PowerSt) : (s.modPower f).cls = s.cls := rfl
@[simp] theorem State.modPower_qs (f : PowerSt → PowerSt) : (s.modPower f).qs = s.qs := rfl
@[simp] theorem State.modPower_bpm (f : PowerSt → PowerSt) : (s.modPower f).bpm = s.bpm := rfl
@[simp] theorem State.modPower_alink (f : PowerSt → PowerSt) : (s.modPower f).alink = s.alink := rfl
@[simp] theorem State.modPower_eth (f : PowerSt → PowerSt) : (s.modPower f).eth = s.eth := rfl
@[simp] theorem State.modPower_time (f : PowerSt → PowerSt) : (s.modPower f).time = s.time := rfl
@[simp] theorem State.modPower_ces (f : PowerSt → PowerSt) : (s.modPower f).ces = s.ces := rfl
@[simp] theorem State.modPower_crypto (f : PowerSt → PowerSt) : (s.modPower f).crypto = s.crypto := rfl
@[simp] theorem State.modPower_fault (f : PowerSt → PowerSt) : (s.modPower f).fault = s.fault := rfl
@[simp] theorem State.modPower_fw (f : PowerSt → PowerSt) : (s.modPower f).fw = s.fw := rfl
@[simp] theorem State.modPower_leg (f : PowerSt → PowerSt) : (s.modPower f).leg = s.leg := rfl
@[simp] theorem State.modPower_freeCount (f : PowerSt → PowerSt) : (s.modPower f).freeCount = s.freeCount := rfl
@[simp] theorem State.modPower_out (f : PowerSt → PowerSt) : (s.modPower f).out = s.out := rfl

/-! ### dieAsk -/

@[simp] theorem State.dieAsk_pending (d : Nat) (on : Bool) : (s.dieAsk d on).pending = s.pending := rfl
@[simp] theorem State.dieAsk_phase (d : Nat) (on : Bool) : (s.dieAsk d on).phase = s.phase := rfl
@[simp] theorem State.dieAsk_legacy (d : Nat) (on : Bool) : (s.dieAsk d on).legacy = s.legacy := rfl
@[simp] theorem State.dieAsk_pins (d : Nat) (on : Bool) : (s.dieAsk d on).pins = s.pins := rfl
@[simp] theorem State.dieAsk_part (d : Nat) (on : Bool) : (s.dieAsk d on).part = s.part := rfl
@[simp] theorem State.dieAsk_fuses (d : Nat) (on : Bool) : (s.dieAsk d on).fuses = s.fuses := rfl
@[simp] theorem State.dieAsk_mram (d : Nat) (on : Bool) : (s.dieAsk d on).mram = s.mram := rfl
@[simp] theorem State.dieAsk_words (d : Nat) (on : Bool) : (s.dieAsk d on).words = s.words := rfl
@[simp] theorem State.dieAsk_counters (d : Nat) (on : Bool) : (s.dieAsk d on).counters = s.counters := rfl
@[simp] theorem State.dieAsk_stipple (d : Nat) (on : Bool) : (s.dieAsk d on).stipple = s.stipple := rfl
@[simp] theorem State.dieAsk_tick (d : Nat) (on : Bool) : (s.dieAsk d on).tick = s.tick := rfl
@[simp] theorem State.dieAsk_cmd (d : Nat) (on : Bool) : (s.dieAsk d on).cmd = s.cmd := rfl
@[simp] theorem State.dieAsk_ev (d : Nat) (on : Bool) : (s.dieAsk d on).ev = s.ev := rfl
@[simp] theorem State.dieAsk_chans (d : Nat) (on : Bool) : (s.dieAsk d on).chans = s.chans := rfl
@[simp] theorem State.dieAsk_vonu (d : Nat) (on : Bool) : (s.dieAsk d on).vonu = s.vonu := rfl
@[simp] theorem State.dieAsk_burin (d : Nat) (on : Bool) : (s.dieAsk d on).burin = s.burin := rfl
@[simp] theorem State.dieAsk_cls (d : Nat) (on : Bool) : (s.dieAsk d on).cls = s.cls := rfl
@[simp] theorem State.dieAsk_qs (d : Nat) (on : Bool) : (s.dieAsk d on).qs = s.qs := rfl
@[simp] theorem State.dieAsk_bpm (d : Nat) (on : Bool) : (s.dieAsk d on).bpm = s.bpm := rfl
@[simp] theorem State.dieAsk_alink (d : Nat) (on : Bool) : (s.dieAsk d on).alink = s.alink := rfl
@[simp] theorem State.dieAsk_eth (d : Nat) (on : Bool) : (s.dieAsk d on).eth = s.eth := rfl
@[simp] theorem State.dieAsk_time (d : Nat) (on : Bool) : (s.dieAsk d on).time = s.time := rfl
@[simp] theorem State.dieAsk_ces (d : Nat) (on : Bool) : (s.dieAsk d on).ces = s.ces := rfl
@[simp] theorem State.dieAsk_crypto (d : Nat) (on : Bool) : (s.dieAsk d on).crypto = s.crypto := rfl
@[simp] theorem State.dieAsk_fault (d : Nat) (on : Bool) : (s.dieAsk d on).fault = s.fault := rfl
@[simp] theorem State.dieAsk_fw (d : Nat) (on : Bool) : (s.dieAsk d on).fw = s.fw := rfl
@[simp] theorem State.dieAsk_leg (d : Nat) (on : Bool) : (s.dieAsk d on).leg = s.leg := rfl
@[simp] theorem State.dieAsk_freeCount (d : Nat) (on : Bool) : (s.dieAsk d on).freeCount = s.freeCount := rfl
@[simp] theorem State.dieAsk_out (d : Nat) (on : Bool) : (s.dieAsk d on).out = s.out := rfl

/-! ### expose -/

@[simp] theorem State.expose_pending (g : Nat) : (s.expose g).pending = s.pending := rfl
@[simp] theorem State.expose_phase (g : Nat) : (s.expose g).phase = s.phase := rfl
@[simp] theorem State.expose_legacy (g : Nat) : (s.expose g).legacy = s.legacy := rfl
@[simp] theorem State.expose_pins (g : Nat) : (s.expose g).pins = s.pins := rfl
@[simp] theorem State.expose_part (g : Nat) : (s.expose g).part = s.part := rfl
@[simp] theorem State.expose_fuses (g : Nat) : (s.expose g).fuses = s.fuses := rfl
@[simp] theorem State.expose_mram (g : Nat) : (s.expose g).mram = s.mram := rfl
@[simp] theorem State.expose_words (g : Nat) : (s.expose g).words = s.words := rfl
@[simp] theorem State.expose_counters (g : Nat) : (s.expose g).counters = s.counters := rfl
@[simp] theorem State.expose_stipple (g : Nat) : (s.expose g).stipple = s.stipple := rfl
@[simp] theorem State.expose_cmd (g : Nat) : (s.expose g).cmd = s.cmd := rfl
@[simp] theorem State.expose_ev (g : Nat) : (s.expose g).ev = s.ev := rfl
@[simp] theorem State.expose_chans (g : Nat) : (s.expose g).chans = s.chans := rfl
@[simp] theorem State.expose_vonu (g : Nat) : (s.expose g).vonu = s.vonu := rfl
@[simp] theorem State.expose_burin (g : Nat) : (s.expose g).burin = s.burin := rfl
@[simp] theorem State.expose_cls (g : Nat) : (s.expose g).cls = s.cls := rfl
@[simp] theorem State.expose_qs (g : Nat) : (s.expose g).qs = s.qs := rfl
@[simp] theorem State.expose_bpm (g : Nat) : (s.expose g).bpm = s.bpm := rfl
@[simp] theorem State.expose_alink (g : Nat) : (s.expose g).alink = s.alink := rfl
@[simp] theorem State.expose_eth (g : Nat) : (s.expose g).eth = s.eth := rfl
@[simp] theorem State.expose_time (g : Nat) : (s.expose g).time = s.time := rfl
@[simp] theorem State.expose_ces (g : Nat) : (s.expose g).ces = s.ces := rfl
@[simp] theorem State.expose_crypto (g : Nat) : (s.expose g).crypto = s.crypto := rfl
@[simp] theorem State.expose_fault (g : Nat) : (s.expose g).fault = s.fault := rfl
@[simp] theorem State.expose_power (g : Nat) : (s.expose g).power = s.power := rfl
@[simp] theorem State.expose_fw (g : Nat) : (s.expose g).fw = s.fw := rfl
@[simp] theorem State.expose_leg (g : Nat) : (s.expose g).leg = s.leg := rfl
@[simp] theorem State.expose_freeCount (g : Nat) : (s.expose g).freeCount = s.freeCount := rfl
@[simp] theorem State.expose_out (g : Nat) : (s.expose g).out = s.out := rfl

/-! ### modTick -/

@[simp] theorem State.modTick_pending (f : TickSt → TickSt) : (s.modTick f).pending = s.pending := rfl
@[simp] theorem State.modTick_phase (f : TickSt → TickSt) : (s.modTick f).phase = s.phase := rfl
@[simp] theorem State.modTick_legacy (f : TickSt → TickSt) : (s.modTick f).legacy = s.legacy := rfl
@[simp] theorem State.modTick_pins (f : TickSt → TickSt) : (s.modTick f).pins = s.pins := rfl
@[simp] theorem State.modTick_part (f : TickSt → TickSt) : (s.modTick f).part = s.part := rfl
@[simp] theorem State.modTick_fuses (f : TickSt → TickSt) : (s.modTick f).fuses = s.fuses := rfl
@[simp] theorem State.modTick_mram (f : TickSt → TickSt) : (s.modTick f).mram = s.mram := rfl
@[simp] theorem State.modTick_words (f : TickSt → TickSt) : (s.modTick f).words = s.words := rfl
@[simp] theorem State.modTick_counters (f : TickSt → TickSt) : (s.modTick f).counters = s.counters := rfl
@[simp] theorem State.modTick_stipple (f : TickSt → TickSt) : (s.modTick f).stipple = s.stipple := rfl
@[simp] theorem State.modTick_cmd (f : TickSt → TickSt) : (s.modTick f).cmd = s.cmd := rfl
@[simp] theorem State.modTick_ev (f : TickSt → TickSt) : (s.modTick f).ev = s.ev := rfl
@[simp] theorem State.modTick_chans (f : TickSt → TickSt) : (s.modTick f).chans = s.chans := rfl
@[simp] theorem State.modTick_vonu (f : TickSt → TickSt) : (s.modTick f).vonu = s.vonu := rfl
@[simp] theorem State.modTick_burin (f : TickSt → TickSt) : (s.modTick f).burin = s.burin := rfl
@[simp] theorem State.modTick_cls (f : TickSt → TickSt) : (s.modTick f).cls = s.cls := rfl
@[simp] theorem State.modTick_qs (f : TickSt → TickSt) : (s.modTick f).qs = s.qs := rfl
@[simp] theorem State.modTick_bpm (f : TickSt → TickSt) : (s.modTick f).bpm = s.bpm := rfl
@[simp] theorem State.modTick_alink (f : TickSt → TickSt) : (s.modTick f).alink = s.alink := rfl
@[simp] theorem State.modTick_eth (f : TickSt → TickSt) : (s.modTick f).eth = s.eth := rfl
@[simp] theorem State.modTick_time (f : TickSt → TickSt) : (s.modTick f).time = s.time := rfl
@[simp] theorem State.modTick_ces (f : TickSt → TickSt) : (s.modTick f).ces = s.ces := rfl
@[simp] theorem State.modTick_crypto (f : TickSt → TickSt) : (s.modTick f).crypto = s.crypto := rfl
@[simp] theorem State.modTick_fault (f : TickSt → TickSt) : (s.modTick f).fault = s.fault := rfl
@[simp] theorem State.modTick_power (f : TickSt → TickSt) : (s.modTick f).power = s.power := rfl
@[simp] theorem State.modTick_fw (f : TickSt → TickSt) : (s.modTick f).fw = s.fw := rfl
@[simp] theorem State.modTick_leg (f : TickSt → TickSt) : (s.modTick f).leg = s.leg := rfl
@[simp] theorem State.modTick_freeCount (f : TickSt → TickSt) : (s.modTick f).freeCount = s.freeCount := rfl
@[simp] theorem State.modTick_out (f : TickSt → TickSt) : (s.modTick f).out = s.out := rfl

/-! ### disturb -/

@[simp] theorem State.disturb_pending (g : Nat) : (s.disturb g).pending = s.pending := rfl
@[simp] theorem State.disturb_phase (g : Nat) : (s.disturb g).phase = s.phase := rfl
@[simp] theorem State.disturb_legacy (g : Nat) : (s.disturb g).legacy = s.legacy := rfl
@[simp] theorem State.disturb_pins (g : Nat) : (s.disturb g).pins = s.pins := rfl
@[simp] theorem State.disturb_part (g : Nat) : (s.disturb g).part = s.part := rfl
@[simp] theorem State.disturb_fuses (g : Nat) : (s.disturb g).fuses = s.fuses := rfl
@[simp] theorem State.disturb_mram (g : Nat) : (s.disturb g).mram = s.mram := rfl
@[simp] theorem State.disturb_words (g : Nat) : (s.disturb g).words = s.words := rfl
@[simp] theorem State.disturb_counters (g : Nat) : (s.disturb g).counters = s.counters := rfl
@[simp] theorem State.disturb_stipple (g : Nat) : (s.disturb g).stipple = s.stipple := rfl
@[simp] theorem State.disturb_cmd (g : Nat) : (s.disturb g).cmd = s.cmd := rfl
@[simp] theorem State.disturb_ev (g : Nat) : (s.disturb g).ev = s.ev := rfl
@[simp] theorem State.disturb_chans (g : Nat) : (s.disturb g).chans = s.chans := rfl
@[simp] theorem State.disturb_vonu (g : Nat) : (s.disturb g).vonu = s.vonu := rfl
@[simp] theorem State.disturb_burin (g : Nat) : (s.disturb g).burin = s.burin := rfl
@[simp] theorem State.disturb_cls (g : Nat) : (s.disturb g).cls = s.cls := rfl
@[simp] theorem State.disturb_qs (g : Nat) : (s.disturb g).qs = s.qs := rfl
@[simp] theorem State.disturb_bpm (g : Nat) : (s.disturb g).bpm = s.bpm := rfl
@[simp] theorem State.disturb_alink (g : Nat) : (s.disturb g).alink = s.alink := rfl
@[simp] theorem State.disturb_eth (g : Nat) : (s.disturb g).eth = s.eth := rfl
@[simp] theorem State.disturb_time (g : Nat) : (s.disturb g).time = s.time := rfl
@[simp] theorem State.disturb_ces (g : Nat) : (s.disturb g).ces = s.ces := rfl
@[simp] theorem State.disturb_crypto (g : Nat) : (s.disturb g).crypto = s.crypto := rfl
@[simp] theorem State.disturb_fault (g : Nat) : (s.disturb g).fault = s.fault := rfl
@[simp] theorem State.disturb_power (g : Nat) : (s.disturb g).power = s.power := rfl
@[simp] theorem State.disturb_fw (g : Nat) : (s.disturb g).fw = s.fw := rfl
@[simp] theorem State.disturb_leg (g : Nat) : (s.disturb g).leg = s.leg := rfl
@[simp] theorem State.disturb_freeCount (g : Nat) : (s.disturb g).freeCount = s.freeCount := rfl
@[simp] theorem State.disturb_out (g : Nat) : (s.disturb g).out = s.out := rfl

/-! ### fresh -/

@[simp] theorem State.fresh_pending : (s.fresh.2).pending = s.pending := rfl
@[simp] theorem State.fresh_phase : (s.fresh.2).phase = s.phase := rfl
@[simp] theorem State.fresh_legacy : (s.fresh.2).legacy = s.legacy := rfl
@[simp] theorem State.fresh_pins : (s.fresh.2).pins = s.pins := rfl
@[simp] theorem State.fresh_part : (s.fresh.2).part = s.part := rfl
@[simp] theorem State.fresh_fuses : (s.fresh.2).fuses = s.fuses := rfl
@[simp] theorem State.fresh_mram : (s.fresh.2).mram = s.mram := rfl
@[simp] theorem State.fresh_words : (s.fresh.2).words = s.words := rfl
@[simp] theorem State.fresh_counters : (s.fresh.2).counters = s.counters := rfl
@[simp] theorem State.fresh_stipple : (s.fresh.2).stipple = s.stipple := rfl
@[simp] theorem State.fresh_tick : (s.fresh.2).tick = s.tick := rfl
@[simp] theorem State.fresh_cmd : (s.fresh.2).cmd = s.cmd := rfl
@[simp] theorem State.fresh_ev : (s.fresh.2).ev = s.ev := rfl
@[simp] theorem State.fresh_chans : (s.fresh.2).chans = s.chans := rfl
@[simp] theorem State.fresh_vonu : (s.fresh.2).vonu = s.vonu := rfl
@[simp] theorem State.fresh_burin : (s.fresh.2).burin = s.burin := rfl
@[simp] theorem State.fresh_cls : (s.fresh.2).cls = s.cls := rfl
@[simp] theorem State.fresh_qs : (s.fresh.2).qs = s.qs := rfl
@[simp] theorem State.fresh_bpm : (s.fresh.2).bpm = s.bpm := rfl
@[simp] theorem State.fresh_alink : (s.fresh.2).alink = s.alink := rfl
@[simp] theorem State.fresh_eth : (s.fresh.2).eth = s.eth := rfl
@[simp] theorem State.fresh_time : (s.fresh.2).time = s.time := rfl
@[simp] theorem State.fresh_ces : (s.fresh.2).ces = s.ces := rfl
@[simp] theorem State.fresh_crypto : (s.fresh.2).crypto = s.crypto := rfl
@[simp] theorem State.fresh_fault : (s.fresh.2).fault = s.fault := rfl
@[simp] theorem State.fresh_power : (s.fresh.2).power = s.power := rfl
@[simp] theorem State.fresh_fw : (s.fresh.2).fw = s.fw := rfl
@[simp] theorem State.fresh_leg : (s.fresh.2).leg = s.leg := rfl
@[simp] theorem State.fresh_out : (s.fresh.2).out = s.out := rfl

/-! ### instant -/

@[simp] theorem State.instant_pending : (s.instant.2).pending = s.pending := rfl
@[simp] theorem State.instant_phase : (s.instant.2).phase = s.phase := rfl
@[simp] theorem State.instant_legacy : (s.instant.2).legacy = s.legacy := rfl
@[simp] theorem State.instant_pins : (s.instant.2).pins = s.pins := rfl
@[simp] theorem State.instant_part : (s.instant.2).part = s.part := rfl
@[simp] theorem State.instant_fuses : (s.instant.2).fuses = s.fuses := rfl
@[simp] theorem State.instant_mram : (s.instant.2).mram = s.mram := rfl
@[simp] theorem State.instant_words : (s.instant.2).words = s.words := rfl
@[simp] theorem State.instant_counters : (s.instant.2).counters = s.counters := rfl
@[simp] theorem State.instant_stipple : (s.instant.2).stipple = s.stipple := rfl
@[simp] theorem State.instant_tick : (s.instant.2).tick = s.tick := rfl
@[simp] theorem State.instant_cmd : (s.instant.2).cmd = s.cmd := rfl
@[simp] theorem State.instant_ev : (s.instant.2).ev = s.ev := rfl
@[simp] theorem State.instant_chans : (s.instant.2).chans = s.chans := rfl
@[simp] theorem State.instant_vonu : (s.instant.2).vonu = s.vonu := rfl
@[simp] theorem State.instant_burin : (s.instant.2).burin = s.burin := rfl
@[simp] theorem State.instant_cls : (s.instant.2).cls = s.cls := rfl
@[simp] theorem State.instant_qs : (s.instant.2).qs = s.qs := rfl
@[simp] theorem State.instant_bpm : (s.instant.2).bpm = s.bpm := rfl
@[simp] theorem State.instant_alink : (s.instant.2).alink = s.alink := rfl
@[simp] theorem State.instant_eth : (s.instant.2).eth = s.eth := rfl
@[simp] theorem State.instant_time : (s.instant.2).time = s.time := rfl
@[simp] theorem State.instant_ces : (s.instant.2).ces = s.ces := rfl
@[simp] theorem State.instant_crypto : (s.instant.2).crypto = s.crypto := rfl
@[simp] theorem State.instant_fault : (s.instant.2).fault = s.fault := rfl
@[simp] theorem State.instant_power : (s.instant.2).power = s.power := rfl
@[simp] theorem State.instant_fw : (s.instant.2).fw = s.fw := rfl
@[simp] theorem State.instant_leg : (s.instant.2).leg = s.leg := rfl
@[simp] theorem State.instant_out : (s.instant.2).out = s.out := rfl

/-! ### setCh -/

@[simp] theorem State.setCh_pending (c : Chan) (x : ChanSt) : (s.setCh c x).pending = s.pending := rfl
@[simp] theorem State.setCh_phase (c : Chan) (x : ChanSt) : (s.setCh c x).phase = s.phase := rfl
@[simp] theorem State.setCh_legacy (c : Chan) (x : ChanSt) : (s.setCh c x).legacy = s.legacy := rfl
@[simp] theorem State.setCh_pins (c : Chan) (x : ChanSt) : (s.setCh c x).pins = s.pins := rfl
@[simp] theorem State.setCh_part (c : Chan) (x : ChanSt) : (s.setCh c x).part = s.part := rfl
@[simp] theorem State.setCh_fuses (c : Chan) (x : ChanSt) : (s.setCh c x).fuses = s.fuses := rfl
@[simp] theorem State.setCh_mram (c : Chan) (x : ChanSt) : (s.setCh c x).mram = s.mram := rfl
@[simp] theorem State.setCh_words (c : Chan) (x : ChanSt) : (s.setCh c x).words = s.words := rfl
@[simp] theorem State.setCh_counters (c : Chan) (x : ChanSt) : (s.setCh c x).counters = s.counters := rfl
@[simp] theorem State.setCh_stipple (c : Chan) (x : ChanSt) : (s.setCh c x).stipple = s.stipple := rfl
@[simp] theorem State.setCh_tick (c : Chan) (x : ChanSt) : (s.setCh c x).tick = s.tick := rfl
@[simp] theorem State.setCh_cmd (c : Chan) (x : ChanSt) : (s.setCh c x).cmd = s.cmd := rfl
@[simp] theorem State.setCh_ev (c : Chan) (x : ChanSt) : (s.setCh c x).ev = s.ev := rfl
@[simp] theorem State.setCh_vonu (c : Chan) (x : ChanSt) : (s.setCh c x).vonu = s.vonu := rfl
@[simp] theorem State.setCh_burin (c : Chan) (x : ChanSt) : (s.setCh c x).burin = s.burin := rfl
@[simp] theorem State.setCh_cls (c : Chan) (x : ChanSt) : (s.setCh c x).cls = s.cls := rfl
@[simp] theorem State.setCh_qs (c : Chan) (x : ChanSt) : (s.setCh c x).qs = s.qs := rfl
@[simp] theorem State.setCh_bpm (c : Chan) (x : ChanSt) : (s.setCh c x).bpm = s.bpm := rfl
@[simp] theorem State.setCh_alink (c : Chan) (x : ChanSt) : (s.setCh c x).alink = s.alink := rfl
@[simp] theorem State.setCh_eth (c : Chan) (x : ChanSt) : (s.setCh c x).eth = s.eth := rfl
@[simp] theorem State.setCh_time (c : Chan) (x : ChanSt) : (s.setCh c x).time = s.time := rfl
@[simp] theorem State.setCh_ces (c : Chan) (x : ChanSt) : (s.setCh c x).ces = s.ces := rfl
@[simp] theorem State.setCh_crypto (c : Chan) (x : ChanSt) : (s.setCh c x).crypto = s.crypto := rfl
@[simp] theorem State.setCh_fault (c : Chan) (x : ChanSt) : (s.setCh c x).fault = s.fault := rfl
@[simp] theorem State.setCh_power (c : Chan) (x : ChanSt) : (s.setCh c x).power = s.power := rfl
@[simp] theorem State.setCh_fw (c : Chan) (x : ChanSt) : (s.setCh c x).fw = s.fw := rfl
@[simp] theorem State.setCh_leg (c : Chan) (x : ChanSt) : (s.setCh c x).leg = s.leg := rfl
@[simp] theorem State.setCh_freeCount (c : Chan) (x : ChanSt) : (s.setCh c x).freeCount = s.freeCount := rfl
@[simp] theorem State.setCh_out (c : Chan) (x : ChanSt) : (s.setCh c x).out = s.out := rfl

/-! ### modCh -/

@[simp] theorem State.modCh_pending (c : Chan) (f : ChanSt → ChanSt) : (s.modCh c f).pending = s.pending := rfl
@[simp] theorem State.modCh_phase (c : Chan) (f : ChanSt → ChanSt) : (s.modCh c f).phase = s.phase := rfl
@[simp] theorem State.modCh_legacy (c : Chan) (f : ChanSt → ChanSt) : (s.modCh c f).legacy = s.legacy := rfl
@[simp] theorem State.modCh_pins (c : Chan) (f : ChanSt → ChanSt) : (s.modCh c f).pins = s.pins := rfl
@[simp] theorem State.modCh_part (c : Chan) (f : ChanSt → ChanSt) : (s.modCh c f).part = s.part := rfl
@[simp] theorem State.modCh_fuses (c : Chan) (f : ChanSt → ChanSt) : (s.modCh c f).fuses = s.fuses := rfl
@[simp] theorem State.modCh_mram (c : Chan) (f : ChanSt → ChanSt) : (s.modCh c f).mram = s.mram := rfl
@[simp] theorem State.modCh_words (c : Chan) (f : ChanSt → ChanSt) : (s.modCh c f).words = s.words := rfl
@[simp] theorem State.modCh_counters (c : Chan) (f : ChanSt → ChanSt) : (s.modCh c f).counters = s.counters := rfl
@[simp] theorem State.modCh_stipple (c : Chan) (f : ChanSt → ChanSt) : (s.modCh c f).stipple = s.stipple := rfl
@[simp] theorem State.modCh_tick (c : Chan) (f : ChanSt → ChanSt) : (s.modCh c f).tick = s.tick := rfl
@[simp] theorem State.modCh_cmd (c : Chan) (f : ChanSt → ChanSt) : (s.modCh c f).cmd = s.cmd := rfl
@[simp] theorem State.modCh_ev (c : Chan) (f : ChanSt → ChanSt) : (s.modCh c f).ev = s.ev := rfl
@[simp] theorem State.modCh_vonu (c : Chan) (f : ChanSt → ChanSt) : (s.modCh c f).vonu = s.vonu := rfl
@[simp] theorem State.modCh_burin (c : Chan) (f : ChanSt → ChanSt) : (s.modCh c f).burin = s.burin := rfl
@[simp] theorem State.modCh_cls (c : Chan) (f : ChanSt → ChanSt) : (s.modCh c f).cls = s.cls := rfl
@[simp] theorem State.modCh_qs (c : Chan) (f : ChanSt → ChanSt) : (s.modCh c f).qs = s.qs := rfl
@[simp] theorem State.modCh_bpm (c : Chan) (f : ChanSt → ChanSt) : (s.modCh c f).bpm = s.bpm := rfl
@[simp] theorem State.modCh_alink (c : Chan) (f : ChanSt → ChanSt) : (s.modCh c f).alink = s.alink := rfl
@[simp] theorem State.modCh_eth (c : Chan) (f : ChanSt → ChanSt) : (s.modCh c f).eth = s.eth := rfl
@[simp] theorem State.modCh_time (c : Chan) (f : ChanSt → ChanSt) : (s.modCh c f).time = s.time := rfl
@[simp] theorem State.modCh_ces (c : Chan) (f : ChanSt → ChanSt) : (s.modCh c f).ces = s.ces := rfl
@[simp] theorem State.modCh_crypto (c : Chan) (f : ChanSt → ChanSt) : (s.modCh c f).crypto = s.crypto := rfl
@[simp] theorem State.modCh_fault (c : Chan) (f : ChanSt → ChanSt) : (s.modCh c f).fault = s.fault := rfl
@[simp] theorem State.modCh_power (c : Chan) (f : ChanSt → ChanSt) : (s.modCh c f).power = s.power := rfl
@[simp] theorem State.modCh_fw (c : Chan) (f : ChanSt → ChanSt) : (s.modCh c f).fw = s.fw := rfl
@[simp] theorem State.modCh_leg (c : Chan) (f : ChanSt → ChanSt) : (s.modCh c f).leg = s.leg := rfl
@[simp] theorem State.modCh_freeCount (c : Chan) (f : ChanSt → ChanSt) : (s.modCh c f).freeCount = s.freeCount := rfl
@[simp] theorem State.modCh_out (c : Chan) (f : ChanSt → ChanSt) : (s.modCh c f).out = s.out := rfl

/-! ### bumpCh -/

@[simp] theorem State.bumpCh_pending (c : Chan) (i n : Nat) : (s.bumpCh c i n).pending = s.pending := rfl
@[simp] theorem State.bumpCh_phase (c : Chan) (i n : Nat) : (s.bumpCh c i n).phase = s.phase := rfl
@[simp] theorem State.bumpCh_legacy (c : Chan) (i n : Nat) : (s.bumpCh c i n).legacy = s.legacy := rfl
@[simp] theorem State.bumpCh_pins (c : Chan) (i n : Nat) : (s.bumpCh c i n).pins = s.pins := rfl
@[simp] theorem State.bumpCh_part (c : Chan) (i n : Nat) : (s.bumpCh c i n).part = s.part := rfl
@[simp] theorem State.bumpCh_fuses (c : Chan) (i n : Nat) : (s.bumpCh c i n).fuses = s.fuses := rfl
@[simp] theorem State.bumpCh_mram (c : Chan) (i n : Nat) : (s.bumpCh c i n).mram = s.mram := rfl
@[simp] theorem State.bumpCh_words (c : Chan) (i n : Nat) : (s.bumpCh c i n).words = s.words := rfl
@[simp] theorem State.bumpCh_stipple (c : Chan) (i n : Nat) : (s.bumpCh c i n).stipple = s.stipple := rfl
@[simp] theorem State.bumpCh_tick (c : Chan) (i n : Nat) : (s.bumpCh c i n).tick = s.tick := rfl
@[simp] theorem State.bumpCh_cmd (c : Chan) (i n : Nat) : (s.bumpCh c i n).cmd = s.cmd := rfl
@[simp] theorem State.bumpCh_ev (c : Chan) (i n : Nat) : (s.bumpCh c i n).ev = s.ev := rfl
@[simp] theorem State.bumpCh_chans (c : Chan) (i n : Nat) : (s.bumpCh c i n).chans = s.chans := rfl
@[simp] theorem State.bumpCh_vonu (c : Chan) (i n : Nat) : (s.bumpCh c i n).vonu = s.vonu := rfl
@[simp] theorem State.bumpCh_burin (c : Chan) (i n : Nat) : (s.bumpCh c i n).burin = s.burin := rfl
@[simp] theorem State.bumpCh_cls (c : Chan) (i n : Nat) : (s.bumpCh c i n).cls = s.cls := rfl
@[simp] theorem State.bumpCh_qs (c : Chan) (i n : Nat) : (s.bumpCh c i n).qs = s.qs := rfl
@[simp] theorem State.bumpCh_bpm (c : Chan) (i n : Nat) : (s.bumpCh c i n).bpm = s.bpm := rfl
@[simp] theorem State.bumpCh_alink (c : Chan) (i n : Nat) : (s.bumpCh c i n).alink = s.alink := rfl
@[simp] theorem State.bumpCh_eth (c : Chan) (i n : Nat) : (s.bumpCh c i n).eth = s.eth := rfl
@[simp] theorem State.bumpCh_time (c : Chan) (i n : Nat) : (s.bumpCh c i n).time = s.time := rfl
@[simp] theorem State.bumpCh_ces (c : Chan) (i n : Nat) : (s.bumpCh c i n).ces = s.ces := rfl
@[simp] theorem State.bumpCh_crypto (c : Chan) (i n : Nat) : (s.bumpCh c i n).crypto = s.crypto := rfl
@[simp] theorem State.bumpCh_fault (c : Chan) (i n : Nat) : (s.bumpCh c i n).fault = s.fault := rfl
@[simp] theorem State.bumpCh_power (c : Chan) (i n : Nat) : (s.bumpCh c i n).power = s.power := rfl
@[simp] theorem State.bumpCh_fw (c : Chan) (i n : Nat) : (s.bumpCh c i n).fw = s.fw := rfl
@[simp] theorem State.bumpCh_leg (c : Chan) (i n : Nat) : (s.bumpCh c i n).leg = s.leg := rfl
@[simp] theorem State.bumpCh_freeCount (c : Chan) (i n : Nat) : (s.bumpCh c i n).freeCount = s.freeCount := rfl
@[simp] theorem State.bumpCh_out (c : Chan) (i n : Nat) : (s.bumpCh c i n).out = s.out := rfl

/-! ### modFault -/

@[simp] theorem State.modFault_pending (f : FaultSt → FaultSt) : (s.modFault f).pending = s.pending := rfl
@[simp] theorem State.modFault_phase (f : FaultSt → FaultSt) : (s.modFault f).phase = s.phase := rfl
@[simp] theorem State.modFault_legacy (f : FaultSt → FaultSt) : (s.modFault f).legacy = s.legacy := rfl
@[simp] theorem State.modFault_pins (f : FaultSt → FaultSt) : (s.modFault f).pins = s.pins := rfl
@[simp] theorem State.modFault_part (f : FaultSt → FaultSt) : (s.modFault f).part = s.part := rfl
@[simp] theorem State.modFault_fuses (f : FaultSt → FaultSt) : (s.modFault f).fuses = s.fuses := rfl
@[simp] theorem State.modFault_mram (f : FaultSt → FaultSt) : (s.modFault f).mram = s.mram := rfl
@[simp] theorem State.modFault_words (f : FaultSt → FaultSt) : (s.modFault f).words = s.words := rfl
@[simp] theorem State.modFault_counters (f : FaultSt → FaultSt) : (s.modFault f).counters = s.counters := rfl
@[simp] theorem State.modFault_stipple (f : FaultSt → FaultSt) : (s.modFault f).stipple = s.stipple := rfl
@[simp] theorem State.modFault_tick (f : FaultSt → FaultSt) : (s.modFault f).tick = s.tick := rfl
@[simp] theorem State.modFault_cmd (f : FaultSt → FaultSt) : (s.modFault f).cmd = s.cmd := rfl
@[simp] theorem State.modFault_ev (f : FaultSt → FaultSt) : (s.modFault f).ev = s.ev := rfl
@[simp] theorem State.modFault_chans (f : FaultSt → FaultSt) : (s.modFault f).chans = s.chans := rfl
@[simp] theorem State.modFault_vonu (f : FaultSt → FaultSt) : (s.modFault f).vonu = s.vonu := rfl
@[simp] theorem State.modFault_burin (f : FaultSt → FaultSt) : (s.modFault f).burin = s.burin := rfl
@[simp] theorem State.modFault_cls (f : FaultSt → FaultSt) : (s.modFault f).cls = s.cls := rfl
@[simp] theorem State.modFault_qs (f : FaultSt → FaultSt) : (s.modFault f).qs = s.qs := rfl
@[simp] theorem State.modFault_bpm (f : FaultSt → FaultSt) : (s.modFault f).bpm = s.bpm := rfl
@[simp] theorem State.modFault_alink (f : FaultSt → FaultSt) : (s.modFault f).alink = s.alink := rfl
@[simp] theorem State.modFault_eth (f : FaultSt → FaultSt) : (s.modFault f).eth = s.eth := rfl
@[simp] theorem State.modFault_time (f : FaultSt → FaultSt) : (s.modFault f).time = s.time := rfl
@[simp] theorem State.modFault_ces (f : FaultSt → FaultSt) : (s.modFault f).ces = s.ces := rfl
@[simp] theorem State.modFault_crypto (f : FaultSt → FaultSt) : (s.modFault f).crypto = s.crypto := rfl
@[simp] theorem State.modFault_power (f : FaultSt → FaultSt) : (s.modFault f).power = s.power := rfl
@[simp] theorem State.modFault_fw (f : FaultSt → FaultSt) : (s.modFault f).fw = s.fw := rfl
@[simp] theorem State.modFault_leg (f : FaultSt → FaultSt) : (s.modFault f).leg = s.leg := rfl
@[simp] theorem State.modFault_freeCount (f : FaultSt → FaultSt) : (s.modFault f).freeCount = s.freeCount := rfl
@[simp] theorem State.modFault_out (f : FaultSt → FaultSt) : (s.modFault f).out = s.out := rfl

/-! ### modB -/

@[simp] theorem State.modB_pending (c : Chan) (f : BCh → BCh) : (s.modB c f).pending = s.pending := rfl
@[simp] theorem State.modB_phase (c : Chan) (f : BCh → BCh) : (s.modB c f).phase = s.phase := rfl
@[simp] theorem State.modB_legacy (c : Chan) (f : BCh → BCh) : (s.modB c f).legacy = s.legacy := rfl
@[simp] theorem State.modB_pins (c : Chan) (f : BCh → BCh) : (s.modB c f).pins = s.pins := rfl
@[simp] theorem State.modB_part (c : Chan) (f : BCh → BCh) : (s.modB c f).part = s.part := rfl
@[simp] theorem State.modB_fuses (c : Chan) (f : BCh → BCh) : (s.modB c f).fuses = s.fuses := rfl
@[simp] theorem State.modB_mram (c : Chan) (f : BCh → BCh) : (s.modB c f).mram = s.mram := rfl
@[simp] theorem State.modB_words (c : Chan) (f : BCh → BCh) : (s.modB c f).words = s.words := rfl
@[simp] theorem State.modB_counters (c : Chan) (f : BCh → BCh) : (s.modB c f).counters = s.counters := rfl
@[simp] theorem State.modB_stipple (c : Chan) (f : BCh → BCh) : (s.modB c f).stipple = s.stipple := rfl
@[simp] theorem State.modB_tick (c : Chan) (f : BCh → BCh) : (s.modB c f).tick = s.tick := rfl
@[simp] theorem State.modB_cmd (c : Chan) (f : BCh → BCh) : (s.modB c f).cmd = s.cmd := rfl
@[simp] theorem State.modB_ev (c : Chan) (f : BCh → BCh) : (s.modB c f).ev = s.ev := rfl
@[simp] theorem State.modB_chans (c : Chan) (f : BCh → BCh) : (s.modB c f).chans = s.chans := rfl
@[simp] theorem State.modB_vonu (c : Chan) (f : BCh → BCh) : (s.modB c f).vonu = s.vonu := rfl
@[simp] theorem State.modB_cls (c : Chan) (f : BCh → BCh) : (s.modB c f).cls = s.cls := rfl
@[simp] theorem State.modB_qs (c : Chan) (f : BCh → BCh) : (s.modB c f).qs = s.qs := rfl
@[simp] theorem State.modB_bpm (c : Chan) (f : BCh → BCh) : (s.modB c f).bpm = s.bpm := rfl
@[simp] theorem State.modB_alink (c : Chan) (f : BCh → BCh) : (s.modB c f).alink = s.alink := rfl
@[simp] theorem State.modB_eth (c : Chan) (f : BCh → BCh) : (s.modB c f).eth = s.eth := rfl
@[simp] theorem State.modB_time (c : Chan) (f : BCh → BCh) : (s.modB c f).time = s.time := rfl
@[simp] theorem State.modB_ces (c : Chan) (f : BCh → BCh) : (s.modB c f).ces = s.ces := rfl
@[simp] theorem State.modB_crypto (c : Chan) (f : BCh → BCh) : (s.modB c f).crypto = s.crypto := rfl
@[simp] theorem State.modB_fault (c : Chan) (f : BCh → BCh) : (s.modB c f).fault = s.fault := rfl
@[simp] theorem State.modB_power (c : Chan) (f : BCh → BCh) : (s.modB c f).power = s.power := rfl
@[simp] theorem State.modB_fw (c : Chan) (f : BCh → BCh) : (s.modB c f).fw = s.fw := rfl
@[simp] theorem State.modB_leg (c : Chan) (f : BCh → BCh) : (s.modB c f).leg = s.leg := rfl
@[simp] theorem State.modB_freeCount (c : Chan) (f : BCh → BCh) : (s.modB c f).freeCount = s.freeCount := rfl
@[simp] theorem State.modB_out (c : Chan) (f : BCh → BCh) : (s.modB c f).out = s.out := rfl

/-! ### bumpB -/

@[simp] theorem State.bumpB_pending (c : Chan) (k n : Nat) : (s.bumpB c k n).pending = s.pending := rfl
@[simp] theorem State.bumpB_phase (c : Chan) (k n : Nat) : (s.bumpB c k n).phase = s.phase := rfl
@[simp] theorem State.bumpB_legacy (c : Chan) (k n : Nat) : (s.bumpB c k n).legacy = s.legacy := rfl
@[simp] theorem State.bumpB_pins (c : Chan) (k n : Nat) : (s.bumpB c k n).pins = s.pins := rfl
@[simp] theorem State.bumpB_part (c : Chan) (k n : Nat) : (s.bumpB c k n).part = s.part := rfl
@[simp] theorem State.bumpB_fuses (c : Chan) (k n : Nat) : (s.bumpB c k n).fuses = s.fuses := rfl
@[simp] theorem State.bumpB_mram (c : Chan) (k n : Nat) : (s.bumpB c k n).mram = s.mram := rfl
@[simp] theorem State.bumpB_words (c : Chan) (k n : Nat) : (s.bumpB c k n).words = s.words := rfl
@[simp] theorem State.bumpB_stipple (c : Chan) (k n : Nat) : (s.bumpB c k n).stipple = s.stipple := rfl
@[simp] theorem State.bumpB_tick (c : Chan) (k n : Nat) : (s.bumpB c k n).tick = s.tick := rfl
@[simp] theorem State.bumpB_cmd (c : Chan) (k n : Nat) : (s.bumpB c k n).cmd = s.cmd := rfl
@[simp] theorem State.bumpB_ev (c : Chan) (k n : Nat) : (s.bumpB c k n).ev = s.ev := rfl
@[simp] theorem State.bumpB_chans (c : Chan) (k n : Nat) : (s.bumpB c k n).chans = s.chans := rfl
@[simp] theorem State.bumpB_vonu (c : Chan) (k n : Nat) : (s.bumpB c k n).vonu = s.vonu := rfl
@[simp] theorem State.bumpB_burin (c : Chan) (k n : Nat) : (s.bumpB c k n).burin = s.burin := rfl
@[simp] theorem State.bumpB_cls (c : Chan) (k n : Nat) : (s.bumpB c k n).cls = s.cls := rfl
@[simp] theorem State.bumpB_qs (c : Chan) (k n : Nat) : (s.bumpB c k n).qs = s.qs := rfl
@[simp] theorem State.bumpB_bpm (c : Chan) (k n : Nat) : (s.bumpB c k n).bpm = s.bpm := rfl
@[simp] theorem State.bumpB_alink (c : Chan) (k n : Nat) : (s.bumpB c k n).alink = s.alink := rfl
@[simp] theorem State.bumpB_eth (c : Chan) (k n : Nat) : (s.bumpB c k n).eth = s.eth := rfl
@[simp] theorem State.bumpB_time (c : Chan) (k n : Nat) : (s.bumpB c k n).time = s.time := rfl
@[simp] theorem State.bumpB_ces (c : Chan) (k n : Nat) : (s.bumpB c k n).ces = s.ces := rfl
@[simp] theorem State.bumpB_crypto (c : Chan) (k n : Nat) : (s.bumpB c k n).crypto = s.crypto := rfl
@[simp] theorem State.bumpB_fault (c : Chan) (k n : Nat) : (s.bumpB c k n).fault = s.fault := rfl
@[simp] theorem State.bumpB_power (c : Chan) (k n : Nat) : (s.bumpB c k n).power = s.power := rfl
@[simp] theorem State.bumpB_fw (c : Chan) (k n : Nat) : (s.bumpB c k n).fw = s.fw := rfl
@[simp] theorem State.bumpB_leg (c : Chan) (k n : Nat) : (s.bumpB c k n).leg = s.leg := rfl
@[simp] theorem State.bumpB_freeCount (c : Chan) (k n : Nat) : (s.bumpB c k n).freeCount = s.freeCount := rfl
@[simp] theorem State.bumpB_out (c : Chan) (k n : Nat) : (s.bumpB c k n).out = s.out := rfl

/-! ### setStage -/

@[simp] theorem State.setStage_pending (i : Nat) (x : Stage) : (s.setStage i x).pending = s.pending := rfl
@[simp] theorem State.setStage_phase (i : Nat) (x : Stage) : (s.setStage i x).phase = s.phase := rfl
@[simp] theorem State.setStage_legacy (i : Nat) (x : Stage) : (s.setStage i x).legacy = s.legacy := rfl
@[simp] theorem State.setStage_pins (i : Nat) (x : Stage) : (s.setStage i x).pins = s.pins := rfl
@[simp] theorem State.setStage_part (i : Nat) (x : Stage) : (s.setStage i x).part = s.part := rfl
@[simp] theorem State.setStage_fuses (i : Nat) (x : Stage) : (s.setStage i x).fuses = s.fuses := rfl
@[simp] theorem State.setStage_mram (i : Nat) (x : Stage) : (s.setStage i x).mram = s.mram := rfl
@[simp] theorem State.setStage_words (i : Nat) (x : Stage) : (s.setStage i x).words = s.words := rfl
@[simp] theorem State.setStage_counters (i : Nat) (x : Stage) : (s.setStage i x).counters = s.counters := rfl
@[simp] theorem State.setStage_stipple (i : Nat) (x : Stage) : (s.setStage i x).stipple = s.stipple := rfl
@[simp] theorem State.setStage_tick (i : Nat) (x : Stage) : (s.setStage i x).tick = s.tick := rfl
@[simp] theorem State.setStage_cmd (i : Nat) (x : Stage) : (s.setStage i x).cmd = s.cmd := rfl
@[simp] theorem State.setStage_ev (i : Nat) (x : Stage) : (s.setStage i x).ev = s.ev := rfl
@[simp] theorem State.setStage_chans (i : Nat) (x : Stage) : (s.setStage i x).chans = s.chans := rfl
@[simp] theorem State.setStage_vonu (i : Nat) (x : Stage) : (s.setStage i x).vonu = s.vonu := rfl
@[simp] theorem State.setStage_cls (i : Nat) (x : Stage) : (s.setStage i x).cls = s.cls := rfl
@[simp] theorem State.setStage_qs (i : Nat) (x : Stage) : (s.setStage i x).qs = s.qs := rfl
@[simp] theorem State.setStage_bpm (i : Nat) (x : Stage) : (s.setStage i x).bpm = s.bpm := rfl
@[simp] theorem State.setStage_alink (i : Nat) (x : Stage) : (s.setStage i x).alink = s.alink := rfl
@[simp] theorem State.setStage_eth (i : Nat) (x : Stage) : (s.setStage i x).eth = s.eth := rfl
@[simp] theorem State.setStage_time (i : Nat) (x : Stage) : (s.setStage i x).time = s.time := rfl
@[simp] theorem State.setStage_ces (i : Nat) (x : Stage) : (s.setStage i x).ces = s.ces := rfl
@[simp] theorem State.setStage_crypto (i : Nat) (x : Stage) : (s.setStage i x).crypto = s.crypto := rfl
@[simp] theorem State.setStage_fault (i : Nat) (x : Stage) : (s.setStage i x).fault = s.fault := rfl
@[simp] theorem State.setStage_power (i : Nat) (x : Stage) : (s.setStage i x).power = s.power := rfl
@[simp] theorem State.setStage_fw (i : Nat) (x : Stage) : (s.setStage i x).fw = s.fw := rfl
@[simp] theorem State.setStage_leg (i : Nat) (x : Stage) : (s.setStage i x).leg = s.leg := rfl
@[simp] theorem State.setStage_freeCount (i : Nat) (x : Stage) : (s.setStage i x).freeCount = s.freeCount := rfl
@[simp] theorem State.setStage_out (i : Nat) (x : Stage) : (s.setStage i x).out = s.out := rfl

/-! ### modCls -/

@[simp] theorem State.modCls_pending (f : ClassSt → ClassSt) : (s.modCls f).pending = s.pending := rfl
@[simp] theorem State.modCls_phase (f : ClassSt → ClassSt) : (s.modCls f).phase = s.phase := rfl
@[simp] theorem State.modCls_legacy (f : ClassSt → ClassSt) : (s.modCls f).legacy = s.legacy := rfl
@[simp] theorem State.modCls_pins (f : ClassSt → ClassSt) : (s.modCls f).pins = s.pins := rfl
@[simp] theorem State.modCls_part (f : ClassSt → ClassSt) : (s.modCls f).part = s.part := rfl
@[simp] theorem State.modCls_fuses (f : ClassSt → ClassSt) : (s.modCls f).fuses = s.fuses := rfl
@[simp] theorem State.modCls_mram (f : ClassSt → ClassSt) : (s.modCls f).mram = s.mram := rfl
@[simp] theorem State.modCls_words (f : ClassSt → ClassSt) : (s.modCls f).words = s.words := rfl
@[simp] theorem State.modCls_counters (f : ClassSt → ClassSt) : (s.modCls f).counters = s.counters := rfl
@[simp] theorem State.modCls_stipple (f : ClassSt → ClassSt) : (s.modCls f).stipple = s.stipple := rfl
@[simp] theorem State.modCls_tick (f : ClassSt → ClassSt) : (s.modCls f).tick = s.tick := rfl
@[simp] theorem State.modCls_cmd (f : ClassSt → ClassSt) : (s.modCls f).cmd = s.cmd := rfl
@[simp] theorem State.modCls_ev (f : ClassSt → ClassSt) : (s.modCls f).ev = s.ev := rfl
@[simp] theorem State.modCls_chans (f : ClassSt → ClassSt) : (s.modCls f).chans = s.chans := rfl
@[simp] theorem State.modCls_vonu (f : ClassSt → ClassSt) : (s.modCls f).vonu = s.vonu := rfl
@[simp] theorem State.modCls_burin (f : ClassSt → ClassSt) : (s.modCls f).burin = s.burin := rfl
@[simp] theorem State.modCls_qs (f : ClassSt → ClassSt) : (s.modCls f).qs = s.qs := rfl
@[simp] theorem State.modCls_bpm (f : ClassSt → ClassSt) : (s.modCls f).bpm = s.bpm := rfl
@[simp] theorem State.modCls_alink (f : ClassSt → ClassSt) : (s.modCls f).alink = s.alink := rfl
@[simp] theorem State.modCls_eth (f : ClassSt → ClassSt) : (s.modCls f).eth = s.eth := rfl
@[simp] theorem State.modCls_time (f : ClassSt → ClassSt) : (s.modCls f).time = s.time := rfl
@[simp] theorem State.modCls_ces (f : ClassSt → ClassSt) : (s.modCls f).ces = s.ces := rfl
@[simp] theorem State.modCls_crypto (f : ClassSt → ClassSt) : (s.modCls f).crypto = s.crypto := rfl
@[simp] theorem State.modCls_fault (f : ClassSt → ClassSt) : (s.modCls f).fault = s.fault := rfl
@[simp] theorem State.modCls_power (f : ClassSt → ClassSt) : (s.modCls f).power = s.power := rfl
@[simp] theorem State.modCls_fw (f : ClassSt → ClassSt) : (s.modCls f).fw = s.fw := rfl
@[simp] theorem State.modCls_leg (f : ClassSt → ClassSt) : (s.modCls f).leg = s.leg := rfl
@[simp] theorem State.modCls_freeCount (f : ClassSt → ClassSt) : (s.modCls f).freeCount = s.freeCount := rfl
@[simp] theorem State.modCls_out (f : ClassSt → ClassSt) : (s.modCls f).out = s.out := rfl

/-! ### modLeg -/

@[simp] theorem State.modLeg_pending (f : LegacySt → LegacySt) : (s.modLeg f).pending = s.pending := rfl
@[simp] theorem State.modLeg_phase (f : LegacySt → LegacySt) : (s.modLeg f).phase = s.phase := rfl
@[simp] theorem State.modLeg_legacy (f : LegacySt → LegacySt) : (s.modLeg f).legacy = s.legacy := rfl
@[simp] theorem State.modLeg_pins (f : LegacySt → LegacySt) : (s.modLeg f).pins = s.pins := rfl
@[simp] theorem State.modLeg_part (f : LegacySt → LegacySt) : (s.modLeg f).part = s.part := rfl
@[simp] theorem State.modLeg_fuses (f : LegacySt → LegacySt) : (s.modLeg f).fuses = s.fuses := rfl
@[simp] theorem State.modLeg_mram (f : LegacySt → LegacySt) : (s.modLeg f).mram = s.mram := rfl
@[simp] theorem State.modLeg_words (f : LegacySt → LegacySt) : (s.modLeg f).words = s.words := rfl
@[simp] theorem State.modLeg_counters (f : LegacySt → LegacySt) : (s.modLeg f).counters = s.counters := rfl
@[simp] theorem State.modLeg_stipple (f : LegacySt → LegacySt) : (s.modLeg f).stipple = s.stipple := rfl
@[simp] theorem State.modLeg_tick (f : LegacySt → LegacySt) : (s.modLeg f).tick = s.tick := rfl
@[simp] theorem State.modLeg_cmd (f : LegacySt → LegacySt) : (s.modLeg f).cmd = s.cmd := rfl
@[simp] theorem State.modLeg_ev (f : LegacySt → LegacySt) : (s.modLeg f).ev = s.ev := rfl
@[simp] theorem State.modLeg_chans (f : LegacySt → LegacySt) : (s.modLeg f).chans = s.chans := rfl
@[simp] theorem State.modLeg_vonu (f : LegacySt → LegacySt) : (s.modLeg f).vonu = s.vonu := rfl
@[simp] theorem State.modLeg_burin (f : LegacySt → LegacySt) : (s.modLeg f).burin = s.burin := rfl
@[simp] theorem State.modLeg_cls (f : LegacySt → LegacySt) : (s.modLeg f).cls = s.cls := rfl
@[simp] theorem State.modLeg_qs (f : LegacySt → LegacySt) : (s.modLeg f).qs = s.qs := rfl
@[simp] theorem State.modLeg_bpm (f : LegacySt → LegacySt) : (s.modLeg f).bpm = s.bpm := rfl
@[simp] theorem State.modLeg_alink (f : LegacySt → LegacySt) : (s.modLeg f).alink = s.alink := rfl
@[simp] theorem State.modLeg_eth (f : LegacySt → LegacySt) : (s.modLeg f).eth = s.eth := rfl
@[simp] theorem State.modLeg_time (f : LegacySt → LegacySt) : (s.modLeg f).time = s.time := rfl
@[simp] theorem State.modLeg_ces (f : LegacySt → LegacySt) : (s.modLeg f).ces = s.ces := rfl
@[simp] theorem State.modLeg_crypto (f : LegacySt → LegacySt) : (s.modLeg f).crypto = s.crypto := rfl
@[simp] theorem State.modLeg_fault (f : LegacySt → LegacySt) : (s.modLeg f).fault = s.fault := rfl
@[simp] theorem State.modLeg_power (f : LegacySt → LegacySt) : (s.modLeg f).power = s.power := rfl
@[simp] theorem State.modLeg_fw (f : LegacySt → LegacySt) : (s.modLeg f).fw = s.fw := rfl
@[simp] theorem State.modLeg_freeCount (f : LegacySt → LegacySt) : (s.modLeg f).freeCount = s.freeCount := rfl
@[simp] theorem State.modLeg_out (f : LegacySt → LegacySt) : (s.modLeg f).out = s.out := rfl

/-! ### modPort -/

@[simp] theorem State.modPort_pending (t : Transport) (f : PortSt → PortSt) : (s.modPort t f).pending = s.pending := rfl
@[simp] theorem State.modPort_phase (t : Transport) (f : PortSt → PortSt) : (s.modPort t f).phase = s.phase := rfl
@[simp] theorem State.modPort_legacy (t : Transport) (f : PortSt → PortSt) : (s.modPort t f).legacy = s.legacy := rfl
@[simp] theorem State.modPort_pins (t : Transport) (f : PortSt → PortSt) : (s.modPort t f).pins = s.pins := rfl
@[simp] theorem State.modPort_part (t : Transport) (f : PortSt → PortSt) : (s.modPort t f).part = s.part := rfl
@[simp] theorem State.modPort_fuses (t : Transport) (f : PortSt → PortSt) : (s.modPort t f).fuses = s.fuses := rfl
@[simp] theorem State.modPort_mram (t : Transport) (f : PortSt → PortSt) : (s.modPort t f).mram = s.mram := rfl
@[simp] theorem State.modPort_words (t : Transport) (f : PortSt → PortSt) : (s.modPort t f).words = s.words := rfl
@[simp] theorem State.modPort_counters (t : Transport) (f : PortSt → PortSt) : (s.modPort t f).counters = s.counters := rfl
@[simp] theorem State.modPort_stipple (t : Transport) (f : PortSt → PortSt) : (s.modPort t f).stipple = s.stipple := rfl
@[simp] theorem State.modPort_tick (t : Transport) (f : PortSt → PortSt) : (s.modPort t f).tick = s.tick := rfl
@[simp] theorem State.modPort_ev (t : Transport) (f : PortSt → PortSt) : (s.modPort t f).ev = s.ev := rfl
@[simp] theorem State.modPort_chans (t : Transport) (f : PortSt → PortSt) : (s.modPort t f).chans = s.chans := rfl
@[simp] theorem State.modPort_vonu (t : Transport) (f : PortSt → PortSt) : (s.modPort t f).vonu = s.vonu := rfl
@[simp] theorem State.modPort_burin (t : Transport) (f : PortSt → PortSt) : (s.modPort t f).burin = s.burin := rfl
@[simp] theorem State.modPort_cls (t : Transport) (f : PortSt → PortSt) : (s.modPort t f).cls = s.cls := rfl
@[simp] theorem State.modPort_qs (t : Transport) (f : PortSt → PortSt) : (s.modPort t f).qs = s.qs := rfl
@[simp] theorem State.modPort_bpm (t : Transport) (f : PortSt → PortSt) : (s.modPort t f).bpm = s.bpm := rfl
@[simp] theorem State.modPort_alink (t : Transport) (f : PortSt → PortSt) : (s.modPort t f).alink = s.alink := rfl
@[simp] theorem State.modPort_eth (t : Transport) (f : PortSt → PortSt) : (s.modPort t f).eth = s.eth := rfl
@[simp] theorem State.modPort_time (t : Transport) (f : PortSt → PortSt) : (s.modPort t f).time = s.time := rfl
@[simp] theorem State.modPort_ces (t : Transport) (f : PortSt → PortSt) : (s.modPort t f).ces = s.ces := rfl
@[simp] theorem State.modPort_crypto (t : Transport) (f : PortSt → PortSt) : (s.modPort t f).crypto = s.crypto := rfl
@[simp] theorem State.modPort_fault (t : Transport) (f : PortSt → PortSt) : (s.modPort t f).fault = s.fault := rfl
@[simp] theorem State.modPort_power (t : Transport) (f : PortSt → PortSt) : (s.modPort t f).power = s.power := rfl
@[simp] theorem State.modPort_fw (t : Transport) (f : PortSt → PortSt) : (s.modPort t f).fw = s.fw := rfl
@[simp] theorem State.modPort_leg (t : Transport) (f : PortSt → PortSt) : (s.modPort t f).leg = s.leg := rfl
@[simp] theorem State.modPort_freeCount (t : Transport) (f : PortSt → PortSt) : (s.modPort t f).freeCount = s.freeCount := rfl
@[simp] theorem State.modPort_out (t : Transport) (f : PortSt → PortSt) : (s.modPort t f).out = s.out := rfl

/-! ### modTime -/

@[simp] theorem State.modTime_pending (f : TimeSt → TimeSt) : (s.modTime f).pending = s.pending := rfl
@[simp] theorem State.modTime_phase (f : TimeSt → TimeSt) : (s.modTime f).phase = s.phase := rfl
@[simp] theorem State.modTime_legacy (f : TimeSt → TimeSt) : (s.modTime f).legacy = s.legacy := rfl
@[simp] theorem State.modTime_pins (f : TimeSt → TimeSt) : (s.modTime f).pins = s.pins := rfl
@[simp] theorem State.modTime_part (f : TimeSt → TimeSt) : (s.modTime f).part = s.part := rfl
@[simp] theorem State.modTime_fuses (f : TimeSt → TimeSt) : (s.modTime f).fuses = s.fuses := rfl
@[simp] theorem State.modTime_mram (f : TimeSt → TimeSt) : (s.modTime f).mram = s.mram := rfl
@[simp] theorem State.modTime_words (f : TimeSt → TimeSt) : (s.modTime f).words = s.words := rfl
@[simp] theorem State.modTime_counters (f : TimeSt → TimeSt) : (s.modTime f).counters = s.counters := rfl
@[simp] theorem State.modTime_stipple (f : TimeSt → TimeSt) : (s.modTime f).stipple = s.stipple := rfl
@[simp] theorem State.modTime_tick (f : TimeSt → TimeSt) : (s.modTime f).tick = s.tick := rfl
@[simp] theorem State.modTime_cmd (f : TimeSt → TimeSt) : (s.modTime f).cmd = s.cmd := rfl
@[simp] theorem State.modTime_ev (f : TimeSt → TimeSt) : (s.modTime f).ev = s.ev := rfl
@[simp] theorem State.modTime_chans (f : TimeSt → TimeSt) : (s.modTime f).chans = s.chans := rfl
@[simp] theorem State.modTime_vonu (f : TimeSt → TimeSt) : (s.modTime f).vonu = s.vonu := rfl
@[simp] theorem State.modTime_burin (f : TimeSt → TimeSt) : (s.modTime f).burin = s.burin := rfl
@[simp] theorem State.modTime_cls (f : TimeSt → TimeSt) : (s.modTime f).cls = s.cls := rfl
@[simp] theorem State.modTime_qs (f : TimeSt → TimeSt) : (s.modTime f).qs = s.qs := rfl
@[simp] theorem State.modTime_bpm (f : TimeSt → TimeSt) : (s.modTime f).bpm = s.bpm := rfl
@[simp] theorem State.modTime_alink (f : TimeSt → TimeSt) : (s.modTime f).alink = s.alink := rfl
@[simp] theorem State.modTime_eth (f : TimeSt → TimeSt) : (s.modTime f).eth = s.eth := rfl
@[simp] theorem State.modTime_ces (f : TimeSt → TimeSt) : (s.modTime f).ces = s.ces := rfl
@[simp] theorem State.modTime_crypto (f : TimeSt → TimeSt) : (s.modTime f).crypto = s.crypto := rfl
@[simp] theorem State.modTime_fault (f : TimeSt → TimeSt) : (s.modTime f).fault = s.fault := rfl
@[simp] theorem State.modTime_power (f : TimeSt → TimeSt) : (s.modTime f).power = s.power := rfl
@[simp] theorem State.modTime_fw (f : TimeSt → TimeSt) : (s.modTime f).fw = s.fw := rfl
@[simp] theorem State.modTime_leg (f : TimeSt → TimeSt) : (s.modTime f).leg = s.leg := rfl
@[simp] theorem State.modTime_freeCount (f : TimeSt → TimeSt) : (s.modTime f).freeCount = s.freeCount := rfl
@[simp] theorem State.modTime_out (f : TimeSt → TimeSt) : (s.modTime f).out = s.out := rfl

/-! ### setVonu -/

@[simp] theorem State.setVonu_pending (n : Nat) (x : Vonu) : (s.setVonu n x).pending = s.pending := rfl
@[simp] theorem State.setVonu_phase (n : Nat) (x : Vonu) : (s.setVonu n x).phase = s.phase := rfl
@[simp] theorem State.setVonu_legacy (n : Nat) (x : Vonu) : (s.setVonu n x).legacy = s.legacy := rfl
@[simp] theorem State.setVonu_pins (n : Nat) (x : Vonu) : (s.setVonu n x).pins = s.pins := rfl
@[simp] theorem State.setVonu_part (n : Nat) (x : Vonu) : (s.setVonu n x).part = s.part := rfl
@[simp] theorem State.setVonu_fuses (n : Nat) (x : Vonu) : (s.setVonu n x).fuses = s.fuses := rfl
@[simp] theorem State.setVonu_mram (n : Nat) (x : Vonu) : (s.setVonu n x).mram = s.mram := rfl
@[simp] theorem State.setVonu_words (n : Nat) (x : Vonu) : (s.setVonu n x).words = s.words := rfl
@[simp] theorem State.setVonu_counters (n : Nat) (x : Vonu) : (s.setVonu n x).counters = s.counters := rfl
@[simp] theorem State.setVonu_stipple (n : Nat) (x : Vonu) : (s.setVonu n x).stipple = s.stipple := rfl
@[simp] theorem State.setVonu_tick (n : Nat) (x : Vonu) : (s.setVonu n x).tick = s.tick := rfl
@[simp] theorem State.setVonu_cmd (n : Nat) (x : Vonu) : (s.setVonu n x).cmd = s.cmd := rfl
@[simp] theorem State.setVonu_ev (n : Nat) (x : Vonu) : (s.setVonu n x).ev = s.ev := rfl
@[simp] theorem State.setVonu_chans (n : Nat) (x : Vonu) : (s.setVonu n x).chans = s.chans := rfl
@[simp] theorem State.setVonu_burin (n : Nat) (x : Vonu) : (s.setVonu n x).burin = s.burin := rfl
@[simp] theorem State.setVonu_cls (n : Nat) (x : Vonu) : (s.setVonu n x).cls = s.cls := rfl
@[simp] theorem State.setVonu_qs (n : Nat) (x : Vonu) : (s.setVonu n x).qs = s.qs := rfl
@[simp] theorem State.setVonu_bpm (n : Nat) (x : Vonu) : (s.setVonu n x).bpm = s.bpm := rfl
@[simp] theorem State.setVonu_alink (n : Nat) (x : Vonu) : (s.setVonu n x).alink = s.alink := rfl
@[simp] theorem State.setVonu_eth (n : Nat) (x : Vonu) : (s.setVonu n x).eth = s.eth := rfl
@[simp] theorem State.setVonu_time (n : Nat) (x : Vonu) : (s.setVonu n x).time = s.time := rfl
@[simp] theorem State.setVonu_ces (n : Nat) (x : Vonu) : (s.setVonu n x).ces = s.ces := rfl
@[simp] theorem State.setVonu_crypto (n : Nat) (x : Vonu) : (s.setVonu n x).crypto = s.crypto := rfl
@[simp] theorem State.setVonu_fault (n : Nat) (x : Vonu) : (s.setVonu n x).fault = s.fault := rfl
@[simp] theorem State.setVonu_power (n : Nat) (x : Vonu) : (s.setVonu n x).power = s.power := rfl
@[simp] theorem State.setVonu_fw (n : Nat) (x : Vonu) : (s.setVonu n x).fw = s.fw := rfl
@[simp] theorem State.setVonu_leg (n : Nat) (x : Vonu) : (s.setVonu n x).leg = s.leg := rfl
@[simp] theorem State.setVonu_freeCount (n : Nat) (x : Vonu) : (s.setVonu n x).freeCount = s.freeCount := rfl
@[simp] theorem State.setVonu_out (n : Nat) (x : Vonu) : (s.setVonu n x).out = s.out := rfl

/-! ### modVch -/

@[simp] theorem State.modVch_pending (n : Nat) (c : Chan) (f : VCh → VCh) : (s.modVch n c f).pending = s.pending := rfl
@[simp] theorem State.modVch_phase (n : Nat) (c : Chan) (f : VCh → VCh) : (s.modVch n c f).phase = s.phase := rfl
@[simp] theorem State.modVch_legacy (n : Nat) (c : Chan) (f : VCh → VCh) : (s.modVch n c f).legacy = s.legacy := rfl
@[simp] theorem State.modVch_pins (n : Nat) (c : Chan) (f : VCh → VCh) : (s.modVch n c f).pins = s.pins := rfl
@[simp] theorem State.modVch_part (n : Nat) (c : Chan) (f : VCh → VCh) : (s.modVch n c f).part = s.part := rfl
@[simp] theorem State.modVch_fuses (n : Nat) (c : Chan) (f : VCh → VCh) : (s.modVch n c f).fuses = s.fuses := rfl
@[simp] theorem State.modVch_mram (n : Nat) (c : Chan) (f : VCh → VCh) : (s.modVch n c f).mram = s.mram := rfl
@[simp] theorem State.modVch_words (n : Nat) (c : Chan) (f : VCh → VCh) : (s.modVch n c f).words = s.words := rfl
@[simp] theorem State.modVch_counters (n : Nat) (c : Chan) (f : VCh → VCh) : (s.modVch n c f).counters = s.counters := rfl
@[simp] theorem State.modVch_stipple (n : Nat) (c : Chan) (f : VCh → VCh) : (s.modVch n c f).stipple = s.stipple := rfl
@[simp] theorem State.modVch_tick (n : Nat) (c : Chan) (f : VCh → VCh) : (s.modVch n c f).tick = s.tick := rfl
@[simp] theorem State.modVch_cmd (n : Nat) (c : Chan) (f : VCh → VCh) : (s.modVch n c f).cmd = s.cmd := rfl
@[simp] theorem State.modVch_ev (n : Nat) (c : Chan) (f : VCh → VCh) : (s.modVch n c f).ev = s.ev := rfl
@[simp] theorem State.modVch_chans (n : Nat) (c : Chan) (f : VCh → VCh) : (s.modVch n c f).chans = s.chans := rfl
@[simp] theorem State.modVch_burin (n : Nat) (c : Chan) (f : VCh → VCh) : (s.modVch n c f).burin = s.burin := rfl
@[simp] theorem State.modVch_cls (n : Nat) (c : Chan) (f : VCh → VCh) : (s.modVch n c f).cls = s.cls := rfl
@[simp] theorem State.modVch_qs (n : Nat) (c : Chan) (f : VCh → VCh) : (s.modVch n c f).qs = s.qs := rfl
@[simp] theorem State.modVch_bpm (n : Nat) (c : Chan) (f : VCh → VCh) : (s.modVch n c f).bpm = s.bpm := rfl
@[simp] theorem State.modVch_alink (n : Nat) (c : Chan) (f : VCh → VCh) : (s.modVch n c f).alink = s.alink := rfl
@[simp] theorem State.modVch_eth (n : Nat) (c : Chan) (f : VCh → VCh) : (s.modVch n c f).eth = s.eth := rfl
@[simp] theorem State.modVch_time (n : Nat) (c : Chan) (f : VCh → VCh) : (s.modVch n c f).time = s.time := rfl
@[simp] theorem State.modVch_ces (n : Nat) (c : Chan) (f : VCh → VCh) : (s.modVch n c f).ces = s.ces := rfl
@[simp] theorem State.modVch_crypto (n : Nat) (c : Chan) (f : VCh → VCh) : (s.modVch n c f).crypto = s.crypto := rfl
@[simp] theorem State.modVch_fault (n : Nat) (c : Chan) (f : VCh → VCh) : (s.modVch n c f).fault = s.fault := rfl
@[simp] theorem State.modVch_power (n : Nat) (c : Chan) (f : VCh → VCh) : (s.modVch n c f).power = s.power := rfl
@[simp] theorem State.modVch_fw (n : Nat) (c : Chan) (f : VCh → VCh) : (s.modVch n c f).fw = s.fw := rfl
@[simp] theorem State.modVch_leg (n : Nat) (c : Chan) (f : VCh → VCh) : (s.modVch n c f).leg = s.leg := rfl
@[simp] theorem State.modVch_freeCount (n : Nat) (c : Chan) (f : VCh → VCh) : (s.modVch n c f).freeCount = s.freeCount := rfl
@[simp] theorem State.modVch_out (n : Nat) (c : Chan) (f : VCh → VCh) : (s.modVch n c f).out = s.out := rfl

/-! ### setAlloc -/

@[simp] theorem State.setAlloc_pending (i : Nat) (a : Option AllocE) : (s.setAlloc i a).pending = s.pending := rfl
@[simp] theorem State.setAlloc_phase (i : Nat) (a : Option AllocE) : (s.setAlloc i a).phase = s.phase := rfl
@[simp] theorem State.setAlloc_legacy (i : Nat) (a : Option AllocE) : (s.setAlloc i a).legacy = s.legacy := rfl
@[simp] theorem State.setAlloc_pins (i : Nat) (a : Option AllocE) : (s.setAlloc i a).pins = s.pins := rfl
@[simp] theorem State.setAlloc_part (i : Nat) (a : Option AllocE) : (s.setAlloc i a).part = s.part := rfl
@[simp] theorem State.setAlloc_fuses (i : Nat) (a : Option AllocE) : (s.setAlloc i a).fuses = s.fuses := rfl
@[simp] theorem State.setAlloc_mram (i : Nat) (a : Option AllocE) : (s.setAlloc i a).mram = s.mram := rfl
@[simp] theorem State.setAlloc_words (i : Nat) (a : Option AllocE) : (s.setAlloc i a).words = s.words := rfl
@[simp] theorem State.setAlloc_counters (i : Nat) (a : Option AllocE) : (s.setAlloc i a).counters = s.counters := rfl
@[simp] theorem State.setAlloc_stipple (i : Nat) (a : Option AllocE) : (s.setAlloc i a).stipple = s.stipple := rfl
@[simp] theorem State.setAlloc_tick (i : Nat) (a : Option AllocE) : (s.setAlloc i a).tick = s.tick := rfl
@[simp] theorem State.setAlloc_cmd (i : Nat) (a : Option AllocE) : (s.setAlloc i a).cmd = s.cmd := rfl
@[simp] theorem State.setAlloc_ev (i : Nat) (a : Option AllocE) : (s.setAlloc i a).ev = s.ev := rfl
@[simp] theorem State.setAlloc_chans (i : Nat) (a : Option AllocE) : (s.setAlloc i a).chans = s.chans := rfl
@[simp] theorem State.setAlloc_burin (i : Nat) (a : Option AllocE) : (s.setAlloc i a).burin = s.burin := rfl
@[simp] theorem State.setAlloc_cls (i : Nat) (a : Option AllocE) : (s.setAlloc i a).cls = s.cls := rfl
@[simp] theorem State.setAlloc_qs (i : Nat) (a : Option AllocE) : (s.setAlloc i a).qs = s.qs := rfl
@[simp] theorem State.setAlloc_bpm (i : Nat) (a : Option AllocE) : (s.setAlloc i a).bpm = s.bpm := rfl
@[simp] theorem State.setAlloc_alink (i : Nat) (a : Option AllocE) : (s.setAlloc i a).alink = s.alink := rfl
@[simp] theorem State.setAlloc_eth (i : Nat) (a : Option AllocE) : (s.setAlloc i a).eth = s.eth := rfl
@[simp] theorem State.setAlloc_time (i : Nat) (a : Option AllocE) : (s.setAlloc i a).time = s.time := rfl
@[simp] theorem State.setAlloc_ces (i : Nat) (a : Option AllocE) : (s.setAlloc i a).ces = s.ces := rfl
@[simp] theorem State.setAlloc_crypto (i : Nat) (a : Option AllocE) : (s.setAlloc i a).crypto = s.crypto := rfl
@[simp] theorem State.setAlloc_fault (i : Nat) (a : Option AllocE) : (s.setAlloc i a).fault = s.fault := rfl
@[simp] theorem State.setAlloc_power (i : Nat) (a : Option AllocE) : (s.setAlloc i a).power = s.power := rfl
@[simp] theorem State.setAlloc_fw (i : Nat) (a : Option AllocE) : (s.setAlloc i a).fw = s.fw := rfl
@[simp] theorem State.setAlloc_leg (i : Nat) (a : Option AllocE) : (s.setAlloc i a).leg = s.leg := rfl
@[simp] theorem State.setAlloc_freeCount (i : Nat) (a : Option AllocE) : (s.setAlloc i a).freeCount = s.freeCount := rfl
@[simp] theorem State.setAlloc_out (i : Nat) (a : Option AllocE) : (s.setAlloc i a).out = s.out := rfl

/-! ### bumpVonu -/

@[simp] theorem State.bumpVonu_pending (n k : Nat) : (s.bumpVonu n k).pending = s.pending := rfl
@[simp] theorem State.bumpVonu_phase (n k : Nat) : (s.bumpVonu n k).phase = s.phase := rfl
@[simp] theorem State.bumpVonu_legacy (n k : Nat) : (s.bumpVonu n k).legacy = s.legacy := rfl
@[simp] theorem State.bumpVonu_pins (n k : Nat) : (s.bumpVonu n k).pins = s.pins := rfl
@[simp] theorem State.bumpVonu_part (n k : Nat) : (s.bumpVonu n k).part = s.part := rfl
@[simp] theorem State.bumpVonu_fuses (n k : Nat) : (s.bumpVonu n k).fuses = s.fuses := rfl
@[simp] theorem State.bumpVonu_mram (n k : Nat) : (s.bumpVonu n k).mram = s.mram := rfl
@[simp] theorem State.bumpVonu_words (n k : Nat) : (s.bumpVonu n k).words = s.words := rfl
@[simp] theorem State.bumpVonu_stipple (n k : Nat) : (s.bumpVonu n k).stipple = s.stipple := rfl
@[simp] theorem State.bumpVonu_tick (n k : Nat) : (s.bumpVonu n k).tick = s.tick := rfl
@[simp] theorem State.bumpVonu_cmd (n k : Nat) : (s.bumpVonu n k).cmd = s.cmd := rfl
@[simp] theorem State.bumpVonu_ev (n k : Nat) : (s.bumpVonu n k).ev = s.ev := rfl
@[simp] theorem State.bumpVonu_chans (n k : Nat) : (s.bumpVonu n k).chans = s.chans := rfl
@[simp] theorem State.bumpVonu_vonu (n k : Nat) : (s.bumpVonu n k).vonu = s.vonu := rfl
@[simp] theorem State.bumpVonu_burin (n k : Nat) : (s.bumpVonu n k).burin = s.burin := rfl
@[simp] theorem State.bumpVonu_cls (n k : Nat) : (s.bumpVonu n k).cls = s.cls := rfl
@[simp] theorem State.bumpVonu_qs (n k : Nat) : (s.bumpVonu n k).qs = s.qs := rfl
@[simp] theorem State.bumpVonu_bpm (n k : Nat) : (s.bumpVonu n k).bpm = s.bpm := rfl
@[simp] theorem State.bumpVonu_alink (n k : Nat) : (s.bumpVonu n k).alink = s.alink := rfl
@[simp] theorem State.bumpVonu_eth (n k : Nat) : (s.bumpVonu n k).eth = s.eth := rfl
@[simp] theorem State.bumpVonu_time (n k : Nat) : (s.bumpVonu n k).time = s.time := rfl
@[simp] theorem State.bumpVonu_ces (n k : Nat) : (s.bumpVonu n k).ces = s.ces := rfl
@[simp] theorem State.bumpVonu_crypto (n k : Nat) : (s.bumpVonu n k).crypto = s.crypto := rfl
@[simp] theorem State.bumpVonu_fault (n k : Nat) : (s.bumpVonu n k).fault = s.fault := rfl
@[simp] theorem State.bumpVonu_power (n k : Nat) : (s.bumpVonu n k).power = s.power := rfl
@[simp] theorem State.bumpVonu_fw (n k : Nat) : (s.bumpVonu n k).fw = s.fw := rfl
@[simp] theorem State.bumpVonu_leg (n k : Nat) : (s.bumpVonu n k).leg = s.leg := rfl
@[simp] theorem State.bumpVonu_freeCount (n k : Nat) : (s.bumpVonu n k).freeCount = s.freeCount := rfl
@[simp] theorem State.bumpVonu_out (n k : Nat) : (s.bumpVonu n k).out = s.out := rfl

/-! ### bumpUnmatched -/

@[simp] theorem State.bumpUnmatched_pending (c : Chan) : (s.bumpUnmatched c).pending = s.pending := rfl
@[simp] theorem State.bumpUnmatched_phase (c : Chan) : (s.bumpUnmatched c).phase = s.phase := rfl
@[simp] theorem State.bumpUnmatched_legacy (c : Chan) : (s.bumpUnmatched c).legacy = s.legacy := rfl
@[simp] theorem State.bumpUnmatched_pins (c : Chan) : (s.bumpUnmatched c).pins = s.pins := rfl
@[simp] theorem State.bumpUnmatched_part (c : Chan) : (s.bumpUnmatched c).part = s.part := rfl
@[simp] theorem State.bumpUnmatched_fuses (c : Chan) : (s.bumpUnmatched c).fuses = s.fuses := rfl
@[simp] theorem State.bumpUnmatched_mram (c : Chan) : (s.bumpUnmatched c).mram = s.mram := rfl
@[simp] theorem State.bumpUnmatched_words (c : Chan) : (s.bumpUnmatched c).words = s.words := rfl
@[simp] theorem State.bumpUnmatched_stipple (c : Chan) : (s.bumpUnmatched c).stipple = s.stipple := rfl
@[simp] theorem State.bumpUnmatched_tick (c : Chan) : (s.bumpUnmatched c).tick = s.tick := rfl
@[simp] theorem State.bumpUnmatched_cmd (c : Chan) : (s.bumpUnmatched c).cmd = s.cmd := rfl
@[simp] theorem State.bumpUnmatched_ev (c : Chan) : (s.bumpUnmatched c).ev = s.ev := rfl
@[simp] theorem State.bumpUnmatched_chans (c : Chan) : (s.bumpUnmatched c).chans = s.chans := rfl
@[simp] theorem State.bumpUnmatched_vonu (c : Chan) : (s.bumpUnmatched c).vonu = s.vonu := rfl
@[simp] theorem State.bumpUnmatched_burin (c : Chan) : (s.bumpUnmatched c).burin = s.burin := rfl
@[simp] theorem State.bumpUnmatched_cls (c : Chan) : (s.bumpUnmatched c).cls = s.cls := rfl
@[simp] theorem State.bumpUnmatched_qs (c : Chan) : (s.bumpUnmatched c).qs = s.qs := rfl
@[simp] theorem State.bumpUnmatched_bpm (c : Chan) : (s.bumpUnmatched c).bpm = s.bpm := rfl
@[simp] theorem State.bumpUnmatched_alink (c : Chan) : (s.bumpUnmatched c).alink = s.alink := rfl
@[simp] theorem State.bumpUnmatched_eth (c : Chan) : (s.bumpUnmatched c).eth = s.eth := rfl
@[simp] theorem State.bumpUnmatched_time (c : Chan) : (s.bumpUnmatched c).time = s.time := rfl
@[simp] theorem State.bumpUnmatched_ces (c : Chan) : (s.bumpUnmatched c).ces = s.ces := rfl
@[simp] theorem State.bumpUnmatched_crypto (c : Chan) : (s.bumpUnmatched c).crypto = s.crypto := rfl
@[simp] theorem State.bumpUnmatched_fault (c : Chan) : (s.bumpUnmatched c).fault = s.fault := rfl
@[simp] theorem State.bumpUnmatched_power (c : Chan) : (s.bumpUnmatched c).power = s.power := rfl
@[simp] theorem State.bumpUnmatched_fw (c : Chan) : (s.bumpUnmatched c).fw = s.fw := rfl
@[simp] theorem State.bumpUnmatched_leg (c : Chan) : (s.bumpUnmatched c).leg = s.leg := rfl
@[simp] theorem State.bumpUnmatched_freeCount (c : Chan) : (s.bumpUnmatched c).freeCount = s.freeCount := rfl
@[simp] theorem State.bumpUnmatched_out (c : Chan) : (s.bumpUnmatched c).out = s.out := rfl

/-! ### setSlot -/

@[simp] theorem State.setSlot_pending (i : Nat) (x : Slot) : (s.setSlot i x).pending = s.pending := rfl
@[simp] theorem State.setSlot_phase (i : Nat) (x : Slot) : (s.setSlot i x).phase = s.phase := rfl
@[simp] theorem State.setSlot_legacy (i : Nat) (x : Slot) : (s.setSlot i x).legacy = s.legacy := rfl
@[simp] theorem State.setSlot_pins (i : Nat) (x : Slot) : (s.setSlot i x).pins = s.pins := rfl
@[simp] theorem State.setSlot_part (i : Nat) (x : Slot) : (s.setSlot i x).part = s.part := rfl
@[simp] theorem State.setSlot_fuses (i : Nat) (x : Slot) : (s.setSlot i x).fuses = s.fuses := rfl
@[simp] theorem State.setSlot_mram (i : Nat) (x : Slot) : (s.setSlot i x).mram = s.mram := rfl
@[simp] theorem State.setSlot_words (i : Nat) (x : Slot) : (s.setSlot i x).words = s.words := rfl
@[simp] theorem State.setSlot_counters (i : Nat) (x : Slot) : (s.setSlot i x).counters = s.counters := rfl
@[simp] theorem State.setSlot_stipple (i : Nat) (x : Slot) : (s.setSlot i x).stipple = s.stipple := rfl
@[simp] theorem State.setSlot_tick (i : Nat) (x : Slot) : (s.setSlot i x).tick = s.tick := rfl
@[simp] theorem State.setSlot_cmd (i : Nat) (x : Slot) : (s.setSlot i x).cmd = s.cmd := rfl
@[simp] theorem State.setSlot_ev (i : Nat) (x : Slot) : (s.setSlot i x).ev = s.ev := rfl
@[simp] theorem State.setSlot_chans (i : Nat) (x : Slot) : (s.setSlot i x).chans = s.chans := rfl
@[simp] theorem State.setSlot_vonu (i : Nat) (x : Slot) : (s.setSlot i x).vonu = s.vonu := rfl
@[simp] theorem State.setSlot_burin (i : Nat) (x : Slot) : (s.setSlot i x).burin = s.burin := rfl
@[simp] theorem State.setSlot_cls (i : Nat) (x : Slot) : (s.setSlot i x).cls = s.cls := rfl
@[simp] theorem State.setSlot_qs (i : Nat) (x : Slot) : (s.setSlot i x).qs = s.qs := rfl
@[simp] theorem State.setSlot_bpm (i : Nat) (x : Slot) : (s.setSlot i x).bpm = s.bpm := rfl
@[simp] theorem State.setSlot_alink (i : Nat) (x : Slot) : (s.setSlot i x).alink = s.alink := rfl
@[simp] theorem State.setSlot_eth (i : Nat) (x : Slot) : (s.setSlot i x).eth = s.eth := rfl
@[simp] theorem State.setSlot_time (i : Nat) (x : Slot) : (s.setSlot i x).time = s.time := rfl
@[simp] theorem State.setSlot_ces (i : Nat) (x : Slot) : (s.setSlot i x).ces = s.ces := rfl
@[simp] theorem State.setSlot_fault (i : Nat) (x : Slot) : (s.setSlot i x).fault = s.fault := rfl
@[simp] theorem State.setSlot_power (i : Nat) (x : Slot) : (s.setSlot i x).power = s.power := rfl
@[simp] theorem State.setSlot_fw (i : Nat) (x : Slot) : (s.setSlot i x).fw = s.fw := rfl
@[simp] theorem State.setSlot_leg (i : Nat) (x : Slot) : (s.setSlot i x).leg = s.leg := rfl
@[simp] theorem State.setSlot_freeCount (i : Nat) (x : Slot) : (s.setSlot i x).freeCount = s.freeCount := rfl
@[simp] theorem State.setSlot_out (i : Nat) (x : Slot) : (s.setSlot i x).out = s.out := rfl

/-! ### setHatch -/

@[simp] theorem State.setHatch_pending (l : Nat) (x : Hatch) : (s.setHatch l x).pending = s.pending := rfl
@[simp] theorem State.setHatch_phase (l : Nat) (x : Hatch) : (s.setHatch l x).phase = s.phase := rfl
@[simp] theorem State.setHatch_legacy (l : Nat) (x : Hatch) : (s.setHatch l x).legacy = s.legacy := rfl
@[simp] theorem State.setHatch_pins (l : Nat) (x : Hatch) : (s.setHatch l x).pins = s.pins := rfl
@[simp] theorem State.setHatch_part (l : Nat) (x : Hatch) : (s.setHatch l x).part = s.part := rfl
@[simp] theorem State.setHatch_fuses (l : Nat) (x : Hatch) : (s.setHatch l x).fuses = s.fuses := rfl
@[simp] theorem State.setHatch_mram (l : Nat) (x : Hatch) : (s.setHatch l x).mram = s.mram := rfl
@[simp] theorem State.setHatch_words (l : Nat) (x : Hatch) : (s.setHatch l x).words = s.words := rfl
@[simp] theorem State.setHatch_counters (l : Nat) (x : Hatch) : (s.setHatch l x).counters = s.counters := rfl
@[simp] theorem State.setHatch_stipple (l : Nat) (x : Hatch) : (s.setHatch l x).stipple = s.stipple := rfl
@[simp] theorem State.setHatch_tick (l : Nat) (x : Hatch) : (s.setHatch l x).tick = s.tick := rfl
@[simp] theorem State.setHatch_cmd (l : Nat) (x : Hatch) : (s.setHatch l x).cmd = s.cmd := rfl
@[simp] theorem State.setHatch_ev (l : Nat) (x : Hatch) : (s.setHatch l x).ev = s.ev := rfl
@[simp] theorem State.setHatch_chans (l : Nat) (x : Hatch) : (s.setHatch l x).chans = s.chans := rfl
@[simp] theorem State.setHatch_vonu (l : Nat) (x : Hatch) : (s.setHatch l x).vonu = s.vonu := rfl
@[simp] theorem State.setHatch_burin (l : Nat) (x : Hatch) : (s.setHatch l x).burin = s.burin := rfl
@[simp] theorem State.setHatch_cls (l : Nat) (x : Hatch) : (s.setHatch l x).cls = s.cls := rfl
@[simp] theorem State.setHatch_bpm (l : Nat) (x : Hatch) : (s.setHatch l x).bpm = s.bpm := rfl
@[simp] theorem State.setHatch_alink (l : Nat) (x : Hatch) : (s.setHatch l x).alink = s.alink := rfl
@[simp] theorem State.setHatch_eth (l : Nat) (x : Hatch) : (s.setHatch l x).eth = s.eth := rfl
@[simp] theorem State.setHatch_time (l : Nat) (x : Hatch) : (s.setHatch l x).time = s.time := rfl
@[simp] theorem State.setHatch_ces (l : Nat) (x : Hatch) : (s.setHatch l x).ces = s.ces := rfl
@[simp] theorem State.setHatch_crypto (l : Nat) (x : Hatch) : (s.setHatch l x).crypto = s.crypto := rfl
@[simp] theorem State.setHatch_fault (l : Nat) (x : Hatch) : (s.setHatch l x).fault = s.fault := rfl
@[simp] theorem State.setHatch_power (l : Nat) (x : Hatch) : (s.setHatch l x).power = s.power := rfl
@[simp] theorem State.setHatch_fw (l : Nat) (x : Hatch) : (s.setHatch l x).fw = s.fw := rfl
@[simp] theorem State.setHatch_leg (l : Nat) (x : Hatch) : (s.setHatch l x).leg = s.leg := rfl
@[simp] theorem State.setHatch_freeCount (l : Nat) (x : Hatch) : (s.setHatch l x).freeCount = s.freeCount := rfl
@[simp] theorem State.setHatch_out (l : Nat) (x : Hatch) : (s.setHatch l x).out = s.out := rfl

/-! ### setQueue -/

@[simp] theorem State.setQueue_pending (q : Nat) (x : Queue) : (s.setQueue q x).pending = s.pending := rfl
@[simp] theorem State.setQueue_phase (q : Nat) (x : Queue) : (s.setQueue q x).phase = s.phase := rfl
@[simp] theorem State.setQueue_legacy (q : Nat) (x : Queue) : (s.setQueue q x).legacy = s.legacy := rfl
@[simp] theorem State.setQueue_pins (q : Nat) (x : Queue) : (s.setQueue q x).pins = s.pins := rfl
@[simp] theorem State.setQueue_part (q : Nat) (x : Queue) : (s.setQueue q x).part = s.part := rfl
@[simp] theorem State.setQueue_fuses (q : Nat) (x : Queue) : (s.setQueue q x).fuses = s.fuses := rfl
@[simp] theorem State.setQueue_mram (q : Nat) (x : Queue) : (s.setQueue q x).mram = s.mram := rfl
@[simp] theorem State.setQueue_words (q : Nat) (x : Queue) : (s.setQueue q x).words = s.words := rfl
@[simp] theorem State.setQueue_counters (q : Nat) (x : Queue) : (s.setQueue q x).counters = s.counters := rfl
@[simp] theorem State.setQueue_stipple (q : Nat) (x : Queue) : (s.setQueue q x).stipple = s.stipple := rfl
@[simp] theorem State.setQueue_tick (q : Nat) (x : Queue) : (s.setQueue q x).tick = s.tick := rfl
@[simp] theorem State.setQueue_cmd (q : Nat) (x : Queue) : (s.setQueue q x).cmd = s.cmd := rfl
@[simp] theorem State.setQueue_ev (q : Nat) (x : Queue) : (s.setQueue q x).ev = s.ev := rfl
@[simp] theorem State.setQueue_chans (q : Nat) (x : Queue) : (s.setQueue q x).chans = s.chans := rfl
@[simp] theorem State.setQueue_vonu (q : Nat) (x : Queue) : (s.setQueue q x).vonu = s.vonu := rfl
@[simp] theorem State.setQueue_burin (q : Nat) (x : Queue) : (s.setQueue q x).burin = s.burin := rfl
@[simp] theorem State.setQueue_cls (q : Nat) (x : Queue) : (s.setQueue q x).cls = s.cls := rfl
@[simp] theorem State.setQueue_bpm (q : Nat) (x : Queue) : (s.setQueue q x).bpm = s.bpm := rfl
@[simp] theorem State.setQueue_alink (q : Nat) (x : Queue) : (s.setQueue q x).alink = s.alink := rfl
@[simp] theorem State.setQueue_eth (q : Nat) (x : Queue) : (s.setQueue q x).eth = s.eth := rfl
@[simp] theorem State.setQueue_time (q : Nat) (x : Queue) : (s.setQueue q x).time = s.time := rfl
@[simp] theorem State.setQueue_ces (q : Nat) (x : Queue) : (s.setQueue q x).ces = s.ces := rfl
@[simp] theorem State.setQueue_crypto (q : Nat) (x : Queue) : (s.setQueue q x).crypto = s.crypto := rfl
@[simp] theorem State.setQueue_fault (q : Nat) (x : Queue) : (s.setQueue q x).fault = s.fault := rfl
@[simp] theorem State.setQueue_power (q : Nat) (x : Queue) : (s.setQueue q x).power = s.power := rfl
@[simp] theorem State.setQueue_fw (q : Nat) (x : Queue) : (s.setQueue q x).fw = s.fw := rfl
@[simp] theorem State.setQueue_leg (q : Nat) (x : Queue) : (s.setQueue q x).leg = s.leg := rfl
@[simp] theorem State.setQueue_freeCount (q : Nat) (x : Queue) : (s.setQueue q x).freeCount = s.freeCount := rfl
@[simp] theorem State.setQueue_out (q : Nat) (x : Queue) : (s.setQueue q x).out = s.out := rfl

/-! ### setNode -/

@[simp] theorem State.setNode_pending (n : Nat) (x : Option Node) : (s.setNode n x).pending = s.pending := rfl
@[simp] theorem State.setNode_phase (n : Nat) (x : Option Node) : (s.setNode n x).phase = s.phase := rfl
@[simp] theorem State.setNode_legacy (n : Nat) (x : Option Node) : (s.setNode n x).legacy = s.legacy := rfl
@[simp] theorem State.setNode_pins (n : Nat) (x : Option Node) : (s.setNode n x).pins = s.pins := rfl
@[simp] theorem State.setNode_part (n : Nat) (x : Option Node) : (s.setNode n x).part = s.part := rfl
@[simp] theorem State.setNode_fuses (n : Nat) (x : Option Node) : (s.setNode n x).fuses = s.fuses := rfl
@[simp] theorem State.setNode_mram (n : Nat) (x : Option Node) : (s.setNode n x).mram = s.mram := rfl
@[simp] theorem State.setNode_words (n : Nat) (x : Option Node) : (s.setNode n x).words = s.words := rfl
@[simp] theorem State.setNode_counters (n : Nat) (x : Option Node) : (s.setNode n x).counters = s.counters := rfl
@[simp] theorem State.setNode_stipple (n : Nat) (x : Option Node) : (s.setNode n x).stipple = s.stipple := rfl
@[simp] theorem State.setNode_tick (n : Nat) (x : Option Node) : (s.setNode n x).tick = s.tick := rfl
@[simp] theorem State.setNode_cmd (n : Nat) (x : Option Node) : (s.setNode n x).cmd = s.cmd := rfl
@[simp] theorem State.setNode_ev (n : Nat) (x : Option Node) : (s.setNode n x).ev = s.ev := rfl
@[simp] theorem State.setNode_chans (n : Nat) (x : Option Node) : (s.setNode n x).chans = s.chans := rfl
@[simp] theorem State.setNode_vonu (n : Nat) (x : Option Node) : (s.setNode n x).vonu = s.vonu := rfl
@[simp] theorem State.setNode_burin (n : Nat) (x : Option Node) : (s.setNode n x).burin = s.burin := rfl
@[simp] theorem State.setNode_cls (n : Nat) (x : Option Node) : (s.setNode n x).cls = s.cls := rfl
@[simp] theorem State.setNode_bpm (n : Nat) (x : Option Node) : (s.setNode n x).bpm = s.bpm := rfl
@[simp] theorem State.setNode_alink (n : Nat) (x : Option Node) : (s.setNode n x).alink = s.alink := rfl
@[simp] theorem State.setNode_eth (n : Nat) (x : Option Node) : (s.setNode n x).eth = s.eth := rfl
@[simp] theorem State.setNode_time (n : Nat) (x : Option Node) : (s.setNode n x).time = s.time := rfl
@[simp] theorem State.setNode_ces (n : Nat) (x : Option Node) : (s.setNode n x).ces = s.ces := rfl
@[simp] theorem State.setNode_crypto (n : Nat) (x : Option Node) : (s.setNode n x).crypto = s.crypto := rfl
@[simp] theorem State.setNode_fault (n : Nat) (x : Option Node) : (s.setNode n x).fault = s.fault := rfl
@[simp] theorem State.setNode_power (n : Nat) (x : Option Node) : (s.setNode n x).power = s.power := rfl
@[simp] theorem State.setNode_fw (n : Nat) (x : Option Node) : (s.setNode n x).fw = s.fw := rfl
@[simp] theorem State.setNode_leg (n : Nat) (x : Option Node) : (s.setNode n x).leg = s.leg := rfl
@[simp] theorem State.setNode_freeCount (n : Nat) (x : Option Node) : (s.setNode n x).freeCount = s.freeCount := rfl
@[simp] theorem State.setNode_out (n : Nat) (x : Option Node) : (s.setNode n x).out = s.out := rfl

/-! ### setMeter -/

@[simp] theorem State.setMeter_pending (m : Nat) (x : Option Meter) : (s.setMeter m x).pending = s.pending := rfl
@[simp] theorem State.setMeter_phase (m : Nat) (x : Option Meter) : (s.setMeter m x).phase = s.phase := rfl
@[simp] theorem State.setMeter_legacy (m : Nat) (x : Option Meter) : (s.setMeter m x).legacy = s.legacy := rfl
@[simp] theorem State.setMeter_pins (m : Nat) (x : Option Meter) : (s.setMeter m x).pins = s.pins := rfl
@[simp] theorem State.setMeter_part (m : Nat) (x : Option Meter) : (s.setMeter m x).part = s.part := rfl
@[simp] theorem State.setMeter_fuses (m : Nat) (x : Option Meter) : (s.setMeter m x).fuses = s.fuses := rfl
@[simp] theorem State.setMeter_mram (m : Nat) (x : Option Meter) : (s.setMeter m x).mram = s.mram := rfl
@[simp] theorem State.setMeter_words (m : Nat) (x : Option Meter) : (s.setMeter m x).words = s.words := rfl
@[simp] theorem State.setMeter_counters (m : Nat) (x : Option Meter) : (s.setMeter m x).counters = s.counters := rfl
@[simp] theorem State.setMeter_stipple (m : Nat) (x : Option Meter) : (s.setMeter m x).stipple = s.stipple := rfl
@[simp] theorem State.setMeter_tick (m : Nat) (x : Option Meter) : (s.setMeter m x).tick = s.tick := rfl
@[simp] theorem State.setMeter_cmd (m : Nat) (x : Option Meter) : (s.setMeter m x).cmd = s.cmd := rfl
@[simp] theorem State.setMeter_ev (m : Nat) (x : Option Meter) : (s.setMeter m x).ev = s.ev := rfl
@[simp] theorem State.setMeter_chans (m : Nat) (x : Option Meter) : (s.setMeter m x).chans = s.chans := rfl
@[simp] theorem State.setMeter_vonu (m : Nat) (x : Option Meter) : (s.setMeter m x).vonu = s.vonu := rfl
@[simp] theorem State.setMeter_burin (m : Nat) (x : Option Meter) : (s.setMeter m x).burin = s.burin := rfl
@[simp] theorem State.setMeter_cls (m : Nat) (x : Option Meter) : (s.setMeter m x).cls = s.cls := rfl
@[simp] theorem State.setMeter_bpm (m : Nat) (x : Option Meter) : (s.setMeter m x).bpm = s.bpm := rfl
@[simp] theorem State.setMeter_alink (m : Nat) (x : Option Meter) : (s.setMeter m x).alink = s.alink := rfl
@[simp] theorem State.setMeter_eth (m : Nat) (x : Option Meter) : (s.setMeter m x).eth = s.eth := rfl
@[simp] theorem State.setMeter_time (m : Nat) (x : Option Meter) : (s.setMeter m x).time = s.time := rfl
@[simp] theorem State.setMeter_ces (m : Nat) (x : Option Meter) : (s.setMeter m x).ces = s.ces := rfl
@[simp] theorem State.setMeter_crypto (m : Nat) (x : Option Meter) : (s.setMeter m x).crypto = s.crypto := rfl
@[simp] theorem State.setMeter_fault (m : Nat) (x : Option Meter) : (s.setMeter m x).fault = s.fault := rfl
@[simp] theorem State.setMeter_power (m : Nat) (x : Option Meter) : (s.setMeter m x).power = s.power := rfl
@[simp] theorem State.setMeter_fw (m : Nat) (x : Option Meter) : (s.setMeter m x).fw = s.fw := rfl
@[simp] theorem State.setMeter_leg (m : Nat) (x : Option Meter) : (s.setMeter m x).leg = s.leg := rfl
@[simp] theorem State.setMeter_freeCount (m : Nat) (x : Option Meter) : (s.setMeter m x).freeCount = s.freeCount := rfl
@[simp] theorem State.setMeter_out (m : Nat) (x : Option Meter) : (s.setMeter m x).out = s.out := rfl

/-! ### setCbs -/

@[simp] theorem State.setCbs_pending (e p : Nat) (x : Option Cbs) : (s.setCbs e p x).pending = s.pending := rfl
@[simp] theorem State.setCbs_phase (e p : Nat) (x : Option Cbs) : (s.setCbs e p x).phase = s.phase := rfl
@[simp] theorem State.setCbs_legacy (e p : Nat) (x : Option Cbs) : (s.setCbs e p x).legacy = s.legacy := rfl
@[simp] theorem State.setCbs_pins (e p : Nat) (x : Option Cbs) : (s.setCbs e p x).pins = s.pins := rfl
@[simp] theorem State.setCbs_part (e p : Nat) (x : Option Cbs) : (s.setCbs e p x).part = s.part := rfl
@[simp] theorem State.setCbs_fuses (e p : Nat) (x : Option Cbs) : (s.setCbs e p x).fuses = s.fuses := rfl
@[simp] theorem State.setCbs_mram (e p : Nat) (x : Option Cbs) : (s.setCbs e p x).mram = s.mram := rfl
@[simp] theorem State.setCbs_words (e p : Nat) (x : Option Cbs) : (s.setCbs e p x).words = s.words := rfl
@[simp] theorem State.setCbs_counters (e p : Nat) (x : Option Cbs) : (s.setCbs e p x).counters = s.counters := rfl
@[simp] theorem State.setCbs_stipple (e p : Nat) (x : Option Cbs) : (s.setCbs e p x).stipple = s.stipple := rfl
@[simp] theorem State.setCbs_tick (e p : Nat) (x : Option Cbs) : (s.setCbs e p x).tick = s.tick := rfl
@[simp] theorem State.setCbs_cmd (e p : Nat) (x : Option Cbs) : (s.setCbs e p x).cmd = s.cmd := rfl
@[simp] theorem State.setCbs_ev (e p : Nat) (x : Option Cbs) : (s.setCbs e p x).ev = s.ev := rfl
@[simp] theorem State.setCbs_chans (e p : Nat) (x : Option Cbs) : (s.setCbs e p x).chans = s.chans := rfl
@[simp] theorem State.setCbs_vonu (e p : Nat) (x : Option Cbs) : (s.setCbs e p x).vonu = s.vonu := rfl
@[simp] theorem State.setCbs_burin (e p : Nat) (x : Option Cbs) : (s.setCbs e p x).burin = s.burin := rfl
@[simp] theorem State.setCbs_cls (e p : Nat) (x : Option Cbs) : (s.setCbs e p x).cls = s.cls := rfl
@[simp] theorem State.setCbs_bpm (e p : Nat) (x : Option Cbs) : (s.setCbs e p x).bpm = s.bpm := rfl
@[simp] theorem State.setCbs_alink (e p : Nat) (x : Option Cbs) : (s.setCbs e p x).alink = s.alink := rfl
@[simp] theorem State.setCbs_eth (e p : Nat) (x : Option Cbs) : (s.setCbs e p x).eth = s.eth := rfl
@[simp] theorem State.setCbs_time (e p : Nat) (x : Option Cbs) : (s.setCbs e p x).time = s.time := rfl
@[simp] theorem State.setCbs_ces (e p : Nat) (x : Option Cbs) : (s.setCbs e p x).ces = s.ces := rfl
@[simp] theorem State.setCbs_crypto (e p : Nat) (x : Option Cbs) : (s.setCbs e p x).crypto = s.crypto := rfl
@[simp] theorem State.setCbs_fault (e p : Nat) (x : Option Cbs) : (s.setCbs e p x).fault = s.fault := rfl
@[simp] theorem State.setCbs_power (e p : Nat) (x : Option Cbs) : (s.setCbs e p x).power = s.power := rfl
@[simp] theorem State.setCbs_fw (e p : Nat) (x : Option Cbs) : (s.setCbs e p x).fw = s.fw := rfl
@[simp] theorem State.setCbs_leg (e p : Nat) (x : Option Cbs) : (s.setCbs e p x).leg = s.leg := rfl
@[simp] theorem State.setCbs_freeCount (e p : Nat) (x : Option Cbs) : (s.setCbs e p x).freeCount = s.freeCount := rfl
@[simp] theorem State.setCbs_out (e p : Nat) (x : Option Cbs) : (s.setCbs e p x).out = s.out := rfl

/-! ### setPool -/

@[simp] theorem State.setPool_pending (p : Nat) (x : Pool) : (s.setPool p x).pending = s.pending := rfl
@[simp] theorem State.setPool_phase (p : Nat) (x : Pool) : (s.setPool p x).phase = s.phase := rfl
@[simp] theorem State.setPool_legacy (p : Nat) (x : Pool) : (s.setPool p x).legacy = s.legacy := rfl
@[simp] theorem State.setPool_pins (p : Nat) (x : Pool) : (s.setPool p x).pins = s.pins := rfl
@[simp] theorem State.setPool_part (p : Nat) (x : Pool) : (s.setPool p x).part = s.part := rfl
@[simp] theorem State.setPool_fuses (p : Nat) (x : Pool) : (s.setPool p x).fuses = s.fuses := rfl
@[simp] theorem State.setPool_mram (p : Nat) (x : Pool) : (s.setPool p x).mram = s.mram := rfl
@[simp] theorem State.setPool_words (p : Nat) (x : Pool) : (s.setPool p x).words = s.words := rfl
@[simp] theorem State.setPool_counters (p : Nat) (x : Pool) : (s.setPool p x).counters = s.counters := rfl
@[simp] theorem State.setPool_stipple (p : Nat) (x : Pool) : (s.setPool p x).stipple = s.stipple := rfl
@[simp] theorem State.setPool_tick (p : Nat) (x : Pool) : (s.setPool p x).tick = s.tick := rfl
@[simp] theorem State.setPool_cmd (p : Nat) (x : Pool) : (s.setPool p x).cmd = s.cmd := rfl
@[simp] theorem State.setPool_ev (p : Nat) (x : Pool) : (s.setPool p x).ev = s.ev := rfl
@[simp] theorem State.setPool_chans (p : Nat) (x : Pool) : (s.setPool p x).chans = s.chans := rfl
@[simp] theorem State.setPool_vonu (p : Nat) (x : Pool) : (s.setPool p x).vonu = s.vonu := rfl
@[simp] theorem State.setPool_burin (p : Nat) (x : Pool) : (s.setPool p x).burin = s.burin := rfl
@[simp] theorem State.setPool_cls (p : Nat) (x : Pool) : (s.setPool p x).cls = s.cls := rfl
@[simp] theorem State.setPool_qs (p : Nat) (x : Pool) : (s.setPool p x).qs = s.qs := rfl
@[simp] theorem State.setPool_alink (p : Nat) (x : Pool) : (s.setPool p x).alink = s.alink := rfl
@[simp] theorem State.setPool_eth (p : Nat) (x : Pool) : (s.setPool p x).eth = s.eth := rfl
@[simp] theorem State.setPool_time (p : Nat) (x : Pool) : (s.setPool p x).time = s.time := rfl
@[simp] theorem State.setPool_ces (p : Nat) (x : Pool) : (s.setPool p x).ces = s.ces := rfl
@[simp] theorem State.setPool_crypto (p : Nat) (x : Pool) : (s.setPool p x).crypto = s.crypto := rfl
@[simp] theorem State.setPool_fault (p : Nat) (x : Pool) : (s.setPool p x).fault = s.fault := rfl
@[simp] theorem State.setPool_power (p : Nat) (x : Pool) : (s.setPool p x).power = s.power := rfl
@[simp] theorem State.setPool_fw (p : Nat) (x : Pool) : (s.setPool p x).fw = s.fw := rfl
@[simp] theorem State.setPool_leg (p : Nat) (x : Pool) : (s.setPool p x).leg = s.leg := rfl
@[simp] theorem State.setPool_freeCount (p : Nat) (x : Pool) : (s.setPool p x).freeCount = s.freeCount := rfl
@[simp] theorem State.setPool_out (p : Nat) (x : Pool) : (s.setPool p x).out = s.out := rfl

/-! ### setCell -/

@[simp] theorem State.setCell_pending (p k : Nat) (c : Cell) : (s.setCell p k c).pending = s.pending := rfl
@[simp] theorem State.setCell_phase (p k : Nat) (c : Cell) : (s.setCell p k c).phase = s.phase := rfl
@[simp] theorem State.setCell_legacy (p k : Nat) (c : Cell) : (s.setCell p k c).legacy = s.legacy := rfl
@[simp] theorem State.setCell_pins (p k : Nat) (c : Cell) : (s.setCell p k c).pins = s.pins := rfl
@[simp] theorem State.setCell_part (p k : Nat) (c : Cell) : (s.setCell p k c).part = s.part := rfl
@[simp] theorem State.setCell_fuses (p k : Nat) (c : Cell) : (s.setCell p k c).fuses = s.fuses := rfl
@[simp] theorem State.setCell_mram (p k : Nat) (c : Cell) : (s.setCell p k c).mram = s.mram := rfl
@[simp] theorem State.setCell_words (p k : Nat) (c : Cell) : (s.setCell p k c).words = s.words := rfl
@[simp] theorem State.setCell_counters (p k : Nat) (c : Cell) : (s.setCell p k c).counters = s.counters := rfl
@[simp] theorem State.setCell_stipple (p k : Nat) (c : Cell) : (s.setCell p k c).stipple = s.stipple := rfl
@[simp] theorem State.setCell_tick (p k : Nat) (c : Cell) : (s.setCell p k c).tick = s.tick := rfl
@[simp] theorem State.setCell_cmd (p k : Nat) (c : Cell) : (s.setCell p k c).cmd = s.cmd := rfl
@[simp] theorem State.setCell_ev (p k : Nat) (c : Cell) : (s.setCell p k c).ev = s.ev := rfl
@[simp] theorem State.setCell_chans (p k : Nat) (c : Cell) : (s.setCell p k c).chans = s.chans := rfl
@[simp] theorem State.setCell_vonu (p k : Nat) (c : Cell) : (s.setCell p k c).vonu = s.vonu := rfl
@[simp] theorem State.setCell_burin (p k : Nat) (c : Cell) : (s.setCell p k c).burin = s.burin := rfl
@[simp] theorem State.setCell_cls (p k : Nat) (c : Cell) : (s.setCell p k c).cls = s.cls := rfl
@[simp] theorem State.setCell_qs (p k : Nat) (c : Cell) : (s.setCell p k c).qs = s.qs := rfl
@[simp] theorem State.setCell_alink (p k : Nat) (c : Cell) : (s.setCell p k c).alink = s.alink := rfl
@[simp] theorem State.setCell_eth (p k : Nat) (c : Cell) : (s.setCell p k c).eth = s.eth := rfl
@[simp] theorem State.setCell_time (p k : Nat) (c : Cell) : (s.setCell p k c).time = s.time := rfl
@[simp] theorem State.setCell_ces (p k : Nat) (c : Cell) : (s.setCell p k c).ces = s.ces := rfl
@[simp] theorem State.setCell_crypto (p k : Nat) (c : Cell) : (s.setCell p k c).crypto = s.crypto := rfl
@[simp] theorem State.setCell_fault (p k : Nat) (c : Cell) : (s.setCell p k c).fault = s.fault := rfl
@[simp] theorem State.setCell_power (p k : Nat) (c : Cell) : (s.setCell p k c).power = s.power := rfl
@[simp] theorem State.setCell_fw (p k : Nat) (c : Cell) : (s.setCell p k c).fw = s.fw := rfl
@[simp] theorem State.setCell_leg (p k : Nat) (c : Cell) : (s.setCell p k c).leg = s.leg := rfl
@[simp] theorem State.setCell_freeCount (p k : Nat) (c : Cell) : (s.setCell p k c).freeCount = s.freeCount := rfl
@[simp] theorem State.setCell_out (p k : Nat) (c : Cell) : (s.setCell p k c).out = s.out := rfl

/-! ### modLink -/

@[simp] theorem State.modLink_pending (f : AlinkSt → AlinkSt) : (s.modLink f).pending = s.pending := rfl
@[simp] theorem State.modLink_phase (f : AlinkSt → AlinkSt) : (s.modLink f).phase = s.phase := rfl
@[simp] theorem State.modLink_legacy (f : AlinkSt → AlinkSt) : (s.modLink f).legacy = s.legacy := rfl
@[simp] theorem State.modLink_pins (f : AlinkSt → AlinkSt) : (s.modLink f).pins = s.pins := rfl
@[simp] theorem State.modLink_part (f : AlinkSt → AlinkSt) : (s.modLink f).part = s.part := rfl
@[simp] theorem State.modLink_fuses (f : AlinkSt → AlinkSt) : (s.modLink f).fuses = s.fuses := rfl
@[simp] theorem State.modLink_mram (f : AlinkSt → AlinkSt) : (s.modLink f).mram = s.mram := rfl
@[simp] theorem State.modLink_words (f : AlinkSt → AlinkSt) : (s.modLink f).words = s.words := rfl
@[simp] theorem State.modLink_counters (f : AlinkSt → AlinkSt) : (s.modLink f).counters = s.counters := rfl
@[simp] theorem State.modLink_stipple (f : AlinkSt → AlinkSt) : (s.modLink f).stipple = s.stipple := rfl
@[simp] theorem State.modLink_tick (f : AlinkSt → AlinkSt) : (s.modLink f).tick = s.tick := rfl
@[simp] theorem State.modLink_cmd (f : AlinkSt → AlinkSt) : (s.modLink f).cmd = s.cmd := rfl
@[simp] theorem State.modLink_ev (f : AlinkSt → AlinkSt) : (s.modLink f).ev = s.ev := rfl
@[simp] theorem State.modLink_chans (f : AlinkSt → AlinkSt) : (s.modLink f).chans = s.chans := rfl
@[simp] theorem State.modLink_vonu (f : AlinkSt → AlinkSt) : (s.modLink f).vonu = s.vonu := rfl
@[simp] theorem State.modLink_burin (f : AlinkSt → AlinkSt) : (s.modLink f).burin = s.burin := rfl
@[simp] theorem State.modLink_cls (f : AlinkSt → AlinkSt) : (s.modLink f).cls = s.cls := rfl
@[simp] theorem State.modLink_qs (f : AlinkSt → AlinkSt) : (s.modLink f).qs = s.qs := rfl
@[simp] theorem State.modLink_bpm (f : AlinkSt → AlinkSt) : (s.modLink f).bpm = s.bpm := rfl
@[simp] theorem State.modLink_eth (f : AlinkSt → AlinkSt) : (s.modLink f).eth = s.eth := rfl
@[simp] theorem State.modLink_time (f : AlinkSt → AlinkSt) : (s.modLink f).time = s.time := rfl
@[simp] theorem State.modLink_ces (f : AlinkSt → AlinkSt) : (s.modLink f).ces = s.ces := rfl
@[simp] theorem State.modLink_crypto (f : AlinkSt → AlinkSt) : (s.modLink f).crypto = s.crypto := rfl
@[simp] theorem State.modLink_fault (f : AlinkSt → AlinkSt) : (s.modLink f).fault = s.fault := rfl
@[simp] theorem State.modLink_power (f : AlinkSt → AlinkSt) : (s.modLink f).power = s.power := rfl
@[simp] theorem State.modLink_fw (f : AlinkSt → AlinkSt) : (s.modLink f).fw = s.fw := rfl
@[simp] theorem State.modLink_leg (f : AlinkSt → AlinkSt) : (s.modLink f).leg = s.leg := rfl
@[simp] theorem State.modLink_freeCount (f : AlinkSt → AlinkSt) : (s.modLink f).freeCount = s.freeCount := rfl
@[simp] theorem State.modLink_out (f : AlinkSt → AlinkSt) : (s.modLink f).out = s.out := rfl

/-! ### setLane -/

@[simp] theorem State.setLane_pending (n : Nat) (x : Lane) : (s.setLane n x).pending = s.pending := rfl
@[simp] theorem State.setLane_phase (n : Nat) (x : Lane) : (s.setLane n x).phase = s.phase := rfl
@[simp] theorem State.setLane_legacy (n : Nat) (x : Lane) : (s.setLane n x).legacy = s.legacy := rfl
@[simp] theorem State.setLane_pins (n : Nat) (x : Lane) : (s.setLane n x).pins = s.pins := rfl
@[simp] theorem State.setLane_part (n : Nat) (x : Lane) : (s.setLane n x).part = s.part := rfl
@[simp] theorem State.setLane_fuses (n : Nat) (x : Lane) : (s.setLane n x).fuses = s.fuses := rfl
@[simp] theorem State.setLane_mram (n : Nat) (x : Lane) : (s.setLane n x).mram = s.mram := rfl
@[simp] theorem State.setLane_words (n : Nat) (x : Lane) : (s.setLane n x).words = s.words := rfl
@[simp] theorem State.setLane_counters (n : Nat) (x : Lane) : (s.setLane n x).counters = s.counters := rfl
@[simp] theorem State.setLane_stipple (n : Nat) (x : Lane) : (s.setLane n x).stipple = s.stipple := rfl
@[simp] theorem State.setLane_tick (n : Nat) (x : Lane) : (s.setLane n x).tick = s.tick := rfl
@[simp] theorem State.setLane_cmd (n : Nat) (x : Lane) : (s.setLane n x).cmd = s.cmd := rfl
@[simp] theorem State.setLane_ev (n : Nat) (x : Lane) : (s.setLane n x).ev = s.ev := rfl
@[simp] theorem State.setLane_chans (n : Nat) (x : Lane) : (s.setLane n x).chans = s.chans := rfl
@[simp] theorem State.setLane_vonu (n : Nat) (x : Lane) : (s.setLane n x).vonu = s.vonu := rfl
@[simp] theorem State.setLane_burin (n : Nat) (x : Lane) : (s.setLane n x).burin = s.burin := rfl
@[simp] theorem State.setLane_cls (n : Nat) (x : Lane) : (s.setLane n x).cls = s.cls := rfl
@[simp] theorem State.setLane_qs (n : Nat) (x : Lane) : (s.setLane n x).qs = s.qs := rfl
@[simp] theorem State.setLane_bpm (n : Nat) (x : Lane) : (s.setLane n x).bpm = s.bpm := rfl
@[simp] theorem State.setLane_eth (n : Nat) (x : Lane) : (s.setLane n x).eth = s.eth := rfl
@[simp] theorem State.setLane_time (n : Nat) (x : Lane) : (s.setLane n x).time = s.time := rfl
@[simp] theorem State.setLane_ces (n : Nat) (x : Lane) : (s.setLane n x).ces = s.ces := rfl
@[simp] theorem State.setLane_crypto (n : Nat) (x : Lane) : (s.setLane n x).crypto = s.crypto := rfl
@[simp] theorem State.setLane_fault (n : Nat) (x : Lane) : (s.setLane n x).fault = s.fault := rfl
@[simp] theorem State.setLane_power (n : Nat) (x : Lane) : (s.setLane n x).power = s.power := rfl
@[simp] theorem State.setLane_fw (n : Nat) (x : Lane) : (s.setLane n x).fw = s.fw := rfl
@[simp] theorem State.setLane_leg (n : Nat) (x : Lane) : (s.setLane n x).leg = s.leg := rfl
@[simp] theorem State.setLane_freeCount (n : Nat) (x : Lane) : (s.setLane n x).freeCount = s.freeCount := rfl
@[simp] theorem State.setLane_out (n : Nat) (x : Lane) : (s.setLane n x).out = s.out := rfl

/-! ### setPrbs -/

@[simp] theorem State.setPrbs_pending (n : Nat) (x : Prbs) : (s.setPrbs n x).pending = s.pending := rfl
@[simp] theorem State.setPrbs_phase (n : Nat) (x : Prbs) : (s.setPrbs n x).phase = s.phase := rfl
@[simp] theorem State.setPrbs_legacy (n : Nat) (x : Prbs) : (s.setPrbs n x).legacy = s.legacy := rfl
@[simp] theorem State.setPrbs_pins (n : Nat) (x : Prbs) : (s.setPrbs n x).pins = s.pins := rfl
@[simp] theorem State.setPrbs_part (n : Nat) (x : Prbs) : (s.setPrbs n x).part = s.part := rfl
@[simp] theorem State.setPrbs_fuses (n : Nat) (x : Prbs) : (s.setPrbs n x).fuses = s.fuses := rfl
@[simp] theorem State.setPrbs_mram (n : Nat) (x : Prbs) : (s.setPrbs n x).mram = s.mram := rfl
@[simp] theorem State.setPrbs_words (n : Nat) (x : Prbs) : (s.setPrbs n x).words = s.words := rfl
@[simp] theorem State.setPrbs_counters (n : Nat) (x : Prbs) : (s.setPrbs n x).counters = s.counters := rfl
@[simp] theorem State.setPrbs_stipple (n : Nat) (x : Prbs) : (s.setPrbs n x).stipple = s.stipple := rfl
@[simp] theorem State.setPrbs_tick (n : Nat) (x : Prbs) : (s.setPrbs n x).tick = s.tick := rfl
@[simp] theorem State.setPrbs_cmd (n : Nat) (x : Prbs) : (s.setPrbs n x).cmd = s.cmd := rfl
@[simp] theorem State.setPrbs_ev (n : Nat) (x : Prbs) : (s.setPrbs n x).ev = s.ev := rfl
@[simp] theorem State.setPrbs_chans (n : Nat) (x : Prbs) : (s.setPrbs n x).chans = s.chans := rfl
@[simp] theorem State.setPrbs_vonu (n : Nat) (x : Prbs) : (s.setPrbs n x).vonu = s.vonu := rfl
@[simp] theorem State.setPrbs_burin (n : Nat) (x : Prbs) : (s.setPrbs n x).burin = s.burin := rfl
@[simp] theorem State.setPrbs_cls (n : Nat) (x : Prbs) : (s.setPrbs n x).cls = s.cls := rfl
@[simp] theorem State.setPrbs_qs (n : Nat) (x : Prbs) : (s.setPrbs n x).qs = s.qs := rfl
@[simp] theorem State.setPrbs_bpm (n : Nat) (x : Prbs) : (s.setPrbs n x).bpm = s.bpm := rfl
@[simp] theorem State.setPrbs_eth (n : Nat) (x : Prbs) : (s.setPrbs n x).eth = s.eth := rfl
@[simp] theorem State.setPrbs_time (n : Nat) (x : Prbs) : (s.setPrbs n x).time = s.time := rfl
@[simp] theorem State.setPrbs_ces (n : Nat) (x : Prbs) : (s.setPrbs n x).ces = s.ces := rfl
@[simp] theorem State.setPrbs_crypto (n : Nat) (x : Prbs) : (s.setPrbs n x).crypto = s.crypto := rfl
@[simp] theorem State.setPrbs_fault (n : Nat) (x : Prbs) : (s.setPrbs n x).fault = s.fault := rfl
@[simp] theorem State.setPrbs_power (n : Nat) (x : Prbs) : (s.setPrbs n x).power = s.power := rfl
@[simp] theorem State.setPrbs_fw (n : Nat) (x : Prbs) : (s.setPrbs n x).fw = s.fw := rfl
@[simp] theorem State.setPrbs_leg (n : Nat) (x : Prbs) : (s.setPrbs n x).leg = s.leg := rfl
@[simp] theorem State.setPrbs_freeCount (n : Nat) (x : Prbs) : (s.setPrbs n x).freeCount = s.freeCount := rfl
@[simp] theorem State.setPrbs_out (n : Nat) (x : Prbs) : (s.setPrbs n x).out = s.out := rfl

/-! ### setCredit -/

@[simp] theorem State.setCredit_pending (c : Nat) (x : Credit) : (s.setCredit c x).pending = s.pending := rfl
@[simp] theorem State.setCredit_phase (c : Nat) (x : Credit) : (s.setCredit c x).phase = s.phase := rfl
@[simp] theorem State.setCredit_legacy (c : Nat) (x : Credit) : (s.setCredit c x).legacy = s.legacy := rfl
@[simp] theorem State.setCredit_pins (c : Nat) (x : Credit) : (s.setCredit c x).pins = s.pins := rfl
@[simp] theorem State.setCredit_part (c : Nat) (x : Credit) : (s.setCredit c x).part = s.part := rfl
@[simp] theorem State.setCredit_fuses (c : Nat) (x : Credit) : (s.setCredit c x).fuses = s.fuses := rfl
@[simp] theorem State.setCredit_mram (c : Nat) (x : Credit) : (s.setCredit c x).mram = s.mram := rfl
@[simp] theorem State.setCredit_words (c : Nat) (x : Credit) : (s.setCredit c x).words = s.words := rfl
@[simp] theorem State.setCredit_counters (c : Nat) (x : Credit) : (s.setCredit c x).counters = s.counters := rfl
@[simp] theorem State.setCredit_stipple (c : Nat) (x : Credit) : (s.setCredit c x).stipple = s.stipple := rfl
@[simp] theorem State.setCredit_tick (c : Nat) (x : Credit) : (s.setCredit c x).tick = s.tick := rfl
@[simp] theorem State.setCredit_cmd (c : Nat) (x : Credit) : (s.setCredit c x).cmd = s.cmd := rfl
@[simp] theorem State.setCredit_ev (c : Nat) (x : Credit) : (s.setCredit c x).ev = s.ev := rfl
@[simp] theorem State.setCredit_chans (c : Nat) (x : Credit) : (s.setCredit c x).chans = s.chans := rfl
@[simp] theorem State.setCredit_vonu (c : Nat) (x : Credit) : (s.setCredit c x).vonu = s.vonu := rfl
@[simp] theorem State.setCredit_burin (c : Nat) (x : Credit) : (s.setCredit c x).burin = s.burin := rfl
@[simp] theorem State.setCredit_cls (c : Nat) (x : Credit) : (s.setCredit c x).cls = s.cls := rfl
@[simp] theorem State.setCredit_qs (c : Nat) (x : Credit) : (s.setCredit c x).qs = s.qs := rfl
@[simp] theorem State.setCredit_bpm (c : Nat) (x : Credit) : (s.setCredit c x).bpm = s.bpm := rfl
@[simp] theorem State.setCredit_eth (c : Nat) (x : Credit) : (s.setCredit c x).eth = s.eth := rfl
@[simp] theorem State.setCredit_time (c : Nat) (x : Credit) : (s.setCredit c x).time = s.time := rfl
@[simp] theorem State.setCredit_ces (c : Nat) (x : Credit) : (s.setCredit c x).ces = s.ces := rfl
@[simp] theorem State.setCredit_crypto (c : Nat) (x : Credit) : (s.setCredit c x).crypto = s.crypto := rfl
@[simp] theorem State.setCredit_fault (c : Nat) (x : Credit) : (s.setCredit c x).fault = s.fault := rfl
@[simp] theorem State.setCredit_power (c : Nat) (x : Credit) : (s.setCredit c x).power = s.power := rfl
@[simp] theorem State.setCredit_fw (c : Nat) (x : Credit) : (s.setCredit c x).fw = s.fw := rfl
@[simp] theorem State.setCredit_leg (c : Nat) (x : Credit) : (s.setCredit c x).leg = s.leg := rfl
@[simp] theorem State.setCredit_freeCount (c : Nat) (x : Credit) : (s.setCredit c x).freeCount = s.freeCount := rfl
@[simp] theorem State.setCredit_out (c : Nat) (x : Credit) : (s.setCredit c x).out = s.out := rfl

/-! ### setEthPort -/

@[simp] theorem State.setEthPort_pending (e : Nat) (x : EthPort) : (s.setEthPort e x).pending = s.pending := rfl
@[simp] theorem State.setEthPort_phase (e : Nat) (x : EthPort) : (s.setEthPort e x).phase = s.phase := rfl
@[simp] theorem State.setEthPort_legacy (e : Nat) (x : EthPort) : (s.setEthPort e x).legacy = s.legacy := rfl
@[simp] theorem State.setEthPort_pins (e : Nat) (x : EthPort) : (s.setEthPort e x).pins = s.pins := rfl
@[simp] theorem State.setEthPort_part (e : Nat) (x : EthPort) : (s.setEthPort e x).part = s.part := rfl
@[simp] theorem State.setEthPort_fuses (e : Nat) (x : EthPort) : (s.setEthPort e x).fuses = s.fuses := rfl
@[simp] theorem State.setEthPort_mram (e : Nat) (x : EthPort) : (s.setEthPort e x).mram = s.mram := rfl
@[simp] theorem State.setEthPort_words (e : Nat) (x : EthPort) : (s.setEthPort e x).words = s.words := rfl
@[simp] theorem State.setEthPort_counters (e : Nat) (x : EthPort) : (s.setEthPort e x).counters = s.counters := rfl
@[simp] theorem State.setEthPort_stipple (e : Nat) (x : EthPort) : (s.setEthPort e x).stipple = s.stipple := rfl
@[simp] theorem State.setEthPort_tick (e : Nat) (x : EthPort) : (s.setEthPort e x).tick = s.tick := rfl
@[simp] theorem State.setEthPort_cmd (e : Nat) (x : EthPort) : (s.setEthPort e x).cmd = s.cmd := rfl
@[simp] theorem State.setEthPort_ev (e : Nat) (x : EthPort) : (s.setEthPort e x).ev = s.ev := rfl
@[simp] theorem State.setEthPort_chans (e : Nat) (x : EthPort) : (s.setEthPort e x).chans = s.chans := rfl
@[simp] theorem State.setEthPort_vonu (e : Nat) (x : EthPort) : (s.setEthPort e x).vonu = s.vonu := rfl
@[simp] theorem State.setEthPort_burin (e : Nat) (x : EthPort) : (s.setEthPort e x).burin = s.burin := rfl
@[simp] theorem State.setEthPort_cls (e : Nat) (x : EthPort) : (s.setEthPort e x).cls = s.cls := rfl
@[simp] theorem State.setEthPort_qs (e : Nat) (x : EthPort) : (s.setEthPort e x).qs = s.qs := rfl
@[simp] theorem State.setEthPort_bpm (e : Nat) (x : EthPort) : (s.setEthPort e x).bpm = s.bpm := rfl
@[simp] theorem State.setEthPort_alink (e : Nat) (x : EthPort) : (s.setEthPort e x).alink = s.alink := rfl
@[simp] theorem State.setEthPort_time (e : Nat) (x : EthPort) : (s.setEthPort e x).time = s.time := rfl
@[simp] theorem State.setEthPort_ces (e : Nat) (x : EthPort) : (s.setEthPort e x).ces = s.ces := rfl
@[simp] theorem State.setEthPort_crypto (e : Nat) (x : EthPort) : (s.setEthPort e x).crypto = s.crypto := rfl
@[simp] theorem State.setEthPort_fault (e : Nat) (x : EthPort) : (s.setEthPort e x).fault = s.fault := rfl
@[simp] theorem State.setEthPort_power (e : Nat) (x : EthPort) : (s.setEthPort e x).power = s.power := rfl
@[simp] theorem State.setEthPort_fw (e : Nat) (x : EthPort) : (s.setEthPort e x).fw = s.fw := rfl
@[simp] theorem State.setEthPort_leg (e : Nat) (x : EthPort) : (s.setEthPort e x).leg = s.leg := rfl
@[simp] theorem State.setEthPort_freeCount (e : Nat) (x : EthPort) : (s.setEthPort e x).freeCount = s.freeCount := rfl
@[simp] theorem State.setEthPort_out (e : Nat) (x : EthPort) : (s.setEthPort e x).out = s.out := rfl

/-! ### modEth -/

@[simp] theorem State.modEth_pending (e : Nat) (f : EthPort → EthPort) : (s.modEth e f).pending = s.pending := rfl
@[simp] theorem State.modEth_phase (e : Nat) (f : EthPort → EthPort) : (s.modEth e f).phase = s.phase := rfl
@[simp] theorem State.modEth_legacy (e : Nat) (f : EthPort → EthPort) : (s.modEth e f).legacy = s.legacy := rfl
@[simp] theorem State.modEth_pins (e : Nat) (f : EthPort → EthPort) : (s.modEth e f).pins = s.pins := rfl
@[simp] theorem State.modEth_part (e : Nat) (f : EthPort → EthPort) : (s.modEth e f).part = s.part := rfl
@[simp] theorem State.modEth_fuses (e : Nat) (f : EthPort → EthPort) : (s.modEth e f).fuses = s.fuses := rfl
@[simp] theorem State.modEth_mram (e : Nat) (f : EthPort → EthPort) : (s.modEth e f).mram = s.mram := rfl
@[simp] theorem State.modEth_words (e : Nat) (f : EthPort → EthPort) : (s.modEth e f).words = s.words := rfl
@[simp] theorem State.modEth_counters (e : Nat) (f : EthPort → EthPort) : (s.modEth e f).counters = s.counters := rfl
@[simp] theorem State.modEth_stipple (e : Nat) (f : EthPort → EthPort) : (s.modEth e f).stipple = s.stipple := rfl
@[simp] theorem State.modEth_tick (e : Nat) (f : EthPort → EthPort) : (s.modEth e f).tick = s.tick := rfl
@[simp] theorem State.modEth_cmd (e : Nat) (f : EthPort → EthPort) : (s.modEth e f).cmd = s.cmd := rfl
@[simp] theorem State.modEth_ev (e : Nat) (f : EthPort → EthPort) : (s.modEth e f).ev = s.ev := rfl
@[simp] theorem State.modEth_chans (e : Nat) (f : EthPort → EthPort) : (s.modEth e f).chans = s.chans := rfl
@[simp] theorem State.modEth_vonu (e : Nat) (f : EthPort → EthPort) : (s.modEth e f).vonu = s.vonu := rfl
@[simp] theorem State.modEth_burin (e : Nat) (f : EthPort → EthPort) : (s.modEth e f).burin = s.burin := rfl
@[simp] theorem State.modEth_cls (e : Nat) (f : EthPort → EthPort) : (s.modEth e f).cls = s.cls := rfl
@[simp] theorem State.modEth_qs (e : Nat) (f : EthPort → EthPort) : (s.modEth e f).qs = s.qs := rfl
@[simp] theorem State.modEth_bpm (e : Nat) (f : EthPort → EthPort) : (s.modEth e f).bpm = s.bpm := rfl
@[simp] theorem State.modEth_alink (e : Nat) (f : EthPort → EthPort) : (s.modEth e f).alink = s.alink := rfl
@[simp] theorem State.modEth_time (e : Nat) (f : EthPort → EthPort) : (s.modEth e f).time = s.time := rfl
@[simp] theorem State.modEth_ces (e : Nat) (f : EthPort → EthPort) : (s.modEth e f).ces = s.ces := rfl
@[simp] theorem State.modEth_crypto (e : Nat) (f : EthPort → EthPort) : (s.modEth e f).crypto = s.crypto := rfl
@[simp] theorem State.modEth_fault (e : Nat) (f : EthPort → EthPort) : (s.modEth e f).fault = s.fault := rfl
@[simp] theorem State.modEth_power (e : Nat) (f : EthPort → EthPort) : (s.modEth e f).power = s.power := rfl
@[simp] theorem State.modEth_fw (e : Nat) (f : EthPort → EthPort) : (s.modEth e f).fw = s.fw := rfl
@[simp] theorem State.modEth_leg (e : Nat) (f : EthPort → EthPort) : (s.modEth e f).leg = s.leg := rfl
@[simp] theorem State.modEth_freeCount (e : Nat) (f : EthPort → EthPort) : (s.modEth e f).freeCount = s.freeCount := rfl
@[simp] theorem State.modEth_out (e : Nat) (f : EthPort → EthPort) : (s.modEth e f).out = s.out := rfl

/-! ### bumpEth -/

@[simp] theorem State.bumpEth_pending (e k n : Nat) : (s.bumpEth e k n).pending = s.pending := rfl
@[simp] theorem State.bumpEth_phase (e k n : Nat) : (s.bumpEth e k n).phase = s.phase := rfl
@[simp] theorem State.bumpEth_legacy (e k n : Nat) : (s.bumpEth e k n).legacy = s.legacy := rfl
@[simp] theorem State.bumpEth_pins (e k n : Nat) : (s.bumpEth e k n).pins = s.pins := rfl
@[simp] theorem State.bumpEth_part (e k n : Nat) : (s.bumpEth e k n).part = s.part := rfl
@[simp] theorem State.bumpEth_fuses (e k n : Nat) : (s.bumpEth e k n).fuses = s.fuses := rfl
@[simp] theorem State.bumpEth_mram (e k n : Nat) : (s.bumpEth e k n).mram = s.mram := rfl
@[simp] theorem State.bumpEth_words (e k n : Nat) : (s.bumpEth e k n).words = s.words := rfl
@[simp] theorem State.bumpEth_stipple (e k n : Nat) : (s.bumpEth e k n).stipple = s.stipple := rfl
@[simp] theorem State.bumpEth_tick (e k n : Nat) : (s.bumpEth e k n).tick = s.tick := rfl
@[simp] theorem State.bumpEth_cmd (e k n : Nat) : (s.bumpEth e k n).cmd = s.cmd := rfl
@[simp] theorem State.bumpEth_ev (e k n : Nat) : (s.bumpEth e k n).ev = s.ev := rfl
@[simp] theorem State.bumpEth_chans (e k n : Nat) : (s.bumpEth e k n).chans = s.chans := rfl
@[simp] theorem State.bumpEth_vonu (e k n : Nat) : (s.bumpEth e k n).vonu = s.vonu := rfl
@[simp] theorem State.bumpEth_burin (e k n : Nat) : (s.bumpEth e k n).burin = s.burin := rfl
@[simp] theorem State.bumpEth_cls (e k n : Nat) : (s.bumpEth e k n).cls = s.cls := rfl
@[simp] theorem State.bumpEth_qs (e k n : Nat) : (s.bumpEth e k n).qs = s.qs := rfl
@[simp] theorem State.bumpEth_bpm (e k n : Nat) : (s.bumpEth e k n).bpm = s.bpm := rfl
@[simp] theorem State.bumpEth_alink (e k n : Nat) : (s.bumpEth e k n).alink = s.alink := rfl
@[simp] theorem State.bumpEth_eth (e k n : Nat) : (s.bumpEth e k n).eth = s.eth := rfl
@[simp] theorem State.bumpEth_time (e k n : Nat) : (s.bumpEth e k n).time = s.time := rfl
@[simp] theorem State.bumpEth_ces (e k n : Nat) : (s.bumpEth e k n).ces = s.ces := rfl
@[simp] theorem State.bumpEth_crypto (e k n : Nat) : (s.bumpEth e k n).crypto = s.crypto := rfl
@[simp] theorem State.bumpEth_fault (e k n : Nat) : (s.bumpEth e k n).fault = s.fault := rfl
@[simp] theorem State.bumpEth_power (e k n : Nat) : (s.bumpEth e k n).power = s.power := rfl
@[simp] theorem State.bumpEth_fw (e k n : Nat) : (s.bumpEth e k n).fw = s.fw := rfl
@[simp] theorem State.bumpEth_leg (e k n : Nat) : (s.bumpEth e k n).leg = s.leg := rfl
@[simp] theorem State.bumpEth_freeCount (e k n : Nat) : (s.bumpEth e k n).freeCount = s.freeCount := rfl
@[simp] theorem State.bumpEth_out (e k n : Nat) : (s.bumpEth e k n).out = s.out := rfl

/-! ### setTrib -/

@[simp] theorem State.setTrib_pending (k : Nat) (x : Trib) : (s.setTrib k x).pending = s.pending := rfl
@[simp] theorem State.setTrib_phase (k : Nat) (x : Trib) : (s.setTrib k x).phase = s.phase := rfl
@[simp] theorem State.setTrib_legacy (k : Nat) (x : Trib) : (s.setTrib k x).legacy = s.legacy := rfl
@[simp] theorem State.setTrib_pins (k : Nat) (x : Trib) : (s.setTrib k x).pins = s.pins := rfl
@[simp] theorem State.setTrib_part (k : Nat) (x : Trib) : (s.setTrib k x).part = s.part := rfl
@[simp] theorem State.setTrib_fuses (k : Nat) (x : Trib) : (s.setTrib k x).fuses = s.fuses := rfl
@[simp] theorem State.setTrib_mram (k : Nat) (x : Trib) : (s.setTrib k x).mram = s.mram := rfl
@[simp] theorem State.setTrib_words (k : Nat) (x : Trib) : (s.setTrib k x).words = s.words := rfl
@[simp] theorem State.setTrib_counters (k : Nat) (x : Trib) : (s.setTrib k x).counters = s.counters := rfl
@[simp] theorem State.setTrib_stipple (k : Nat) (x : Trib) : (s.setTrib k x).stipple = s.stipple := rfl
@[simp] theorem State.setTrib_tick (k : Nat) (x : Trib) : (s.setTrib k x).tick = s.tick := rfl
@[simp] theorem State.setTrib_cmd (k : Nat) (x : Trib) : (s.setTrib k x).cmd = s.cmd := rfl
@[simp] theorem State.setTrib_ev (k : Nat) (x : Trib) : (s.setTrib k x).ev = s.ev := rfl
@[simp] theorem State.setTrib_chans (k : Nat) (x : Trib) : (s.setTrib k x).chans = s.chans := rfl
@[simp] theorem State.setTrib_vonu (k : Nat) (x : Trib) : (s.setTrib k x).vonu = s.vonu := rfl
@[simp] theorem State.setTrib_burin (k : Nat) (x : Trib) : (s.setTrib k x).burin = s.burin := rfl
@[simp] theorem State.setTrib_cls (k : Nat) (x : Trib) : (s.setTrib k x).cls = s.cls := rfl
@[simp] theorem State.setTrib_qs (k : Nat) (x : Trib) : (s.setTrib k x).qs = s.qs := rfl
@[simp] theorem State.setTrib_bpm (k : Nat) (x : Trib) : (s.setTrib k x).bpm = s.bpm := rfl
@[simp] theorem State.setTrib_alink (k : Nat) (x : Trib) : (s.setTrib k x).alink = s.alink := rfl
@[simp] theorem State.setTrib_eth (k : Nat) (x : Trib) : (s.setTrib k x).eth = s.eth := rfl
@[simp] theorem State.setTrib_time (k : Nat) (x : Trib) : (s.setTrib k x).time = s.time := rfl
@[simp] theorem State.setTrib_crypto (k : Nat) (x : Trib) : (s.setTrib k x).crypto = s.crypto := rfl
@[simp] theorem State.setTrib_fault (k : Nat) (x : Trib) : (s.setTrib k x).fault = s.fault := rfl
@[simp] theorem State.setTrib_power (k : Nat) (x : Trib) : (s.setTrib k x).power = s.power := rfl
@[simp] theorem State.setTrib_fw (k : Nat) (x : Trib) : (s.setTrib k x).fw = s.fw := rfl
@[simp] theorem State.setTrib_leg (k : Nat) (x : Trib) : (s.setTrib k x).leg = s.leg := rfl
@[simp] theorem State.setTrib_freeCount (k : Nat) (x : Trib) : (s.setTrib k x).freeCount = s.freeCount := rfl
@[simp] theorem State.setTrib_out (k : Nat) (x : Trib) : (s.setTrib k x).out = s.out := rfl

/-! ### modTrib -/

@[simp] theorem State.modTrib_pending (k : Nat) (f : Trib → Trib) : (s.modTrib k f).pending = s.pending := rfl
@[simp] theorem State.modTrib_phase (k : Nat) (f : Trib → Trib) : (s.modTrib k f).phase = s.phase := rfl
@[simp] theorem State.modTrib_legacy (k : Nat) (f : Trib → Trib) : (s.modTrib k f).legacy = s.legacy := rfl
@[simp] theorem State.modTrib_pins (k : Nat) (f : Trib → Trib) : (s.modTrib k f).pins = s.pins := rfl
@[simp] theorem State.modTrib_part (k : Nat) (f : Trib → Trib) : (s.modTrib k f).part = s.part := rfl
@[simp] theorem State.modTrib_fuses (k : Nat) (f : Trib → Trib) : (s.modTrib k f).fuses = s.fuses := rfl
@[simp] theorem State.modTrib_mram (k : Nat) (f : Trib → Trib) : (s.modTrib k f).mram = s.mram := rfl
@[simp] theorem State.modTrib_words (k : Nat) (f : Trib → Trib) : (s.modTrib k f).words = s.words := rfl
@[simp] theorem State.modTrib_counters (k : Nat) (f : Trib → Trib) : (s.modTrib k f).counters = s.counters := rfl
@[simp] theorem State.modTrib_stipple (k : Nat) (f : Trib → Trib) : (s.modTrib k f).stipple = s.stipple := rfl
@[simp] theorem State.modTrib_tick (k : Nat) (f : Trib → Trib) : (s.modTrib k f).tick = s.tick := rfl
@[simp] theorem State.modTrib_cmd (k : Nat) (f : Trib → Trib) : (s.modTrib k f).cmd = s.cmd := rfl
@[simp] theorem State.modTrib_ev (k : Nat) (f : Trib → Trib) : (s.modTrib k f).ev = s.ev := rfl
@[simp] theorem State.modTrib_chans (k : Nat) (f : Trib → Trib) : (s.modTrib k f).chans = s.chans := rfl
@[simp] theorem State.modTrib_vonu (k : Nat) (f : Trib → Trib) : (s.modTrib k f).vonu = s.vonu := rfl
@[simp] theorem State.modTrib_burin (k : Nat) (f : Trib → Trib) : (s.modTrib k f).burin = s.burin := rfl
@[simp] theorem State.modTrib_cls (k : Nat) (f : Trib → Trib) : (s.modTrib k f).cls = s.cls := rfl
@[simp] theorem State.modTrib_qs (k : Nat) (f : Trib → Trib) : (s.modTrib k f).qs = s.qs := rfl
@[simp] theorem State.modTrib_bpm (k : Nat) (f : Trib → Trib) : (s.modTrib k f).bpm = s.bpm := rfl
@[simp] theorem State.modTrib_alink (k : Nat) (f : Trib → Trib) : (s.modTrib k f).alink = s.alink := rfl
@[simp] theorem State.modTrib_eth (k : Nat) (f : Trib → Trib) : (s.modTrib k f).eth = s.eth := rfl
@[simp] theorem State.modTrib_time (k : Nat) (f : Trib → Trib) : (s.modTrib k f).time = s.time := rfl
@[simp] theorem State.modTrib_crypto (k : Nat) (f : Trib → Trib) : (s.modTrib k f).crypto = s.crypto := rfl
@[simp] theorem State.modTrib_fault (k : Nat) (f : Trib → Trib) : (s.modTrib k f).fault = s.fault := rfl
@[simp] theorem State.modTrib_power (k : Nat) (f : Trib → Trib) : (s.modTrib k f).power = s.power := rfl
@[simp] theorem State.modTrib_fw (k : Nat) (f : Trib → Trib) : (s.modTrib k f).fw = s.fw := rfl
@[simp] theorem State.modTrib_leg (k : Nat) (f : Trib → Trib) : (s.modTrib k f).leg = s.leg := rfl
@[simp] theorem State.modTrib_freeCount (k : Nat) (f : Trib → Trib) : (s.modTrib k f).freeCount = s.freeCount := rfl
@[simp] theorem State.modTrib_out (k : Nat) (f : Trib → Trib) : (s.modTrib k f).out = s.out := rfl

/-! ### setBank -/

@[simp] theorem State.setBank_pending (b : Bool) (x : Bank) : (s.setBank b x).pending = s.pending := rfl
@[simp] theorem State.setBank_phase (b : Bool) (x : Bank) : (s.setBank b x).phase = s.phase := rfl
@[simp] theorem State.setBank_legacy (b : Bool) (x : Bank) : (s.setBank b x).legacy = s.legacy := rfl
@[simp] theorem State.setBank_pins (b : Bool) (x : Bank) : (s.setBank b x).pins = s.pins := rfl
@[simp] theorem State.setBank_part (b : Bool) (x : Bank) : (s.setBank b x).part = s.part := rfl
@[simp] theorem State.setBank_fuses (b : Bool) (x : Bank) : (s.setBank b x).fuses = s.fuses := rfl
@[simp] theorem State.setBank_mram (b : Bool) (x : Bank) : (s.setBank b x).mram = s.mram := rfl
@[simp] theorem State.setBank_words (b : Bool) (x : Bank) : (s.setBank b x).words = s.words := rfl
@[simp] theorem State.setBank_counters (b : Bool) (x : Bank) : (s.setBank b x).counters = s.counters := rfl
@[simp] theorem State.setBank_stipple (b : Bool) (x : Bank) : (s.setBank b x).stipple = s.stipple := rfl
@[simp] theorem State.setBank_tick (b : Bool) (x : Bank) : (s.setBank b x).tick = s.tick := rfl
@[simp] theorem State.setBank_cmd (b : Bool) (x : Bank) : (s.setBank b x).cmd = s.cmd := rfl
@[simp] theorem State.setBank_ev (b : Bool) (x : Bank) : (s.setBank b x).ev = s.ev := rfl
@[simp] theorem State.setBank_chans (b : Bool) (x : Bank) : (s.setBank b x).chans = s.chans := rfl
@[simp] theorem State.setBank_vonu (b : Bool) (x : Bank) : (s.setBank b x).vonu = s.vonu := rfl
@[simp] theorem State.setBank_burin (b : Bool) (x : Bank) : (s.setBank b x).burin = s.burin := rfl
@[simp] theorem State.setBank_cls (b : Bool) (x : Bank) : (s.setBank b x).cls = s.cls := rfl
@[simp] theorem State.setBank_qs (b : Bool) (x : Bank) : (s.setBank b x).qs = s.qs := rfl
@[simp] theorem State.setBank_bpm (b : Bool) (x : Bank) : (s.setBank b x).bpm = s.bpm := rfl
@[simp] theorem State.setBank_alink (b : Bool) (x : Bank) : (s.setBank b x).alink = s.alink := rfl
@[simp] theorem State.setBank_eth (b : Bool) (x : Bank) : (s.setBank b x).eth = s.eth := rfl
@[simp] theorem State.setBank_time (b : Bool) (x : Bank) : (s.setBank b x).time = s.time := rfl
@[simp] theorem State.setBank_ces (b : Bool) (x : Bank) : (s.setBank b x).ces = s.ces := rfl
@[simp] theorem State.setBank_crypto (b : Bool) (x : Bank) : (s.setBank b x).crypto = s.crypto := rfl
@[simp] theorem State.setBank_fault (b : Bool) (x : Bank) : (s.setBank b x).fault = s.fault := rfl
@[simp] theorem State.setBank_power (b : Bool) (x : Bank) : (s.setBank b x).power = s.power := rfl
@[simp] theorem State.setBank_leg (b : Bool) (x : Bank) : (s.setBank b x).leg = s.leg := rfl
@[simp] theorem State.setBank_freeCount (b : Bool) (x : Bank) : (s.setBank b x).freeCount = s.freeCount := rfl
@[simp] theorem State.setBank_out (b : Bool) (x : Bank) : (s.setBank b x).out = s.out := rfl

/-! ### setCtr -/

@[simp] theorem State.setCtr_pending (a : Nat) (v : BitVec 64) : (s.setCtr a v).pending = s.pending := rfl
@[simp] theorem State.setCtr_phase (a : Nat) (v : BitVec 64) : (s.setCtr a v).phase = s.phase := rfl
@[simp] theorem State.setCtr_legacy (a : Nat) (v : BitVec 64) : (s.setCtr a v).legacy = s.legacy := rfl
@[simp] theorem State.setCtr_pins (a : Nat) (v : BitVec 64) : (s.setCtr a v).pins = s.pins := rfl
@[simp] theorem State.setCtr_part (a : Nat) (v : BitVec 64) : (s.setCtr a v).part = s.part := rfl
@[simp] theorem State.setCtr_fuses (a : Nat) (v : BitVec 64) : (s.setCtr a v).fuses = s.fuses := rfl
@[simp] theorem State.setCtr_mram (a : Nat) (v : BitVec 64) : (s.setCtr a v).mram = s.mram := rfl
@[simp] theorem State.setCtr_words (a : Nat) (v : BitVec 64) : (s.setCtr a v).words = s.words := rfl
@[simp] theorem State.setCtr_stipple (a : Nat) (v : BitVec 64) : (s.setCtr a v).stipple = s.stipple := rfl
@[simp] theorem State.setCtr_tick (a : Nat) (v : BitVec 64) : (s.setCtr a v).tick = s.tick := rfl
@[simp] theorem State.setCtr_cmd (a : Nat) (v : BitVec 64) : (s.setCtr a v).cmd = s.cmd := rfl
@[simp] theorem State.setCtr_ev (a : Nat) (v : BitVec 64) : (s.setCtr a v).ev = s.ev := rfl
@[simp] theorem State.setCtr_chans (a : Nat) (v : BitVec 64) : (s.setCtr a v).chans = s.chans := rfl
@[simp] theorem State.setCtr_vonu (a : Nat) (v : BitVec 64) : (s.setCtr a v).vonu = s.vonu := rfl
@[simp] theorem State.setCtr_burin (a : Nat) (v : BitVec 64) : (s.setCtr a v).burin = s.burin := rfl
@[simp] theorem State.setCtr_cls (a : Nat) (v : BitVec 64) : (s.setCtr a v).cls = s.cls := rfl
@[simp] theorem State.setCtr_qs (a : Nat) (v : BitVec 64) : (s.setCtr a v).qs = s.qs := rfl
@[simp] theorem State.setCtr_bpm (a : Nat) (v : BitVec 64) : (s.setCtr a v).bpm = s.bpm := rfl
@[simp] theorem State.setCtr_alink (a : Nat) (v : BitVec 64) : (s.setCtr a v).alink = s.alink := rfl
@[simp] theorem State.setCtr_eth (a : Nat) (v : BitVec 64) : (s.setCtr a v).eth = s.eth := rfl
@[simp] theorem State.setCtr_time (a : Nat) (v : BitVec 64) : (s.setCtr a v).time = s.time := rfl
@[simp] theorem State.setCtr_ces (a : Nat) (v : BitVec 64) : (s.setCtr a v).ces = s.ces := rfl
@[simp] theorem State.setCtr_crypto (a : Nat) (v : BitVec 64) : (s.setCtr a v).crypto = s.crypto := rfl
@[simp] theorem State.setCtr_fault (a : Nat) (v : BitVec 64) : (s.setCtr a v).fault = s.fault := rfl
@[simp] theorem State.setCtr_power (a : Nat) (v : BitVec 64) : (s.setCtr a v).power = s.power := rfl
@[simp] theorem State.setCtr_fw (a : Nat) (v : BitVec 64) : (s.setCtr a v).fw = s.fw := rfl
@[simp] theorem State.setCtr_leg (a : Nat) (v : BitVec 64) : (s.setCtr a v).leg = s.leg := rfl
@[simp] theorem State.setCtr_freeCount (a : Nat) (v : BitVec 64) : (s.setCtr a v).freeCount = s.freeCount := rfl
@[simp] theorem State.setCtr_out (a : Nat) (v : BitVec 64) : (s.setCtr a v).out = s.out := rfl

/-! ### lived -/

@[simp] theorem State.lived_pending (f : Lifetimes → Lifetimes) : (s.lived f).pending = s.pending := rfl
@[simp] theorem State.lived_phase (f : Lifetimes → Lifetimes) : (s.lived f).phase = s.phase := rfl
@[simp] theorem State.lived_legacy (f : Lifetimes → Lifetimes) : (s.lived f).legacy = s.legacy := rfl
@[simp] theorem State.lived_pins (f : Lifetimes → Lifetimes) : (s.lived f).pins = s.pins := rfl
@[simp] theorem State.lived_part (f : Lifetimes → Lifetimes) : (s.lived f).part = s.part := rfl
@[simp] theorem State.lived_fuses (f : Lifetimes → Lifetimes) : (s.lived f).fuses = s.fuses := rfl
@[simp] theorem State.lived_mram (f : Lifetimes → Lifetimes) : (s.lived f).mram = s.mram := rfl
@[simp] theorem State.lived_words (f : Lifetimes → Lifetimes) : (s.lived f).words = s.words := rfl
@[simp] theorem State.lived_counters (f : Lifetimes → Lifetimes) : (s.lived f).counters = s.counters := rfl
@[simp] theorem State.lived_stipple (f : Lifetimes → Lifetimes) : (s.lived f).stipple = s.stipple := rfl
@[simp] theorem State.lived_tick (f : Lifetimes → Lifetimes) : (s.lived f).tick = s.tick := rfl
@[simp] theorem State.lived_cmd (f : Lifetimes → Lifetimes) : (s.lived f).cmd = s.cmd := rfl
@[simp] theorem State.lived_ev (f : Lifetimes → Lifetimes) : (s.lived f).ev = s.ev := rfl
@[simp] theorem State.lived_chans (f : Lifetimes → Lifetimes) : (s.lived f).chans = s.chans := rfl
@[simp] theorem State.lived_vonu (f : Lifetimes → Lifetimes) : (s.lived f).vonu = s.vonu := rfl
@[simp] theorem State.lived_burin (f : Lifetimes → Lifetimes) : (s.lived f).burin = s.burin := rfl
@[simp] theorem State.lived_cls (f : Lifetimes → Lifetimes) : (s.lived f).cls = s.cls := rfl
@[simp] theorem State.lived_qs (f : Lifetimes → Lifetimes) : (s.lived f).qs = s.qs := rfl
@[simp] theorem State.lived_bpm (f : Lifetimes → Lifetimes) : (s.lived f).bpm = s.bpm := rfl
@[simp] theorem State.lived_alink (f : Lifetimes → Lifetimes) : (s.lived f).alink = s.alink := rfl
@[simp] theorem State.lived_eth (f : Lifetimes → Lifetimes) : (s.lived f).eth = s.eth := rfl
@[simp] theorem State.lived_time (f : Lifetimes → Lifetimes) : (s.lived f).time = s.time := rfl
@[simp] theorem State.lived_ces (f : Lifetimes → Lifetimes) : (s.lived f).ces = s.ces := rfl
@[simp] theorem State.lived_crypto (f : Lifetimes → Lifetimes) : (s.lived f).crypto = s.crypto := rfl
@[simp] theorem State.lived_fault (f : Lifetimes → Lifetimes) : (s.lived f).fault = s.fault := rfl
@[simp] theorem State.lived_fw (f : Lifetimes → Lifetimes) : (s.lived f).fw = s.fw := rfl
@[simp] theorem State.lived_leg (f : Lifetimes → Lifetimes) : (s.lived f).leg = s.leg := rfl
@[simp] theorem State.lived_freeCount (f : Lifetimes → Lifetimes) : (s.lived f).freeCount = s.freeCount := rfl
@[simp] theorem State.lived_out (f : Lifetimes → Lifetimes) : (s.lived f).out = s.out := rfl

/-! ### suspectGroup -/

@[simp] theorem State.suspectGroup_pending (g : Nat) : (s.suspectGroup g).pending = s.pending := rfl
@[simp] theorem State.suspectGroup_phase (g : Nat) : (s.suspectGroup g).phase = s.phase := rfl
@[simp] theorem State.suspectGroup_legacy (g : Nat) : (s.suspectGroup g).legacy = s.legacy := rfl
@[simp] theorem State.suspectGroup_pins (g : Nat) : (s.suspectGroup g).pins = s.pins := rfl
@[simp] theorem State.suspectGroup_part (g : Nat) : (s.suspectGroup g).part = s.part := rfl
@[simp] theorem State.suspectGroup_fuses (g : Nat) : (s.suspectGroup g).fuses = s.fuses := rfl
@[simp] theorem State.suspectGroup_mram (g : Nat) : (s.suspectGroup g).mram = s.mram := rfl
@[simp] theorem State.suspectGroup_words (g : Nat) : (s.suspectGroup g).words = s.words := rfl
@[simp] theorem State.suspectGroup_counters (g : Nat) : (s.suspectGroup g).counters = s.counters := rfl
@[simp] theorem State.suspectGroup_stipple (g : Nat) : (s.suspectGroup g).stipple = s.stipple := rfl
@[simp] theorem State.suspectGroup_cmd (g : Nat) : (s.suspectGroup g).cmd = s.cmd := rfl
@[simp] theorem State.suspectGroup_ev (g : Nat) : (s.suspectGroup g).ev = s.ev := rfl
@[simp] theorem State.suspectGroup_chans (g : Nat) : (s.suspectGroup g).chans = s.chans := rfl
@[simp] theorem State.suspectGroup_vonu (g : Nat) : (s.suspectGroup g).vonu = s.vonu := rfl
@[simp] theorem State.suspectGroup_burin (g : Nat) : (s.suspectGroup g).burin = s.burin := rfl
@[simp] theorem State.suspectGroup_cls (g : Nat) : (s.suspectGroup g).cls = s.cls := rfl
@[simp] theorem State.suspectGroup_qs (g : Nat) : (s.suspectGroup g).qs = s.qs := rfl
@[simp] theorem State.suspectGroup_bpm (g : Nat) : (s.suspectGroup g).bpm = s.bpm := rfl
@[simp] theorem State.suspectGroup_alink (g : Nat) : (s.suspectGroup g).alink = s.alink := rfl
@[simp] theorem State.suspectGroup_eth (g : Nat) : (s.suspectGroup g).eth = s.eth := rfl
@[simp] theorem State.suspectGroup_time (g : Nat) : (s.suspectGroup g).time = s.time := rfl
@[simp] theorem State.suspectGroup_ces (g : Nat) : (s.suspectGroup g).ces = s.ces := rfl
@[simp] theorem State.suspectGroup_crypto (g : Nat) : (s.suspectGroup g).crypto = s.crypto := rfl
@[simp] theorem State.suspectGroup_fault (g : Nat) : (s.suspectGroup g).fault = s.fault := rfl
@[simp] theorem State.suspectGroup_power (g : Nat) : (s.suspectGroup g).power = s.power := rfl
@[simp] theorem State.suspectGroup_fw (g : Nat) : (s.suspectGroup g).fw = s.fw := rfl
@[simp] theorem State.suspectGroup_leg (g : Nat) : (s.suspectGroup g).leg = s.leg := rfl
@[simp] theorem State.suspectGroup_freeCount (g : Nat) : (s.suspectGroup g).freeCount = s.freeCount := rfl
@[simp] theorem State.suspectGroup_out (g : Nat) : (s.suspectGroup g).out = s.out := rfl

/-! ### unspoil -/

@[simp] theorem State.unspoil_pending (g k : Nat) : (s.unspoil g k).pending = s.pending := rfl
@[simp] theorem State.unspoil_phase (g k : Nat) : (s.unspoil g k).phase = s.phase := rfl
@[simp] theorem State.unspoil_legacy (g k : Nat) : (s.unspoil g k).legacy = s.legacy := rfl
@[simp] theorem State.unspoil_pins (g k : Nat) : (s.unspoil g k).pins = s.pins := rfl
@[simp] theorem State.unspoil_part (g k : Nat) : (s.unspoil g k).part = s.part := rfl
@[simp] theorem State.unspoil_fuses (g k : Nat) : (s.unspoil g k).fuses = s.fuses := rfl
@[simp] theorem State.unspoil_mram (g k : Nat) : (s.unspoil g k).mram = s.mram := rfl
@[simp] theorem State.unspoil_words (g k : Nat) : (s.unspoil g k).words = s.words := rfl
@[simp] theorem State.unspoil_counters (g k : Nat) : (s.unspoil g k).counters = s.counters := rfl
@[simp] theorem State.unspoil_stipple (g k : Nat) : (s.unspoil g k).stipple = s.stipple := rfl
@[simp] theorem State.unspoil_cmd (g k : Nat) : (s.unspoil g k).cmd = s.cmd := rfl
@[simp] theorem State.unspoil_ev (g k : Nat) : (s.unspoil g k).ev = s.ev := rfl
@[simp] theorem State.unspoil_chans (g k : Nat) : (s.unspoil g k).chans = s.chans := rfl
@[simp] theorem State.unspoil_vonu (g k : Nat) : (s.unspoil g k).vonu = s.vonu := rfl
@[simp] theorem State.unspoil_burin (g k : Nat) : (s.unspoil g k).burin = s.burin := rfl
@[simp] theorem State.unspoil_cls (g k : Nat) : (s.unspoil g k).cls = s.cls := rfl
@[simp] theorem State.unspoil_qs (g k : Nat) : (s.unspoil g k).qs = s.qs := rfl
@[simp] theorem State.unspoil_bpm (g k : Nat) : (s.unspoil g k).bpm = s.bpm := rfl
@[simp] theorem State.unspoil_alink (g k : Nat) : (s.unspoil g k).alink = s.alink := rfl
@[simp] theorem State.unspoil_eth (g k : Nat) : (s.unspoil g k).eth = s.eth := rfl
@[simp] theorem State.unspoil_time (g k : Nat) : (s.unspoil g k).time = s.time := rfl
@[simp] theorem State.unspoil_ces (g k : Nat) : (s.unspoil g k).ces = s.ces := rfl
@[simp] theorem State.unspoil_crypto (g k : Nat) : (s.unspoil g k).crypto = s.crypto := rfl
@[simp] theorem State.unspoil_fault (g k : Nat) : (s.unspoil g k).fault = s.fault := rfl
@[simp] theorem State.unspoil_power (g k : Nat) : (s.unspoil g k).power = s.power := rfl
@[simp] theorem State.unspoil_fw (g k : Nat) : (s.unspoil g k).fw = s.fw := rfl
@[simp] theorem State.unspoil_leg (g k : Nat) : (s.unspoil g k).leg = s.leg := rfl
@[simp] theorem State.unspoil_freeCount (g k : Nat) : (s.unspoil g k).freeCount = s.freeCount := rfl
@[simp] theorem State.unspoil_out (g k : Nat) : (s.unspoil g k).out = s.out := rfl

/-! ### What the updates write -/

@[simp] theorem State.modPower_power (f : PowerSt → PowerSt) : (s.modPower f).power = f s.power := rfl
@[simp] theorem State.modTick_tick (f : TickSt → TickSt) : (s.modTick f).tick = f s.tick := rfl
@[simp] theorem State.modCls_cls (f : ClassSt → ClassSt) : (s.modCls f).cls = f s.cls := rfl
@[simp] theorem State.modFault_fault (f : FaultSt → FaultSt) : (s.modFault f).fault = f s.fault := rfl
@[simp] theorem State.modTime_time (f : TimeSt → TimeSt) : (s.modTime f).time = f s.time := rfl
@[simp] theorem State.modLink_alink (f : AlinkSt → AlinkSt) : (s.modLink f).alink = f s.alink := rfl
@[simp] theorem State.modLeg_leg (f : LegacySt → LegacySt) : (s.modLeg f).leg = f s.leg := rfl
@[simp] theorem State.emit_out (o : Output) : (s.emit o).out = s.out ++ [o] := rfl
@[simp] theorem State.fresh_freeCount : (s.fresh.2).freeCount = s.freeCount + 1 := rfl
@[simp] theorem State.instant_freeCount : (s.instant.2).freeCount = s.freeCount + 1 := rfl

@[simp] theorem State.setCh_chans (c : Chan) (x : ChanSt) : (s.setCh c x).chans = s.chans.set c x := rfl
@[simp] theorem State.modCh_chans (c : Chan) (f : ChanSt → ChanSt) : (s.modCh c f).chans = s.chans.set c (f (s.chans.get c)) := rfl
@[simp] theorem State.modB_burin (c : Chan) (f : BCh → BCh) : (s.modB c f).burin = { s.burin with ch := s.burin.ch.set c (f (s.burin.ch.get c)) } := rfl
@[simp] theorem State.setStage_burin (i : Nat) (x : Stage) : (s.setStage i x).burin = { s.burin with stage := mput Stage.none s.burin.stage i x } := rfl
@[simp] theorem State.modPort_cmd (t : Transport) (f : PortSt → PortSt) : (s.modPort t f).cmd = { s.cmd with port := s.cmd.port.set t (f (s.cmd.port.get t)) } := rfl
@[simp] theorem State.setVonu_vonu (n : Nat) (x : Vonu) : (s.setVonu n x).vonu = { s.vonu with vonus := mput Vonu.none s.vonu.vonus n x } := rfl
@[simp] theorem State.setAlloc_vonu (i : Nat) (a : Option AllocE) : (s.setAlloc i a).vonu = { s.vonu with alloc := mput none s.vonu.alloc i a } := rfl
@[simp] theorem State.setSlot_crypto (i : Nat) (x : Slot) : (s.setSlot i x).crypto = { s.crypto with slots := mput Slot.empty s.crypto.slots i x } := rfl
@[simp] theorem State.setHatch_qs (l : Nat) (x : Hatch) : (s.setHatch l x).qs = { s.qs with hatch := mput Hatch.none s.qs.hatch l x } := rfl
@[simp] theorem State.setQueue_qs (q : Nat) (x : Queue) : (s.setQueue q x).qs = { s.qs with queues := mput Queue.none s.qs.queues q x } := rfl
@[simp] theorem State.setPool_bpm (p : Nat) (x : Pool) : (s.setPool p x).bpm = { s.bpm with pools := mput Pool.none s.bpm.pools p x } := rfl
@[simp] theorem State.setLane_alink (n : Nat) (x : Lane) : (s.setLane n x).alink = { s.alink with lanes := mput Lane.reset s.alink.lanes n x } := rfl
@[simp] theorem State.setPrbs_alink (n : Nat) (x : Prbs) : (s.setPrbs n x).alink = { s.alink with prbs := mput Prbs.off s.alink.prbs n x } := rfl
@[simp] theorem State.setCredit_alink (c : Nat) (x : Credit) : (s.setCredit c x).alink = { s.alink with credits := mput none s.alink.credits c (some x) } := rfl
@[simp] theorem State.setEthPort_eth (e : Nat) (x : EthPort) : (s.setEthPort e x).eth = { s.eth with ports := mput EthPort.reset s.eth.ports e x } := rfl
@[simp] theorem State.setTrib_ces (k : Nat) (x : Trib) : (s.setTrib k x).ces = { s.ces with tribs := mput Trib.none s.ces.tribs k x } := rfl
@[simp] theorem State.setDom_power (d : Nat) (x : Dom) : (s.setDom d x).power = { s.power with doms := mput Dom.off s.power.doms d x } := rfl
@[simp] theorem State.putCfg_words (a : Nat) (v : Word) : (s.putCfg a v).words = mput (resetWord a) s.words a v := rfl
@[simp] theorem State.bump_counters (a n : Nat) : (s.bump a n).counters = s.counters.put a (s.ctr a + BitVec.ofNat 64 n) := rfl
@[simp] theorem State.setCtr_counters (a : Nat) (v : BitVec 64) : (s.setCtr a v).counters = s.counters.put a v := rfl
@[simp] theorem Ctrs.put_now (c : Ctrs) (a : Nat) (v : BitVec 64) : (c.put a v).now = mput 0 c.now a v := rfl
@[simp] theorem State.lived_power (f : Lifetimes → Lifetimes) : (s.lived f).power = { s.power with life := f s.power.life } := rfl

/-! ### Pairs -/

@[simp] theorem Two.get_set_same {α : Type} (x : Two α) (c : Chan) (v : α) : (x.set c v).get c = v := by cases c <;> rfl
@[simp] theorem Two.get_set_other {α : Type} (x : Two α) (c : Chan) (v : α) :
    (x.set c v).get (otherCh c) = x.get (otherCh c) := by cases c <;> rfl
theorem Two.get_set_ne {α : Type} (x : Two α) {c d : Chan} (v : α) (h : d ≠ c) : (x.set c v).get d = x.get d := by
  cases c <;> cases d <;> first | rfl | exact absurd rfl h
@[simp] theorem Two.set_set {α : Type} (x : Two α) (c : Chan) (v w : α) : (x.set c v).set c w = x.set c w := by
  cases c <;> rfl
@[simp] theorem Two.set_get {α : Type} (x : Two α) (c : Chan) : x.set c (x.get c) = x := by cases c <;> rfl
@[simp] theorem PerT.get_set_same {α : Type} (x : PerT α) (t : Transport) (v : α) : (x.set t v).get t = v := by
  cases t <;> rfl
theorem PerT.get_set_ne {α : Type} (x : PerT α) {t u : Transport} (v : α) (h : u ≠ t) : (x.set t v).get u = x.get u := by
  cases t <;> cases u <;> first | rfl | exact absurd rfl h
@[simp] theorem PerT.set_set {α : Type} (x : PerT α) (t : Transport) (v w : α) : (x.set t v).set t w = x.set t w := by
  cases t <;> rfl

/-! ### Sparse maps: what a write leaves to be read -/

theorem mget_mput_same {α : Type} [DecidableEq α] (d : α) (m : SMap α) (i : Nat) (v : α)
    (hm : (m.map (·.1)).Pairwise (· < ·)) : mget d (mput d m i v) i = v := by
  induction m with
  | nil => by_cases h : v = d <;> simp [mput, mget, h]
  | cons e r ih =>
    obtain ⟨k, w⟩ := e
    have hr : (r.map (·.1)).Pairwise (· < ·) := (List.pairwise_cons.mp hm).2
    have hk : ∀ x ∈ r, k < x.1 := fun x hx => (List.pairwise_cons.mp hm).1 _ (List.mem_map_of_mem hx)
    have low : ∀ (l : SMap α), (∀ x ∈ l, i < x.1) → mget d l i = d := by
      intro l; induction l with
      | nil => intro _; rfl
      | cons y l ihl =>
        intro hl
        have h1 := hl y (by simp)
        simp only [mget, if_neg (Nat.ne_of_gt h1)]
        exact ihl fun x hx => hl x (by simp [hx])
    simp only [mput]
    split
    · rename_i h
      simp only [mget, if_neg (Nat.ne_of_lt h)]; exact ih hr
    · split
      · rename_i h1 h2
        subst h2
        by_cases hv : v = d
        · subst hv; simp only [if_true]; exact low r hk
        · simp [hv, mget]
      · rename_i h1 h2
        have hik : i < k := by omega
        by_cases hv : v = d
        · subst hv
          simp only [if_true, mget, if_neg h2]
          exact low r fun x hx => Nat.lt_trans hik (hk x hx)
        · simp [hv, mget]

theorem mget_mput_other {α : Type} [DecidableEq α] (d : α) (m : SMap α) (i j : Nat) (v : α) (h : j ≠ i) :
    mget d (mput d m i v) j = mget d m j := by
  induction m with
  | nil => by_cases hv : v = d <;> simp [mput, mget, hv, Ne.symm h]
  | cons e r ih =>
    obtain ⟨k, w⟩ := e
    simp only [mput]
    split
    · simp only [mget, ih]
    · split
      · rename_i h2
        subst h2
        by_cases hv : v = d <;> simp [hv, mget, Ne.symm h]
      · by_cases hv : v = d <;> simp [hv, mget, Ne.symm h]


/-! ### Counters stay under every update but counting -/

@[simp] theorem State.putCfg_ctr (a : Nat) (v : Word) (i : Nat) : (s.putCfg a v).ctr i = s.ctr i := rfl
@[simp] theorem State.dropCfg_ctr (k : Nat → Bool) (i : Nat) : (s.dropCfg k).ctr i = s.ctr i := rfl
@[simp] theorem State.emit_ctr (o : Output) (i : Nat) : (s.emit o).ctr i = s.ctr i := rfl
@[simp] theorem State.setDom_ctr (d : Nat) (x : Dom) (i : Nat) : (s.setDom d x).ctr i = s.ctr i := rfl
@[simp] theorem State.modDom_ctr (d : Nat) (f : Dom → Dom) (i : Nat) : (s.modDom d f).ctr i = s.ctr i := rfl
@[simp] theorem State.modPower_ctr (f : PowerSt → PowerSt) (i : Nat) : (s.modPower f).ctr i = s.ctr i := rfl
@[simp] theorem State.dieAsk_ctr (d : Nat) (on : Bool) (i : Nat) : (s.dieAsk d on).ctr i = s.ctr i := rfl
@[simp] theorem State.expose_ctr (g : Nat) (i : Nat) : (s.expose g).ctr i = s.ctr i := rfl
@[simp] theorem State.modTick_ctr (f : TickSt → TickSt) (i : Nat) : (s.modTick f).ctr i = s.ctr i := rfl
@[simp] theorem State.disturb_ctr (g : Nat) (i : Nat) : (s.disturb g).ctr i = s.ctr i := rfl
@[simp] theorem State.fresh_ctr (i : Nat) : (s.fresh.2).ctr i = s.ctr i := rfl
@[simp] theorem State.instant_ctr (i : Nat) : (s.instant.2).ctr i = s.ctr i := rfl
@[simp] theorem State.setCh_ctr (c : Chan) (x : ChanSt) (i : Nat) : (s.setCh c x).ctr i = s.ctr i := rfl
@[simp] theorem State.modCh_ctr (c : Chan) (f : ChanSt → ChanSt) (i : Nat) : (s.modCh c f).ctr i = s.ctr i := rfl
@[simp] theorem State.modFault_ctr (f : FaultSt → FaultSt) (i : Nat) : (s.modFault f).ctr i = s.ctr i := rfl
@[simp] theorem State.modB_ctr (c : Chan) (f : BCh → BCh) (i : Nat) : (s.modB c f).ctr i = s.ctr i := rfl
@[simp] theorem State.setStage_ctr (i : Nat) (x : Stage) (j : Nat) : (s.setStage i x).ctr j = s.ctr j := rfl
@[simp] theorem State.modCls_ctr (f : ClassSt → ClassSt) (i : Nat) : (s.modCls f).ctr i = s.ctr i := rfl
@[simp] theorem State.modLeg_ctr (f : LegacySt → LegacySt) (i : Nat) : (s.modLeg f).ctr i = s.ctr i := rfl
@[simp] theorem State.modPort_ctr (t : Transport) (f : PortSt → PortSt) (i : Nat) : (s.modPort t f).ctr i = s.ctr i := rfl
@[simp] theorem State.modTime_ctr (f : TimeSt → TimeSt) (i : Nat) : (s.modTime f).ctr i = s.ctr i := rfl
@[simp] theorem State.setVonu_ctr (n : Nat) (x : Vonu) (i : Nat) : (s.setVonu n x).ctr i = s.ctr i := rfl
@[simp] theorem State.modVch_ctr (n : Nat) (c : Chan) (f : VCh → VCh) (i : Nat) : (s.modVch n c f).ctr i = s.ctr i := rfl
@[simp] theorem State.setAlloc_ctr (i : Nat) (a : Option AllocE) (j : Nat) : (s.setAlloc i a).ctr j = s.ctr j := rfl
@[simp] theorem State.setSlot_ctr (i : Nat) (x : Slot) (j : Nat) : (s.setSlot i x).ctr j = s.ctr j := rfl
@[simp] theorem State.setHatch_ctr (l : Nat) (x : Hatch) (i : Nat) : (s.setHatch l x).ctr i = s.ctr i := rfl
@[simp] theorem State.setQueue_ctr (q : Nat) (x : Queue) (i : Nat) : (s.setQueue q x).ctr i = s.ctr i := rfl
@[simp] theorem State.setNode_ctr (n : Nat) (x : Option Node) (i : Nat) : (s.setNode n x).ctr i = s.ctr i := rfl
@[simp] theorem State.setMeter_ctr (m : Nat) (x : Option Meter) (i : Nat) : (s.setMeter m x).ctr i = s.ctr i := rfl
@[simp] theorem State.setCbs_ctr (e p : Nat) (x : Option Cbs) (i : Nat) : (s.setCbs e p x).ctr i = s.ctr i := rfl
@[simp] theorem State.setPool_ctr (p : Nat) (x : Pool) (i : Nat) : (s.setPool p x).ctr i = s.ctr i := rfl
@[simp] theorem State.setCell_ctr (p k : Nat) (c : Cell) (i : Nat) : (s.setCell p k c).ctr i = s.ctr i := rfl
@[simp] theorem State.modLink_ctr (f : AlinkSt → AlinkSt) (i : Nat) : (s.modLink f).ctr i = s.ctr i := rfl
@[simp] theorem State.setLane_ctr (n : Nat) (x : Lane) (i : Nat) : (s.setLane n x).ctr i = s.ctr i := rfl
@[simp] theorem State.setPrbs_ctr (n : Nat) (x : Prbs) (i : Nat) : (s.setPrbs n x).ctr i = s.ctr i := rfl
@[simp] theorem State.setCredit_ctr (c : Nat) (x : Credit) (i : Nat) : (s.setCredit c x).ctr i = s.ctr i := rfl
@[simp] theorem State.setEthPort_ctr (e : Nat) (x : EthPort) (i : Nat) : (s.setEthPort e x).ctr i = s.ctr i := rfl
@[simp] theorem State.modEth_ctr (e : Nat) (f : EthPort → EthPort) (i : Nat) : (s.modEth e f).ctr i = s.ctr i := rfl
@[simp] theorem State.setTrib_ctr (k : Nat) (x : Trib) (i : Nat) : (s.setTrib k x).ctr i = s.ctr i := rfl
@[simp] theorem State.modTrib_ctr (k : Nat) (f : Trib → Trib) (i : Nat) : (s.modTrib k f).ctr i = s.ctr i := rfl
@[simp] theorem State.lived_ctr (f : Lifetimes → Lifetimes) (i : Nat) : (s.lived f).ctr i = s.ctr i := rfl
@[simp] theorem State.suspectGroup_ctr (g : Nat) (i : Nat) : (s.suspectGroup g).ctr i = s.ctr i := rfl
@[simp] theorem State.unspoil_ctr (g k : Nat) (i : Nat) : (s.unspoil g k).ctr i = s.ctr i := rfl
@[simp] theorem State.setBank_ctr (b : Bool) (x : Bank) (i : Nat) : (s.setBank b x).ctr i = s.ctr i := rfl

end Sys2Proof.Machine
end

