-- ==== Sys2Proof/Laws/Frame.lean ====
section
/-! SUPPORT. What each shared operation leaves alone: raising an event, the settling of votes and domains, the changes of
state of channels, links and ports. A proof cites these and does not unfold the operation. -/

namespace Sys2Proof.Machine

set_option Elab.async false

variable (s : State)

/-! ### State.loseFor -/

@[simp] theorem State.loseFor_pending (old : EvRec) (t : Transport) : ((s.loseFor old t).1).pending = s.pending := rfl
@[simp] theorem State.loseFor_phase (old : EvRec) (t : Transport) : ((s.loseFor old t).1).phase = s.phase := rfl
@[simp] theorem State.loseFor_legacy (old : EvRec) (t : Transport) : ((s.loseFor old t).1).legacy = s.legacy := rfl
@[simp] theorem State.loseFor_pins (old : EvRec) (t : Transport) : ((s.loseFor old t).1).pins = s.pins := rfl
@[simp] theorem State.loseFor_part (old : EvRec) (t : Transport) : ((s.loseFor old t).1).part = s.part := rfl
@[simp] theorem State.loseFor_fuses (old : EvRec) (t : Transport) : ((s.loseFor old t).1).fuses = s.fuses := rfl
@[simp] theorem State.loseFor_mram (old : EvRec) (t : Transport) : ((s.loseFor old t).1).mram = s.mram := rfl
@[simp] theorem State.loseFor_words (old : EvRec) (t : Transport) : ((s.loseFor old t).1).words = s.words := rfl
@[simp] theorem State.loseFor_counters (old : EvRec) (t : Transport) : ((s.loseFor old t).1).counters = s.counters := rfl
@[simp] theorem State.loseFor_stipple (old : EvRec) (t : Transport) : ((s.loseFor old t).1).stipple = s.stipple := rfl
@[simp] theorem State.loseFor_tick (old : EvRec) (t : Transport) : ((s.loseFor old t).1).tick = s.tick := rfl
@[simp] theorem State.loseFor_cmd (old : EvRec) (t : Transport) : ((s.loseFor old t).1).cmd = s.cmd := rfl
@[simp] theorem State.loseFor_chans (old : EvRec) (t : Transport) : ((s.loseFor old t).1).chans = s.chans := rfl
@[simp] theorem State.loseFor_vonu (old : EvRec) (t : Transport) : ((s.loseFor old t).1).vonu = s.vonu := rfl
@[simp] theorem State.loseFor_burin (old : EvRec) (t : Transport) : ((s.loseFor old t).1).burin = s.burin := rfl
@[simp] theorem State.loseFor_cls (old : EvRec) (t : Transport) : ((s.loseFor old t).1).cls = s.cls := rfl
@[simp] theorem State.loseFor_qs (old : EvRec) (t : Transport) : ((s.loseFor old t).1).qs = s.qs := rfl
@[simp] theorem State.loseFor_bpm (old : EvRec) (t : Transport) : ((s.loseFor old t).1).bpm = s.bpm := rfl
@[simp] theorem State.loseFor_alink (old : EvRec) (t : Transport) : ((s.loseFor old t).1).alink = s.alink := rfl
@[simp] theorem State.loseFor_eth (old : EvRec) (t : Transport) : ((s.loseFor old t).1).eth = s.eth := rfl
@[simp] theorem State.loseFor_time (old : EvRec) (t : Transport) : ((s.loseFor old t).1).time = s.time := rfl
@[simp] theorem State.loseFor_ces (old : EvRec) (t : Transport) : ((s.loseFor old t).1).ces = s.ces := rfl
@[simp] theorem State.loseFor_crypto (old : EvRec) (t : Transport) : ((s.loseFor old t).1).crypto = s.crypto := rfl
@[simp] theorem State.loseFor_fault (old : EvRec) (t : Transport) : ((s.loseFor old t).1).fault = s.fault := rfl
@[simp] theorem State.loseFor_power (old : EvRec) (t : Transport) : ((s.loseFor old t).1).power = s.power := rfl
@[simp] theorem State.loseFor_fw (old : EvRec) (t : Transport) : ((s.loseFor old t).1).fw = s.fw := rfl
@[simp] theorem State.loseFor_leg (old : EvRec) (t : Transport) : ((s.loseFor old t).1).leg = s.leg := rfl
@[simp] theorem State.loseFor_freeCount (old : EvRec) (t : Transport) : ((s.loseFor old t).1).freeCount = s.freeCount := rfl
@[simp] theorem State.loseFor_out (old : EvRec) (t : Transport) : ((s.loseFor old t).1).out = s.out := rfl

/-! ### State.ringRoom -/

@[simp] theorem State.ringRoom_pending : (s.ringRoom.1).pending = s.pending := by
  unfold State.ringRoom; split
  · split <;> rfl
  · rfl
@[simp] theorem State.ringRoom_phase : (s.ringRoom.1).phase = s.phase := by
  unfold State.ringRoom; split
  · split <;> rfl
  · rfl
@[simp] theorem State.ringRoom_legacy : (s.ringRoom.1).legacy = s.legacy := by
  unfold State.ringRoom; split
  · split <;> rfl
  · rfl
@[simp] theorem State.ringRoom_pins : (s.ringRoom.1).pins = s.pins := by
  unfold State.ringRoom; split
  · split <;> rfl
  · rfl
@[simp] theorem State.ringRoom_part : (s.ringRoom.1).part = s.part := by
  unfold State.ringRoom; split
  · split <;> rfl
  · rfl
@[simp] theorem State.ringRoom_fuses : (s.ringRoom.1).fuses = s.fuses := by
  unfold State.ringRoom; split
  · split <;> rfl
  · rfl
@[simp] theorem State.ringRoom_mram : (s.ringRoom.1).mram = s.mram := by
  unfold State.ringRoom; split
  · split <;> rfl
  · rfl
@[simp] theorem State.ringRoom_words : (s.ringRoom.1).words = s.words := by
  unfold State.ringRoom; split
  · split <;> rfl
  · rfl
@[simp] theorem State.ringRoom_counters : (s.ringRoom.1).counters = s.counters := by
  unfold State.ringRoom; split
  · split <;> rfl
  · rfl
@[simp] theorem State.ringRoom_stipple : (s.ringRoom.1).stipple = s.stipple := by
  unfold State.ringRoom; split
  · split <;> rfl
  · rfl
@[simp] theorem State.ringRoom_tick : (s.ringRoom.1).tick = s.tick := by
  unfold State.ringRoom; split
  · split <;> rfl
  · rfl
@[simp] theorem State.ringRoom_cmd : (s.ringRoom.1).cmd = s.cmd := by
  unfold State.ringRoom; split
  · split <;> rfl
  · rfl
@[simp] theorem State.ringRoom_chans : (s.ringRoom.1).chans = s.chans := by
  unfold State.ringRoom; split
  · split <;> rfl
  · rfl
@[simp] theorem State.ringRoom_vonu : (s.ringRoom.1).vonu = s.vonu := by
  unfold State.ringRoom; split
  · split <;> rfl
  · rfl
@[simp] theorem State.ringRoom_burin : (s.ringRoom.1).burin = s.burin := by
  unfold State.ringRoom; split
  · split <;> rfl
  · rfl
@[simp] theorem State.ringRoom_cls : (s.ringRoom.1).cls = s.cls := by
  unfold State.ringRoom; split
  · split <;> rfl
  · rfl
@[simp] theorem State.ringRoom_qs : (s.ringRoom.1).qs = s.qs := by
  unfold State.ringRoom; split
  · split <;> rfl
  · rfl
@[simp] theorem State.ringRoom_bpm : (s.ringRoom.1).bpm = s.bpm := by
  unfold State.ringRoom; split
  · split <;> rfl
  · rfl
@[simp] theorem State.ringRoom_alink : (s.ringRoom.1).alink = s.alink := by
  unfold State.ringRoom; split
  · split <;> rfl
  · rfl
@[simp] theorem State.ringRoom_eth : (s.ringRoom.1).eth = s.eth := by
  unfold State.ringRoom; split
  · split <;> rfl
  · rfl
@[simp] theorem State.ringRoom_time : (s.ringRoom.1).time = s.time := by
  unfold State.ringRoom; split
  · split <;> rfl
  · rfl
@[simp] theorem State.ringRoom_ces : (s.ringRoom.1).ces = s.ces := by
  unfold State.ringRoom; split
  · split <;> rfl
  · rfl
@[simp] theorem State.ringRoom_crypto : (s.ringRoom.1).crypto = s.crypto := by
  unfold State.ringRoom; split
  · split <;> rfl
  · rfl
@[simp] theorem State.ringRoom_fault : (s.ringRoom.1).fault = s.fault := by
  unfold State.ringRoom; split
  · split <;> rfl
  · rfl
@[simp] theorem State.ringRoom_power : (s.ringRoom.1).power = s.power := by
  unfold State.ringRoom; split
  · split <;> rfl
  · rfl
@[simp] theorem State.ringRoom_fw : (s.ringRoom.1).fw = s.fw := by
  unfold State.ringRoom; split
  · split <;> rfl
  · rfl
@[simp] theorem State.ringRoom_leg : (s.ringRoom.1).leg = s.leg := by
  unfold State.ringRoom; split
  · split <;> rfl
  · rfl
@[simp] theorem State.ringRoom_freeCount : (s.ringRoom.1).freeCount = s.freeCount := by
  unfold State.ringRoom; split
  · split <;> rfl
  · rfl
@[simp] theorem State.ringRoom_out : (s.ringRoom.1).out = s.out := by
  unfold State.ringRoom; split
  · split <;> rfl
  · rfl

/-! ### State.record -/

@[simp] theorem State.record_pending (code p : Nat) : ((s.record code p).1).pending = s.pending := by
  simp [State.record]
@[simp] theorem State.record_phase (code p : Nat) : ((s.record code p).1).phase = s.phase := by
  simp [State.record]
@[simp] theorem State.record_legacy (code p : Nat) : ((s.record code p).1).legacy = s.legacy := by
  simp [State.record]
@[simp] theorem State.record_pins (code p : Nat) : ((s.record code p).1).pins = s.pins := by
  simp [State.record]
@[simp] theorem State.record_part (code p : Nat) : ((s.record code p).1).part = s.part := by
  simp [State.record]
@[simp] theorem State.record_fuses (code p : Nat) : ((s.record code p).1).fuses = s.fuses := by
  simp [State.record]
@[simp] theorem State.record_mram (code p : Nat) : ((s.record code p).1).mram = s.mram := by
  simp [State.record]
@[simp] theorem State.record_words (code p : Nat) : ((s.record code p).1).words = s.words := by
  simp [State.record]
@[simp] theorem State.record_counters (code p : Nat) : ((s.record code p).1).counters = s.counters := by
  simp [State.record]
@[simp] theorem State.record_stipple (code p : Nat) : ((s.record code p).1).stipple = s.stipple := by
  simp [State.record]
@[simp] theorem State.record_tick (code p : Nat) : ((s.record code p).1).tick = s.tick := by
  simp [State.record]
@[simp] theorem State.record_cmd (code p : Nat) : ((s.record code p).1).cmd = s.cmd := by
  simp [State.record]
@[simp] theorem State.record_chans (code p : Nat) : ((s.record code p).1).chans = s.chans := by
  simp [State.record]
@[simp] theorem State.record_vonu (code p : Nat) : ((s.record code p).1).vonu = s.vonu := by
  simp [State.record]
@[simp] theorem State.record_burin (code p : Nat) : ((s.record code p).1).burin = s.burin := by
  simp [State.record]
@[simp] theorem State.record_cls (code p : Nat) : ((s.record code p).1).cls = s.cls := by
  simp [State.record]
@[simp] theorem State.record_qs (code p : Nat) : ((s.record code p).1).qs = s.qs := by
  simp [State.record]
@[simp] theorem State.record_bpm (code p : Nat) : ((s.record code p).1).bpm = s.bpm := by
  simp [State.record]
@[simp] theorem State.record_alink (code p : Nat) : ((s.record code p).1).alink = s.alink := by
  simp [State.record]
@[simp] theorem State.record_eth (code p : Nat) : ((s.record code p).1).eth = s.eth := by
  simp [State.record]
@[simp] theorem State.record_time (code p : Nat) : ((s.record code p).1).time = s.time := by
  simp [State.record]
@[simp] theorem State.record_ces (code p : Nat) : ((s.record code p).1).ces = s.ces := by
  simp [State.record]
@[simp] theorem State.record_crypto (code p : Nat) : ((s.record code p).1).crypto = s.crypto := by
  simp [State.record]
@[simp] theorem State.record_fault (code p : Nat) : ((s.record code p).1).fault = s.fault := by
  simp [State.record]
@[simp] theorem State.record_power (code p : Nat) : ((s.record code p).1).power = s.power := by
  simp [State.record]
@[simp] theorem State.record_fw (code p : Nat) : ((s.record code p).1).fw = s.fw := by
  simp [State.record]
@[simp] theorem State.record_leg (code p : Nat) : ((s.record code p).1).leg = s.leg := by
  simp [State.record]
@[simp] theorem State.record_out (code p : Nat) : ((s.record code p).1).out = s.out := by
  simp [State.record]

/-! ### reportLost -/

@[simp] theorem reportLost_pending (n : Nat) (l : List (Transport × BitVec 32)) : (reportLost n l s).pending = s.pending := by
  induction n generalizing l s with
  | zero => cases l <;> rfl
  | succ n ih => cases l with
    | nil => rfl
    | cons a r => simp [reportLost, ih]
@[simp] theorem reportLost_phase (n : Nat) (l : List (Transport × BitVec 32)) : (reportLost n l s).phase = s.phase := by
  induction n generalizing l s with
  | zero => cases l <;> rfl
  | succ n ih => cases l with
    | nil => rfl
    | cons a r => simp [reportLost, ih]
@[simp] theorem reportLost_legacy (n : Nat) (l : List (Transport × BitVec 32)) : (reportLost n l s).legacy = s.legacy := by
  induction n generalizing l s with
  | zero => cases l <;> rfl
  | succ n ih => cases l with
    | nil => rfl
    | cons a r => simp [reportLost, ih]
@[simp] theorem reportLost_pins (n : Nat) (l : List (Transport × BitVec 32)) : (reportLost n l s).pins = s.pins := by
  induction n generalizing l s with
  | zero => cases l <;> rfl
  | succ n ih => cases l with
    | nil => rfl
    | cons a r => simp [reportLost, ih]
@[simp] theorem reportLost_part (n : Nat) (l : List (Transport × BitVec 32)) : (reportLost n l s).part = s.part := by
  induction n generalizing l s with
  | zero => cases l <;> rfl
  | succ n ih => cases l with
    | nil => rfl
    | cons a r => simp [reportLost, ih]
@[simp] theorem reportLost_fuses (n : Nat) (l : List (Transport × BitVec 32)) : (reportLost n l s).fuses = s.fuses := by
  induction n generalizing l s with
  | zero => cases l <;> rfl
  | succ n ih => cases l with
    | nil => rfl
    | cons a r => simp [reportLost, ih]
@[simp] theorem reportLost_mram (n : Nat) (l : List (Transport × BitVec 32)) : (reportLost n l s).mram = s.mram := by
  induction n generalizing l s with
  | zero => cases l <;> rfl
  | succ n ih => cases l with
    | nil => rfl
    | cons a r => simp [reportLost, ih]
@[simp] theorem reportLost_words (n : Nat) (l : List (Transport × BitVec 32)) : (reportLost n l s).words = s.words := by
  induction n generalizing l s with
  | zero => cases l <;> rfl
  | succ n ih => cases l with
    | nil => rfl
    | cons a r => simp [reportLost, ih]
@[simp] theorem reportLost_counters (n : Nat) (l : List (Transport × BitVec 32)) : (reportLost n l s).counters = s.counters := by
  induction n generalizing l s with
  | zero => cases l <;> rfl
  | succ n ih => cases l with
    | nil => rfl
    | cons a r => simp [reportLost, ih]
@[simp] theorem reportLost_stipple (n : Nat) (l : List (Transport × BitVec 32)) : (reportLost n l s).stipple = s.stipple := by
  induction n generalizing l s with
  | zero => cases l <;> rfl
  | succ n ih => cases l with
    | nil => rfl
    | cons a r => simp [reportLost, ih]
@[simp] theorem reportLost_tick (n : Nat) (l : List (Transport × BitVec 32)) : (reportLost n l s).tick = s.tick := by
  induction n generalizing l s with
  | zero => cases l <;> rfl
  | succ n ih => cases l with
    | nil => rfl
    | cons a r => simp [reportLost, ih]
@[simp] theorem reportLost_cmd (n : Nat) (l : List (Transport × BitVec 32)) : (reportLost n l s).cmd = s.cmd := by
  induction n generalizing l s with
  | zero => cases l <;> rfl
  | succ n ih => cases l with
    | nil => rfl
    | cons a r => simp [reportLost, ih]
@[simp] theorem reportLost_chans (n : Nat) (l : List (Transport × BitVec 32)) : (reportLost n l s).chans = s.chans := by
  induction n generalizing l s with
  | zero => cases l <;> rfl
  | succ n ih => cases l with
    | nil => rfl
    | cons a r => simp [reportLost, ih]
@[simp] theorem reportLost_vonu (n : Nat) (l : List (Transport × BitVec 32)) : (reportLost n l s).vonu = s.vonu := by
  induction n generalizing l s with
  | zero => cases l <;> rfl
  | succ n ih => cases l with
    | nil => rfl
    | cons a r => simp [reportLost, ih]
@[simp] theorem reportLost_burin (n : Nat) (l : List (Transport × BitVec 32)) : (reportLost n l s).burin = s.burin := by
  induction n generalizing l s with
  | zero => cases l <;> rfl
  | succ n ih => cases l with
    | nil => rfl
    | cons a r => simp [reportLost, ih]
@[simp] theorem reportLost_cls (n : Nat) (l : List (Transport × BitVec 32)) : (reportLost n l s).cls = s.cls := by
  induction n generalizing l s with
  | zero => cases l <;> rfl
  | succ n ih => cases l with
    | nil => rfl
    | cons a r => simp [reportLost, ih]
@[simp] theorem reportLost_qs (n : Nat) (l : List (Transport × BitVec 32)) : (reportLost n l s).qs = s.qs := by
  induction n generalizing l s with
  | zero => cases l <;> rfl
  | succ n ih => cases l with
    | nil => rfl
    | cons a r => simp [reportLost, ih]
@[simp] theorem reportLost_bpm (n : Nat) (l : List (Transport × BitVec 32)) : (reportLost n l s).bpm = s.bpm := by
  induction n generalizing l s with
  | zero => cases l <;> rfl
  | succ n ih => cases l with
    | nil => rfl
    | cons a r => simp [reportLost, ih]
@[simp] theorem reportLost_alink (n : Nat) (l : List (Transport × BitVec 32)) : (reportLost n l s).alink = s.alink := by
  induction n generalizing l s with
  | zero => cases l <;> rfl
  | succ n ih => cases l with
    | nil => rfl
    | cons a r => simp [reportLost, ih]
@[simp] theorem reportLost_eth (n : Nat) (l : List (Transport × BitVec 32)) : (reportLost n l s).eth = s.eth := by
  induction n generalizing l s with
  | zero => cases l <;> rfl
  | succ n ih => cases l with
    | nil => rfl
    | cons a r => simp [reportLost, ih]
@[simp] theorem reportLost_time (n : Nat) (l : List (Transport × BitVec 32)) : (reportLost n l s).time = s.time := by
  induction n generalizing l s with
  | zero => cases l <;> rfl
  | succ n ih => cases l with
    | nil => rfl
    | cons a r => simp [reportLost, ih]
@[simp] theorem reportLost_ces (n : Nat) (l : List (Transport × BitVec 32)) : (reportLost n l s).ces = s.ces := by
  induction n generalizing l s with
  | zero => cases l <;> rfl
  | succ n ih => cases l with
    | nil => rfl
    | cons a r => simp [reportLost, ih]
@[simp] theorem reportLost_crypto (n : Nat) (l : List (Transport × BitVec 32)) : (reportLost n l s).crypto = s.crypto := by
  induction n generalizing l s with
  | zero => cases l <;> rfl
  | succ n ih => cases l with
    | nil => rfl
    | cons a r => simp [reportLost, ih]
@[simp] theorem reportLost_fault (n : Nat) (l : List (Transport × BitVec 32)) : (reportLost n l s).fault = s.fault := by
  induction n generalizing l s with
  | zero => cases l <;> rfl
  | succ n ih => cases l with
    | nil => rfl
    | cons a r => simp [reportLost, ih]
@[simp] theorem reportLost_power (n : Nat) (l : List (Transport × BitVec 32)) : (reportLost n l s).power = s.power := by
  induction n generalizing l s with
  | zero => cases l <;> rfl
  | succ n ih => cases l with
    | nil => rfl
    | cons a r => simp [reportLost, ih]
@[simp] theorem reportLost_fw (n : Nat) (l : List (Transport × BitVec 32)) : (reportLost n l s).fw = s.fw := by
  induction n generalizing l s with
  | zero => cases l <;> rfl
  | succ n ih => cases l with
    | nil => rfl
    | cons a r => simp [reportLost, ih]
@[simp] theorem reportLost_leg (n : Nat) (l : List (Transport × BitVec 32)) : (reportLost n l s).leg = s.leg := by
  induction n generalizing l s with
  | zero => cases l <;> rfl
  | succ n ih => cases l with
    | nil => rfl
    | cons a r => simp [reportLost, ih]
@[simp] theorem reportLost_out (n : Nat) (l : List (Transport × BitVec 32)) : (reportLost n l s).out = s.out := by
  induction n generalizing l s with
  | zero => cases l <;> rfl
  | succ n ih => cases l with
    | nil => rfl
    | cons a r => simp [reportLost, ih]

/-! ### State.ringWrite -/

@[simp] theorem State.ringWrite_pending (code p : Nat) : (s.ringWrite code p).pending = s.pending := by
  unfold State.ringWrite; split <;> simp
@[simp] theorem State.ringWrite_phase (code p : Nat) : (s.ringWrite code p).phase = s.phase := by
  unfold State.ringWrite; split <;> simp
@[simp] theorem State.ringWrite_legacy (code p : Nat) : (s.ringWrite code p).legacy = s.legacy := by
  unfold State.ringWrite; split <;> simp
@[simp] theorem State.ringWrite_pins (code p : Nat) : (s.ringWrite code p).pins = s.pins := by
  unfold State.ringWrite; split <;> simp
@[simp] theorem State.ringWrite_part (code p : Nat) : (s.ringWrite code p).part = s.part := by
  unfold State.ringWrite; split <;> simp
@[simp] theorem State.ringWrite_fuses (code p : Nat) : (s.ringWrite code p).fuses = s.fuses := by
  unfold State.ringWrite; split <;> simp
@[simp] theorem State.ringWrite_mram (code p : Nat) : (s.ringWrite code p).mram = s.mram := by
  unfold State.ringWrite; split <;> simp
@[simp] theorem State.ringWrite_words (code p : Nat) : (s.ringWrite code p).words = s.words := by
  unfold State.ringWrite; split <;> simp
@[simp] theorem State.ringWrite_counters (code p : Nat) : (s.ringWrite code p).counters = s.counters := by
  unfold State.ringWrite; split <;> simp
@[simp] theorem State.ringWrite_stipple (code p : Nat) : (s.ringWrite code p).stipple = s.stipple := by
  unfold State.ringWrite; split <;> simp
@[simp] theorem State.ringWrite_tick (code p : Nat) : (s.ringWrite code p).tick = s.tick := by
  unfold State.ringWrite; split <;> simp
@[simp] theorem State.ringWrite_cmd (code p : Nat) : (s.ringWrite code p).cmd = s.cmd := by
  unfold State.ringWrite; split <;> simp
@[simp] theorem State.ringWrite_chans (code p : Nat) : (s.ringWrite code p).chans = s.chans := by
  unfold State.ringWrite; split <;> simp
@[simp] theorem State.ringWrite_vonu (code p : Nat) : (s.ringWrite code p).vonu = s.vonu := by
  unfold State.ringWrite; split <;> simp
@[simp] theorem State.ringWrite_burin (code p : Nat) : (s.ringWrite code p).burin = s.burin := by
  unfold State.ringWrite; split <;> simp
@[simp] theorem State.ringWrite_cls (code p : Nat) : (s.ringWrite code p).cls = s.cls := by
  unfold State.ringWrite; split <;> simp
@[simp] theorem State.ringWrite_qs (code p : Nat) : (s.ringWrite code p).qs = s.qs := by
  unfold State.ringWrite; split <;> simp
@[simp] theorem State.ringWrite_bpm (code p : Nat) : (s.ringWrite code p).bpm = s.bpm := by
  unfold State.ringWrite; split <;> simp
@[simp] theorem State.ringWrite_alink (code p : Nat) : (s.ringWrite code p).alink = s.alink := by
  unfold State.ringWrite; split <;> simp
@[simp] theorem State.ringWrite_eth (code p : Nat) : (s.ringWrite code p).eth = s.eth := by
  unfold State.ringWrite; split <;> simp
@[simp] theorem State.ringWrite_time (code p : Nat) : (s.ringWrite code p).time = s.time := by
  unfold State.ringWrite; split <;> simp
@[simp] theorem State.ringWrite_ces (code p : Nat) : (s.ringWrite code p).ces = s.ces := by
  unfold State.ringWrite; split <;> simp
@[simp] theorem State.ringWrite_crypto (code p : Nat) : (s.ringWrite code p).crypto = s.crypto := by
  unfold State.ringWrite; split <;> simp
@[simp] theorem State.ringWrite_fault (code p : Nat) : (s.ringWrite code p).fault = s.fault := by
  unfold State.ringWrite; split <;> simp
@[simp] theorem State.ringWrite_power (code p : Nat) : (s.ringWrite code p).power = s.power := by
  unfold State.ringWrite; split <;> simp
@[simp] theorem State.ringWrite_fw (code p : Nat) : (s.ringWrite code p).fw = s.fw := by
  unfold State.ringWrite; split <;> simp
@[simp] theorem State.ringWrite_leg (code p : Nat) : (s.ringWrite code p).leg = s.leg := by
  unfold State.ringWrite; split <;> simp
@[simp] theorem State.ringWrite_out (code p : Nat) : (s.ringWrite code p).out = s.out := by
  unfold State.ringWrite; split <;> simp

/-! ### State.mramWrite -/

@[simp] theorem State.mramWrite_pending (r p : Nat) : (s.mramWrite r p).pending = s.pending := by
  unfold State.mramWrite; split
  · rfl
  · dsimp only; split <;> simp
@[simp] theorem State.mramWrite_phase (r p : Nat) : (s.mramWrite r p).phase = s.phase := by
  unfold State.mramWrite; split
  · rfl
  · dsimp only; split <;> simp
@[simp] theorem State.mramWrite_legacy (r p : Nat) : (s.mramWrite r p).legacy = s.legacy := by
  unfold State.mramWrite; split
  · rfl
  · dsimp only; split <;> simp
@[simp] theorem State.mramWrite_pins (r p : Nat) : (s.mramWrite r p).pins = s.pins := by
  unfold State.mramWrite; split
  · rfl
  · dsimp only; split <;> simp
@[simp] theorem State.mramWrite_part (r p : Nat) : (s.mramWrite r p).part = s.part := by
  unfold State.mramWrite; split
  · rfl
  · dsimp only; split <;> simp
@[simp] theorem State.mramWrite_fuses (r p : Nat) : (s.mramWrite r p).fuses = s.fuses := by
  unfold State.mramWrite; split
  · rfl
  · dsimp only; split <;> simp
@[simp] theorem State.mramWrite_words (r p : Nat) : (s.mramWrite r p).words = s.words := by
  unfold State.mramWrite; split
  · rfl
  · dsimp only; split <;> simp
@[simp] theorem State.mramWrite_counters (r p : Nat) : (s.mramWrite r p).counters = s.counters := by
  unfold State.mramWrite; split
  · rfl
  · dsimp only; split <;> simp
@[simp] theorem State.mramWrite_stipple (r p : Nat) : (s.mramWrite r p).stipple = s.stipple := by
  unfold State.mramWrite; split
  · rfl
  · dsimp only; split <;> simp
@[simp] theorem State.mramWrite_tick (r p : Nat) : (s.mramWrite r p).tick = s.tick := by
  unfold State.mramWrite; split
  · rfl
  · dsimp only; split <;> simp
@[simp] theorem State.mramWrite_cmd (r p : Nat) : (s.mramWrite r p).cmd = s.cmd := by
  unfold State.mramWrite; split
  · rfl
  · dsimp only; split <;> simp
@[simp] theorem State.mramWrite_chans (r p : Nat) : (s.mramWrite r p).chans = s.chans := by
  unfold State.mramWrite; split
  · rfl
  · dsimp only; split <;> simp
@[simp] theorem State.mramWrite_vonu (r p : Nat) : (s.mramWrite r p).vonu = s.vonu := by
  unfold State.mramWrite; split
  · rfl
  · dsimp only; split <;> simp
@[simp] theorem State.mramWrite_burin (r p : Nat) : (s.mramWrite r p).burin = s.burin := by
  unfold State.mramWrite; split
  · rfl
  · dsimp only; split <;> simp
@[simp] theorem State.mramWrite_cls (r p : Nat) : (s.mramWrite r p).cls = s.cls := by
  unfold State.mramWrite; split
  · rfl
  · dsimp only; split <;> simp
@[simp] theorem State.mramWrite_qs (r p : Nat) : (s.mramWrite r p).qs = s.qs := by
  unfold State.mramWrite; split
  · rfl
  · dsimp only; split <;> simp
@[simp] theorem State.mramWrite_bpm (r p : Nat) : (s.mramWrite r p).bpm = s.bpm := by
  unfold State.mramWrite; split
  · rfl
  · dsimp only; split <;> simp
@[simp] theorem State.mramWrite_alink (r p : Nat) : (s.mramWrite r p).alink = s.alink := by
  unfold State.mramWrite; split
  · rfl
  · dsimp only; split <;> simp
@[simp] theorem State.mramWrite_eth (r p : Nat) : (s.mramWrite r p).eth = s.eth := by
  unfold State.mramWrite; split
  · rfl
  · dsimp only; split <;> simp
@[simp] theorem State.mramWrite_time (r p : Nat) : (s.mramWrite r p).time = s.time := by
  unfold State.mramWrite; split
  · rfl
  · dsimp only; split <;> simp
@[simp] theorem State.mramWrite_ces (r p : Nat) : (s.mramWrite r p).ces = s.ces := by
  unfold State.mramWrite; split
  · rfl
  · dsimp only; split <;> simp
@[simp] theorem State.mramWrite_crypto (r p : Nat) : (s.mramWrite r p).crypto = s.crypto := by
  unfold State.mramWrite; split
  · rfl
  · dsimp only; split <;> simp
@[simp] theorem State.mramWrite_fault (r p : Nat) : (s.mramWrite r p).fault = s.fault := by
  unfold State.mramWrite; split
  · rfl
  · dsimp only; split <;> simp
@[simp] theorem State.mramWrite_power (r p : Nat) : (s.mramWrite r p).power = s.power := by
  unfold State.mramWrite; split
  · rfl
  · dsimp only; split <;> simp
@[simp] theorem State.mramWrite_fw (r p : Nat) : (s.mramWrite r p).fw = s.fw := by
  unfold State.mramWrite; split
  · rfl
  · dsimp only; split <;> simp
@[simp] theorem State.mramWrite_leg (r p : Nat) : (s.mramWrite r p).leg = s.leg := by
  unfold State.mramWrite; split
  · rfl
  · dsimp only; split <;> simp
@[simp] theorem State.mramWrite_out (r p : Nat) : (s.mramWrite r p).out = s.out := by
  unfold State.mramWrite; split
  · rfl
  · dsimp only; split <;> simp

/-! ### State.logAppend -/

@[simp] theorem State.logAppend_pending (r : LogRec) : (s.logAppend r).pending = s.pending := by
  simp [State.logAppend]
@[simp] theorem State.logAppend_phase (r : LogRec) : (s.logAppend r).phase = s.phase := by
  simp [State.logAppend]
@[simp] theorem State.logAppend_legacy (r : LogRec) : (s.logAppend r).legacy = s.legacy := by
  simp [State.logAppend]
@[simp] theorem State.logAppend_pins (r : LogRec) : (s.logAppend r).pins = s.pins := by
  simp [State.logAppend]
@[simp] theorem State.logAppend_part (r : LogRec) : (s.logAppend r).part = s.part := by
  simp [State.logAppend]
@[simp] theorem State.logAppend_fuses (r : LogRec) : (s.logAppend r).fuses = s.fuses := by
  simp [State.logAppend]
@[simp] theorem State.logAppend_words (r : LogRec) : (s.logAppend r).words = s.words := by
  simp [State.logAppend]
@[simp] theorem State.logAppend_counters (r : LogRec) : (s.logAppend r).counters = s.counters := by
  simp [State.logAppend]
@[simp] theorem State.logAppend_stipple (r : LogRec) : (s.logAppend r).stipple = s.stipple := by
  simp [State.logAppend]
@[simp] theorem State.logAppend_tick (r : LogRec) : (s.logAppend r).tick = s.tick := by
  simp [State.logAppend]
@[simp] theorem State.logAppend_cmd (r : LogRec) : (s.logAppend r).cmd = s.cmd := by
  simp [State.logAppend]
@[simp] theorem State.logAppend_chans (r : LogRec) : (s.logAppend r).chans = s.chans := by
  simp [State.logAppend]
@[simp] theorem State.logAppend_vonu (r : LogRec) : (s.logAppend r).vonu = s.vonu := by
  simp [State.logAppend]
@[simp] theorem State.logAppend_burin (r : LogRec) : (s.logAppend r).burin = s.burin := by
  simp [State.logAppend]
@[simp] theorem State.logAppend_cls (r : LogRec) : (s.logAppend r).cls = s.cls := by
  simp [State.logAppend]
@[simp] theorem State.logAppend_qs (r : LogRec) : (s.logAppend r).qs = s.qs := by
  simp [State.logAppend]
@[simp] theorem State.logAppend_bpm (r : LogRec) : (s.logAppend r).bpm = s.bpm := by
  simp [State.logAppend]
@[simp] theorem State.logAppend_alink (r : LogRec) : (s.logAppend r).alink = s.alink := by
  simp [State.logAppend]
@[simp] theorem State.logAppend_eth (r : LogRec) : (s.logAppend r).eth = s.eth := by
  simp [State.logAppend]
@[simp] theorem State.logAppend_time (r : LogRec) : (s.logAppend r).time = s.time := by
  simp [State.logAppend]
@[simp] theorem State.logAppend_ces (r : LogRec) : (s.logAppend r).ces = s.ces := by
  simp [State.logAppend]
@[simp] theorem State.logAppend_crypto (r : LogRec) : (s.logAppend r).crypto = s.crypto := by
  simp [State.logAppend]
@[simp] theorem State.logAppend_fault (r : LogRec) : (s.logAppend r).fault = s.fault := by
  simp [State.logAppend]
@[simp] theorem State.logAppend_power (r : LogRec) : (s.logAppend r).power = s.power := by
  simp [State.logAppend]
@[simp] theorem State.logAppend_fw (r : LogRec) : (s.logAppend r).fw = s.fw := by
  simp [State.logAppend]
@[simp] theorem State.logAppend_leg (r : LogRec) : (s.logAppend r).leg = s.leg := by
  simp [State.logAppend]
@[simp] theorem State.logAppend_out (r : LogRec) : (s.logAppend r).out = s.out := by
  simp [State.logAppend]

/-! ### State.logWrite -/

@[simp] theorem State.logWrite_pending (r : EvRec) : (s.logWrite r).pending = s.pending := by
  unfold State.logWrite; (repeat' split) <;> simp
@[simp] theorem State.logWrite_phase (r : EvRec) : (s.logWrite r).phase = s.phase := by
  unfold State.logWrite; (repeat' split) <;> simp
@[simp] theorem State.logWrite_legacy (r : EvRec) : (s.logWrite r).legacy = s.legacy := by
  unfold State.logWrite; (repeat' split) <;> simp
@[simp] theorem State.logWrite_pins (r : EvRec) : (s.logWrite r).pins = s.pins := by
  unfold State.logWrite; (repeat' split) <;> simp
@[simp] theorem State.logWrite_part (r : EvRec) : (s.logWrite r).part = s.part := by
  unfold State.logWrite; (repeat' split) <;> simp
@[simp] theorem State.logWrite_fuses (r : EvRec) : (s.logWrite r).fuses = s.fuses := by
  unfold State.logWrite; (repeat' split) <;> simp
@[simp] theorem State.logWrite_words (r : EvRec) : (s.logWrite r).words = s.words := by
  unfold State.logWrite; (repeat' split) <;> simp
@[simp] theorem State.logWrite_stipple (r : EvRec) : (s.logWrite r).stipple = s.stipple := by
  unfold State.logWrite; (repeat' split) <;> simp
@[simp] theorem State.logWrite_tick (r : EvRec) : (s.logWrite r).tick = s.tick := by
  unfold State.logWrite; (repeat' split) <;> simp
@[simp] theorem State.logWrite_cmd (r : EvRec) : (s.logWrite r).cmd = s.cmd := by
  unfold State.logWrite; (repeat' split) <;> simp
@[simp] theorem State.logWrite_chans (r : EvRec) : (s.logWrite r).chans = s.chans := by
  unfold State.logWrite; (repeat' split) <;> simp
@[simp] theorem State.logWrite_vonu (r : EvRec) : (s.logWrite r).vonu = s.vonu := by
  unfold State.logWrite; (repeat' split) <;> simp
@[simp] theorem State.logWrite_burin (r : EvRec) : (s.logWrite r).burin = s.burin := by
  unfold State.logWrite; (repeat' split) <;> simp
@[simp] theorem State.logWrite_cls (r : EvRec) : (s.logWrite r).cls = s.cls := by
  unfold State.logWrite; (repeat' split) <;> simp
@[simp] theorem State.logWrite_qs (r : EvRec) : (s.logWrite r).qs = s.qs := by
  unfold State.logWrite; (repeat' split) <;> simp
@[simp] theorem State.logWrite_bpm (r : EvRec) : (s.logWrite r).bpm = s.bpm := by
  unfold State.logWrite; (repeat' split) <;> simp
@[simp] theorem State.logWrite_alink (r : EvRec) : (s.logWrite r).alink = s.alink := by
  unfold State.logWrite; (repeat' split) <;> simp
@[simp] theorem State.logWrite_eth (r : EvRec) : (s.logWrite r).eth = s.eth := by
  unfold State.logWrite; (repeat' split) <;> simp
@[simp] theorem State.logWrite_time (r : EvRec) : (s.logWrite r).time = s.time := by
  unfold State.logWrite; (repeat' split) <;> simp
@[simp] theorem State.logWrite_ces (r : EvRec) : (s.logWrite r).ces = s.ces := by
  unfold State.logWrite; (repeat' split) <;> simp
@[simp] theorem State.logWrite_crypto (r : EvRec) : (s.logWrite r).crypto = s.crypto := by
  unfold State.logWrite; (repeat' split) <;> simp
@[simp] theorem State.logWrite_fault (r : EvRec) : (s.logWrite r).fault = s.fault := by
  unfold State.logWrite; (repeat' split) <;> simp
@[simp] theorem State.logWrite_power (r : EvRec) : (s.logWrite r).power = s.power := by
  unfold State.logWrite; (repeat' split) <;> simp
@[simp] theorem State.logWrite_fw (r : EvRec) : (s.logWrite r).fw = s.fw := by
  unfold State.logWrite; (repeat' split) <;> simp
@[simp] theorem State.logWrite_leg (r : EvRec) : (s.logWrite r).leg = s.leg := by
  unfold State.logWrite; (repeat' split) <;> simp
@[simp] theorem State.logWrite_out (r : EvRec) : (s.logWrite r).out = s.out := by
  unfold State.logWrite; (repeat' split) <;> simp

/-! ### State.lifeSlot -/

@[simp] theorem State.lifeSlot_pending : (s.lifeSlot).pending = s.pending := by
  unfold State.lifeSlot; (repeat' split) <;> simp
@[simp] theorem State.lifeSlot_phase : (s.lifeSlot).phase = s.phase := by
  unfold State.lifeSlot; (repeat' split) <;> simp
@[simp] theorem State.lifeSlot_legacy : (s.lifeSlot).legacy = s.legacy := by
  unfold State.lifeSlot; (repeat' split) <;> simp
@[simp] theorem State.lifeSlot_pins : (s.lifeSlot).pins = s.pins := by
  unfold State.lifeSlot; (repeat' split) <;> simp
@[simp] theorem State.lifeSlot_part : (s.lifeSlot).part = s.part := by
  unfold State.lifeSlot; (repeat' split) <;> simp
@[simp] theorem State.lifeSlot_fuses : (s.lifeSlot).fuses = s.fuses := by
  unfold State.lifeSlot; (repeat' split) <;> simp
@[simp] theorem State.lifeSlot_words : (s.lifeSlot).words = s.words := by
  unfold State.lifeSlot; (repeat' split) <;> simp
@[simp] theorem State.lifeSlot_counters : (s.lifeSlot).counters = s.counters := by
  unfold State.lifeSlot; (repeat' split) <;> simp
@[simp] theorem State.lifeSlot_stipple : (s.lifeSlot).stipple = s.stipple := by
  unfold State.lifeSlot; (repeat' split) <;> simp
@[simp] theorem State.lifeSlot_tick : (s.lifeSlot).tick = s.tick := by
  unfold State.lifeSlot; (repeat' split) <;> simp
@[simp] theorem State.lifeSlot_cmd : (s.lifeSlot).cmd = s.cmd := by
  unfold State.lifeSlot; (repeat' split) <;> simp
@[simp] theorem State.lifeSlot_chans : (s.lifeSlot).chans = s.chans := by
  unfold State.lifeSlot; (repeat' split) <;> simp
@[simp] theorem State.lifeSlot_vonu : (s.lifeSlot).vonu = s.vonu := by
  unfold State.lifeSlot; (repeat' split) <;> simp
@[simp] theorem State.lifeSlot_burin : (s.lifeSlot).burin = s.burin := by
  unfold State.lifeSlot; (repeat' split) <;> simp
@[simp] theorem State.lifeSlot_cls : (s.lifeSlot).cls = s.cls := by
  unfold State.lifeSlot; (repeat' split) <;> simp
@[simp] theorem State.lifeSlot_qs : (s.lifeSlot).qs = s.qs := by
  unfold State.lifeSlot; (repeat' split) <;> simp
@[simp] theorem State.lifeSlot_bpm : (s.lifeSlot).bpm = s.bpm := by
  unfold State.lifeSlot; (repeat' split) <;> simp
@[simp] theorem State.lifeSlot_alink : (s.lifeSlot).alink = s.alink := by
  unfold State.lifeSlot; (repeat' split) <;> simp
@[simp] theorem State.lifeSlot_eth : (s.lifeSlot).eth = s.eth := by
  unfold State.lifeSlot; (repeat' split) <;> simp
@[simp] theorem State.lifeSlot_time : (s.lifeSlot).time = s.time := by
  unfold State.lifeSlot; (repeat' split) <;> simp
@[simp] theorem State.lifeSlot_ces : (s.lifeSlot).ces = s.ces := by
  unfold State.lifeSlot; (repeat' split) <;> simp
@[simp] theorem State.lifeSlot_crypto : (s.lifeSlot).crypto = s.crypto := by
  unfold State.lifeSlot; (repeat' split) <;> simp
@[simp] theorem State.lifeSlot_fault : (s.lifeSlot).fault = s.fault := by
  unfold State.lifeSlot; (repeat' split) <;> simp
@[simp] theorem State.lifeSlot_fw : (s.lifeSlot).fw = s.fw := by
  unfold State.lifeSlot; (repeat' split) <;> simp
@[simp] theorem State.lifeSlot_leg : (s.lifeSlot).leg = s.leg := by
  unfold State.lifeSlot; (repeat' split) <;> simp
@[simp] theorem State.lifeSlot_out : (s.lifeSlot).out = s.out := by
  unfold State.lifeSlot; (repeat' split) <;> simp

/-! ### State.noteFault -/

@[simp] theorem State.noteFault_pending (c : Nat) : (s.noteFault c).pending = s.pending := by
  unfold State.noteFault; split <;> rfl
@[simp] theorem State.noteFault_phase (c : Nat) : (s.noteFault c).phase = s.phase := by
  unfold State.noteFault; split <;> rfl
@[simp] theorem State.noteFault_legacy (c : Nat) : (s.noteFault c).legacy = s.legacy := by
  unfold State.noteFault; split <;> rfl
@[simp] theorem State.noteFault_pins (c : Nat) : (s.noteFault c).pins = s.pins := by
  unfold State.noteFault; split <;> rfl
@[simp] theorem State.noteFault_part (c : Nat) : (s.noteFault c).part = s.part := by
  unfold State.noteFault; split <;> rfl
@[simp] theorem State.noteFault_fuses (c : Nat) : (s.noteFault c).fuses = s.fuses := by
  unfold State.noteFault; split <;> rfl
@[simp] theorem State.noteFault_mram (c : Nat) : (s.noteFault c).mram = s.mram := by
  unfold State.noteFault; split <;> rfl
@[simp] theorem State.noteFault_words (c : Nat) : (s.noteFault c).words = s.words := by
  unfold State.noteFault; split <;> rfl
@[simp] theorem State.noteFault_counters (c : Nat) : (s.noteFault c).counters = s.counters := by
  unfold State.noteFault; split <;> rfl
@[simp] theorem State.noteFault_stipple (c : Nat) : (s.noteFault c).stipple = s.stipple := by
  unfold State.noteFault; split <;> rfl
@[simp] theorem State.noteFault_tick (c : Nat) : (s.noteFault c).tick = s.tick := by
  unfold State.noteFault; split <;> rfl
@[simp] theorem State.noteFault_cmd (c : Nat) : (s.noteFault c).cmd = s.cmd := by
  unfold State.noteFault; split <;> rfl
@[simp] theorem State.noteFault_ev (c : Nat) : (s.noteFault c).ev = s.ev := by
  unfold State.noteFault; split <;> rfl
@[simp] theorem State.noteFault_chans (c : Nat) : (s.noteFault c).chans = s.chans := by
  unfold State.noteFault; split <;> rfl
@[simp] theorem State.noteFault_vonu (c : Nat) : (s.noteFault c).vonu = s.vonu := by
  unfold State.noteFault; split <;> rfl
@[simp] theorem State.noteFault_burin (c : Nat) : (s.noteFault c).burin = s.burin := by
  unfold State.noteFault; split <;> rfl
@[simp] theorem State.noteFault_cls (c : Nat) : (s.noteFault c).cls = s.cls := by
  unfold State.noteFault; split <;> rfl
@[simp] theorem State.noteFault_qs (c : Nat) : (s.noteFault c).qs = s.qs := by
  unfold State.noteFault; split <;> rfl
@[simp] theorem State.noteFault_bpm (c : Nat) : (s.noteFault c).bpm = s.bpm := by
  unfold State.noteFault; split <;> rfl
@[simp] theorem State.noteFault_alink (c : Nat) : (s.noteFault c).alink = s.alink := by
  unfold State.noteFault; split <;> rfl
@[simp] theorem State.noteFault_eth (c : Nat) : (s.noteFault c).eth = s.eth := by
  unfold State.noteFault; split <;> rfl
@[simp] theorem State.noteFault_time (c : Nat) : (s.noteFault c).time = s.time := by
  unfold State.noteFault; split <;> rfl
@[simp] theorem State.noteFault_ces (c : Nat) : (s.noteFault c).ces = s.ces := by
  unfold State.noteFault; split <;> rfl
@[simp] theorem State.noteFault_crypto (c : Nat) : (s.noteFault c).crypto = s.crypto := by
  unfold State.noteFault; split <;> rfl
@[simp] theorem State.noteFault_fault (c : Nat) : (s.noteFault c).fault = s.fault := by
  unfold State.noteFault; split <;> rfl
@[simp] theorem State.noteFault_power (c : Nat) : (s.noteFault c).power = s.power := by
  unfold State.noteFault; split <;> rfl
@[simp] theorem State.noteFault_fw (c : Nat) : (s.noteFault c).fw = s.fw := by
  unfold State.noteFault; split <;> rfl
@[simp] theorem State.noteFault_freeCount (c : Nat) : (s.noteFault c).freeCount = s.freeCount := by
  unfold State.noteFault; split <;> rfl
@[simp] theorem State.noteFault_out (c : Nat) : (s.noteFault c).out = s.out := by
  unfold State.noteFault; split <;> rfl

/-! ### State.raise -/

@[simp] theorem State.raise_pending (code p : Nat) : (s.raise code p).pending = s.pending := by
  unfold State.raise; dsimp only; split <;> simp
@[simp] theorem State.raise_phase (code p : Nat) : (s.raise code p).phase = s.phase := by
  unfold State.raise; dsimp only; split <;> simp
@[simp] theorem State.raise_legacy (code p : Nat) : (s.raise code p).legacy = s.legacy := by
  unfold State.raise; dsimp only; split <;> simp
@[simp] theorem State.raise_pins (code p : Nat) : (s.raise code p).pins = s.pins := by
  unfold State.raise; dsimp only; split <;> simp
@[simp] theorem State.raise_part (code p : Nat) : (s.raise code p).part = s.part := by
  unfold State.raise; dsimp only; split <;> simp
@[simp] theorem State.raise_fuses (code p : Nat) : (s.raise code p).fuses = s.fuses := by
  unfold State.raise; dsimp only; split <;> simp
@[simp] theorem State.raise_words (code p : Nat) : (s.raise code p).words = s.words := by
  unfold State.raise; dsimp only; split <;> simp
@[simp] theorem State.raise_stipple (code p : Nat) : (s.raise code p).stipple = s.stipple := by
  unfold State.raise; dsimp only; split <;> simp
@[simp] theorem State.raise_tick (code p : Nat) : (s.raise code p).tick = s.tick := by
  unfold State.raise; dsimp only; split <;> simp
@[simp] theorem State.raise_cmd (code p : Nat) : (s.raise code p).cmd = s.cmd := by
  unfold State.raise; dsimp only; split <;> simp
@[simp] theorem State.raise_chans (code p : Nat) : (s.raise code p).chans = s.chans := by
  unfold State.raise; dsimp only; split <;> simp
@[simp] theorem State.raise_vonu (code p : Nat) : (s.raise code p).vonu = s.vonu := by
  unfold State.raise; dsimp only; split <;> simp
@[simp] theorem State.raise_burin (code p : Nat) : (s.raise code p).burin = s.burin := by
  unfold State.raise; dsimp only; split <;> simp
@[simp] theorem State.raise_cls (code p : Nat) : (s.raise code p).cls = s.cls := by
  unfold State.raise; dsimp only; split <;> simp
@[simp] theorem State.raise_qs (code p : Nat) : (s.raise code p).qs = s.qs := by
  unfold State.raise; dsimp only; split <;> simp
@[simp] theorem State.raise_bpm (code p : Nat) : (s.raise code p).bpm = s.bpm := by
  unfold State.raise; dsimp only; split <;> simp
@[simp] theorem State.raise_alink (code p : Nat) : (s.raise code p).alink = s.alink := by
  unfold State.raise; dsimp only; split <;> simp
@[simp] theorem State.raise_eth (code p : Nat) : (s.raise code p).eth = s.eth := by
  unfold State.raise; dsimp only; split <;> simp
@[simp] theorem State.raise_time (code p : Nat) : (s.raise code p).time = s.time := by
  unfold State.raise; dsimp only; split <;> simp
@[simp] theorem State.raise_ces (code p : Nat) : (s.raise code p).ces = s.ces := by
  unfold State.raise; dsimp only; split <;> simp
@[simp] theorem State.raise_crypto (code p : Nat) : (s.raise code p).crypto = s.crypto := by
  unfold State.raise; dsimp only; split <;> simp
@[simp] theorem State.raise_fault (code p : Nat) : (s.raise code p).fault = s.fault := by
  unfold State.raise; dsimp only; split <;> simp
@[simp] theorem State.raise_power (code p : Nat) : (s.raise code p).power = s.power := by
  unfold State.raise; dsimp only; split <;> simp
@[simp] theorem State.raise_fw (code p : Nat) : (s.raise code p).fw = s.fw := by
  unfold State.raise; dsimp only; split <;> simp
@[simp] theorem State.raise_out (code p : Nat) : (s.raise code p).out = s.out := by
  unfold State.raise; dsimp only; split <;> simp

/-! ### State.raiseIf -/

@[simp] theorem State.raiseIf_pending (b : Bool) (code p : Nat) : (s.raiseIf b code p).pending = s.pending := by
  unfold State.raiseIf; split <;> simp
@[simp] theorem State.raiseIf_phase (b : Bool) (code p : Nat) : (s.raiseIf b code p).phase = s.phase := by
  unfold State.raiseIf; split <;> simp
@[simp] theorem State.raiseIf_legacy (b : Bool) (code p : Nat) : (s.raiseIf b code p).legacy = s.legacy := by
  unfold State.raiseIf; split <;> simp
@[simp] theorem State.raiseIf_pins (b : Bool) (code p : Nat) : (s.raiseIf b code p).pins = s.pins := by
  unfold State.raiseIf; split <;> simp
@[simp] theorem State.raiseIf_part (b : Bool) (code p : Nat) : (s.raiseIf b code p).part = s.part := by
  unfold State.raiseIf; split <;> simp
@[simp] theorem State.raiseIf_fuses (b : Bool) (code p : Nat) : (s.raiseIf b code p).fuses = s.fuses := by
  unfold State.raiseIf; split <;> simp
@[simp] theorem State.raiseIf_words (b : Bool) (code p : Nat) : (s.raiseIf b code p).words = s.words := by
  unfold State.raiseIf; split <;> simp
@[simp] theorem State.raiseIf_stipple (b : Bool) (code p : Nat) : (s.raiseIf b code p).stipple = s.stipple := by
  unfold State.raiseIf; split <;> simp
@[simp] theorem State.raiseIf_tick (b : Bool) (code p : Nat) : (s.raiseIf b code p).tick = s.tick := by
  unfold State.raiseIf; split <;> simp
@[simp] theorem State.raiseIf_cmd (b : Bool) (code p : Nat) : (s.raiseIf b code p).cmd = s.cmd := by
  unfold State.raiseIf; split <;> simp
@[simp] theorem State.raiseIf_chans (b : Bool) (code p : Nat) : (s.raiseIf b code p).chans = s.chans := by
  unfold State.raiseIf; split <;> simp
@[simp] theorem State.raiseIf_vonu (b : Bool) (code p : Nat) : (s.raiseIf b code p).vonu = s.vonu := by
  unfold State.raiseIf; split <;> simp
@[simp] theorem State.raiseIf_burin (b : Bool) (code p : Nat) : (s.raiseIf b code p).burin = s.burin := by
  unfold State.raiseIf; split <;> simp
@[simp] theorem State.raiseIf_cls (b : Bool) (code p : Nat) : (s.raiseIf b code p).cls = s.cls := by
  unfold State.raiseIf; split <;> simp
@[simp] theorem State.raiseIf_qs (b : Bool) (code p : Nat) : (s.raiseIf b code p).qs = s.qs := by
  unfold State.raiseIf; split <;> simp
@[simp] theorem State.raiseIf_bpm (b : Bool) (code p : Nat) : (s.raiseIf b code p).bpm = s.bpm := by
  unfold State.raiseIf; split <;> simp
@[simp] theorem State.raiseIf_alink (b : Bool) (code p : Nat) : (s.raiseIf b code p).alink = s.alink := by
  unfold State.raiseIf; split <;> simp
@[simp] theorem State.raiseIf_eth (b : Bool) (code p : Nat) : (s.raiseIf b code p).eth = s.eth := by
  unfold State.raiseIf; split <;> simp
@[simp] theorem State.raiseIf_time (b : Bool) (code p : Nat) : (s.raiseIf b code p).time = s.time := by
  unfold State.raiseIf; split <;> simp
@[simp] theorem State.raiseIf_ces (b : Bool) (code p : Nat) : (s.raiseIf b code p).ces = s.ces := by
  unfold State.raiseIf; split <;> simp
@[simp] theorem State.raiseIf_crypto (b : Bool) (code p : Nat) : (s.raiseIf b code p).crypto = s.crypto := by
  unfold State.raiseIf; split <;> simp
@[simp] theorem State.raiseIf_fault (b : Bool) (code p : Nat) : (s.raiseIf b code p).fault = s.fault := by
  unfold State.raiseIf; split <;> simp
@[simp] theorem State.raiseIf_power (b : Bool) (code p : Nat) : (s.raiseIf b code p).power = s.power := by
  unfold State.raiseIf; split <;> simp
@[simp] theorem State.raiseIf_fw (b : Bool) (code p : Nat) : (s.raiseIf b code p).fw = s.fw := by
  unfold State.raiseIf; split <;> simp
@[simp] theorem State.raiseIf_out (b : Bool) (code p : Nat) : (s.raiseIf b code p).out = s.out := by
  unfold State.raiseIf; split <;> simp

/-! ### State.bumpIf -/

@[simp] theorem State.bumpIf_pending (b : Bool) (a n : Nat) : (s.bumpIf b a n).pending = s.pending := by
  unfold State.bumpIf; split <;> simp
@[simp] theorem State.bumpIf_phase (b : Bool) (a n : Nat) : (s.bumpIf b a n).phase = s.phase := by
  unfold State.bumpIf; split <;> simp
@[simp] theorem State.bumpIf_legacy (b : Bool) (a n : Nat) : (s.bumpIf b a n).legacy = s.legacy := by
  unfold State.bumpIf; split <;> simp
@[simp] theorem State.bumpIf_pins (b : Bool) (a n : Nat) : (s.bumpIf b a n).pins = s.pins := by
  unfold State.bumpIf; split <;> simp
@[simp] theorem State.bumpIf_part (b : Bool) (a n : Nat) : (s.bumpIf b a n).part = s.part := by
  unfold State.bumpIf; split <;> simp
@[simp] theorem State.bumpIf_fuses (b : Bool) (a n : Nat) : (s.bumpIf b a n).fuses = s.fuses := by
  unfold State.bumpIf; split <;> simp
@[simp] theorem State.bumpIf_mram (b : Bool) (a n : Nat) : (s.bumpIf b a n).mram = s.mram := by
  unfold State.bumpIf; split <;> simp
@[simp] theorem State.bumpIf_words (b : Bool) (a n : Nat) : (s.bumpIf b a n).words = s.words := by
  unfold State.bumpIf; split <;> simp
@[simp] theorem State.bumpIf_stipple (b : Bool) (a n : Nat) : (s.bumpIf b a n).stipple = s.stipple := by
  unfold State.bumpIf; split <;> simp
@[simp] theorem State.bumpIf_tick (b : Bool) (a n : Nat) : (s.bumpIf b a n).tick = s.tick := by
  unfold State.bumpIf; split <;> simp
@[simp] theorem State.bumpIf_cmd (b : Bool) (a n : Nat) : (s.bumpIf b a n).cmd = s.cmd := by
  unfold State.bumpIf; split <;> simp
@[simp] theorem State.bumpIf_ev (b : Bool) (a n : Nat) : (s.bumpIf b a n).ev = s.ev := by
  unfold State.bumpIf; split <;> simp
@[simp] theorem State.bumpIf_chans (b : Bool) (a n : Nat) : (s.bumpIf b a n).chans = s.chans := by
  unfold State.bumpIf; split <;> simp
@[simp] theorem State.bumpIf_vonu (b : Bool) (a n : Nat) : (s.bumpIf b a n).vonu = s.vonu := by
  unfold State.bumpIf; split <;> simp
@[simp] theorem State.bumpIf_burin (b : Bool) (a n : Nat) : (s.bumpIf b a n).burin = s.burin := by
  unfold State.bumpIf; split <;> simp
@[simp] theorem State.bumpIf_cls (b : Bool) (a n : Nat) : (s.bumpIf b a n).cls = s.cls := by
  unfold State.bumpIf; split <;> simp
@[simp] theorem State.bumpIf_qs (b : Bool) (a n : Nat) : (s.bumpIf b a n).qs = s.qs := by
  unfold State.bumpIf; split <;> simp
@[simp] theorem State.bumpIf_bpm (b : Bool) (a n : Nat) : (s.bumpIf b a n).bpm = s.bpm := by
  unfold State.bumpIf; split <;> simp
@[simp] theorem State.bumpIf_alink (b : Bool) (a n : Nat) : (s.bumpIf b a n).alink = s.alink := by
  unfold State.bumpIf; split <;> simp
@[simp] theorem State.bumpIf_eth (b : Bool) (a n : Nat) : (s.bumpIf b a n).eth = s.eth := by
  unfold State.bumpIf; split <;> simp
@[simp] theorem State.bumpIf_time (b : Bool) (a n : Nat) : (s.bumpIf b a n).time = s.time := by
  unfold State.bumpIf; split <;> simp
@[simp] theorem State.bumpIf_ces (b : Bool) (a n : Nat) : (s.bumpIf b a n).ces = s.ces := by
  unfold State.bumpIf; split <;> simp
@[simp] theorem State.bumpIf_crypto (b : Bool) (a n : Nat) : (s.bumpIf b a n).crypto = s.crypto := by
  unfold State.bumpIf; split <;> simp
@[simp] theorem State.bumpIf_fault (b : Bool) (a n : Nat) : (s.bumpIf b a n).fault = s.fault := by
  unfold State.bumpIf; split <;> simp
@[simp] theorem State.bumpIf_power (b : Bool) (a n : Nat) : (s.bumpIf b a n).power = s.power := by
  unfold State.bumpIf; split <;> simp
@[simp] theorem State.bumpIf_fw (b : Bool) (a n : Nat) : (s.bumpIf b a n).fw = s.fw := by
  unfold State.bumpIf; split <;> simp
@[simp] theorem State.bumpIf_leg (b : Bool) (a n : Nat) : (s.bumpIf b a n).leg = s.leg := by
  unfold State.bumpIf; split <;> simp
@[simp] theorem State.bumpIf_freeCount (b : Bool) (a n : Nat) : (s.bumpIf b a n).freeCount = s.freeCount := by
  unfold State.bumpIf; split <;> simp
@[simp] theorem State.bumpIf_out (b : Bool) (a n : Nat) : (s.bumpIf b a n).out = s.out := by
  unfold State.bumpIf; split <;> simp

/-! ### State.setDomSt -/

@[simp] theorem State.setDomSt_pending (d : Nat) (t : DomSt) : (s.setDomSt d t).pending = s.pending := by
  unfold State.setDomSt; dsimp only; split <;> simp
@[simp] theorem State.setDomSt_phase (d : Nat) (t : DomSt) : (s.setDomSt d t).phase = s.phase := by
  unfold State.setDomSt; dsimp only; split <;> simp
@[simp] theorem State.setDomSt_legacy (d : Nat) (t : DomSt) : (s.setDomSt d t).legacy = s.legacy := by
  unfold State.setDomSt; dsimp only; split <;> simp
@[simp] theorem State.setDomSt_pins (d : Nat) (t : DomSt) : (s.setDomSt d t).pins = s.pins := by
  unfold State.setDomSt; dsimp only; split <;> simp
@[simp] theorem State.setDomSt_part (d : Nat) (t : DomSt) : (s.setDomSt d t).part = s.part := by
  unfold State.setDomSt; dsimp only; split <;> simp
@[simp] theorem State.setDomSt_fuses (d : Nat) (t : DomSt) : (s.setDomSt d t).fuses = s.fuses := by
  unfold State.setDomSt; dsimp only; split <;> simp
@[simp] theorem State.setDomSt_words (d : Nat) (t : DomSt) : (s.setDomSt d t).words = s.words := by
  unfold State.setDomSt; dsimp only; split <;> simp
@[simp] theorem State.setDomSt_stipple (d : Nat) (t : DomSt) : (s.setDomSt d t).stipple = s.stipple := by
  unfold State.setDomSt; dsimp only; split <;> simp
@[simp] theorem State.setDomSt_tick (d : Nat) (t : DomSt) : (s.setDomSt d t).tick = s.tick := by
  unfold State.setDomSt; dsimp only; split <;> simp
@[simp] theorem State.setDomSt_cmd (d : Nat) (t : DomSt) : (s.setDomSt d t).cmd = s.cmd := by
  unfold State.setDomSt; dsimp only; split <;> simp
@[simp] theorem State.setDomSt_chans (d : Nat) (t : DomSt) : (s.setDomSt d t).chans = s.chans := by
  unfold State.setDomSt; dsimp only; split <;> simp
@[simp] theorem State.setDomSt_vonu (d : Nat) (t : DomSt) : (s.setDomSt d t).vonu = s.vonu := by
  unfold State.setDomSt; dsimp only; split <;> simp
@[simp] theorem State.setDomSt_burin (d : Nat) (t : DomSt) : (s.setDomSt d t).burin = s.burin := by
  unfold State.setDomSt; dsimp only; split <;> simp
@[simp] theorem State.setDomSt_cls (d : Nat) (t : DomSt) : (s.setDomSt d t).cls = s.cls := by
  unfold State.setDomSt; dsimp only; split <;> simp
@[simp] theorem State.setDomSt_qs (d : Nat) (t : DomSt) : (s.setDomSt d t).qs = s.qs := by
  unfold State.setDomSt; dsimp only; split <;> simp
@[simp] theorem State.setDomSt_bpm (d : Nat) (t : DomSt) : (s.setDomSt d t).bpm = s.bpm := by
  unfold State.setDomSt; dsimp only; split <;> simp
@[simp] theorem State.setDomSt_alink (d : Nat) (t : DomSt) : (s.setDomSt d t).alink = s.alink := by
  unfold State.setDomSt; dsimp only; split <;> simp
@[simp] theorem State.setDomSt_eth (d : Nat) (t : DomSt) : (s.setDomSt d t).eth = s.eth := by
  unfold State.setDomSt; dsimp only; split <;> simp
@[simp] theorem State.setDomSt_time (d : Nat) (t : DomSt) : (s.setDomSt d t).time = s.time := by
  unfold State.setDomSt; dsimp only; split <;> simp
@[simp] theorem State.setDomSt_ces (d : Nat) (t : DomSt) : (s.setDomSt d t).ces = s.ces := by
  unfold State.setDomSt; dsimp only; split <;> simp
@[simp] theorem State.setDomSt_crypto (d : Nat) (t : DomSt) : (s.setDomSt d t).crypto = s.crypto := by
  unfold State.setDomSt; dsimp only; split <;> simp
@[simp] theorem State.setDomSt_fault (d : Nat) (t : DomSt) : (s.setDomSt d t).fault = s.fault := by
  unfold State.setDomSt; dsimp only; split <;> simp
@[simp] theorem State.setDomSt_fw (d : Nat) (t : DomSt) : (s.setDomSt d t).fw = s.fw := by
  unfold State.setDomSt; dsimp only; split <;> simp
@[simp] theorem State.setDomSt_out (d : Nat) (t : DomSt) : (s.setDomSt d t).out = s.out := by
  unfold State.setDomSt; dsimp only; split <;> simp

/-! ### State.refuseEntry -/

@[simp] theorem State.refuseEntry_pending (d w n : Nat) : (s.refuseEntry d w n).pending = s.pending := by
  simp [State.refuseEntry]
@[simp] theorem State.refuseEntry_phase (d w n : Nat) : (s.refuseEntry d w n).phase = s.phase := by
  simp [State.refuseEntry]
@[simp] theorem State.refuseEntry_legacy (d w n : Nat) : (s.refuseEntry d w n).legacy = s.legacy := by
  simp [State.refuseEntry]
@[simp] theorem State.refuseEntry_pins (d w n : Nat) : (s.refuseEntry d w n).pins = s.pins := by
  simp [State.refuseEntry]
@[simp] theorem State.refuseEntry_part (d w n : Nat) : (s.refuseEntry d w n).part = s.part := by
  simp [State.refuseEntry]
@[simp] theorem State.refuseEntry_fuses (d w n : Nat) : (s.refuseEntry d w n).fuses = s.fuses := by
  simp [State.refuseEntry]
@[simp] theorem State.refuseEntry_mram (d w n : Nat) : (s.refuseEntry d w n).mram = s.mram := by
  simp [State.refuseEntry]
@[simp] theorem State.refuseEntry_words (d w n : Nat) : (s.refuseEntry d w n).words = s.words := by
  simp [State.refuseEntry]
@[simp] theorem State.refuseEntry_stipple (d w n : Nat) : (s.refuseEntry d w n).stipple = s.stipple := by
  simp [State.refuseEntry]
@[simp] theorem State.refuseEntry_tick (d w n : Nat) : (s.refuseEntry d w n).tick = s.tick := by
  simp [State.refuseEntry]
@[simp] theorem State.refuseEntry_cmd (d w n : Nat) : (s.refuseEntry d w n).cmd = s.cmd := by
  simp [State.refuseEntry]
@[simp] theorem State.refuseEntry_ev (d w n : Nat) : (s.refuseEntry d w n).ev = s.ev := by
  simp [State.refuseEntry]
@[simp] theorem State.refuseEntry_chans (d w n : Nat) : (s.refuseEntry d w n).chans = s.chans := by
  simp [State.refuseEntry]
@[simp] theorem State.refuseEntry_vonu (d w n : Nat) : (s.refuseEntry d w n).vonu = s.vonu := by
  simp [State.refuseEntry]
@[simp] theorem State.refuseEntry_burin (d w n : Nat) : (s.refuseEntry d w n).burin = s.burin := by
  simp [State.refuseEntry]
@[simp] theorem State.refuseEntry_cls (d w n : Nat) : (s.refuseEntry d w n).cls = s.cls := by
  simp [State.refuseEntry]
@[simp] theorem State.refuseEntry_qs (d w n : Nat) : (s.refuseEntry d w n).qs = s.qs := by
  simp [State.refuseEntry]
@[simp] theorem State.refuseEntry_bpm (d w n : Nat) : (s.refuseEntry d w n).bpm = s.bpm := by
  simp [State.refuseEntry]
@[simp] theorem State.refuseEntry_alink (d w n : Nat) : (s.refuseEntry d w n).alink = s.alink := by
  simp [State.refuseEntry]
@[simp] theorem State.refuseEntry_eth (d w n : Nat) : (s.refuseEntry d w n).eth = s.eth := by
  simp [State.refuseEntry]
@[simp] theorem State.refuseEntry_time (d w n : Nat) : (s.refuseEntry d w n).time = s.time := by
  simp [State.refuseEntry]
@[simp] theorem State.refuseEntry_ces (d w n : Nat) : (s.refuseEntry d w n).ces = s.ces := by
  simp [State.refuseEntry]
@[simp] theorem State.refuseEntry_crypto (d w n : Nat) : (s.refuseEntry d w n).crypto = s.crypto := by
  simp [State.refuseEntry]
@[simp] theorem State.refuseEntry_fault (d w n : Nat) : (s.refuseEntry d w n).fault = s.fault := by
  simp [State.refuseEntry]
@[simp] theorem State.refuseEntry_fw (d w n : Nat) : (s.refuseEntry d w n).fw = s.fw := by
  simp [State.refuseEntry]
@[simp] theorem State.refuseEntry_leg (d w n : Nat) : (s.refuseEntry d w n).leg = s.leg := by
  simp [State.refuseEntry]
@[simp] theorem State.refuseEntry_freeCount (d w n : Nat) : (s.refuseEntry d w n).freeCount = s.freeCount := by
  simp [State.refuseEntry]
@[simp] theorem State.refuseEntry_out (d w n : Nat) : (s.refuseEntry d w n).out = s.out := by
  simp [State.refuseEntry]

/-! ### votesUpdate -/

@[simp] theorem votesUpdate_pending (l : List Nat) : (votesUpdate l s).pending = s.pending := by
  induction l generalizing s with
  | nil => rfl
  | cons d r ih =>
    simp only [votesUpdate]
    split
    · rw [ih]
    · rw [ih]; split <;> simp
@[simp] theorem votesUpdate_phase (l : List Nat) : (votesUpdate l s).phase = s.phase := by
  induction l generalizing s with
  | nil => rfl
  | cons d r ih =>
    simp only [votesUpdate]
    split
    · rw [ih]
    · rw [ih]; split <;> simp
@[simp] theorem votesUpdate_legacy (l : List Nat) : (votesUpdate l s).legacy = s.legacy := by
  induction l generalizing s with
  | nil => rfl
  | cons d r ih =>
    simp only [votesUpdate]
    split
    · rw [ih]
    · rw [ih]; split <;> simp
@[simp] theorem votesUpdate_pins (l : List Nat) : (votesUpdate l s).pins = s.pins := by
  induction l generalizing s with
  | nil => rfl
  | cons d r ih =>
    simp only [votesUpdate]
    split
    · rw [ih]
    · rw [ih]; split <;> simp
@[simp] theorem votesUpdate_part (l : List Nat) : (votesUpdate l s).part = s.part := by
  induction l generalizing s with
  | nil => rfl
  | cons d r ih =>
    simp only [votesUpdate]
    split
    · rw [ih]
    · rw [ih]; split <;> simp
@[simp] theorem votesUpdate_fuses (l : List Nat) : (votesUpdate l s).fuses = s.fuses := by
  induction l generalizing s with
  | nil => rfl
  | cons d r ih =>
    simp only [votesUpdate]
    split
    · rw [ih]
    · rw [ih]; split <;> simp
@[simp] theorem votesUpdate_mram (l : List Nat) : (votesUpdate l s).mram = s.mram := by
  induction l generalizing s with
  | nil => rfl
  | cons d r ih =>
    simp only [votesUpdate]
    split
    · rw [ih]
    · rw [ih]; split <;> simp
@[simp] theorem votesUpdate_words (l : List Nat) : (votesUpdate l s).words = s.words := by
  induction l generalizing s with
  | nil => rfl
  | cons d r ih =>
    simp only [votesUpdate]
    split
    · rw [ih]
    · rw [ih]; split <;> simp
@[simp] theorem votesUpdate_stipple (l : List Nat) : (votesUpdate l s).stipple = s.stipple := by
  induction l generalizing s with
  | nil => rfl
  | cons d r ih =>
    simp only [votesUpdate]
    split
    · rw [ih]
    · rw [ih]; split <;> simp
@[simp] theorem votesUpdate_tick (l : List Nat) : (votesUpdate l s).tick = s.tick := by
  induction l generalizing s with
  | nil => rfl
  | cons d r ih =>
    simp only [votesUpdate]
    split
    · rw [ih]
    · rw [ih]; split <;> simp
@[simp] theorem votesUpdate_cmd (l : List Nat) : (votesUpdate l s).cmd = s.cmd := by
  induction l generalizing s with
  | nil => rfl
  | cons d r ih =>
    simp only [votesUpdate]
    split
    · rw [ih]
    · rw [ih]; split <;> simp
@[simp] theorem votesUpdate_ev (l : List Nat) : (votesUpdate l s).ev = s.ev := by
  induction l generalizing s with
  | nil => rfl
  | cons d r ih =>
    simp only [votesUpdate]
    split
    · rw [ih]
    · rw [ih]; split <;> simp
@[simp] theorem votesUpdate_chans (l : List Nat) : (votesUpdate l s).chans = s.chans := by
  induction l generalizing s with
  | nil => rfl
  | cons d r ih =>
    simp only [votesUpdate]
    split
    · rw [ih]
    · rw [ih]; split <;> simp
@[simp] theorem votesUpdate_vonu (l : List Nat) : (votesUpdate l s).vonu = s.vonu := by
  induction l generalizing s with
  | nil => rfl
  | cons d r ih =>
    simp only [votesUpdate]
    split
    · rw [ih]
    · rw [ih]; split <;> simp
@[simp] theorem votesUpdate_burin (l : List Nat) : (votesUpdate l s).burin = s.burin := by
  induction l generalizing s with
  | nil => rfl
  | cons d r ih =>
    simp only [votesUpdate]
    split
    · rw [ih]
    · rw [ih]; split <;> simp
@[simp] theorem votesUpdate_cls (l : List Nat) : (votesUpdate l s).cls = s.cls := by
  induction l generalizing s with
  | nil => rfl
  | cons d r ih =>
    simp only [votesUpdate]
    split
    · rw [ih]
    · rw [ih]; split <;> simp
@[simp] theorem votesUpdate_qs (l : List Nat) : (votesUpdate l s).qs = s.qs := by
  induction l generalizing s with
  | nil => rfl
  | cons d r ih =>
    simp only [votesUpdate]
    split
    · rw [ih]
    · rw [ih]; split <;> simp
@[simp] theorem votesUpdate_bpm (l : List Nat) : (votesUpdate l s).bpm = s.bpm := by
  induction l generalizing s with
  | nil => rfl
  | cons d r ih =>
    simp only [votesUpdate]
    split
    · rw [ih]
    · rw [ih]; split <;> simp
@[simp] theorem votesUpdate_alink (l : List Nat) : (votesUpdate l s).alink = s.alink := by
  induction l generalizing s with
  | nil => rfl
  | cons d r ih =>
    simp only [votesUpdate]
    split
    · rw [ih]
    · rw [ih]; split <;> simp
@[simp] theorem votesUpdate_eth (l : List Nat) : (votesUpdate l s).eth = s.eth := by
  induction l generalizing s with
  | nil => rfl
  | cons d r ih =>
    simp only [votesUpdate]
    split
    · rw [ih]
    · rw [ih]; split <;> simp
@[simp] theorem votesUpdate_time (l : List Nat) : (votesUpdate l s).time = s.time := by
  induction l generalizing s with
  | nil => rfl
  | cons d r ih =>
    simp only [votesUpdate]
    split
    · rw [ih]
    · rw [ih]; split <;> simp
@[simp] theorem votesUpdate_ces (l : List Nat) : (votesUpdate l s).ces = s.ces := by
  induction l generalizing s with
  | nil => rfl
  | cons d r ih =>
    simp only [votesUpdate]
    split
    · rw [ih]
    · rw [ih]; split <;> simp
@[simp] theorem votesUpdate_crypto (l : List Nat) : (votesUpdate l s).crypto = s.crypto := by
  induction l generalizing s with
  | nil => rfl
  | cons d r ih =>
    simp only [votesUpdate]
    split
    · rw [ih]
    · rw [ih]; split <;> simp
@[simp] theorem votesUpdate_fault (l : List Nat) : (votesUpdate l s).fault = s.fault := by
  induction l generalizing s with
  | nil => rfl
  | cons d r ih =>
    simp only [votesUpdate]
    split
    · rw [ih]
    · rw [ih]; split <;> simp
@[simp] theorem votesUpdate_fw (l : List Nat) : (votesUpdate l s).fw = s.fw := by
  induction l generalizing s with
  | nil => rfl
  | cons d r ih =>
    simp only [votesUpdate]
    split
    · rw [ih]
    · rw [ih]; split <;> simp
@[simp] theorem votesUpdate_leg (l : List Nat) : (votesUpdate l s).leg = s.leg := by
  induction l generalizing s with
  | nil => rfl
  | cons d r ih =>
    simp only [votesUpdate]
    split
    · rw [ih]
    · rw [ih]; split <;> simp
@[simp] theorem votesUpdate_freeCount (l : List Nat) : (votesUpdate l s).freeCount = s.freeCount := by
  induction l generalizing s with
  | nil => rfl
  | cons d r ih =>
    simp only [votesUpdate]
    split
    · rw [ih]
    · rw [ih]; split <;> simp
@[simp] theorem votesUpdate_out (l : List Nat) : (votesUpdate l s).out = s.out := by
  induction l generalizing s with
  | nil => rfl
  | cons d r ih =>
    simp only [votesUpdate]
    split
    · rw [ih]
    · rw [ih]; split <;> simp

/-! ### State.domStep -/

@[simp] theorem State.domStep_pending (d : Nat) : (s.domStep d).pending = s.pending := by
  unfold State.domStep; dsimp only; split
  · split <;> simp
  · split <;> simp
  · split <;> simp
  · rfl
@[simp] theorem State.domStep_phase (d : Nat) : (s.domStep d).phase = s.phase := by
  unfold State.domStep; dsimp only; split
  · split <;> simp
  · split <;> simp
  · split <;> simp
  · rfl
@[simp] theorem State.domStep_legacy (d : Nat) : (s.domStep d).legacy = s.legacy := by
  unfold State.domStep; dsimp only; split
  · split <;> simp
  · split <;> simp
  · split <;> simp
  · rfl
@[simp] theorem State.domStep_pins (d : Nat) : (s.domStep d).pins = s.pins := by
  unfold State.domStep; dsimp only; split
  · split <;> simp
  · split <;> simp
  · split <;> simp
  · rfl
@[simp] theorem State.domStep_part (d : Nat) : (s.domStep d).part = s.part := by
  unfold State.domStep; dsimp only; split
  · split <;> simp
  · split <;> simp
  · split <;> simp
  · rfl
@[simp] theorem State.domStep_fuses (d : Nat) : (s.domStep d).fuses = s.fuses := by
  unfold State.domStep; dsimp only; split
  · split <;> simp
  · split <;> simp
  · split <;> simp
  · rfl
@[simp] theorem State.domStep_words (d : Nat) : (s.domStep d).words = s.words := by
  unfold State.domStep; dsimp only; split
  · split <;> simp
  · split <;> simp
  · split <;> simp
  · rfl
@[simp] theorem State.domStep_stipple (d : Nat) : (s.domStep d).stipple = s.stipple := by
  unfold State.domStep; dsimp only; split
  · split <;> simp
  · split <;> simp
  · split <;> simp
  · rfl
@[simp] theorem State.domStep_tick (d : Nat) : (s.domStep d).tick = s.tick := by
  unfold State.domStep; dsimp only; split
  · split <;> simp
  · split <;> simp
  · split <;> simp
  · rfl
@[simp] theorem State.domStep_cmd (d : Nat) : (s.domStep d).cmd = s.cmd := by
  unfold State.domStep; dsimp only; split
  · split <;> simp
  · split <;> simp
  · split <;> simp
  · rfl
@[simp] theorem State.domStep_chans (d : Nat) : (s.domStep d).chans = s.chans := by
  unfold State.domStep; dsimp only; split
  · split <;> simp
  · split <;> simp
  · split <;> simp
  · rfl
@[simp] theorem State.domStep_vonu (d : Nat) : (s.domStep d).vonu = s.vonu := by
  unfold State.domStep; dsimp only; split
  · split <;> simp
  · split <;> simp
  · split <;> simp
  · rfl
@[simp] theorem State.domStep_burin (d : Nat) : (s.domStep d).burin = s.burin := by
  unfold State.domStep; dsimp only; split
  · split <;> simp
  · split <;> simp
  · split <;> simp
  · rfl
@[simp] theorem State.domStep_cls (d : Nat) : (s.domStep d).cls = s.cls := by
  unfold State.domStep; dsimp only; split
  · split <;> simp
  · split <;> simp
  · split <;> simp
  · rfl
@[simp] theorem State.domStep_qs (d : Nat) : (s.domStep d).qs = s.qs := by
  unfold State.domStep; dsimp only; split
  · split <;> simp
  · split <;> simp
  · split <;> simp
  · rfl
@[simp] theorem State.domStep_bpm (d : Nat) : (s.domStep d).bpm = s.bpm := by
  unfold State.domStep; dsimp only; split
  · split <;> simp
  · split <;> simp
  · split <;> simp
  · rfl
@[simp] theorem State.domStep_alink (d : Nat) : (s.domStep d).alink = s.alink := by
  unfold State.domStep; dsimp only; split
  · split <;> simp
  · split <;> simp
  · split <;> simp
  · rfl
@[simp] theorem State.domStep_eth (d : Nat) : (s.domStep d).eth = s.eth := by
  unfold State.domStep; dsimp only; split
  · split <;> simp
  · split <;> simp
  · split <;> simp
  · rfl
@[simp] theorem State.domStep_time (d : Nat) : (s.domStep d).time = s.time := by
  unfold State.domStep; dsimp only; split
  · split <;> simp
  · split <;> simp
  · split <;> simp
  · rfl
@[simp] theorem State.domStep_ces (d : Nat) : (s.domStep d).ces = s.ces := by
  unfold State.domStep; dsimp only; split
  · split <;> simp
  · split <;> simp
  · split <;> simp
  · rfl
@[simp] theorem State.domStep_crypto (d : Nat) : (s.domStep d).crypto = s.crypto := by
  unfold State.domStep; dsimp only; split
  · split <;> simp
  · split <;> simp
  · split <;> simp
  · rfl
@[simp] theorem State.domStep_fault (d : Nat) : (s.domStep d).fault = s.fault := by
  unfold State.domStep; dsimp only; split
  · split <;> simp
  · split <;> simp
  · split <;> simp
  · rfl
@[simp] theorem State.domStep_fw (d : Nat) : (s.domStep d).fw = s.fw := by
  unfold State.domStep; dsimp only; split
  · split <;> simp
  · split <;> simp
  · split <;> simp
  · rfl
@[simp] theorem State.domStep_out (d : Nat) : (s.domStep d).out = s.out := by
  unfold State.domStep; dsimp only; split
  · split <;> simp
  · split <;> simp
  · split <;> simp
  · rfl

/-! ### domSteps -/

theorem domSteps_pending (l : List Nat) : ((l.foldl (fun s d => s.domStep d) s)).pending = s.pending := by
  induction l generalizing s with
  | nil => rfl
  | cons d r ih => simp [ih]
theorem domSteps_phase (l : List Nat) : ((l.foldl (fun s d => s.domStep d) s)).phase = s.phase := by
  induction l generalizing s with
  | nil => rfl
  | cons d r ih => simp [ih]
theorem domSteps_legacy (l : List Nat) : ((l.foldl (fun s d => s.domStep d) s)).legacy = s.legacy := by
  induction l generalizing s with
  | nil => rfl
  | cons d r ih => simp [ih]
theorem domSteps_pins (l : List Nat) : ((l.foldl (fun s d => s.domStep d) s)).pins = s.pins := by
  induction l generalizing s with
  | nil => rfl
  | cons d r ih => simp [ih]
theorem domSteps_part (l : List Nat) : ((l.foldl (fun s d => s.domStep d) s)).part = s.part := by
  induction l generalizing s with
  | nil => rfl
  | cons d r ih => simp [ih]
theorem domSteps_fuses (l : List Nat) : ((l.foldl (fun s d => s.domStep d) s)).fuses = s.fuses := by
  induction l generalizing s with
  | nil => rfl
  | cons d r ih => simp [ih]
theorem domSteps_words (l : List Nat) : ((l.foldl (fun s d => s.domStep d) s)).words = s.words := by
  induction l generalizing s with
  | nil => rfl
  | cons d r ih => simp [ih]
theorem domSteps_stipple (l : List Nat) : ((l.foldl (fun s d => s.domStep d) s)).stipple = s.stipple := by
  induction l generalizing s with
  | nil => rfl
  | cons d r ih => simp [ih]
theorem domSteps_tick (l : List Nat) : ((l.foldl (fun s d => s.domStep d) s)).tick = s.tick := by
  induction l generalizing s with
  | nil => rfl
  | cons d r ih => simp [ih]
theorem domSteps_cmd (l : List Nat) : ((l.foldl (fun s d => s.domStep d) s)).cmd = s.cmd := by
  induction l generalizing s with
  | nil => rfl
  | cons d r ih => simp [ih]
theorem domSteps_chans (l : List Nat) : ((l.foldl (fun s d => s.domStep d) s)).chans = s.chans := by
  induction l generalizing s with
  | nil => rfl
  | cons d r ih => simp [ih]
theorem domSteps_vonu (l : List Nat) : ((l.foldl (fun s d => s.domStep d) s)).vonu = s.vonu := by
  induction l generalizing s with
  | nil => rfl
  | cons d r ih => simp [ih]
theorem domSteps_burin (l : List Nat) : ((l.foldl (fun s d => s.domStep d) s)).burin = s.burin := by
  induction l generalizing s with
  | nil => rfl
  | cons d r ih => simp [ih]
theorem domSteps_cls (l : List Nat) : ((l.foldl (fun s d => s.domStep d) s)).cls = s.cls := by
  induction l generalizing s with
  | nil => rfl
  | cons d r ih => simp [ih]
theorem domSteps_qs (l : List Nat) : ((l.foldl (fun s d => s.domStep d) s)).qs = s.qs := by
  induction l generalizing s with
  | nil => rfl
  | cons d r ih => simp [ih]
theorem domSteps_bpm (l : List Nat) : ((l.foldl (fun s d => s.domStep d) s)).bpm = s.bpm := by
  induction l generalizing s with
  | nil => rfl
  | cons d r ih => simp [ih]
theorem domSteps_alink (l : List Nat) : ((l.foldl (fun s d => s.domStep d) s)).alink = s.alink := by
  induction l generalizing s with
  | nil => rfl
  | cons d r ih => simp [ih]
theorem domSteps_eth (l : List Nat) : ((l.foldl (fun s d => s.domStep d) s)).eth = s.eth := by
  induction l generalizing s with
  | nil => rfl
  | cons d r ih => simp [ih]
theorem domSteps_time (l : List Nat) : ((l.foldl (fun s d => s.domStep d) s)).time = s.time := by
  induction l generalizing s with
  | nil => rfl
  | cons d r ih => simp [ih]
theorem domSteps_ces (l : List Nat) : ((l.foldl (fun s d => s.domStep d) s)).ces = s.ces := by
  induction l generalizing s with
  | nil => rfl
  | cons d r ih => simp [ih]
theorem domSteps_crypto (l : List Nat) : ((l.foldl (fun s d => s.domStep d) s)).crypto = s.crypto := by
  induction l generalizing s with
  | nil => rfl
  | cons d r ih => simp [ih]
theorem domSteps_fault (l : List Nat) : ((l.foldl (fun s d => s.domStep d) s)).fault = s.fault := by
  induction l generalizing s with
  | nil => rfl
  | cons d r ih => simp [ih]
theorem domSteps_fw (l : List Nat) : ((l.foldl (fun s d => s.domStep d) s)).fw = s.fw := by
  induction l generalizing s with
  | nil => rfl
  | cons d r ih => simp [ih]
theorem domSteps_out (l : List Nat) : ((l.foldl (fun s d => s.domStep d) s)).out = s.out := by
  induction l generalizing s with
  | nil => rfl
  | cons d r ih => simp [ih]

/-! ### State.settle -/

@[simp] theorem State.settle_pending : (s.settle).pending = s.pending := by
  unfold State.settle; split
  · rfl
  · rw [domSteps_pending]; simp
@[simp] theorem State.settle_phase : (s.settle).phase = s.phase := by
  unfold State.settle; split
  · rfl
  · rw [domSteps_phase]; simp
@[simp] theorem State.settle_legacy : (s.settle).legacy = s.legacy := by
  unfold State.settle; split
  · rfl
  · rw [domSteps_legacy]; simp
@[simp] theorem State.settle_pins : (s.settle).pins = s.pins := by
  unfold State.settle; split
  · rfl
  · rw [domSteps_pins]; simp
@[simp] theorem State.settle_part : (s.settle).part = s.part := by
  unfold State.settle; split
  · rfl
  · rw [domSteps_part]; simp
@[simp] theorem State.settle_fuses : (s.settle).fuses = s.fuses := by
  unfold State.settle; split
  · rfl
  · rw [domSteps_fuses]; simp
@[simp] theorem State.settle_words : (s.settle).words = s.words := by
  unfold State.settle; split
  · rfl
  · rw [domSteps_words]; simp
@[simp] theorem State.settle_stipple : (s.settle).stipple = s.stipple := by
  unfold State.settle; split
  · rfl
  · rw [domSteps_stipple]; simp
@[simp] theorem State.settle_tick : (s.settle).tick = s.tick := by
  unfold State.settle; split
  · rfl
  · rw [domSteps_tick]; simp
@[simp] theorem State.settle_cmd : (s.settle).cmd = s.cmd := by
  unfold State.settle; split
  · rfl
  · rw [domSteps_cmd]; simp
@[simp] theorem State.settle_chans : (s.settle).chans = s.chans := by
  unfold State.settle; split
  · rfl
  · rw [domSteps_chans]; simp
@[simp] theorem State.settle_vonu : (s.settle).vonu = s.vonu := by
  unfold State.settle; split
  · rfl
  · rw [domSteps_vonu]; simp
@[simp] theorem State.settle_burin : (s.settle).burin = s.burin := by
  unfold State.settle; split
  · rfl
  · rw [domSteps_burin]; simp
@[simp] theorem State.settle_cls : (s.settle).cls = s.cls := by
  unfold State.settle; split
  · rfl
  · rw [domSteps_cls]; simp
@[simp] theorem State.settle_qs : (s.settle).qs = s.qs := by
  unfold State.settle; split
  · rfl
  · rw [domSteps_qs]; simp
@[simp] theorem State.settle_bpm : (s.settle).bpm = s.bpm := by
  unfold State.settle; split
  · rfl
  · rw [domSteps_bpm]; simp
@[simp] theorem State.settle_alink : (s.settle).alink = s.alink := by
  unfold State.settle; split
  · rfl
  · rw [domSteps_alink]; simp
@[simp] theorem State.settle_eth : (s.settle).eth = s.eth := by
  unfold State.settle; split
  · rfl
  · rw [domSteps_eth]; simp
@[simp] theorem State.settle_time : (s.settle).time = s.time := by
  unfold State.settle; split
  · rfl
  · rw [domSteps_time]; simp
@[simp] theorem State.settle_ces : (s.settle).ces = s.ces := by
  unfold State.settle; split
  · rfl
  · rw [domSteps_ces]; simp
@[simp] theorem State.settle_crypto : (s.settle).crypto = s.crypto := by
  unfold State.settle; split
  · rfl
  · rw [domSteps_crypto]; simp
@[simp] theorem State.settle_fault : (s.settle).fault = s.fault := by
  unfold State.settle; split
  · rfl
  · rw [domSteps_fault]; simp
@[simp] theorem State.settle_fw : (s.settle).fw = s.fw := by
  unfold State.settle; split
  · rfl
  · rw [domSteps_fw]; simp
@[simp] theorem State.settle_out : (s.settle).out = s.out := by
  unfold State.settle; split
  · rfl
  · rw [domSteps_out]; simp

/-! ### State.guarantee -/

@[simp] theorem State.guarantee_pending : (s.guarantee).pending = s.pending := by
  unfold State.guarantee; dsimp only; split <;> simp
@[simp] theorem State.guarantee_phase : (s.guarantee).phase = s.phase := by
  unfold State.guarantee; dsimp only; split <;> simp
@[simp] theorem State.guarantee_legacy : (s.guarantee).legacy = s.legacy := by
  unfold State.guarantee; dsimp only; split <;> simp
@[simp] theorem State.guarantee_pins : (s.guarantee).pins = s.pins := by
  unfold State.guarantee; dsimp only; split <;> simp
@[simp] theorem State.guarantee_part : (s.guarantee).part = s.part := by
  unfold State.guarantee; dsimp only; split <;> simp
@[simp] theorem State.guarantee_fuses : (s.guarantee).fuses = s.fuses := by
  unfold State.guarantee; dsimp only; split <;> simp
@[simp] theorem State.guarantee_words : (s.guarantee).words = s.words := by
  unfold State.guarantee; dsimp only; split <;> simp
@[simp] theorem State.guarantee_stipple : (s.guarantee).stipple = s.stipple := by
  unfold State.guarantee; dsimp only; split <;> simp
@[simp] theorem State.guarantee_tick : (s.guarantee).tick = s.tick := by
  unfold State.guarantee; dsimp only; split <;> simp
@[simp] theorem State.guarantee_cmd : (s.guarantee).cmd = s.cmd := by
  unfold State.guarantee; dsimp only; split <;> simp
@[simp] theorem State.guarantee_chans : (s.guarantee).chans = s.chans := by
  unfold State.guarantee; dsimp only; split <;> simp
@[simp] theorem State.guarantee_vonu : (s.guarantee).vonu = s.vonu := by
  unfold State.guarantee; dsimp only; split <;> simp
@[simp] theorem State.guarantee_burin : (s.guarantee).burin = s.burin := by
  unfold State.guarantee; dsimp only; split <;> simp
@[simp] theorem State.guarantee_cls : (s.guarantee).cls = s.cls := by
  unfold State.guarantee; dsimp only; split <;> simp
@[simp] theorem State.guarantee_qs : (s.guarantee).qs = s.qs := by
  unfold State.guarantee; dsimp only; split <;> simp
@[simp] theorem State.guarantee_bpm : (s.guarantee).bpm = s.bpm := by
  unfold State.guarantee; dsimp only; split <;> simp
@[simp] theorem State.guarantee_alink : (s.guarantee).alink = s.alink := by
  unfold State.guarantee; dsimp only; split <;> simp
@[simp] theorem State.guarantee_eth : (s.guarantee).eth = s.eth := by
  unfold State.guarantee; dsimp only; split <;> simp
@[simp] theorem State.guarantee_time : (s.guarantee).time = s.time := by
  unfold State.guarantee; dsimp only; split <;> simp
@[simp] theorem State.guarantee_ces : (s.guarantee).ces = s.ces := by
  unfold State.guarantee; dsimp only; split <;> simp
@[simp] theorem State.guarantee_crypto : (s.guarantee).crypto = s.crypto := by
  unfold State.guarantee; dsimp only; split <;> simp
@[simp] theorem State.guarantee_power : (s.guarantee).power = s.power := by
  unfold State.guarantee; dsimp only; split <;> simp
@[simp] theorem State.guarantee_fw : (s.guarantee).fw = s.fw := by
  unfold State.guarantee; dsimp only; split <;> simp
@[simp] theorem State.guarantee_out : (s.guarantee).out = s.out := by
  unfold State.guarantee; dsimp only; split <;> simp

/-! ### State.finish -/

@[simp] theorem State.finish_pending : (s.finish).pending = s.pending := by
  simp [State.finish]
@[simp] theorem State.finish_phase : (s.finish).phase = s.phase := by
  simp [State.finish]
@[simp] theorem State.finish_legacy : (s.finish).legacy = s.legacy := by
  simp [State.finish]
@[simp] theorem State.finish_pins : (s.finish).pins = s.pins := by
  simp [State.finish]
@[simp] theorem State.finish_part : (s.finish).part = s.part := by
  simp [State.finish]
@[simp] theorem State.finish_fuses : (s.finish).fuses = s.fuses := by
  simp [State.finish]
@[simp] theorem State.finish_words : (s.finish).words = s.words := by
  simp [State.finish]
@[simp] theorem State.finish_stipple : (s.finish).stipple = s.stipple := by
  simp [State.finish]
@[simp] theorem State.finish_tick : (s.finish).tick = s.tick := by
  simp [State.finish]
@[simp] theorem State.finish_cmd : (s.finish).cmd = s.cmd := by
  simp [State.finish]
@[simp] theorem State.finish_chans : (s.finish).chans = s.chans := by
  simp [State.finish]
@[simp] theorem State.finish_vonu : (s.finish).vonu = s.vonu := by
  simp [State.finish]
@[simp] theorem State.finish_burin : (s.finish).burin = s.burin := by
  simp [State.finish]
@[simp] theorem State.finish_cls : (s.finish).cls = s.cls := by
  simp [State.finish]
@[simp] theorem State.finish_qs : (s.finish).qs = s.qs := by
  simp [State.finish]
@[simp] theorem State.finish_bpm : (s.finish).bpm = s.bpm := by
  simp [State.finish]
@[simp] theorem State.finish_alink : (s.finish).alink = s.alink := by
  simp [State.finish]
@[simp] theorem State.finish_eth : (s.finish).eth = s.eth := by
  simp [State.finish]
@[simp] theorem State.finish_time : (s.finish).time = s.time := by
  simp [State.finish]
@[simp] theorem State.finish_ces : (s.finish).ces = s.ces := by
  simp [State.finish]
@[simp] theorem State.finish_crypto : (s.finish).crypto = s.crypto := by
  simp [State.finish]
@[simp] theorem State.finish_fw : (s.finish).fw = s.fw := by
  simp [State.finish]
@[simp] theorem State.finish_out : (s.finish).out = s.out := by
  simp [State.finish]

/-! ### State.setTx -/

@[simp] theorem State.setTx_pending (c : Chan) (t : TxState) : (s.setTx c t).pending = s.pending := by
  unfold State.setTx; dsimp only; split <;> simp
@[simp] theorem State.setTx_phase (c : Chan) (t : TxState) : (s.setTx c t).phase = s.phase := by
  unfold State.setTx; dsimp only; split <;> simp
@[simp] theorem State.setTx_legacy (c : Chan) (t : TxState) : (s.setTx c t).legacy = s.legacy := by
  unfold State.setTx; dsimp only; split <;> simp
@[simp] theorem State.setTx_pins (c : Chan) (t : TxState) : (s.setTx c t).pins = s.pins := by
  unfold State.setTx; dsimp only; split <;> simp
@[simp] theorem State.setTx_part (c : Chan) (t : TxState) : (s.setTx c t).part = s.part := by
  unfold State.setTx; dsimp only; split <;> simp
@[simp] theorem State.setTx_fuses (c : Chan) (t : TxState) : (s.setTx c t).fuses = s.fuses := by
  unfold State.setTx; dsimp only; split <;> simp
@[simp] theorem State.setTx_words (c : Chan) (t : TxState) : (s.setTx c t).words = s.words := by
  unfold State.setTx; dsimp only; split <;> simp
@[simp] theorem State.setTx_stipple (c : Chan) (t : TxState) : (s.setTx c t).stipple = s.stipple := by
  unfold State.setTx; dsimp only; split <;> simp
@[simp] theorem State.setTx_tick (c : Chan) (t : TxState) : (s.setTx c t).tick = s.tick := by
  unfold State.setTx; dsimp only; split <;> simp
@[simp] theorem State.setTx_cmd (c : Chan) (t : TxState) : (s.setTx c t).cmd = s.cmd := by
  unfold State.setTx; dsimp only; split <;> simp
@[simp] theorem State.setTx_vonu (c : Chan) (t : TxState) : (s.setTx c t).vonu = s.vonu := by
  unfold State.setTx; dsimp only; split <;> simp
@[simp] theorem State.setTx_burin (c : Chan) (t : TxState) : (s.setTx c t).burin = s.burin := by
  unfold State.setTx; dsimp only; split <;> simp
@[simp] theorem State.setTx_cls (c : Chan) (t : TxState) : (s.setTx c t).cls = s.cls := by
  unfold State.setTx; dsimp only; split <;> simp
@[simp] theorem State.setTx_qs (c : Chan) (t : TxState) : (s.setTx c t).qs = s.qs := by
  unfold State.setTx; dsimp only; split <;> simp
@[simp] theorem State.setTx_bpm (c : Chan) (t : TxState) : (s.setTx c t).bpm = s.bpm := by
  unfold State.setTx; dsimp only; split <;> simp
@[simp] theorem State.setTx_alink (c : Chan) (t : TxState) : (s.setTx c t).alink = s.alink := by
  unfold State.setTx; dsimp only; split <;> simp
@[simp] theorem State.setTx_eth (c : Chan) (t : TxState) : (s.setTx c t).eth = s.eth := by
  unfold State.setTx; dsimp only; split <;> simp
@[simp] theorem State.setTx_time (c : Chan) (t : TxState) : (s.setTx c t).time = s.time := by
  unfold State.setTx; dsimp only; split <;> simp
@[simp] theorem State.setTx_ces (c : Chan) (t : TxState) : (s.setTx c t).ces = s.ces := by
  unfold State.setTx; dsimp only; split <;> simp
@[simp] theorem State.setTx_crypto (c : Chan) (t : TxState) : (s.setTx c t).crypto = s.crypto := by
  unfold State.setTx; dsimp only; split <;> simp
@[simp] theorem State.setTx_fault (c : Chan) (t : TxState) : (s.setTx c t).fault = s.fault := by
  unfold State.setTx; dsimp only; split <;> simp
@[simp] theorem State.setTx_power (c : Chan) (t : TxState) : (s.setTx c t).power = s.power := by
  unfold State.setTx; dsimp only; split <;> simp
@[simp] theorem State.setTx_fw (c : Chan) (t : TxState) : (s.setTx c t).fw = s.fw := by
  unfold State.setTx; dsimp only; split <;> simp
@[simp] theorem State.setTx_out (c : Chan) (t : TxState) : (s.setTx c t).out = s.out := by
  unfold State.setTx; dsimp only; split <;> simp

/-! ### State.txReady -/

@[simp] theorem State.txReady_pending (c : Chan) : (s.txReady c).pending = s.pending := by
  unfold State.txReady; dsimp only; split <;> simp
@[simp] theorem State.txReady_phase (c : Chan) : (s.txReady c).phase = s.phase := by
  unfold State.txReady; dsimp only; split <;> simp
@[simp] theorem State.txReady_legacy (c : Chan) : (s.txReady c).legacy = s.legacy := by
  unfold State.txReady; dsimp only; split <;> simp
@[simp] theorem State.txReady_pins (c : Chan) : (s.txReady c).pins = s.pins := by
  unfold State.txReady; dsimp only; split <;> simp
@[simp] theorem State.txReady_part (c : Chan) : (s.txReady c).part = s.part := by
  unfold State.txReady; dsimp only; split <;> simp
@[simp] theorem State.txReady_fuses (c : Chan) : (s.txReady c).fuses = s.fuses := by
  unfold State.txReady; dsimp only; split <;> simp
@[simp] theorem State.txReady_words (c : Chan) : (s.txReady c).words = s.words := by
  unfold State.txReady; dsimp only; split <;> simp
@[simp] theorem State.txReady_stipple (c : Chan) : (s.txReady c).stipple = s.stipple := by
  unfold State.txReady; dsimp only; split <;> simp
@[simp] theorem State.txReady_tick (c : Chan) : (s.txReady c).tick = s.tick := by
  unfold State.txReady; dsimp only; split <;> simp
@[simp] theorem State.txReady_cmd (c : Chan) : (s.txReady c).cmd = s.cmd := by
  unfold State.txReady; dsimp only; split <;> simp
@[simp] theorem State.txReady_vonu (c : Chan) : (s.txReady c).vonu = s.vonu := by
  unfold State.txReady; dsimp only; split <;> simp
@[simp] theorem State.txReady_burin (c : Chan) : (s.txReady c).burin = s.burin := by
  unfold State.txReady; dsimp only; split <;> simp
@[simp] theorem State.txReady_cls (c : Chan) : (s.txReady c).cls = s.cls := by
  unfold State.txReady; dsimp only; split <;> simp
@[simp] theorem State.txReady_qs (c : Chan) : (s.txReady c).qs = s.qs := by
  unfold State.txReady; dsimp only; split <;> simp
@[simp] theorem State.txReady_bpm (c : Chan) : (s.txReady c).bpm = s.bpm := by
  unfold State.txReady; dsimp only; split <;> simp
@[simp] theorem State.txReady_alink (c : Chan) : (s.txReady c).alink = s.alink := by
  unfold State.txReady; dsimp only; split <;> simp
@[simp] theorem State.txReady_eth (c : Chan) : (s.txReady c).eth = s.eth := by
  unfold State.txReady; dsimp only; split <;> simp
@[simp] theorem State.txReady_time (c : Chan) : (s.txReady c).time = s.time := by
  unfold State.txReady; dsimp only; split <;> simp
@[simp] theorem State.txReady_ces (c : Chan) : (s.txReady c).ces = s.ces := by
  unfold State.txReady; dsimp only; split <;> simp
@[simp] theorem State.txReady_crypto (c : Chan) : (s.txReady c).crypto = s.crypto := by
  unfold State.txReady; dsimp only; split <;> simp
@[simp] theorem State.txReady_fault (c : Chan) : (s.txReady c).fault = s.fault := by
  unfold State.txReady; dsimp only; split <;> simp
@[simp] theorem State.txReady_power (c : Chan) : (s.txReady c).power = s.power := by
  unfold State.txReady; dsimp only; split <;> simp
@[simp] theorem State.txReady_fw (c : Chan) : (s.txReady c).fw = s.fw := by
  unfold State.txReady; dsimp only; split <;> simp
@[simp] theorem State.txReady_out (c : Chan) : (s.txReady c).out = s.out := by
  unfold State.txReady; dsimp only; split <;> simp

/-! ### State.txUpdate -/

@[simp] theorem State.txUpdate_pending (c : Chan) : (s.txUpdate c).pending = s.pending := by
  unfold State.txUpdate; dsimp only
  (repeat' split) <;> simp
@[simp] theorem State.txUpdate_phase (c : Chan) : (s.txUpdate c).phase = s.phase := by
  unfold State.txUpdate; dsimp only
  (repeat' split) <;> simp
@[simp] theorem State.txUpdate_legacy (c : Chan) : (s.txUpdate c).legacy = s.legacy := by
  unfold State.txUpdate; dsimp only
  (repeat' split) <;> simp
@[simp] theorem State.txUpdate_pins (c : Chan) : (s.txUpdate c).pins = s.pins := by
  unfold State.txUpdate; dsimp only
  (repeat' split) <;> simp
@[simp] theorem State.txUpdate_part (c : Chan) : (s.txUpdate c).part = s.part := by
  unfold State.txUpdate; dsimp only
  (repeat' split) <;> simp
@[simp] theorem State.txUpdate_fuses (c : Chan) : (s.txUpdate c).fuses = s.fuses := by
  unfold State.txUpdate; dsimp only
  (repeat' split) <;> simp
@[simp] theorem State.txUpdate_words (c : Chan) : (s.txUpdate c).words = s.words := by
  unfold State.txUpdate; dsimp only
  (repeat' split) <;> simp
@[simp] theorem State.txUpdate_stipple (c : Chan) : (s.txUpdate c).stipple = s.stipple := by
  unfold State.txUpdate; dsimp only
  (repeat' split) <;> simp
@[simp] theorem State.txUpdate_tick (c : Chan) : (s.txUpdate c).tick = s.tick := by
  unfold State.txUpdate; dsimp only
  (repeat' split) <;> simp
@[simp] theorem State.txUpdate_cmd (c : Chan) : (s.txUpdate c).cmd = s.cmd := by
  unfold State.txUpdate; dsimp only
  (repeat' split) <;> simp
@[simp] theorem State.txUpdate_vonu (c : Chan) : (s.txUpdate c).vonu = s.vonu := by
  unfold State.txUpdate; dsimp only
  (repeat' split) <;> simp
@[simp] theorem State.txUpdate_burin (c : Chan) : (s.txUpdate c).burin = s.burin := by
  unfold State.txUpdate; dsimp only
  (repeat' split) <;> simp
@[simp] theorem State.txUpdate_cls (c : Chan) : (s.txUpdate c).cls = s.cls := by
  unfold State.txUpdate; dsimp only
  (repeat' split) <;> simp
@[simp] theorem State.txUpdate_qs (c : Chan) : (s.txUpdate c).qs = s.qs := by
  unfold State.txUpdate; dsimp only
  (repeat' split) <;> simp
@[simp] theorem State.txUpdate_bpm (c : Chan) : (s.txUpdate c).bpm = s.bpm := by
  unfold State.txUpdate; dsimp only
  (repeat' split) <;> simp
@[simp] theorem State.txUpdate_alink (c : Chan) : (s.txUpdate c).alink = s.alink := by
  unfold State.txUpdate; dsimp only
  (repeat' split) <;> simp
@[simp] theorem State.txUpdate_eth (c : Chan) : (s.txUpdate c).eth = s.eth := by
  unfold State.txUpdate; dsimp only
  (repeat' split) <;> simp
@[simp] theorem State.txUpdate_time (c : Chan) : (s.txUpdate c).time = s.time := by
  unfold State.txUpdate; dsimp only
  (repeat' split) <;> simp
@[simp] theorem State.txUpdate_ces (c : Chan) : (s.txUpdate c).ces = s.ces := by
  unfold State.txUpdate; dsimp only
  (repeat' split) <;> simp
@[simp] theorem State.txUpdate_crypto (c : Chan) : (s.txUpdate c).crypto = s.crypto := by
  unfold State.txUpdate; dsimp only
  (repeat' split) <;> simp
@[simp] theorem State.txUpdate_fault (c : Chan) : (s.txUpdate c).fault = s.fault := by
  unfold State.txUpdate; dsimp only
  (repeat' split) <;> simp
@[simp] theorem State.txUpdate_power (c : Chan) : (s.txUpdate c).power = s.power := by
  unfold State.txUpdate; dsimp only
  (repeat' split) <;> simp
@[simp] theorem State.txUpdate_fw (c : Chan) : (s.txUpdate c).fw = s.fw := by
  unfold State.txUpdate; dsimp only
  (repeat' split) <;> simp
@[simp] theorem State.txUpdate_out (c : Chan) : (s.txUpdate c).out = s.out := by
  unfold State.txUpdate; dsimp only
  (repeat' split) <;> simp

/-! ### State.assertLoss -/

@[simp] theorem State.assertLoss_pending (c : Chan) (n : Nat) : (s.assertLoss c n).pending = s.pending := by
  unfold State.assertLoss; split <;> simp
@[simp] theorem State.assertLoss_phase (c : Chan) (n : Nat) : (s.assertLoss c n).phase = s.phase := by
  unfold State.assertLoss; split <;> simp
@[simp] theorem State.assertLoss_legacy (c : Chan) (n : Nat) : (s.assertLoss c n).legacy = s.legacy := by
  unfold State.assertLoss; split <;> simp
@[simp] theorem State.assertLoss_pins (c : Chan) (n : Nat) : (s.assertLoss c n).pins = s.pins := by
  unfold State.assertLoss; split <;> simp
@[simp] theorem State.assertLoss_part (c : Chan) (n : Nat) : (s.assertLoss c n).part = s.part := by
  unfold State.assertLoss; split <;> simp
@[simp] theorem State.assertLoss_fuses (c : Chan) (n : Nat) : (s.assertLoss c n).fuses = s.fuses := by
  unfold State.assertLoss; split <;> simp
@[simp] theorem State.assertLoss_words (c : Chan) (n : Nat) : (s.assertLoss c n).words = s.words := by
  unfold State.assertLoss; split <;> simp
@[simp] theorem State.assertLoss_stipple (c : Chan) (n : Nat) : (s.assertLoss c n).stipple = s.stipple := by
  unfold State.assertLoss; split <;> simp
@[simp] theorem State.assertLoss_tick (c : Chan) (n : Nat) : (s.assertLoss c n).tick = s.tick := by
  unfold State.assertLoss; split <;> simp
@[simp] theorem State.assertLoss_cmd (c : Chan) (n : Nat) : (s.assertLoss c n).cmd = s.cmd := by
  unfold State.assertLoss; split <;> simp
@[simp] theorem State.assertLoss_vonu (c : Chan) (n : Nat) : (s.assertLoss c n).vonu = s.vonu := by
  unfold State.assertLoss; split <;> simp
@[simp] theorem State.assertLoss_burin (c : Chan) (n : Nat) : (s.assertLoss c n).burin = s.burin := by
  unfold State.assertLoss; split <;> simp
@[simp] theorem State.assertLoss_cls (c : Chan) (n : Nat) : (s.assertLoss c n).cls = s.cls := by
  unfold State.assertLoss; split <;> simp
@[simp] theorem State.assertLoss_qs (c : Chan) (n : Nat) : (s.assertLoss c n).qs = s.qs := by
  unfold State.assertLoss; split <;> simp
@[simp] theorem State.assertLoss_bpm (c : Chan) (n : Nat) : (s.assertLoss c n).bpm = s.bpm := by
  unfold State.assertLoss; split <;> simp
@[simp] theorem State.assertLoss_alink (c : Chan) (n : Nat) : (s.assertLoss c n).alink = s.alink := by
  unfold State.assertLoss; split <;> simp
@[simp] theorem State.assertLoss_eth (c : Chan) (n : Nat) : (s.assertLoss c n).eth = s.eth := by
  unfold State.assertLoss; split <;> simp
@[simp] theorem State.assertLoss_time (c : Chan) (n : Nat) : (s.assertLoss c n).time = s.time := by
  unfold State.assertLoss; split <;> simp
@[simp] theorem State.assertLoss_ces (c : Chan) (n : Nat) : (s.assertLoss c n).ces = s.ces := by
  unfold State.assertLoss; split <;> simp
@[simp] theorem State.assertLoss_crypto (c : Chan) (n : Nat) : (s.assertLoss c n).crypto = s.crypto := by
  unfold State.assertLoss; split <;> simp
@[simp] theorem State.assertLoss_fault (c : Chan) (n : Nat) : (s.assertLoss c n).fault = s.fault := by
  unfold State.assertLoss; split <;> simp
@[simp] theorem State.assertLoss_power (c : Chan) (n : Nat) : (s.assertLoss c n).power = s.power := by
  unfold State.assertLoss; split <;> simp
@[simp] theorem State.assertLoss_fw (c : Chan) (n : Nat) : (s.assertLoss c n).fw = s.fw := by
  unfold State.assertLoss; split <;> simp
@[simp] theorem State.assertLoss_out (c : Chan) (n : Nat) : (s.assertLoss c n).out = s.out := by
  unfold State.assertLoss; split <;> simp

/-! ### State.leaveSync -/

@[simp] theorem State.leaveSync_pending (c : Chan) (n : Nat) (b : Bool) : (s.leaveSync c n b).pending = s.pending := by
  unfold State.leaveSync; dsimp only
  (repeat' split) <;> simp
@[simp] theorem State.leaveSync_phase (c : Chan) (n : Nat) (b : Bool) : (s.leaveSync c n b).phase = s.phase := by
  unfold State.leaveSync; dsimp only
  (repeat' split) <;> simp
@[simp] theorem State.leaveSync_legacy (c : Chan) (n : Nat) (b : Bool) : (s.leaveSync c n b).legacy = s.legacy := by
  unfold State.leaveSync; dsimp only
  (repeat' split) <;> simp
@[simp] theorem State.leaveSync_pins (c : Chan) (n : Nat) (b : Bool) : (s.leaveSync c n b).pins = s.pins := by
  unfold State.leaveSync; dsimp only
  (repeat' split) <;> simp
@[simp] theorem State.leaveSync_part (c : Chan) (n : Nat) (b : Bool) : (s.leaveSync c n b).part = s.part := by
  unfold State.leaveSync; dsimp only
  (repeat' split) <;> simp
@[simp] theorem State.leaveSync_fuses (c : Chan) (n : Nat) (b : Bool) : (s.leaveSync c n b).fuses = s.fuses := by
  unfold State.leaveSync; dsimp only
  (repeat' split) <;> simp
@[simp] theorem State.leaveSync_words (c : Chan) (n : Nat) (b : Bool) : (s.leaveSync c n b).words = s.words := by
  unfold State.leaveSync; dsimp only
  (repeat' split) <;> simp
@[simp] theorem State.leaveSync_stipple (c : Chan) (n : Nat) (b : Bool) : (s.leaveSync c n b).stipple = s.stipple := by
  unfold State.leaveSync; dsimp only
  (repeat' split) <;> simp
@[simp] theorem State.leaveSync_cmd (c : Chan) (n : Nat) (b : Bool) : (s.leaveSync c n b).cmd = s.cmd := by
  unfold State.leaveSync; dsimp only
  (repeat' split) <;> simp
@[simp] theorem State.leaveSync_vonu (c : Chan) (n : Nat) (b : Bool) : (s.leaveSync c n b).vonu = s.vonu := by
  unfold State.leaveSync; dsimp only
  (repeat' split) <;> simp
@[simp] theorem State.leaveSync_burin (c : Chan) (n : Nat) (b : Bool) : (s.leaveSync c n b).burin = s.burin := by
  unfold State.leaveSync; dsimp only
  (repeat' split) <;> simp
@[simp] theorem State.leaveSync_cls (c : Chan) (n : Nat) (b : Bool) : (s.leaveSync c n b).cls = s.cls := by
  unfold State.leaveSync; dsimp only
  (repeat' split) <;> simp
@[simp] theorem State.leaveSync_qs (c : Chan) (n : Nat) (b : Bool) : (s.leaveSync c n b).qs = s.qs := by
  unfold State.leaveSync; dsimp only
  (repeat' split) <;> simp
@[simp] theorem State.leaveSync_bpm (c : Chan) (n : Nat) (b : Bool) : (s.leaveSync c n b).bpm = s.bpm := by
  unfold State.leaveSync; dsimp only
  (repeat' split) <;> simp
@[simp] theorem State.leaveSync_alink (c : Chan) (n : Nat) (b : Bool) : (s.leaveSync c n b).alink = s.alink := by
  unfold State.leaveSync; dsimp only
  (repeat' split) <;> simp
@[simp] theorem State.leaveSync_eth (c : Chan) (n : Nat) (b : Bool) : (s.leaveSync c n b).eth = s.eth := by
  unfold State.leaveSync; dsimp only
  (repeat' split) <;> simp
@[simp] theorem State.leaveSync_time (c : Chan) (n : Nat) (b : Bool) : (s.leaveSync c n b).time = s.time := by
  unfold State.leaveSync; dsimp only
  (repeat' split) <;> simp
@[simp] theorem State.leaveSync_ces (c : Chan) (n : Nat) (b : Bool) : (s.leaveSync c n b).ces = s.ces := by
  unfold State.leaveSync; dsimp only
  (repeat' split) <;> simp
@[simp] theorem State.leaveSync_crypto (c : Chan) (n : Nat) (b : Bool) : (s.leaveSync c n b).crypto = s.crypto := by
  unfold State.leaveSync; dsimp only
  (repeat' split) <;> simp
@[simp] theorem State.leaveSync_fault (c : Chan) (n : Nat) (b : Bool) : (s.leaveSync c n b).fault = s.fault := by
  unfold State.leaveSync; dsimp only
  (repeat' split) <;> simp
@[simp] theorem State.leaveSync_power (c : Chan) (n : Nat) (b : Bool) : (s.leaveSync c n b).power = s.power := by
  unfold State.leaveSync; dsimp only
  (repeat' split) <;> simp
@[simp] theorem State.leaveSync_fw (c : Chan) (n : Nat) (b : Bool) : (s.leaveSync c n b).fw = s.fw := by
  unfold State.leaveSync; dsimp only
  (repeat' split) <;> simp
@[simp] theorem State.leaveSync_out (c : Chan) (n : Nat) (b : Bool) : (s.leaveSync c n b).out = s.out := by
  unfold State.leaveSync; dsimp only
  (repeat' split) <;> simp

/-! ### State.assertLos -/

@[simp] theorem State.assertLos_pending (c : Chan) : (s.assertLos c).pending = s.pending := by
  unfold State.assertLos; dsimp only; split <;> simp
@[simp] theorem State.assertLos_phase (c : Chan) : (s.assertLos c).phase = s.phase := by
  unfold State.assertLos; dsimp only; split <;> simp
@[simp] theorem State.assertLos_legacy (c : Chan) : (s.assertLos c).legacy = s.legacy := by
  unfold State.assertLos; dsimp only; split <;> simp
@[simp] theorem State.assertLos_pins (c : Chan) : (s.assertLos c).pins = s.pins := by
  unfold State.assertLos; dsimp only; split <;> simp
@[simp] theorem State.assertLos_part (c : Chan) : (s.assertLos c).part = s.part := by
  unfold State.assertLos; dsimp only; split <;> simp
@[simp] theorem State.assertLos_fuses (c : Chan) : (s.assertLos c).fuses = s.fuses := by
  unfold State.assertLos; dsimp only; split <;> simp
@[simp] theorem State.assertLos_words (c : Chan) : (s.assertLos c).words = s.words := by
  unfold State.assertLos; dsimp only; split <;> simp
@[simp] theorem State.assertLos_stipple (c : Chan) : (s.assertLos c).stipple = s.stipple := by
  unfold State.assertLos; dsimp only; split <;> simp
@[simp] theorem State.assertLos_cmd (c : Chan) : (s.assertLos c).cmd = s.cmd := by
  unfold State.assertLos; dsimp only; split <;> simp
@[simp] theorem State.assertLos_vonu (c : Chan) : (s.assertLos c).vonu = s.vonu := by
  unfold State.assertLos; dsimp only; split <;> simp
@[simp] theorem State.assertLos_burin (c : Chan) : (s.assertLos c).burin = s.burin := by
  unfold State.assertLos; dsimp only; split <;> simp
@[simp] theorem State.assertLos_cls (c : Chan) : (s.assertLos c).cls = s.cls := by
  unfold State.assertLos; dsimp only; split <;> simp
@[simp] theorem State.assertLos_qs (c : Chan) : (s.assertLos c).qs = s.qs := by
  unfold State.assertLos; dsimp only; split <;> simp
@[simp] theorem State.assertLos_bpm (c : Chan) : (s.assertLos c).bpm = s.bpm := by
  unfold State.assertLos; dsimp only; split <;> simp
@[simp] theorem State.assertLos_alink (c : Chan) : (s.assertLos c).alink = s.alink := by
  unfold State.assertLos; dsimp only; split <;> simp
@[simp] theorem State.assertLos_eth (c : Chan) : (s.assertLos c).eth = s.eth := by
  unfold State.assertLos; dsimp only; split <;> simp
@[simp] theorem State.assertLos_time (c : Chan) : (s.assertLos c).time = s.time := by
  unfold State.assertLos; dsimp only; split <;> simp
@[simp] theorem State.assertLos_ces (c : Chan) : (s.assertLos c).ces = s.ces := by
  unfold State.assertLos; dsimp only; split <;> simp
@[simp] theorem State.assertLos_crypto (c : Chan) : (s.assertLos c).crypto = s.crypto := by
  unfold State.assertLos; dsimp only; split <;> simp
@[simp] theorem State.assertLos_fault (c : Chan) : (s.assertLos c).fault = s.fault := by
  unfold State.assertLos; dsimp only; split <;> simp
@[simp] theorem State.assertLos_power (c : Chan) : (s.assertLos c).power = s.power := by
  unfold State.assertLos; dsimp only; split <;> simp
@[simp] theorem State.assertLos_fw (c : Chan) : (s.assertLos c).fw = s.fw := by
  unfold State.assertLos; dsimp only; split <;> simp
@[simp] theorem State.assertLos_out (c : Chan) : (s.assertLos c).out = s.out := by
  unfold State.assertLos; dsimp only; split <;> simp

/-! ### State.ppsSettle -/

@[simp] theorem State.ppsSettle_pending : s.ppsSettle.pending = s.pending := by
  unfold State.ppsSettle; split <;> simp
@[simp] theorem State.ppsSettle_phase : s.ppsSettle.phase = s.phase := by
  unfold State.ppsSettle; split <;> simp
@[simp] theorem State.ppsSettle_legacy : s.ppsSettle.legacy = s.legacy := by
  unfold State.ppsSettle; split <;> simp
@[simp] theorem State.ppsSettle_pins : s.ppsSettle.pins = s.pins := by
  unfold State.ppsSettle; split <;> simp
@[simp] theorem State.ppsSettle_part : s.ppsSettle.part = s.part := by
  unfold State.ppsSettle; split <;> simp
@[simp] theorem State.ppsSettle_fuses : s.ppsSettle.fuses = s.fuses := by
  unfold State.ppsSettle; split <;> simp
@[simp] theorem State.ppsSettle_words : s.ppsSettle.words = s.words := by
  unfold State.ppsSettle; split <;> simp
@[simp] theorem State.ppsSettle_stipple : s.ppsSettle.stipple = s.stipple := by
  unfold State.ppsSettle; split <;> simp
@[simp] theorem State.ppsSettle_tick : s.ppsSettle.tick = s.tick := by
  unfold State.ppsSettle; split <;> simp
@[simp] theorem State.ppsSettle_cmd : s.ppsSettle.cmd = s.cmd := by
  unfold State.ppsSettle; split <;> simp
@[simp] theorem State.ppsSettle_chans : s.ppsSettle.chans = s.chans := by
  unfold State.ppsSettle; split <;> simp
@[simp] theorem State.ppsSettle_vonu : s.ppsSettle.vonu = s.vonu := by
  unfold State.ppsSettle; split <;> simp
@[simp] theorem State.ppsSettle_burin : s.ppsSettle.burin = s.burin := by
  unfold State.ppsSettle; split <;> simp
@[simp] theorem State.ppsSettle_cls : s.ppsSettle.cls = s.cls := by
  unfold State.ppsSettle; split <;> simp
@[simp] theorem State.ppsSettle_qs : s.ppsSettle.qs = s.qs := by
  unfold State.ppsSettle; split <;> simp
@[simp] theorem State.ppsSettle_bpm : s.ppsSettle.bpm = s.bpm := by
  unfold State.ppsSettle; split <;> simp
@[simp] theorem State.ppsSettle_alink : s.ppsSettle.alink = s.alink := by
  unfold State.ppsSettle; split <;> simp
@[simp] theorem State.ppsSettle_eth : s.ppsSettle.eth = s.eth := by
  unfold State.ppsSettle; split <;> simp
@[simp] theorem State.ppsSettle_ces : s.ppsSettle.ces = s.ces := by
  unfold State.ppsSettle; split <;> simp
@[simp] theorem State.ppsSettle_crypto : s.ppsSettle.crypto = s.crypto := by
  unfold State.ppsSettle; split <;> simp
@[simp] theorem State.ppsSettle_fault : s.ppsSettle.fault = s.fault := by
  unfold State.ppsSettle; split <;> simp
@[simp] theorem State.ppsSettle_power : s.ppsSettle.power = s.power := by
  unfold State.ppsSettle; split <;> simp
@[simp] theorem State.ppsSettle_fw : s.ppsSettle.fw = s.fw := by
  unfold State.ppsSettle; split <;> simp
@[simp] theorem State.ppsSettle_out : s.ppsSettle.out = s.out := by
  unfold State.ppsSettle; split <;> simp

/-! ### State.setServo -/

@[simp] theorem State.setServo_pending (v : Servo) : (s.setServo v).pending = s.pending := by
  unfold State.setServo; split <;> simp
@[simp] theorem State.setServo_phase (v : Servo) : (s.setServo v).phase = s.phase := by
  unfold State.setServo; split <;> simp
@[simp] theorem State.setServo_legacy (v : Servo) : (s.setServo v).legacy = s.legacy := by
  unfold State.setServo; split <;> simp
@[simp] theorem State.setServo_pins (v : Servo) : (s.setServo v).pins = s.pins := by
  unfold State.setServo; split <;> simp
@[simp] theorem State.setServo_part (v : Servo) : (s.setServo v).part = s.part := by
  unfold State.setServo; split <;> simp
@[simp] theorem State.setServo_fuses (v : Servo) : (s.setServo v).fuses = s.fuses := by
  unfold State.setServo; split <;> simp
@[simp] theorem State.setServo_words (v : Servo) : (s.setServo v).words = s.words := by
  unfold State.setServo; split <;> simp
@[simp] theorem State.setServo_stipple (v : Servo) : (s.setServo v).stipple = s.stipple := by
  unfold State.setServo; split <;> simp
@[simp] theorem State.setServo_tick (v : Servo) : (s.setServo v).tick = s.tick := by
  unfold State.setServo; split <;> simp
@[simp] theorem State.setServo_cmd (v : Servo) : (s.setServo v).cmd = s.cmd := by
  unfold State.setServo; split <;> simp
@[simp] theorem State.setServo_chans (v : Servo) : (s.setServo v).chans = s.chans := by
  unfold State.setServo; split <;> simp
@[simp] theorem State.setServo_vonu (v : Servo) : (s.setServo v).vonu = s.vonu := by
  unfold State.setServo; split <;> simp
@[simp] theorem State.setServo_burin (v : Servo) : (s.setServo v).burin = s.burin := by
  unfold State.setServo; split <;> simp
@[simp] theorem State.setServo_cls (v : Servo) : (s.setServo v).cls = s.cls := by
  unfold State.setServo; split <;> simp
@[simp] theorem State.setServo_qs (v : Servo) : (s.setServo v).qs = s.qs := by
  unfold State.setServo; split <;> simp
@[simp] theorem State.setServo_bpm (v : Servo) : (s.setServo v).bpm = s.bpm := by
  unfold State.setServo; split <;> simp
@[simp] theorem State.setServo_alink (v : Servo) : (s.setServo v).alink = s.alink := by
  unfold State.setServo; split <;> simp
@[simp] theorem State.setServo_eth (v : Servo) : (s.setServo v).eth = s.eth := by
  unfold State.setServo; split <;> simp
@[simp] theorem State.setServo_ces (v : Servo) : (s.setServo v).ces = s.ces := by
  unfold State.setServo; split <;> simp
@[simp] theorem State.setServo_crypto (v : Servo) : (s.setServo v).crypto = s.crypto := by
  unfold State.setServo; split <;> simp
@[simp] theorem State.setServo_fault (v : Servo) : (s.setServo v).fault = s.fault := by
  unfold State.setServo; split <;> simp
@[simp] theorem State.setServo_power (v : Servo) : (s.setServo v).power = s.power := by
  unfold State.setServo; split <;> simp
@[simp] theorem State.setServo_fw (v : Servo) : (s.setServo v).fw = s.fw := by
  unfold State.setServo; split <;> simp
@[simp] theorem State.setServo_out (v : Servo) : (s.setServo v).out = s.out := by
  unfold State.setServo; split <;> simp

/-! ### State.setEec -/

@[simp] theorem State.setEec_pending (v : Eec) : (s.setEec v).pending = s.pending := by
  unfold State.setEec; split <;> simp
@[simp] theorem State.setEec_phase (v : Eec) : (s.setEec v).phase = s.phase := by
  unfold State.setEec; split <;> simp
@[simp] theorem State.setEec_legacy (v : Eec) : (s.setEec v).legacy = s.legacy := by
  unfold State.setEec; split <;> simp
@[simp] theorem State.setEec_pins (v : Eec) : (s.setEec v).pins = s.pins := by
  unfold State.setEec; split <;> simp
@[simp] theorem State.setEec_part (v : Eec) : (s.setEec v).part = s.part := by
  unfold State.setEec; split <;> simp
@[simp] theorem State.setEec_fuses (v : Eec) : (s.setEec v).fuses = s.fuses := by
  unfold State.setEec; split <;> simp
@[simp] theorem State.setEec_words (v : Eec) : (s.setEec v).words = s.words := by
  unfold State.setEec; split <;> simp
@[simp] theorem State.setEec_stipple (v : Eec) : (s.setEec v).stipple = s.stipple := by
  unfold State.setEec; split <;> simp
@[simp] theorem State.setEec_tick (v : Eec) : (s.setEec v).tick = s.tick := by
  unfold State.setEec; split <;> simp
@[simp] theorem State.setEec_cmd (v : Eec) : (s.setEec v).cmd = s.cmd := by
  unfold State.setEec; split <;> simp
@[simp] theorem State.setEec_chans (v : Eec) : (s.setEec v).chans = s.chans := by
  unfold State.setEec; split <;> simp
@[simp] theorem State.setEec_vonu (v : Eec) : (s.setEec v).vonu = s.vonu := by
  unfold State.setEec; split <;> simp
@[simp] theorem State.setEec_burin (v : Eec) : (s.setEec v).burin = s.burin := by
  unfold State.setEec; split <;> simp
@[simp] theorem State.setEec_cls (v : Eec) : (s.setEec v).cls = s.cls := by
  unfold State.setEec; split <;> simp
@[simp] theorem State.setEec_qs (v : Eec) : (s.setEec v).qs = s.qs := by
  unfold State.setEec; split <;> simp
@[simp] theorem State.setEec_bpm (v : Eec) : (s.setEec v).bpm = s.bpm := by
  unfold State.setEec; split <;> simp
@[simp] theorem State.setEec_alink (v : Eec) : (s.setEec v).alink = s.alink := by
  unfold State.setEec; split <;> simp
@[simp] theorem State.setEec_eth (v : Eec) : (s.setEec v).eth = s.eth := by
  unfold State.setEec; split <;> simp
@[simp] theorem State.setEec_ces (v : Eec) : (s.setEec v).ces = s.ces := by
  unfold State.setEec; split <;> simp
@[simp] theorem State.setEec_crypto (v : Eec) : (s.setEec v).crypto = s.crypto := by
  unfold State.setEec; split <;> simp
@[simp] theorem State.setEec_fault (v : Eec) : (s.setEec v).fault = s.fault := by
  unfold State.setEec; split <;> simp
@[simp] theorem State.setEec_power (v : Eec) : (s.setEec v).power = s.power := by
  unfold State.setEec; split <;> simp
@[simp] theorem State.setEec_fw (v : Eec) : (s.setEec v).fw = s.fw := by
  unfold State.setEec; split <;> simp
@[simp] theorem State.setEec_out (v : Eec) : (s.setEec v).out = s.out := by
  unfold State.setEec; split <;> simp

/-! ### State.abortFrame -/

@[simp] theorem State.abortFrame_pending : (s.abortFrame).pending = s.pending := by
  unfold State.abortFrame; dsimp only; (repeat' split) <;> simp
@[simp] theorem State.abortFrame_phase : (s.abortFrame).phase = s.phase := by
  unfold State.abortFrame; dsimp only; (repeat' split) <;> simp
@[simp] theorem State.abortFrame_legacy : (s.abortFrame).legacy = s.legacy := by
  unfold State.abortFrame; dsimp only; (repeat' split) <;> simp
@[simp] theorem State.abortFrame_pins : (s.abortFrame).pins = s.pins := by
  unfold State.abortFrame; dsimp only; (repeat' split) <;> simp
@[simp] theorem State.abortFrame_part : (s.abortFrame).part = s.part := by
  unfold State.abortFrame; dsimp only; (repeat' split) <;> simp
@[simp] theorem State.abortFrame_fuses : (s.abortFrame).fuses = s.fuses := by
  unfold State.abortFrame; dsimp only; (repeat' split) <;> simp
@[simp] theorem State.abortFrame_mram : (s.abortFrame).mram = s.mram := by
  unfold State.abortFrame; dsimp only; (repeat' split) <;> simp
@[simp] theorem State.abortFrame_words : (s.abortFrame).words = s.words := by
  unfold State.abortFrame; dsimp only; (repeat' split) <;> simp
@[simp] theorem State.abortFrame_stipple : (s.abortFrame).stipple = s.stipple := by
  unfold State.abortFrame; dsimp only; (repeat' split) <;> simp
@[simp] theorem State.abortFrame_tick : (s.abortFrame).tick = s.tick := by
  unfold State.abortFrame; dsimp only; (repeat' split) <;> simp
@[simp] theorem State.abortFrame_cmd : (s.abortFrame).cmd = s.cmd := by
  unfold State.abortFrame; dsimp only; (repeat' split) <;> simp
@[simp] theorem State.abortFrame_ev : (s.abortFrame).ev = s.ev := by
  unfold State.abortFrame; dsimp only; (repeat' split) <;> simp
@[simp] theorem State.abortFrame_chans : (s.abortFrame).chans = s.chans := by
  unfold State.abortFrame; dsimp only; (repeat' split) <;> simp
@[simp] theorem State.abortFrame_vonu : (s.abortFrame).vonu = s.vonu := by
  unfold State.abortFrame; dsimp only; (repeat' split) <;> simp
@[simp] theorem State.abortFrame_burin : (s.abortFrame).burin = s.burin := by
  unfold State.abortFrame; dsimp only; (repeat' split) <;> simp
@[simp] theorem State.abortFrame_cls : (s.abortFrame).cls = s.cls := by
  unfold State.abortFrame; dsimp only; (repeat' split) <;> simp
@[simp] theorem State.abortFrame_qs : (s.abortFrame).qs = s.qs := by
  unfold State.abortFrame; dsimp only; (repeat' split) <;> simp
@[simp] theorem State.abortFrame_bpm : (s.abortFrame).bpm = s.bpm := by
  unfold State.abortFrame; dsimp only; (repeat' split) <;> simp
@[simp] theorem State.abortFrame_eth : (s.abortFrame).eth = s.eth := by
  unfold State.abortFrame; dsimp only; (repeat' split) <;> simp
@[simp] theorem State.abortFrame_time : (s.abortFrame).time = s.time := by
  unfold State.abortFrame; dsimp only; (repeat' split) <;> simp
@[simp] theorem State.abortFrame_ces : (s.abortFrame).ces = s.ces := by
  unfold State.abortFrame; dsimp only; (repeat' split) <;> simp
@[simp] theorem State.abortFrame_crypto : (s.abortFrame).crypto = s.crypto := by
  unfold State.abortFrame; dsimp only; (repeat' split) <;> simp
@[simp] theorem State.abortFrame_fault : (s.abortFrame).fault = s.fault := by
  unfold State.abortFrame; dsimp only; (repeat' split) <;> simp
@[simp] theorem State.abortFrame_power : (s.abortFrame).power = s.power := by
  unfold State.abortFrame; dsimp only; (repeat' split) <;> simp
@[simp] theorem State.abortFrame_fw : (s.abortFrame).fw = s.fw := by
  unfold State.abortFrame; dsimp only; (repeat' split) <;> simp
@[simp] theorem State.abortFrame_leg : (s.abortFrame).leg = s.leg := by
  unfold State.abortFrame; dsimp only; (repeat' split) <;> simp

/-! ### State.creditForget -/

@[simp] theorem State.creditForget_pending : (s.creditForget).pending = s.pending := rfl
@[simp] theorem State.creditForget_phase : (s.creditForget).phase = s.phase := rfl
@[simp] theorem State.creditForget_legacy : (s.creditForget).legacy = s.legacy := rfl
@[simp] theorem State.creditForget_pins : (s.creditForget).pins = s.pins := rfl
@[simp] theorem State.creditForget_part : (s.creditForget).part = s.part := rfl
@[simp] theorem State.creditForget_fuses : (s.creditForget).fuses = s.fuses := rfl
@[simp] theorem State.creditForget_mram : (s.creditForget).mram = s.mram := rfl
@[simp] theorem State.creditForget_words : (s.creditForget).words = s.words := rfl
@[simp] theorem State.creditForget_counters : (s.creditForget).counters = s.counters := rfl
@[simp] theorem State.creditForget_stipple : (s.creditForget).stipple = s.stipple := rfl
@[simp] theorem State.creditForget_tick : (s.creditForget).tick = s.tick := rfl
@[simp] theorem State.creditForget_cmd : (s.creditForget).cmd = s.cmd := rfl
@[simp] theorem State.creditForget_ev : (s.creditForget).ev = s.ev := rfl
@[simp] theorem State.creditForget_chans : (s.creditForget).chans = s.chans := rfl
@[simp] theorem State.creditForget_vonu : (s.creditForget).vonu = s.vonu := rfl
@[simp] theorem State.creditForget_burin : (s.creditForget).burin = s.burin := rfl
@[simp] theorem State.creditForget_qs : (s.creditForget).qs = s.qs := rfl
@[simp] theorem State.creditForget_bpm : (s.creditForget).bpm = s.bpm := rfl
@[simp] theorem State.creditForget_alink : (s.creditForget).alink = s.alink := rfl
@[simp] theorem State.creditForget_eth : (s.creditForget).eth = s.eth := rfl
@[simp] theorem State.creditForget_time : (s.creditForget).time = s.time := rfl
@[simp] theorem State.creditForget_ces : (s.creditForget).ces = s.ces := rfl
@[simp] theorem State.creditForget_crypto : (s.creditForget).crypto = s.crypto := rfl
@[simp] theorem State.creditForget_fault : (s.creditForget).fault = s.fault := rfl
@[simp] theorem State.creditForget_power : (s.creditForget).power = s.power := rfl
@[simp] theorem State.creditForget_fw : (s.creditForget).fw = s.fw := rfl
@[simp] theorem State.creditForget_leg : (s.creditForget).leg = s.leg := rfl
@[simp] theorem State.creditForget_freeCount : (s.creditForget).freeCount = s.freeCount := rfl
@[simp] theorem State.creditForget_out : (s.creditForget).out = s.out := rfl

/-! ### State.setLink -/

@[simp] theorem State.setLink_pending (t : LinkState) (n : Nat) : (s.setLink t n).pending = s.pending := by
  unfold State.setLink; dsimp only; split
  · rfl
  · simp only [State.raiseIf_pending, State.raise_pending]
    cases t <;> simp only <;> (repeat' split) <;> simp
@[simp] theorem State.setLink_phase (t : LinkState) (n : Nat) : (s.setLink t n).phase = s.phase := by
  unfold State.setLink; dsimp only; split
  · rfl
  · simp only [State.raiseIf_phase, State.raise_phase]
    cases t <;> simp only <;> (repeat' split) <;> simp
@[simp] theorem State.setLink_legacy (t : LinkState) (n : Nat) : (s.setLink t n).legacy = s.legacy := by
  unfold State.setLink; dsimp only; split
  · rfl
  · simp only [State.raiseIf_legacy, State.raise_legacy]
    cases t <;> simp only <;> (repeat' split) <;> simp
@[simp] theorem State.setLink_pins (t : LinkState) (n : Nat) : (s.setLink t n).pins = s.pins := by
  unfold State.setLink; dsimp only; split
  · rfl
  · simp only [State.raiseIf_pins, State.raise_pins]
    cases t <;> simp only <;> (repeat' split) <;> simp
@[simp] theorem State.setLink_part (t : LinkState) (n : Nat) : (s.setLink t n).part = s.part := by
  unfold State.setLink; dsimp only; split
  · rfl
  · simp only [State.raiseIf_part, State.raise_part]
    cases t <;> simp only <;> (repeat' split) <;> simp
@[simp] theorem State.setLink_fuses (t : LinkState) (n : Nat) : (s.setLink t n).fuses = s.fuses := by
  unfold State.setLink; dsimp only; split
  · rfl
  · simp only [State.raiseIf_fuses, State.raise_fuses]
    cases t <;> simp only <;> (repeat' split) <;> simp
@[simp] theorem State.setLink_words (t : LinkState) (n : Nat) : (s.setLink t n).words = s.words := by
  unfold State.setLink; dsimp only; split
  · rfl
  · simp only [State.raiseIf_words, State.raise_words]
    cases t <;> simp only <;> (repeat' split) <;> simp
@[simp] theorem State.setLink_stipple (t : LinkState) (n : Nat) : (s.setLink t n).stipple = s.stipple := by
  unfold State.setLink; dsimp only; split
  · rfl
  · simp only [State.raiseIf_stipple, State.raise_stipple]
    cases t <;> simp only <;> (repeat' split) <;> simp
@[simp] theorem State.setLink_cmd (t : LinkState) (n : Nat) : (s.setLink t n).cmd = s.cmd := by
  unfold State.setLink; dsimp only; split
  · rfl
  · simp only [State.raiseIf_cmd, State.raise_cmd]
    cases t <;> simp only <;> (repeat' split) <;> simp
@[simp] theorem State.setLink_chans (t : LinkState) (n : Nat) : (s.setLink t n).chans = s.chans := by
  unfold State.setLink; dsimp only; split
  · rfl
  · simp only [State.raiseIf_chans, State.raise_chans]
    cases t <;> simp only <;> (repeat' split) <;> simp
@[simp] theorem State.setLink_vonu (t : LinkState) (n : Nat) : (s.setLink t n).vonu = s.vonu := by
  unfold State.setLink; dsimp only; split
  · rfl
  · simp only [State.raiseIf_vonu, State.raise_vonu]
    cases t <;> simp only <;> (repeat' split) <;> simp
@[simp] theorem State.setLink_burin (t : LinkState) (n : Nat) : (s.setLink t n).burin = s.burin := by
  unfold State.setLink; dsimp only; split
  · rfl
  · simp only [State.raiseIf_burin, State.raise_burin]
    cases t <;> simp only <;> (repeat' split) <;> simp
@[simp] theorem State.setLink_qs (t : LinkState) (n : Nat) : (s.setLink t n).qs = s.qs := by
  unfold State.setLink; dsimp only; split
  · rfl
  · simp only [State.raiseIf_qs, State.raise_qs]
    cases t <;> simp only <;> (repeat' split) <;> simp
@[simp] theorem State.setLink_bpm (t : LinkState) (n : Nat) : (s.setLink t n).bpm = s.bpm := by
  unfold State.setLink; dsimp only; split
  · rfl
  · simp only [State.raiseIf_bpm, State.raise_bpm]
    cases t <;> simp only <;> (repeat' split) <;> simp
@[simp] theorem State.setLink_eth (t : LinkState) (n : Nat) : (s.setLink t n).eth = s.eth := by
  unfold State.setLink; dsimp only; split
  · rfl
  · simp only [State.raiseIf_eth, State.raise_eth]
    cases t <;> simp only <;> (repeat' split) <;> simp
@[simp] theorem State.setLink_time (t : LinkState) (n : Nat) : (s.setLink t n).time = s.time := by
  unfold State.setLink; dsimp only; split
  · rfl
  · simp only [State.raiseIf_time, State.raise_time]
    cases t <;> simp only <;> (repeat' split) <;> simp
@[simp] theorem State.setLink_ces (t : LinkState) (n : Nat) : (s.setLink t n).ces = s.ces := by
  unfold State.setLink; dsimp only; split
  · rfl
  · simp only [State.raiseIf_ces, State.raise_ces]
    cases t <;> simp only <;> (repeat' split) <;> simp
@[simp] theorem State.setLink_crypto (t : LinkState) (n : Nat) : (s.setLink t n).crypto = s.crypto := by
  unfold State.setLink; dsimp only; split
  · rfl
  · simp only [State.raiseIf_crypto, State.raise_crypto]
    cases t <;> simp only <;> (repeat' split) <;> simp
@[simp] theorem State.setLink_fault (t : LinkState) (n : Nat) : (s.setLink t n).fault = s.fault := by
  unfold State.setLink; dsimp only; split
  · rfl
  · simp only [State.raiseIf_fault, State.raise_fault]
    cases t <;> simp only <;> (repeat' split) <;> simp
@[simp] theorem State.setLink_power (t : LinkState) (n : Nat) : (s.setLink t n).power = s.power := by
  unfold State.setLink; dsimp only; split
  · rfl
  · simp only [State.raiseIf_power, State.raise_power]
    cases t <;> simp only <;> (repeat' split) <;> simp
@[simp] theorem State.setLink_fw (t : LinkState) (n : Nat) : (s.setLink t n).fw = s.fw := by
  unfold State.setLink; dsimp only; split
  · rfl
  · simp only [State.raiseIf_fw, State.raise_fw]
    cases t <;> simp only <;> (repeat' split) <;> simp

end Sys2Proof.Machine
end

