-- ==== Sys2Proof/Laws/Channel.lean ====
section
/-! SUPPORT. What the shared operations of the optical channels do to the channels: leaving SYNC, asserting LOS and
CHANNEL_LOSS, and the transmitter's changes of state. -/

namespace Sys2Proof.Machine

variable (s : State) (c : Chan)

/-! ### What ends with SYNC -/

@[simp] theorem ChanSt.cutFrame_hunt (x : ChanSt) (k : Nat) : (x.cutFrame k).hunt = x.hunt := by unfold ChanSt.cutFrame; split <;> rfl
@[simp] theorem ChanSt.cutFrame_los (x : ChanSt) (k : Nat) : (x.cutFrame k).los = x.los := by unfold ChanSt.cutFrame; split <;> rfl
@[simp] theorem ChanSt.cutFrame_cdr (x : ChanSt) (k : Nat) : (x.cutFrame k).cdr = x.cdr := by unfold ChanSt.cutFrame; split <;> rfl
@[simp] theorem ChanSt.cutFrame_lof (x : ChanSt) (k : Nat) : (x.cutFrame k).lof = x.lof := by unfold ChanSt.cutFrame; split <;> rfl
@[simp] theorem ChanSt.cutFrame_cands (x : ChanSt) (k : Nat) : (x.cutFrame k).cands = x.cands := by unfold ChanSt.cutFrame; split <;> rfl
@[simp] theorem ChanSt.cutFrame_badCount (x : ChanSt) (k : Nat) : (x.cutFrame k).badCount = x.badCount := by unfold ChanSt.cutFrame; split <;> rfl
@[simp] theorem ChanSt.dropWindow_hunt (x : ChanSt) : x.dropWindow.hunt = x.hunt := by unfold ChanSt.dropWindow; split <;> rfl
@[simp] theorem ChanSt.dropWindow_los (x : ChanSt) : x.dropWindow.los = x.los := by unfold ChanSt.dropWindow; split <;> rfl
@[simp] theorem ChanSt.dropWindow_cdr (x : ChanSt) : x.dropWindow.cdr = x.cdr := by unfold ChanSt.dropWindow; split <;> rfl
@[simp] theorem ChanSt.dropWindow_lof (x : ChanSt) : x.dropWindow.lof = x.lof := by unfold ChanSt.dropWindow; split <;> rfl
@[simp] theorem ChanSt.dropWindow_cands (x : ChanSt) : x.dropWindow.cands = x.cands := by unfold ChanSt.dropWindow; split <;> rfl
@[simp] theorem ChanSt.dropWindow_badCount (x : ChanSt) : x.dropWindow.badCount = x.badCount := by unfold ChanSt.dropWindow; split <;> rfl

/-- A channel as leaving SYNC with a cause leaves it (R97, R99, R111). -/
def leftSync (x : ChanSt) (k : Nat) (off : Bool) : ChanSt :=
  if x.hunt = .sync then
    ({ x with hunt := if off || !x.cdr then .off else .hunt, lof := true, cands := [], badCount := 0, mismatched := false
              keptTaps := x.taps }.dropWindow).cutFrame k
  else (if off || !x.cdr then { x with cands := [], hunt := .off } else x).cutFrame k

theorem State.leaveSync_chans (k : Nat) (off : Bool) :
    (s.leaveSync c k off).chans = s.chans.set c (leftSync (s.chans.get c) k off) := by
  by_cases h : (s.chans.get c).hunt = .sync
  · simp only [State.leaveSync, State.inSync, State.ch, h]
    simp only [decide_true, Bool.not_true, Bool.false_eq_true, if_false, State.raise_chans]
    rw [show ∀ (b : Bool) (u : State) (v : TickSt), (if b then { u with tick := v } else u).chans = u.chans from
      fun b u v => by cases b <;> rfl, State.modCh_chans]
    simp only [leftSync, h, if_true]
  · simp only [State.leaveSync, State.inSync, State.ch, h]
    simp only [decide_false, Bool.not_false, if_true, State.modCh_chans, leftSync, h, if_false]

theorem State.assertLos_chans :
    (s.assertLos c).chans = s.chans.set c (leftSync { s.chans.get c with los := true } 2 false) := by
  unfold State.assertLos
  simp only [State.leaveSync_chans]
  split
  · rename_i h
    simp only [State.ch] at h
    have e : { s.chans.get c with los := true } = s.chans.get c := by
      generalize s.chans.get c = x at h ⊢; cases x; simp_all
    rw [e]
  · simp

theorem State.assertLoss_chans (k : Nat) :
    (s.assertLoss c k).chans = s.chans.set c { s.chans.get c with chLoss := true } := by
  unfold State.assertLoss
  split
  · rename_i h
    simp only [State.ch] at h
    have e : { s.chans.get c with chLoss := true } = s.chans.get c := by
      generalize s.chans.get c = x at h ⊢; cases x; simp_all
    rw [e, Two.set_get]
  · simp

theorem State.setTx_chans (t : TxState) (h : (s.ch c).tx ≠ t) :
    (s.setTx c t).chans = s.chans.set c { s.chans.get c with tx := t, warmFromReady := t = .warmup && (s.ch c).tx = .ready } := by
  unfold State.setTx
  simp [h]

@[simp] theorem leftSync_hunt (x : ChanSt) (k : Nat) (off : Bool) :
    (leftSync x k off).hunt = if off || !x.cdr then .off else if x.hunt = .sync then .hunt else x.hunt := by
  unfold leftSync; split
  · simp
  · rw [ChanSt.cutFrame_hunt]; split <;> rfl

@[simp] theorem leftSync_los (x : ChanSt) (k : Nat) (off : Bool) : (leftSync x k off).los = x.los := by
  unfold leftSync; split
  · simp
  · rw [ChanSt.cutFrame_los]; split <;> rfl

@[simp] theorem leftSync_cdr (x : ChanSt) (k : Nat) (off : Bool) : (leftSync x k off).cdr = x.cdr := by
  unfold leftSync; split
  · simp
  · rw [ChanSt.cutFrame_cdr]; split <;> rfl

theorem leftSync_lof (x : ChanSt) (k : Nat) (off : Bool) (h : x.hunt = .sync) : (leftSync x k off).lof = true := by
  simp [leftSync, h]

end Sys2Proof.Machine
end

