-- ==== Sys2Proof/Laws/LinkFrame.lean ====
section
/-! SUPPORT. What each shared operation leaves alone: the changes of state of the Alanov
Link and of the Ethernet ports. A proof cites these and does not unfold the operation. -/

namespace Sys2Proof.Machine

set_option Elab.async false

variable (s : State)

/-! ### State.linkTo -/

@[simp] theorem State.linkTo_pending (t : LinkState) (n : Nat) : (s.linkTo t n).pending = s.pending := by
  unfold State.linkTo; dsimp only; split <;> simp
@[simp] theorem State.linkTo_phase (t : LinkState) (n : Nat) : (s.linkTo t n).phase = s.phase := by
  unfold State.linkTo; dsimp only; split <;> simp
@[simp] theorem State.linkTo_legacy (t : LinkState) (n : Nat) : (s.linkTo t n).legacy = s.legacy := by
  unfold State.linkTo; dsimp only; split <;> simp
@[simp] theorem State.linkTo_pins (t : LinkState) (n : Nat) : (s.linkTo t n).pins = s.pins := by
  unfold State.linkTo; dsimp only; split <;> simp
@[simp] theorem State.linkTo_part (t : LinkState) (n : Nat) : (s.linkTo t n).part = s.part := by
  unfold State.linkTo; dsimp only; split <;> simp
@[simp] theorem State.linkTo_fuses (t : LinkState) (n : Nat) : (s.linkTo t n).fuses = s.fuses := by
  unfold State.linkTo; dsimp only; split <;> simp
@[simp] theorem State.linkTo_words (t : LinkState) (n : Nat) : (s.linkTo t n).words = s.words := by
  unfold State.linkTo; dsimp only; split <;> simp
@[simp] theorem State.linkTo_stipple (t : LinkState) (n : Nat) : (s.linkTo t n).stipple = s.stipple := by
  unfold State.linkTo; dsimp only; split <;> simp
@[simp] theorem State.linkTo_cmd (t : LinkState) (n : Nat) : (s.linkTo t n).cmd = s.cmd := by
  unfold State.linkTo; dsimp only; split <;> simp
@[simp] theorem State.linkTo_chans (t : LinkState) (n : Nat) : (s.linkTo t n).chans = s.chans := by
  unfold State.linkTo; dsimp only; split <;> simp
@[simp] theorem State.linkTo_vonu (t : LinkState) (n : Nat) : (s.linkTo t n).vonu = s.vonu := by
  unfold State.linkTo; dsimp only; split <;> simp
@[simp] theorem State.linkTo_burin (t : LinkState) (n : Nat) : (s.linkTo t n).burin = s.burin := by
  unfold State.linkTo; dsimp only; split <;> simp
@[simp] theorem State.linkTo_qs (t : LinkState) (n : Nat) : (s.linkTo t n).qs = s.qs := by
  unfold State.linkTo; dsimp only; split <;> simp
@[simp] theorem State.linkTo_bpm (t : LinkState) (n : Nat) : (s.linkTo t n).bpm = s.bpm := by
  unfold State.linkTo; dsimp only; split <;> simp
@[simp] theorem State.linkTo_eth (t : LinkState) (n : Nat) : (s.linkTo t n).eth = s.eth := by
  unfold State.linkTo; dsimp only; split <;> simp
@[simp] theorem State.linkTo_time (t : LinkState) (n : Nat) : (s.linkTo t n).time = s.time := by
  unfold State.linkTo; dsimp only; split <;> simp
@[simp] theorem State.linkTo_ces (t : LinkState) (n : Nat) : (s.linkTo t n).ces = s.ces := by
  unfold State.linkTo; dsimp only; split <;> simp
@[simp] theorem State.linkTo_crypto (t : LinkState) (n : Nat) : (s.linkTo t n).crypto = s.crypto := by
  unfold State.linkTo; dsimp only; split <;> simp
@[simp] theorem State.linkTo_fault (t : LinkState) (n : Nat) : (s.linkTo t n).fault = s.fault := by
  unfold State.linkTo; dsimp only; split <;> simp
@[simp] theorem State.linkTo_power (t : LinkState) (n : Nat) : (s.linkTo t n).power = s.power := by
  unfold State.linkTo; dsimp only; split <;> simp
@[simp] theorem State.linkTo_fw (t : LinkState) (n : Nat) : (s.linkTo t n).fw = s.fw := by
  unfold State.linkTo; dsimp only; split <;> simp

/-! ### State.failLink -/

@[simp] theorem State.failLink_pending (n : Nat) : (s.failLink n).pending = s.pending := by
  simp [State.failLink]
@[simp] theorem State.failLink_phase (n : Nat) : (s.failLink n).phase = s.phase := by
  simp [State.failLink]
@[simp] theorem State.failLink_legacy (n : Nat) : (s.failLink n).legacy = s.legacy := by
  simp [State.failLink]
@[simp] theorem State.failLink_pins (n : Nat) : (s.failLink n).pins = s.pins := by
  simp [State.failLink]
@[simp] theorem State.failLink_part (n : Nat) : (s.failLink n).part = s.part := by
  simp [State.failLink]
@[simp] theorem State.failLink_fuses (n : Nat) : (s.failLink n).fuses = s.fuses := by
  simp [State.failLink]
@[simp] theorem State.failLink_words (n : Nat) : (s.failLink n).words = s.words := by
  simp [State.failLink]
@[simp] theorem State.failLink_stipple (n : Nat) : (s.failLink n).stipple = s.stipple := by
  simp [State.failLink]
@[simp] theorem State.failLink_cmd (n : Nat) : (s.failLink n).cmd = s.cmd := by
  simp [State.failLink]
@[simp] theorem State.failLink_chans (n : Nat) : (s.failLink n).chans = s.chans := by
  simp [State.failLink]
@[simp] theorem State.failLink_vonu (n : Nat) : (s.failLink n).vonu = s.vonu := by
  simp [State.failLink]
@[simp] theorem State.failLink_burin (n : Nat) : (s.failLink n).burin = s.burin := by
  simp [State.failLink]
@[simp] theorem State.failLink_qs (n : Nat) : (s.failLink n).qs = s.qs := by
  simp [State.failLink]
@[simp] theorem State.failLink_bpm (n : Nat) : (s.failLink n).bpm = s.bpm := by
  simp [State.failLink]
@[simp] theorem State.failLink_eth (n : Nat) : (s.failLink n).eth = s.eth := by
  simp [State.failLink]
@[simp] theorem State.failLink_time (n : Nat) : (s.failLink n).time = s.time := by
  simp [State.failLink]
@[simp] theorem State.failLink_ces (n : Nat) : (s.failLink n).ces = s.ces := by
  simp [State.failLink]
@[simp] theorem State.failLink_crypto (n : Nat) : (s.failLink n).crypto = s.crypto := by
  simp [State.failLink]
@[simp] theorem State.failLink_fault (n : Nat) : (s.failLink n).fault = s.fault := by
  simp [State.failLink]
@[simp] theorem State.failLink_power (n : Nat) : (s.failLink n).power = s.power := by
  simp [State.failLink]
@[simp] theorem State.failLink_fw (n : Nat) : (s.failLink n).fw = s.fw := by
  simp [State.failLink]

/-! ### State.linkSettle -/

@[simp] theorem State.linkSettle_pending : (s.linkSettle).pending = s.pending := by
  unfold State.linkSettle; dsimp only; split
  · split <;> simp
  · split <;> simp
@[simp] theorem State.linkSettle_phase : (s.linkSettle).phase = s.phase := by
  unfold State.linkSettle; dsimp only; split
  · split <;> simp
  · split <;> simp
@[simp] theorem State.linkSettle_legacy : (s.linkSettle).legacy = s.legacy := by
  unfold State.linkSettle; dsimp only; split
  · split <;> simp
  · split <;> simp
@[simp] theorem State.linkSettle_pins : (s.linkSettle).pins = s.pins := by
  unfold State.linkSettle; dsimp only; split
  · split <;> simp
  · split <;> simp
@[simp] theorem State.linkSettle_part : (s.linkSettle).part = s.part := by
  unfold State.linkSettle; dsimp only; split
  · split <;> simp
  · split <;> simp
@[simp] theorem State.linkSettle_fuses : (s.linkSettle).fuses = s.fuses := by
  unfold State.linkSettle; dsimp only; split
  · split <;> simp
  · split <;> simp
@[simp] theorem State.linkSettle_words : (s.linkSettle).words = s.words := by
  unfold State.linkSettle; dsimp only; split
  · split <;> simp
  · split <;> simp
@[simp] theorem State.linkSettle_stipple : (s.linkSettle).stipple = s.stipple := by
  unfold State.linkSettle; dsimp only; split
  · split <;> simp
  · split <;> simp
@[simp] theorem State.linkSettle_cmd : (s.linkSettle).cmd = s.cmd := by
  unfold State.linkSettle; dsimp only; split
  · split <;> simp
  · split <;> simp
@[simp] theorem State.linkSettle_chans : (s.linkSettle).chans = s.chans := by
  unfold State.linkSettle; dsimp only; split
  · split <;> simp
  · split <;> simp
@[simp] theorem State.linkSettle_vonu : (s.linkSettle).vonu = s.vonu := by
  unfold State.linkSettle; dsimp only; split
  · split <;> simp
  · split <;> simp
@[simp] theorem State.linkSettle_burin : (s.linkSettle).burin = s.burin := by
  unfold State.linkSettle; dsimp only; split
  · split <;> simp
  · split <;> simp
@[simp] theorem State.linkSettle_qs : (s.linkSettle).qs = s.qs := by
  unfold State.linkSettle; dsimp only; split
  · split <;> simp
  · split <;> simp
@[simp] theorem State.linkSettle_bpm : (s.linkSettle).bpm = s.bpm := by
  unfold State.linkSettle; dsimp only; split
  · split <;> simp
  · split <;> simp
@[simp] theorem State.linkSettle_eth : (s.linkSettle).eth = s.eth := by
  unfold State.linkSettle; dsimp only; split
  · split <;> simp
  · split <;> simp
@[simp] theorem State.linkSettle_time : (s.linkSettle).time = s.time := by
  unfold State.linkSettle; dsimp only; split
  · split <;> simp
  · split <;> simp
@[simp] theorem State.linkSettle_ces : (s.linkSettle).ces = s.ces := by
  unfold State.linkSettle; dsimp only; split
  · split <;> simp
  · split <;> simp
@[simp] theorem State.linkSettle_crypto : (s.linkSettle).crypto = s.crypto := by
  unfold State.linkSettle; dsimp only; split
  · split <;> simp
  · split <;> simp
@[simp] theorem State.linkSettle_fault : (s.linkSettle).fault = s.fault := by
  unfold State.linkSettle; dsimp only; split
  · split <;> simp
  · split <;> simp
@[simp] theorem State.linkSettle_power : (s.linkSettle).power = s.power := by
  unfold State.linkSettle; dsimp only; split
  · split <;> simp
  · split <;> simp
@[simp] theorem State.linkSettle_fw : (s.linkSettle).fw = s.fw := by
  unfold State.linkSettle; dsimp only; split
  · split <;> simp
  · split <;> simp

/-! ### State.laneMoved -/

@[simp] theorem State.laneMoved_pending (d : Nat) (b : Bool) (k : BitVec 3) (q : Bool) : (s.laneMoved d b k q).pending = s.pending := by
  simp [State.laneMoved]
@[simp] theorem State.laneMoved_phase (d : Nat) (b : Bool) (k : BitVec 3) (q : Bool) : (s.laneMoved d b k q).phase = s.phase := by
  simp [State.laneMoved]
@[simp] theorem State.laneMoved_legacy (d : Nat) (b : Bool) (k : BitVec 3) (q : Bool) : (s.laneMoved d b k q).legacy = s.legacy := by
  simp [State.laneMoved]
@[simp] theorem State.laneMoved_pins (d : Nat) (b : Bool) (k : BitVec 3) (q : Bool) : (s.laneMoved d b k q).pins = s.pins := by
  simp [State.laneMoved]
@[simp] theorem State.laneMoved_part (d : Nat) (b : Bool) (k : BitVec 3) (q : Bool) : (s.laneMoved d b k q).part = s.part := by
  simp [State.laneMoved]
@[simp] theorem State.laneMoved_fuses (d : Nat) (b : Bool) (k : BitVec 3) (q : Bool) : (s.laneMoved d b k q).fuses = s.fuses := by
  simp [State.laneMoved]
@[simp] theorem State.laneMoved_words (d : Nat) (b : Bool) (k : BitVec 3) (q : Bool) : (s.laneMoved d b k q).words = s.words := by
  simp [State.laneMoved]
@[simp] theorem State.laneMoved_stipple (d : Nat) (b : Bool) (k : BitVec 3) (q : Bool) : (s.laneMoved d b k q).stipple = s.stipple := by
  simp [State.laneMoved]
@[simp] theorem State.laneMoved_cmd (d : Nat) (b : Bool) (k : BitVec 3) (q : Bool) : (s.laneMoved d b k q).cmd = s.cmd := by
  simp [State.laneMoved]
@[simp] theorem State.laneMoved_chans (d : Nat) (b : Bool) (k : BitVec 3) (q : Bool) : (s.laneMoved d b k q).chans = s.chans := by
  simp [State.laneMoved]
@[simp] theorem State.laneMoved_vonu (d : Nat) (b : Bool) (k : BitVec 3) (q : Bool) : (s.laneMoved d b k q).vonu = s.vonu := by
  simp [State.laneMoved]
@[simp] theorem State.laneMoved_burin (d : Nat) (b : Bool) (k : BitVec 3) (q : Bool) : (s.laneMoved d b k q).burin = s.burin := by
  simp [State.laneMoved]
@[simp] theorem State.laneMoved_cls (d : Nat) (b : Bool) (k : BitVec 3) (q : Bool) : (s.laneMoved d b k q).cls = s.cls := by
  simp [State.laneMoved]
@[simp] theorem State.laneMoved_qs (d : Nat) (b : Bool) (k : BitVec 3) (q : Bool) : (s.laneMoved d b k q).qs = s.qs := by
  simp [State.laneMoved]
@[simp] theorem State.laneMoved_bpm (d : Nat) (b : Bool) (k : BitVec 3) (q : Bool) : (s.laneMoved d b k q).bpm = s.bpm := by
  simp [State.laneMoved]
@[simp] theorem State.laneMoved_alink (d : Nat) (b : Bool) (k : BitVec 3) (q : Bool) : (s.laneMoved d b k q).alink = s.alink := by
  simp [State.laneMoved]
@[simp] theorem State.laneMoved_eth (d : Nat) (b : Bool) (k : BitVec 3) (q : Bool) : (s.laneMoved d b k q).eth = s.eth := by
  simp [State.laneMoved]
@[simp] theorem State.laneMoved_time (d : Nat) (b : Bool) (k : BitVec 3) (q : Bool) : (s.laneMoved d b k q).time = s.time := by
  simp [State.laneMoved]
@[simp] theorem State.laneMoved_ces (d : Nat) (b : Bool) (k : BitVec 3) (q : Bool) : (s.laneMoved d b k q).ces = s.ces := by
  simp [State.laneMoved]
@[simp] theorem State.laneMoved_crypto (d : Nat) (b : Bool) (k : BitVec 3) (q : Bool) : (s.laneMoved d b k q).crypto = s.crypto := by
  simp [State.laneMoved]
@[simp] theorem State.laneMoved_fault (d : Nat) (b : Bool) (k : BitVec 3) (q : Bool) : (s.laneMoved d b k q).fault = s.fault := by
  simp [State.laneMoved]
@[simp] theorem State.laneMoved_power (d : Nat) (b : Bool) (k : BitVec 3) (q : Bool) : (s.laneMoved d b k q).power = s.power := by
  simp [State.laneMoved]
@[simp] theorem State.laneMoved_fw (d : Nat) (b : Bool) (k : BitVec 3) (q : Bool) : (s.laneMoved d b k q).fw = s.fw := by
  simp [State.laneMoved]
@[simp] theorem State.laneMoved_out (d : Nat) (b : Bool) (k : BitVec 3) (q : Bool) : (s.laneMoved d b k q).out = s.out := by
  simp [State.laneMoved]

/-! ### State.laneFails -/

@[simp] theorem State.laneFails_pending (n k : Nat) : (s.laneFails n k).pending = s.pending := by
  unfold State.laneFails; dsimp only; (repeat' split) <;> simp
@[simp] theorem State.laneFails_phase (n k : Nat) : (s.laneFails n k).phase = s.phase := by
  unfold State.laneFails; dsimp only; (repeat' split) <;> simp
@[simp] theorem State.laneFails_legacy (n k : Nat) : (s.laneFails n k).legacy = s.legacy := by
  unfold State.laneFails; dsimp only; (repeat' split) <;> simp
@[simp] theorem State.laneFails_pins (n k : Nat) : (s.laneFails n k).pins = s.pins := by
  unfold State.laneFails; dsimp only; (repeat' split) <;> simp
@[simp] theorem State.laneFails_part (n k : Nat) : (s.laneFails n k).part = s.part := by
  unfold State.laneFails; dsimp only; (repeat' split) <;> simp
@[simp] theorem State.laneFails_fuses (n k : Nat) : (s.laneFails n k).fuses = s.fuses := by
  unfold State.laneFails; dsimp only; (repeat' split) <;> simp
@[simp] theorem State.laneFails_words (n k : Nat) : (s.laneFails n k).words = s.words := by
  unfold State.laneFails; dsimp only; (repeat' split) <;> simp
@[simp] theorem State.laneFails_stipple (n k : Nat) : (s.laneFails n k).stipple = s.stipple := by
  unfold State.laneFails; dsimp only; (repeat' split) <;> simp
@[simp] theorem State.laneFails_cmd (n k : Nat) : (s.laneFails n k).cmd = s.cmd := by
  unfold State.laneFails; dsimp only; (repeat' split) <;> simp
@[simp] theorem State.laneFails_chans (n k : Nat) : (s.laneFails n k).chans = s.chans := by
  unfold State.laneFails; dsimp only; (repeat' split) <;> simp
@[simp] theorem State.laneFails_vonu (n k : Nat) : (s.laneFails n k).vonu = s.vonu := by
  unfold State.laneFails; dsimp only; (repeat' split) <;> simp
@[simp] theorem State.laneFails_burin (n k : Nat) : (s.laneFails n k).burin = s.burin := by
  unfold State.laneFails; dsimp only; (repeat' split) <;> simp
@[simp] theorem State.laneFails_qs (n k : Nat) : (s.laneFails n k).qs = s.qs := by
  unfold State.laneFails; dsimp only; (repeat' split) <;> simp
@[simp] theorem State.laneFails_bpm (n k : Nat) : (s.laneFails n k).bpm = s.bpm := by
  unfold State.laneFails; dsimp only; (repeat' split) <;> simp
@[simp] theorem State.laneFails_eth (n k : Nat) : (s.laneFails n k).eth = s.eth := by
  unfold State.laneFails; dsimp only; (repeat' split) <;> simp
@[simp] theorem State.laneFails_time (n k : Nat) : (s.laneFails n k).time = s.time := by
  unfold State.laneFails; dsimp only; (repeat' split) <;> simp
@[simp] theorem State.laneFails_ces (n k : Nat) : (s.laneFails n k).ces = s.ces := by
  unfold State.laneFails; dsimp only; (repeat' split) <;> simp
@[simp] theorem State.laneFails_crypto (n k : Nat) : (s.laneFails n k).crypto = s.crypto := by
  unfold State.laneFails; dsimp only; (repeat' split) <;> simp
@[simp] theorem State.laneFails_fault (n k : Nat) : (s.laneFails n k).fault = s.fault := by
  unfold State.laneFails; dsimp only; (repeat' split) <;> simp
@[simp] theorem State.laneFails_power (n k : Nat) : (s.laneFails n k).power = s.power := by
  unfold State.laneFails; dsimp only; (repeat' split) <;> simp
@[simp] theorem State.laneFails_fw (n k : Nat) : (s.laneFails n k).fw = s.fw := by
  unfold State.laneFails; dsimp only; (repeat' split) <;> simp

/-! ### State.deskewRequest -/

@[simp] theorem State.deskewRequest_pending : (s.deskewRequest).pending = s.pending := by
  unfold State.deskewRequest; dsimp only; (repeat' split) <;> simp
@[simp] theorem State.deskewRequest_phase : (s.deskewRequest).phase = s.phase := by
  unfold State.deskewRequest; dsimp only; (repeat' split) <;> simp
@[simp] theorem State.deskewRequest_legacy : (s.deskewRequest).legacy = s.legacy := by
  unfold State.deskewRequest; dsimp only; (repeat' split) <;> simp
@[simp] theorem State.deskewRequest_pins : (s.deskewRequest).pins = s.pins := by
  unfold State.deskewRequest; dsimp only; (repeat' split) <;> simp
@[simp] theorem State.deskewRequest_part : (s.deskewRequest).part = s.part := by
  unfold State.deskewRequest; dsimp only; (repeat' split) <;> simp
@[simp] theorem State.deskewRequest_fuses : (s.deskewRequest).fuses = s.fuses := by
  unfold State.deskewRequest; dsimp only; (repeat' split) <;> simp
@[simp] theorem State.deskewRequest_mram : (s.deskewRequest).mram = s.mram := by
  unfold State.deskewRequest; dsimp only; (repeat' split) <;> simp
@[simp] theorem State.deskewRequest_words : (s.deskewRequest).words = s.words := by
  unfold State.deskewRequest; dsimp only; (repeat' split) <;> simp
@[simp] theorem State.deskewRequest_counters : (s.deskewRequest).counters = s.counters := by
  unfold State.deskewRequest; dsimp only; (repeat' split) <;> simp
@[simp] theorem State.deskewRequest_stipple : (s.deskewRequest).stipple = s.stipple := by
  unfold State.deskewRequest; dsimp only; (repeat' split) <;> simp
@[simp] theorem State.deskewRequest_tick : (s.deskewRequest).tick = s.tick := by
  unfold State.deskewRequest; dsimp only; (repeat' split) <;> simp
@[simp] theorem State.deskewRequest_cmd : (s.deskewRequest).cmd = s.cmd := by
  unfold State.deskewRequest; dsimp only; (repeat' split) <;> simp
@[simp] theorem State.deskewRequest_ev : (s.deskewRequest).ev = s.ev := by
  unfold State.deskewRequest; dsimp only; (repeat' split) <;> simp
@[simp] theorem State.deskewRequest_chans : (s.deskewRequest).chans = s.chans := by
  unfold State.deskewRequest; dsimp only; (repeat' split) <;> simp
@[simp] theorem State.deskewRequest_vonu : (s.deskewRequest).vonu = s.vonu := by
  unfold State.deskewRequest; dsimp only; (repeat' split) <;> simp
@[simp] theorem State.deskewRequest_burin : (s.deskewRequest).burin = s.burin := by
  unfold State.deskewRequest; dsimp only; (repeat' split) <;> simp
@[simp] theorem State.deskewRequest_cls : (s.deskewRequest).cls = s.cls := by
  unfold State.deskewRequest; dsimp only; (repeat' split) <;> simp
@[simp] theorem State.deskewRequest_qs : (s.deskewRequest).qs = s.qs := by
  unfold State.deskewRequest; dsimp only; (repeat' split) <;> simp
@[simp] theorem State.deskewRequest_bpm : (s.deskewRequest).bpm = s.bpm := by
  unfold State.deskewRequest; dsimp only; (repeat' split) <;> simp
@[simp] theorem State.deskewRequest_eth : (s.deskewRequest).eth = s.eth := by
  unfold State.deskewRequest; dsimp only; (repeat' split) <;> simp
@[simp] theorem State.deskewRequest_time : (s.deskewRequest).time = s.time := by
  unfold State.deskewRequest; dsimp only; (repeat' split) <;> simp
@[simp] theorem State.deskewRequest_ces : (s.deskewRequest).ces = s.ces := by
  unfold State.deskewRequest; dsimp only; (repeat' split) <;> simp
@[simp] theorem State.deskewRequest_crypto : (s.deskewRequest).crypto = s.crypto := by
  unfold State.deskewRequest; dsimp only; (repeat' split) <;> simp
@[simp] theorem State.deskewRequest_fault : (s.deskewRequest).fault = s.fault := by
  unfold State.deskewRequest; dsimp only; (repeat' split) <;> simp
@[simp] theorem State.deskewRequest_power : (s.deskewRequest).power = s.power := by
  unfold State.deskewRequest; dsimp only; (repeat' split) <;> simp
@[simp] theorem State.deskewRequest_fw : (s.deskewRequest).fw = s.fw := by
  unfold State.deskewRequest; dsimp only; (repeat' split) <;> simp
@[simp] theorem State.deskewRequest_leg : (s.deskewRequest).leg = s.leg := by
  unfold State.deskewRequest; dsimp only; (repeat' split) <;> simp
@[simp] theorem State.deskewRequest_freeCount : (s.deskewRequest).freeCount = s.freeCount := by
  unfold State.deskewRequest; dsimp only; (repeat' split) <;> simp
@[simp] theorem State.deskewRequest_out : (s.deskewRequest).out = s.out := by
  unfold State.deskewRequest; dsimp only; (repeat' split) <;> simp

/-! ### State.laneAdapt -/

@[simp] theorem State.laneAdapt_pending (n : Nat) : (s.laneAdapt n).pending = s.pending := by
  unfold State.laneAdapt; dsimp only [State.fresh]; (repeat' split) <;> simp
@[simp] theorem State.laneAdapt_phase (n : Nat) : (s.laneAdapt n).phase = s.phase := by
  unfold State.laneAdapt; dsimp only [State.fresh]; (repeat' split) <;> simp
@[simp] theorem State.laneAdapt_legacy (n : Nat) : (s.laneAdapt n).legacy = s.legacy := by
  unfold State.laneAdapt; dsimp only [State.fresh]; (repeat' split) <;> simp
@[simp] theorem State.laneAdapt_pins (n : Nat) : (s.laneAdapt n).pins = s.pins := by
  unfold State.laneAdapt; dsimp only [State.fresh]; (repeat' split) <;> simp
@[simp] theorem State.laneAdapt_part (n : Nat) : (s.laneAdapt n).part = s.part := by
  unfold State.laneAdapt; dsimp only [State.fresh]; (repeat' split) <;> simp
@[simp] theorem State.laneAdapt_fuses (n : Nat) : (s.laneAdapt n).fuses = s.fuses := by
  unfold State.laneAdapt; dsimp only [State.fresh]; (repeat' split) <;> simp
@[simp] theorem State.laneAdapt_mram (n : Nat) : (s.laneAdapt n).mram = s.mram := by
  unfold State.laneAdapt; dsimp only [State.fresh]; (repeat' split) <;> simp
@[simp] theorem State.laneAdapt_words (n : Nat) : (s.laneAdapt n).words = s.words := by
  unfold State.laneAdapt; dsimp only [State.fresh]; (repeat' split) <;> simp
@[simp] theorem State.laneAdapt_counters (n : Nat) : (s.laneAdapt n).counters = s.counters := by
  unfold State.laneAdapt; dsimp only [State.fresh]; (repeat' split) <;> simp
@[simp] theorem State.laneAdapt_stipple (n : Nat) : (s.laneAdapt n).stipple = s.stipple := by
  unfold State.laneAdapt; dsimp only [State.fresh]; (repeat' split) <;> simp
@[simp] theorem State.laneAdapt_tick (n : Nat) : (s.laneAdapt n).tick = s.tick := by
  unfold State.laneAdapt; dsimp only [State.fresh]; (repeat' split) <;> simp
@[simp] theorem State.laneAdapt_cmd (n : Nat) : (s.laneAdapt n).cmd = s.cmd := by
  unfold State.laneAdapt; dsimp only [State.fresh]; (repeat' split) <;> simp
@[simp] theorem State.laneAdapt_ev (n : Nat) : (s.laneAdapt n).ev = s.ev := by
  unfold State.laneAdapt; dsimp only [State.fresh]; (repeat' split) <;> simp
@[simp] theorem State.laneAdapt_chans (n : Nat) : (s.laneAdapt n).chans = s.chans := by
  unfold State.laneAdapt; dsimp only [State.fresh]; (repeat' split) <;> simp
@[simp] theorem State.laneAdapt_vonu (n : Nat) : (s.laneAdapt n).vonu = s.vonu := by
  unfold State.laneAdapt; dsimp only [State.fresh]; (repeat' split) <;> simp
@[simp] theorem State.laneAdapt_burin (n : Nat) : (s.laneAdapt n).burin = s.burin := by
  unfold State.laneAdapt; dsimp only [State.fresh]; (repeat' split) <;> simp
@[simp] theorem State.laneAdapt_cls (n : Nat) : (s.laneAdapt n).cls = s.cls := by
  unfold State.laneAdapt; dsimp only [State.fresh]; (repeat' split) <;> simp
@[simp] theorem State.laneAdapt_qs (n : Nat) : (s.laneAdapt n).qs = s.qs := by
  unfold State.laneAdapt; dsimp only [State.fresh]; (repeat' split) <;> simp
@[simp] theorem State.laneAdapt_bpm (n : Nat) : (s.laneAdapt n).bpm = s.bpm := by
  unfold State.laneAdapt; dsimp only [State.fresh]; (repeat' split) <;> simp
@[simp] theorem State.laneAdapt_eth (n : Nat) : (s.laneAdapt n).eth = s.eth := by
  unfold State.laneAdapt; dsimp only [State.fresh]; (repeat' split) <;> simp
@[simp] theorem State.laneAdapt_time (n : Nat) : (s.laneAdapt n).time = s.time := by
  unfold State.laneAdapt; dsimp only [State.fresh]; (repeat' split) <;> simp
@[simp] theorem State.laneAdapt_ces (n : Nat) : (s.laneAdapt n).ces = s.ces := by
  unfold State.laneAdapt; dsimp only [State.fresh]; (repeat' split) <;> simp
@[simp] theorem State.laneAdapt_crypto (n : Nat) : (s.laneAdapt n).crypto = s.crypto := by
  unfold State.laneAdapt; dsimp only [State.fresh]; (repeat' split) <;> simp
@[simp] theorem State.laneAdapt_fault (n : Nat) : (s.laneAdapt n).fault = s.fault := by
  unfold State.laneAdapt; dsimp only [State.fresh]; (repeat' split) <;> simp
@[simp] theorem State.laneAdapt_power (n : Nat) : (s.laneAdapt n).power = s.power := by
  unfold State.laneAdapt; dsimp only [State.fresh]; (repeat' split) <;> simp
@[simp] theorem State.laneAdapt_fw (n : Nat) : (s.laneAdapt n).fw = s.fw := by
  unfold State.laneAdapt; dsimp only [State.fresh]; (repeat' split) <;> simp
@[simp] theorem State.laneAdapt_leg (n : Nat) : (s.laneAdapt n).leg = s.leg := by
  unfold State.laneAdapt; dsimp only [State.fresh]; (repeat' split) <;> simp
@[simp] theorem State.laneAdapt_out (n : Nat) : (s.laneAdapt n).out = s.out := by
  unfold State.laneAdapt; dsimp only [State.fresh]; (repeat' split) <;> simp

/-! ### adaptLanes -/

@[simp] theorem adaptLanes_pending (l : List Nat) : (adaptLanes l s).pending = s.pending := by
  induction l generalizing s with
  | nil => rfl
  | cons n r ih => simp [adaptLanes, ih]
@[simp] theorem adaptLanes_phase (l : List Nat) : (adaptLanes l s).phase = s.phase := by
  induction l generalizing s with
  | nil => rfl
  | cons n r ih => simp [adaptLanes, ih]
@[simp] theorem adaptLanes_legacy (l : List Nat) : (adaptLanes l s).legacy = s.legacy := by
  induction l generalizing s with
  | nil => rfl
  | cons n r ih => simp [adaptLanes, ih]
@[simp] theorem adaptLanes_pins (l : List Nat) : (adaptLanes l s).pins = s.pins := by
  induction l generalizing s with
  | nil => rfl
  | cons n r ih => simp [adaptLanes, ih]
@[simp] theorem adaptLanes_part (l : List Nat) : (adaptLanes l s).part = s.part := by
  induction l generalizing s with
  | nil => rfl
  | cons n r ih => simp [adaptLanes, ih]
@[simp] theorem adaptLanes_fuses (l : List Nat) : (adaptLanes l s).fuses = s.fuses := by
  induction l generalizing s with
  | nil => rfl
  | cons n r ih => simp [adaptLanes, ih]
@[simp] theorem adaptLanes_mram (l : List Nat) : (adaptLanes l s).mram = s.mram := by
  induction l generalizing s with
  | nil => rfl
  | cons n r ih => simp [adaptLanes, ih]
@[simp] theorem adaptLanes_words (l : List Nat) : (adaptLanes l s).words = s.words := by
  induction l generalizing s with
  | nil => rfl
  | cons n r ih => simp [adaptLanes, ih]
@[simp] theorem adaptLanes_counters (l : List Nat) : (adaptLanes l s).counters = s.counters := by
  induction l generalizing s with
  | nil => rfl
  | cons n r ih => simp [adaptLanes, ih]
@[simp] theorem adaptLanes_stipple (l : List Nat) : (adaptLanes l s).stipple = s.stipple := by
  induction l generalizing s with
  | nil => rfl
  | cons n r ih => simp [adaptLanes, ih]
@[simp] theorem adaptLanes_tick (l : List Nat) : (adaptLanes l s).tick = s.tick := by
  induction l generalizing s with
  | nil => rfl
  | cons n r ih => simp [adaptLanes, ih]
@[simp] theorem adaptLanes_cmd (l : List Nat) : (adaptLanes l s).cmd = s.cmd := by
  induction l generalizing s with
  | nil => rfl
  | cons n r ih => simp [adaptLanes, ih]
@[simp] theorem adaptLanes_ev (l : List Nat) : (adaptLanes l s).ev = s.ev := by
  induction l generalizing s with
  | nil => rfl
  | cons n r ih => simp [adaptLanes, ih]
@[simp] theorem adaptLanes_chans (l : List Nat) : (adaptLanes l s).chans = s.chans := by
  induction l generalizing s with
  | nil => rfl
  | cons n r ih => simp [adaptLanes, ih]
@[simp] theorem adaptLanes_vonu (l : List Nat) : (adaptLanes l s).vonu = s.vonu := by
  induction l generalizing s with
  | nil => rfl
  | cons n r ih => simp [adaptLanes, ih]
@[simp] theorem adaptLanes_burin (l : List Nat) : (adaptLanes l s).burin = s.burin := by
  induction l generalizing s with
  | nil => rfl
  | cons n r ih => simp [adaptLanes, ih]
@[simp] theorem adaptLanes_cls (l : List Nat) : (adaptLanes l s).cls = s.cls := by
  induction l generalizing s with
  | nil => rfl
  | cons n r ih => simp [adaptLanes, ih]
@[simp] theorem adaptLanes_qs (l : List Nat) : (adaptLanes l s).qs = s.qs := by
  induction l generalizing s with
  | nil => rfl
  | cons n r ih => simp [adaptLanes, ih]
@[simp] theorem adaptLanes_bpm (l : List Nat) : (adaptLanes l s).bpm = s.bpm := by
  induction l generalizing s with
  | nil => rfl
  | cons n r ih => simp [adaptLanes, ih]
@[simp] theorem adaptLanes_eth (l : List Nat) : (adaptLanes l s).eth = s.eth := by
  induction l generalizing s with
  | nil => rfl
  | cons n r ih => simp [adaptLanes, ih]
@[simp] theorem adaptLanes_time (l : List Nat) : (adaptLanes l s).time = s.time := by
  induction l generalizing s with
  | nil => rfl
  | cons n r ih => simp [adaptLanes, ih]
@[simp] theorem adaptLanes_ces (l : List Nat) : (adaptLanes l s).ces = s.ces := by
  induction l generalizing s with
  | nil => rfl
  | cons n r ih => simp [adaptLanes, ih]
@[simp] theorem adaptLanes_crypto (l : List Nat) : (adaptLanes l s).crypto = s.crypto := by
  induction l generalizing s with
  | nil => rfl
  | cons n r ih => simp [adaptLanes, ih]
@[simp] theorem adaptLanes_fault (l : List Nat) : (adaptLanes l s).fault = s.fault := by
  induction l generalizing s with
  | nil => rfl
  | cons n r ih => simp [adaptLanes, ih]
@[simp] theorem adaptLanes_power (l : List Nat) : (adaptLanes l s).power = s.power := by
  induction l generalizing s with
  | nil => rfl
  | cons n r ih => simp [adaptLanes, ih]
@[simp] theorem adaptLanes_fw (l : List Nat) : (adaptLanes l s).fw = s.fw := by
  induction l generalizing s with
  | nil => rfl
  | cons n r ih => simp [adaptLanes, ih]
@[simp] theorem adaptLanes_leg (l : List Nat) : (adaptLanes l s).leg = s.leg := by
  induction l generalizing s with
  | nil => rfl
  | cons n r ih => simp [adaptLanes, ih]
@[simp] theorem adaptLanes_out (l : List Nat) : (adaptLanes l s).out = s.out := by
  induction l generalizing s with
  | nil => rfl
  | cons n r ih => simp [adaptLanes, ih]

/-! ### alignSend -/

@[simp] theorem alignSend_pending (l : List Nat) : (alignSend l s).pending = s.pending := by
  induction l generalizing s with
  | nil => rfl
  | cons n r ih =>
    unfold alignSend; dsimp only; split
    · exact ih _
    · rw [ih]; split <;> simp
@[simp] theorem alignSend_phase (l : List Nat) : (alignSend l s).phase = s.phase := by
  induction l generalizing s with
  | nil => rfl
  | cons n r ih =>
    unfold alignSend; dsimp only; split
    · exact ih _
    · rw [ih]; split <;> simp
@[simp] theorem alignSend_legacy (l : List Nat) : (alignSend l s).legacy = s.legacy := by
  induction l generalizing s with
  | nil => rfl
  | cons n r ih =>
    unfold alignSend; dsimp only; split
    · exact ih _
    · rw [ih]; split <;> simp
@[simp] theorem alignSend_pins (l : List Nat) : (alignSend l s).pins = s.pins := by
  induction l generalizing s with
  | nil => rfl
  | cons n r ih =>
    unfold alignSend; dsimp only; split
    · exact ih _
    · rw [ih]; split <;> simp
@[simp] theorem alignSend_part (l : List Nat) : (alignSend l s).part = s.part := by
  induction l generalizing s with
  | nil => rfl
  | cons n r ih =>
    unfold alignSend; dsimp only; split
    · exact ih _
    · rw [ih]; split <;> simp
@[simp] theorem alignSend_fuses (l : List Nat) : (alignSend l s).fuses = s.fuses := by
  induction l generalizing s with
  | nil => rfl
  | cons n r ih =>
    unfold alignSend; dsimp only; split
    · exact ih _
    · rw [ih]; split <;> simp
@[simp] theorem alignSend_mram (l : List Nat) : (alignSend l s).mram = s.mram := by
  induction l generalizing s with
  | nil => rfl
  | cons n r ih =>
    unfold alignSend; dsimp only; split
    · exact ih _
    · rw [ih]; split <;> simp
@[simp] theorem alignSend_words (l : List Nat) : (alignSend l s).words = s.words := by
  induction l generalizing s with
  | nil => rfl
  | cons n r ih =>
    unfold alignSend; dsimp only; split
    · exact ih _
    · rw [ih]; split <;> simp
@[simp] theorem alignSend_counters (l : List Nat) : (alignSend l s).counters = s.counters := by
  induction l generalizing s with
  | nil => rfl
  | cons n r ih =>
    unfold alignSend; dsimp only; split
    · exact ih _
    · rw [ih]; split <;> simp
@[simp] theorem alignSend_stipple (l : List Nat) : (alignSend l s).stipple = s.stipple := by
  induction l generalizing s with
  | nil => rfl
  | cons n r ih =>
    unfold alignSend; dsimp only; split
    · exact ih _
    · rw [ih]; split <;> simp
@[simp] theorem alignSend_tick (l : List Nat) : (alignSend l s).tick = s.tick := by
  induction l generalizing s with
  | nil => rfl
  | cons n r ih =>
    unfold alignSend; dsimp only; split
    · exact ih _
    · rw [ih]; split <;> simp
@[simp] theorem alignSend_cmd (l : List Nat) : (alignSend l s).cmd = s.cmd := by
  induction l generalizing s with
  | nil => rfl
  | cons n r ih =>
    unfold alignSend; dsimp only; split
    · exact ih _
    · rw [ih]; split <;> simp
@[simp] theorem alignSend_ev (l : List Nat) : (alignSend l s).ev = s.ev := by
  induction l generalizing s with
  | nil => rfl
  | cons n r ih =>
    unfold alignSend; dsimp only; split
    · exact ih _
    · rw [ih]; split <;> simp
@[simp] theorem alignSend_chans (l : List Nat) : (alignSend l s).chans = s.chans := by
  induction l generalizing s with
  | nil => rfl
  | cons n r ih =>
    unfold alignSend; dsimp only; split
    · exact ih _
    · rw [ih]; split <;> simp
@[simp] theorem alignSend_vonu (l : List Nat) : (alignSend l s).vonu = s.vonu := by
  induction l generalizing s with
  | nil => rfl
  | cons n r ih =>
    unfold alignSend; dsimp only; split
    · exact ih _
    · rw [ih]; split <;> simp
@[simp] theorem alignSend_burin (l : List Nat) : (alignSend l s).burin = s.burin := by
  induction l generalizing s with
  | nil => rfl
  | cons n r ih =>
    unfold alignSend; dsimp only; split
    · exact ih _
    · rw [ih]; split <;> simp
@[simp] theorem alignSend_cls (l : List Nat) : (alignSend l s).cls = s.cls := by
  induction l generalizing s with
  | nil => rfl
  | cons n r ih =>
    unfold alignSend; dsimp only; split
    · exact ih _
    · rw [ih]; split <;> simp
@[simp] theorem alignSend_qs (l : List Nat) : (alignSend l s).qs = s.qs := by
  induction l generalizing s with
  | nil => rfl
  | cons n r ih =>
    unfold alignSend; dsimp only; split
    · exact ih _
    · rw [ih]; split <;> simp
@[simp] theorem alignSend_bpm (l : List Nat) : (alignSend l s).bpm = s.bpm := by
  induction l generalizing s with
  | nil => rfl
  | cons n r ih =>
    unfold alignSend; dsimp only; split
    · exact ih _
    · rw [ih]; split <;> simp
@[simp] theorem alignSend_eth (l : List Nat) : (alignSend l s).eth = s.eth := by
  induction l generalizing s with
  | nil => rfl
  | cons n r ih =>
    unfold alignSend; dsimp only; split
    · exact ih _
    · rw [ih]; split <;> simp
@[simp] theorem alignSend_time (l : List Nat) : (alignSend l s).time = s.time := by
  induction l generalizing s with
  | nil => rfl
  | cons n r ih =>
    unfold alignSend; dsimp only; split
    · exact ih _
    · rw [ih]; split <;> simp
@[simp] theorem alignSend_ces (l : List Nat) : (alignSend l s).ces = s.ces := by
  induction l generalizing s with
  | nil => rfl
  | cons n r ih =>
    unfold alignSend; dsimp only; split
    · exact ih _
    · rw [ih]; split <;> simp
@[simp] theorem alignSend_crypto (l : List Nat) : (alignSend l s).crypto = s.crypto := by
  induction l generalizing s with
  | nil => rfl
  | cons n r ih =>
    unfold alignSend; dsimp only; split
    · exact ih _
    · rw [ih]; split <;> simp
@[simp] theorem alignSend_fault (l : List Nat) : (alignSend l s).fault = s.fault := by
  induction l generalizing s with
  | nil => rfl
  | cons n r ih =>
    unfold alignSend; dsimp only; split
    · exact ih _
    · rw [ih]; split <;> simp
@[simp] theorem alignSend_power (l : List Nat) : (alignSend l s).power = s.power := by
  induction l generalizing s with
  | nil => rfl
  | cons n r ih =>
    unfold alignSend; dsimp only; split
    · exact ih _
    · rw [ih]; split <;> simp
@[simp] theorem alignSend_fw (l : List Nat) : (alignSend l s).fw = s.fw := by
  induction l generalizing s with
  | nil => rfl
  | cons n r ih =>
    unfold alignSend; dsimp only; split
    · exact ih _
    · rw [ih]; split <;> simp
@[simp] theorem alignSend_leg (l : List Nat) : (alignSend l s).leg = s.leg := by
  induction l generalizing s with
  | nil => rfl
  | cons n r ih =>
    unfold alignSend; dsimp only; split
    · exact ih _
    · rw [ih]; split <;> simp
@[simp] theorem alignSend_freeCount (l : List Nat) : (alignSend l s).freeCount = s.freeCount := by
  induction l generalizing s with
  | nil => rfl
  | cons n r ih =>
    unfold alignSend; dsimp only; split
    · exact ih _
    · rw [ih]; split <;> simp

/-! ### State.aligned -/

@[simp] theorem State.aligned_pending : (s.aligned).pending = s.pending := by
  simp [State.aligned]
@[simp] theorem State.aligned_phase : (s.aligned).phase = s.phase := by
  simp [State.aligned]
@[simp] theorem State.aligned_legacy : (s.aligned).legacy = s.legacy := by
  simp [State.aligned]
@[simp] theorem State.aligned_pins : (s.aligned).pins = s.pins := by
  simp [State.aligned]
@[simp] theorem State.aligned_part : (s.aligned).part = s.part := by
  simp [State.aligned]
@[simp] theorem State.aligned_fuses : (s.aligned).fuses = s.fuses := by
  simp [State.aligned]
@[simp] theorem State.aligned_mram : (s.aligned).mram = s.mram := by
  simp [State.aligned]
@[simp] theorem State.aligned_words : (s.aligned).words = s.words := by
  simp [State.aligned]
@[simp] theorem State.aligned_counters : (s.aligned).counters = s.counters := by
  simp [State.aligned]
@[simp] theorem State.aligned_stipple : (s.aligned).stipple = s.stipple := by
  simp [State.aligned]
@[simp] theorem State.aligned_tick : (s.aligned).tick = s.tick := by
  simp [State.aligned]
@[simp] theorem State.aligned_cmd : (s.aligned).cmd = s.cmd := by
  simp [State.aligned]
@[simp] theorem State.aligned_ev : (s.aligned).ev = s.ev := by
  simp [State.aligned]
@[simp] theorem State.aligned_chans : (s.aligned).chans = s.chans := by
  simp [State.aligned]
@[simp] theorem State.aligned_vonu : (s.aligned).vonu = s.vonu := by
  simp [State.aligned]
@[simp] theorem State.aligned_burin : (s.aligned).burin = s.burin := by
  simp [State.aligned]
@[simp] theorem State.aligned_cls : (s.aligned).cls = s.cls := by
  simp [State.aligned]
@[simp] theorem State.aligned_qs : (s.aligned).qs = s.qs := by
  simp [State.aligned]
@[simp] theorem State.aligned_bpm : (s.aligned).bpm = s.bpm := by
  simp [State.aligned]
@[simp] theorem State.aligned_eth : (s.aligned).eth = s.eth := by
  simp [State.aligned]
@[simp] theorem State.aligned_time : (s.aligned).time = s.time := by
  simp [State.aligned]
@[simp] theorem State.aligned_ces : (s.aligned).ces = s.ces := by
  simp [State.aligned]
@[simp] theorem State.aligned_crypto : (s.aligned).crypto = s.crypto := by
  simp [State.aligned]
@[simp] theorem State.aligned_fault : (s.aligned).fault = s.fault := by
  simp [State.aligned]
@[simp] theorem State.aligned_power : (s.aligned).power = s.power := by
  simp [State.aligned]
@[simp] theorem State.aligned_fw : (s.aligned).fw = s.fw := by
  simp [State.aligned]
@[simp] theorem State.aligned_leg : (s.aligned).leg = s.leg := by
  simp [State.aligned]
@[simp] theorem State.aligned_freeCount : (s.aligned).freeCount = s.freeCount := by
  simp [State.aligned]

/-! ### State.txDone -/

@[simp] theorem State.txDone_pending (e : Nat) : (s.txDone e).pending = s.pending := by
  unfold State.txDone; split <;> simp
@[simp] theorem State.txDone_phase (e : Nat) : (s.txDone e).phase = s.phase := by
  unfold State.txDone; split <;> simp
@[simp] theorem State.txDone_legacy (e : Nat) : (s.txDone e).legacy = s.legacy := by
  unfold State.txDone; split <;> simp
@[simp] theorem State.txDone_pins (e : Nat) : (s.txDone e).pins = s.pins := by
  unfold State.txDone; split <;> simp
@[simp] theorem State.txDone_part (e : Nat) : (s.txDone e).part = s.part := by
  unfold State.txDone; split <;> simp
@[simp] theorem State.txDone_fuses (e : Nat) : (s.txDone e).fuses = s.fuses := by
  unfold State.txDone; split <;> simp
@[simp] theorem State.txDone_mram (e : Nat) : (s.txDone e).mram = s.mram := by
  unfold State.txDone; split <;> simp
@[simp] theorem State.txDone_words (e : Nat) : (s.txDone e).words = s.words := by
  unfold State.txDone; split <;> simp
@[simp] theorem State.txDone_stipple (e : Nat) : (s.txDone e).stipple = s.stipple := by
  unfold State.txDone; split <;> simp
@[simp] theorem State.txDone_tick (e : Nat) : (s.txDone e).tick = s.tick := by
  unfold State.txDone; split <;> simp
@[simp] theorem State.txDone_cmd (e : Nat) : (s.txDone e).cmd = s.cmd := by
  unfold State.txDone; split <;> simp
@[simp] theorem State.txDone_ev (e : Nat) : (s.txDone e).ev = s.ev := by
  unfold State.txDone; split <;> simp
@[simp] theorem State.txDone_chans (e : Nat) : (s.txDone e).chans = s.chans := by
  unfold State.txDone; split <;> simp
@[simp] theorem State.txDone_vonu (e : Nat) : (s.txDone e).vonu = s.vonu := by
  unfold State.txDone; split <;> simp
@[simp] theorem State.txDone_burin (e : Nat) : (s.txDone e).burin = s.burin := by
  unfold State.txDone; split <;> simp
@[simp] theorem State.txDone_cls (e : Nat) : (s.txDone e).cls = s.cls := by
  unfold State.txDone; split <;> simp
@[simp] theorem State.txDone_qs (e : Nat) : (s.txDone e).qs = s.qs := by
  unfold State.txDone; split <;> simp
@[simp] theorem State.txDone_bpm (e : Nat) : (s.txDone e).bpm = s.bpm := by
  unfold State.txDone; split <;> simp
@[simp] theorem State.txDone_alink (e : Nat) : (s.txDone e).alink = s.alink := by
  unfold State.txDone; split <;> simp
@[simp] theorem State.txDone_time (e : Nat) : (s.txDone e).time = s.time := by
  unfold State.txDone; split <;> simp
@[simp] theorem State.txDone_ces (e : Nat) : (s.txDone e).ces = s.ces := by
  unfold State.txDone; split <;> simp
@[simp] theorem State.txDone_crypto (e : Nat) : (s.txDone e).crypto = s.crypto := by
  unfold State.txDone; split <;> simp
@[simp] theorem State.txDone_fault (e : Nat) : (s.txDone e).fault = s.fault := by
  unfold State.txDone; split <;> simp
@[simp] theorem State.txDone_power (e : Nat) : (s.txDone e).power = s.power := by
  unfold State.txDone; split <;> simp
@[simp] theorem State.txDone_fw (e : Nat) : (s.txDone e).fw = s.fw := by
  unfold State.txDone; split <;> simp
@[simp] theorem State.txDone_leg (e : Nat) : (s.txDone e).leg = s.leg := by
  unfold State.txDone; split <;> simp
@[simp] theorem State.txDone_freeCount (e : Nat) : (s.txDone e).freeCount = s.freeCount := by
  unfold State.txDone; split <;> simp

/-! ### State.txCut -/

@[simp] theorem State.txCut_pending (e : Nat) : (s.txCut e).pending = s.pending := by
  unfold State.txCut; split
  · rfl
  · dsimp only; split <;> simp
@[simp] theorem State.txCut_phase (e : Nat) : (s.txCut e).phase = s.phase := by
  unfold State.txCut; split
  · rfl
  · dsimp only; split <;> simp
@[simp] theorem State.txCut_legacy (e : Nat) : (s.txCut e).legacy = s.legacy := by
  unfold State.txCut; split
  · rfl
  · dsimp only; split <;> simp
@[simp] theorem State.txCut_pins (e : Nat) : (s.txCut e).pins = s.pins := by
  unfold State.txCut; split
  · rfl
  · dsimp only; split <;> simp
@[simp] theorem State.txCut_part (e : Nat) : (s.txCut e).part = s.part := by
  unfold State.txCut; split
  · rfl
  · dsimp only; split <;> simp
@[simp] theorem State.txCut_fuses (e : Nat) : (s.txCut e).fuses = s.fuses := by
  unfold State.txCut; split
  · rfl
  · dsimp only; split <;> simp
@[simp] theorem State.txCut_mram (e : Nat) : (s.txCut e).mram = s.mram := by
  unfold State.txCut; split
  · rfl
  · dsimp only; split <;> simp
@[simp] theorem State.txCut_words (e : Nat) : (s.txCut e).words = s.words := by
  unfold State.txCut; split
  · rfl
  · dsimp only; split <;> simp
@[simp] theorem State.txCut_stipple (e : Nat) : (s.txCut e).stipple = s.stipple := by
  unfold State.txCut; split
  · rfl
  · dsimp only; split <;> simp
@[simp] theorem State.txCut_tick (e : Nat) : (s.txCut e).tick = s.tick := by
  unfold State.txCut; split
  · rfl
  · dsimp only; split <;> simp
@[simp] theorem State.txCut_cmd (e : Nat) : (s.txCut e).cmd = s.cmd := by
  unfold State.txCut; split
  · rfl
  · dsimp only; split <;> simp
@[simp] theorem State.txCut_ev (e : Nat) : (s.txCut e).ev = s.ev := by
  unfold State.txCut; split
  · rfl
  · dsimp only; split <;> simp
@[simp] theorem State.txCut_chans (e : Nat) : (s.txCut e).chans = s.chans := by
  unfold State.txCut; split
  · rfl
  · dsimp only; split <;> simp
@[simp] theorem State.txCut_vonu (e : Nat) : (s.txCut e).vonu = s.vonu := by
  unfold State.txCut; split
  · rfl
  · dsimp only; split <;> simp
@[simp] theorem State.txCut_burin (e : Nat) : (s.txCut e).burin = s.burin := by
  unfold State.txCut; split
  · rfl
  · dsimp only; split <;> simp
@[simp] theorem State.txCut_cls (e : Nat) : (s.txCut e).cls = s.cls := by
  unfold State.txCut; split
  · rfl
  · dsimp only; split <;> simp
@[simp] theorem State.txCut_qs (e : Nat) : (s.txCut e).qs = s.qs := by
  unfold State.txCut; split
  · rfl
  · dsimp only; split <;> simp
@[simp] theorem State.txCut_bpm (e : Nat) : (s.txCut e).bpm = s.bpm := by
  unfold State.txCut; split
  · rfl
  · dsimp only; split <;> simp
@[simp] theorem State.txCut_alink (e : Nat) : (s.txCut e).alink = s.alink := by
  unfold State.txCut; split
  · rfl
  · dsimp only; split <;> simp
@[simp] theorem State.txCut_time (e : Nat) : (s.txCut e).time = s.time := by
  unfold State.txCut; split
  · rfl
  · dsimp only; split <;> simp
@[simp] theorem State.txCut_ces (e : Nat) : (s.txCut e).ces = s.ces := by
  unfold State.txCut; split
  · rfl
  · dsimp only; split <;> simp
@[simp] theorem State.txCut_crypto (e : Nat) : (s.txCut e).crypto = s.crypto := by
  unfold State.txCut; split
  · rfl
  · dsimp only; split <;> simp
@[simp] theorem State.txCut_fault (e : Nat) : (s.txCut e).fault = s.fault := by
  unfold State.txCut; split
  · rfl
  · dsimp only; split <;> simp
@[simp] theorem State.txCut_power (e : Nat) : (s.txCut e).power = s.power := by
  unfold State.txCut; split
  · rfl
  · dsimp only; split <;> simp
@[simp] theorem State.txCut_fw (e : Nat) : (s.txCut e).fw = s.fw := by
  unfold State.txCut; split
  · rfl
  · dsimp only; split <;> simp
@[simp] theorem State.txCut_leg (e : Nat) : (s.txCut e).leg = s.leg := by
  unfold State.txCut; split
  · rfl
  · dsimp only; split <;> simp

/-! ### State.eeeResolve -/

@[simp] theorem State.eeeResolve_pending (e : Nat) : (s.eeeResolve e).pending = s.pending := by
  unfold State.eeeResolve; dsimp only; split <;> simp
@[simp] theorem State.eeeResolve_phase (e : Nat) : (s.eeeResolve e).phase = s.phase := by
  unfold State.eeeResolve; dsimp only; split <;> simp
@[simp] theorem State.eeeResolve_legacy (e : Nat) : (s.eeeResolve e).legacy = s.legacy := by
  unfold State.eeeResolve; dsimp only; split <;> simp
@[simp] theorem State.eeeResolve_pins (e : Nat) : (s.eeeResolve e).pins = s.pins := by
  unfold State.eeeResolve; dsimp only; split <;> simp
@[simp] theorem State.eeeResolve_part (e : Nat) : (s.eeeResolve e).part = s.part := by
  unfold State.eeeResolve; dsimp only; split <;> simp
@[simp] theorem State.eeeResolve_fuses (e : Nat) : (s.eeeResolve e).fuses = s.fuses := by
  unfold State.eeeResolve; dsimp only; split <;> simp
@[simp] theorem State.eeeResolve_words (e : Nat) : (s.eeeResolve e).words = s.words := by
  unfold State.eeeResolve; dsimp only; split <;> simp
@[simp] theorem State.eeeResolve_stipple (e : Nat) : (s.eeeResolve e).stipple = s.stipple := by
  unfold State.eeeResolve; dsimp only; split <;> simp
@[simp] theorem State.eeeResolve_tick (e : Nat) : (s.eeeResolve e).tick = s.tick := by
  unfold State.eeeResolve; dsimp only; split <;> simp
@[simp] theorem State.eeeResolve_cmd (e : Nat) : (s.eeeResolve e).cmd = s.cmd := by
  unfold State.eeeResolve; dsimp only; split <;> simp
@[simp] theorem State.eeeResolve_chans (e : Nat) : (s.eeeResolve e).chans = s.chans := by
  unfold State.eeeResolve; dsimp only; split <;> simp
@[simp] theorem State.eeeResolve_vonu (e : Nat) : (s.eeeResolve e).vonu = s.vonu := by
  unfold State.eeeResolve; dsimp only; split <;> simp
@[simp] theorem State.eeeResolve_burin (e : Nat) : (s.eeeResolve e).burin = s.burin := by
  unfold State.eeeResolve; dsimp only; split <;> simp
@[simp] theorem State.eeeResolve_cls (e : Nat) : (s.eeeResolve e).cls = s.cls := by
  unfold State.eeeResolve; dsimp only; split <;> simp
@[simp] theorem State.eeeResolve_qs (e : Nat) : (s.eeeResolve e).qs = s.qs := by
  unfold State.eeeResolve; dsimp only; split <;> simp
@[simp] theorem State.eeeResolve_bpm (e : Nat) : (s.eeeResolve e).bpm = s.bpm := by
  unfold State.eeeResolve; dsimp only; split <;> simp
@[simp] theorem State.eeeResolve_alink (e : Nat) : (s.eeeResolve e).alink = s.alink := by
  unfold State.eeeResolve; dsimp only; split <;> simp
@[simp] theorem State.eeeResolve_time (e : Nat) : (s.eeeResolve e).time = s.time := by
  unfold State.eeeResolve; dsimp only; split <;> simp
@[simp] theorem State.eeeResolve_ces (e : Nat) : (s.eeeResolve e).ces = s.ces := by
  unfold State.eeeResolve; dsimp only; split <;> simp
@[simp] theorem State.eeeResolve_crypto (e : Nat) : (s.eeeResolve e).crypto = s.crypto := by
  unfold State.eeeResolve; dsimp only; split <;> simp
@[simp] theorem State.eeeResolve_fault (e : Nat) : (s.eeeResolve e).fault = s.fault := by
  unfold State.eeeResolve; dsimp only; split <;> simp
@[simp] theorem State.eeeResolve_power (e : Nat) : (s.eeeResolve e).power = s.power := by
  unfold State.eeeResolve; dsimp only; split <;> simp
@[simp] theorem State.eeeResolve_fw (e : Nat) : (s.eeeResolve e).fw = s.fw := by
  unfold State.eeeResolve; dsimp only; split <;> simp
@[simp] theorem State.eeeResolve_out (e : Nat) : (s.eeeResolve e).out = s.out := by
  unfold State.eeeResolve; dsimp only; split <;> simp

/-! ### State.holdChange -/

/-- A fold of steps that change the queues alone. -/
theorem State.fold_qs {α : Type} (g : State → α → State) (h : ∀ s x, ∃ q, g s x = { s with qs := q }) (l : List α) :
    ∀ s : State, ∃ q, l.foldl g s = { s with qs := q } := by
  induction l with
  | nil => exact fun s => ⟨s.qs, rfl⟩
  | cons x r ih =>
    intro s
    obtain ⟨q, e⟩ := h s x
    obtain ⟨q', e'⟩ := ih (g s x)
    exact ⟨q', by rw [List.foldl_cons, e', e]⟩

theorem State.requalifyOne_frame (n : Nat) (now : BitVec 64) (q : Nat) :
    ∃ x, s.requalifyOne n now q = { s with qs := x } := by
  have tag (s : State) (v : BitVec 48) : ∃ x, s.tagHead n q v = { s with qs := x } := by
    unfold State.tagHead; dsimp only; split
    · exact ⟨s.qs, rfl⟩
    · exact ⟨_, rfl⟩
  unfold State.requalifyOne; dsimp only; split
  · exact ⟨s.qs, rfl⟩
  · split
    · exact ⟨s.qs, rfl⟩
    · split
      · obtain ⟨x, h⟩ := tag (s.setQueue q { s.queue q with wasEligible := s.eligible n q now })
          (tagMax (s.queue q).start (State.virt (s.setQueue q { s.queue q with wasEligible := s.eligible n q now }) n))
        exact ⟨x, h⟩
      · exact ⟨_, rfl⟩

/-- Bringing a node's weighted group up to a moment changes the queues alone. -/
theorem State.requalify_frame (n : Nat) (now : BitVec 64) : ∃ q, s.requalify n now = { s with qs := q } := by
  unfold State.requalify
  exact State.fold_qs _ (fun s q => s.requalifyOne_frame n now q) _ s

/-- So does bringing a node up to a moment. -/
theorem State.nodeTouch_frame (n : Nat) (now : BitVec 64) : ∃ q, s.nodeTouch n now = { s with qs := q } := by
  have cred : ∃ x, s.creditsNow n now = { s with qs := x } := by
    unfold State.creditsNow State.cbsUpdate; split
    · exact State.fold_qs _ (fun s p => by split <;> exact ⟨_, rfl⟩) _ s
    · exact ⟨s.qs, rfl⟩
  obtain ⟨q, h⟩ := cred
  obtain ⟨q', h'⟩ := (s.creditsNow n now).requalify_frame n now
  exact ⟨q', by unfold State.nodeTouch; rw [h', h]⟩

/-- A port's hold changes the port, its node's queues and the free values alone. -/
theorem State.holdChange_frame (e : Nat) (f : EthPort → EthPort) :
    ∃ q x n, s.holdChange e f = { s with qs := q, eth := x, freeCount := n } := by
  unfold State.holdChange
  obtain ⟨q, h⟩ := s.instant.2.nodeTouch_frame (8704 + e) s.instant.1
  obtain ⟨q', h'⟩ := ((s.instant.2.nodeTouch (8704 + e) s.instant.1).modEth e f).requalify_frame (8704 + e) s.instant.1
  exact ⟨_, _, _, by dsimp only; rw [h', h]; rfl⟩

@[simp] theorem State.holdChange_pending (e : Nat) (f : EthPort → EthPort) : (s.holdChange e f).pending = s.pending := by
  obtain ⟨q, x, n, h⟩ := s.holdChange_frame e f; rw [h]
@[simp] theorem State.holdChange_phase (e : Nat) (f : EthPort → EthPort) : (s.holdChange e f).phase = s.phase := by
  obtain ⟨q, x, n, h⟩ := s.holdChange_frame e f; rw [h]
@[simp] theorem State.holdChange_legacy (e : Nat) (f : EthPort → EthPort) : (s.holdChange e f).legacy = s.legacy := by
  obtain ⟨q, x, n, h⟩ := s.holdChange_frame e f; rw [h]
@[simp] theorem State.holdChange_pins (e : Nat) (f : EthPort → EthPort) : (s.holdChange e f).pins = s.pins := by
  obtain ⟨q, x, n, h⟩ := s.holdChange_frame e f; rw [h]
@[simp] theorem State.holdChange_part (e : Nat) (f : EthPort → EthPort) : (s.holdChange e f).part = s.part := by
  obtain ⟨q, x, n, h⟩ := s.holdChange_frame e f; rw [h]
@[simp] theorem State.holdChange_fuses (e : Nat) (f : EthPort → EthPort) : (s.holdChange e f).fuses = s.fuses := by
  obtain ⟨q, x, n, h⟩ := s.holdChange_frame e f; rw [h]
@[simp] theorem State.holdChange_words (e : Nat) (f : EthPort → EthPort) : (s.holdChange e f).words = s.words := by
  obtain ⟨q, x, n, h⟩ := s.holdChange_frame e f; rw [h]
@[simp] theorem State.holdChange_stipple (e : Nat) (f : EthPort → EthPort) : (s.holdChange e f).stipple = s.stipple := by
  obtain ⟨q, x, n, h⟩ := s.holdChange_frame e f; rw [h]
@[simp] theorem State.holdChange_tick (e : Nat) (f : EthPort → EthPort) : (s.holdChange e f).tick = s.tick := by
  obtain ⟨q, x, n, h⟩ := s.holdChange_frame e f; rw [h]
@[simp] theorem State.holdChange_cmd (e : Nat) (f : EthPort → EthPort) : (s.holdChange e f).cmd = s.cmd := by
  obtain ⟨q, x, n, h⟩ := s.holdChange_frame e f; rw [h]
@[simp] theorem State.holdChange_chans (e : Nat) (f : EthPort → EthPort) : (s.holdChange e f).chans = s.chans := by
  obtain ⟨q, x, n, h⟩ := s.holdChange_frame e f; rw [h]
@[simp] theorem State.holdChange_vonu (e : Nat) (f : EthPort → EthPort) : (s.holdChange e f).vonu = s.vonu := by
  obtain ⟨q, x, n, h⟩ := s.holdChange_frame e f; rw [h]
@[simp] theorem State.holdChange_burin (e : Nat) (f : EthPort → EthPort) : (s.holdChange e f).burin = s.burin := by
  obtain ⟨q, x, n, h⟩ := s.holdChange_frame e f; rw [h]
@[simp] theorem State.holdChange_cls (e : Nat) (f : EthPort → EthPort) : (s.holdChange e f).cls = s.cls := by
  obtain ⟨q, x, n, h⟩ := s.holdChange_frame e f; rw [h]
@[simp] theorem State.holdChange_bpm (e : Nat) (f : EthPort → EthPort) : (s.holdChange e f).bpm = s.bpm := by
  obtain ⟨q, x, n, h⟩ := s.holdChange_frame e f; rw [h]
@[simp] theorem State.holdChange_alink (e : Nat) (f : EthPort → EthPort) : (s.holdChange e f).alink = s.alink := by
  obtain ⟨q, x, n, h⟩ := s.holdChange_frame e f; rw [h]
@[simp] theorem State.holdChange_time (e : Nat) (f : EthPort → EthPort) : (s.holdChange e f).time = s.time := by
  obtain ⟨q, x, n, h⟩ := s.holdChange_frame e f; rw [h]
@[simp] theorem State.holdChange_ces (e : Nat) (f : EthPort → EthPort) : (s.holdChange e f).ces = s.ces := by
  obtain ⟨q, x, n, h⟩ := s.holdChange_frame e f; rw [h]
@[simp] theorem State.holdChange_crypto (e : Nat) (f : EthPort → EthPort) : (s.holdChange e f).crypto = s.crypto := by
  obtain ⟨q, x, n, h⟩ := s.holdChange_frame e f; rw [h]
@[simp] theorem State.holdChange_fault (e : Nat) (f : EthPort → EthPort) : (s.holdChange e f).fault = s.fault := by
  obtain ⟨q, x, n, h⟩ := s.holdChange_frame e f; rw [h]
@[simp] theorem State.holdChange_power (e : Nat) (f : EthPort → EthPort) : (s.holdChange e f).power = s.power := by
  obtain ⟨q, x, n, h⟩ := s.holdChange_frame e f; rw [h]
@[simp] theorem State.holdChange_fw (e : Nat) (f : EthPort → EthPort) : (s.holdChange e f).fw = s.fw := by
  obtain ⟨q, x, n, h⟩ := s.holdChange_frame e f; rw [h]

/-! ### State.setEth -/

@[simp] theorem State.setEth_pending (e : Nat) (t : EthState) (n : Nat) : (s.setEth e t n).pending = s.pending := by
  unfold State.setEth; dsimp only; split
  · rfl
  · simp only [State.raiseIf_pending]; (repeat' split) <;> simp
@[simp] theorem State.setEth_phase (e : Nat) (t : EthState) (n : Nat) : (s.setEth e t n).phase = s.phase := by
  unfold State.setEth; dsimp only; split
  · rfl
  · simp only [State.raiseIf_phase]; (repeat' split) <;> simp
@[simp] theorem State.setEth_legacy (e : Nat) (t : EthState) (n : Nat) : (s.setEth e t n).legacy = s.legacy := by
  unfold State.setEth; dsimp only; split
  · rfl
  · simp only [State.raiseIf_legacy]; (repeat' split) <;> simp
@[simp] theorem State.setEth_pins (e : Nat) (t : EthState) (n : Nat) : (s.setEth e t n).pins = s.pins := by
  unfold State.setEth; dsimp only; split
  · rfl
  · simp only [State.raiseIf_pins]; (repeat' split) <;> simp
@[simp] theorem State.setEth_part (e : Nat) (t : EthState) (n : Nat) : (s.setEth e t n).part = s.part := by
  unfold State.setEth; dsimp only; split
  · rfl
  · simp only [State.raiseIf_part]; (repeat' split) <;> simp
@[simp] theorem State.setEth_fuses (e : Nat) (t : EthState) (n : Nat) : (s.setEth e t n).fuses = s.fuses := by
  unfold State.setEth; dsimp only; split
  · rfl
  · simp only [State.raiseIf_fuses]; (repeat' split) <;> simp
@[simp] theorem State.setEth_words (e : Nat) (t : EthState) (n : Nat) : (s.setEth e t n).words = s.words := by
  unfold State.setEth; dsimp only; split
  · rfl
  · simp only [State.raiseIf_words]; (repeat' split) <;> simp
@[simp] theorem State.setEth_stipple (e : Nat) (t : EthState) (n : Nat) : (s.setEth e t n).stipple = s.stipple := by
  unfold State.setEth; dsimp only; split
  · rfl
  · simp only [State.raiseIf_stipple]; (repeat' split) <;> simp
@[simp] theorem State.setEth_tick (e : Nat) (t : EthState) (n : Nat) : (s.setEth e t n).tick = s.tick := by
  unfold State.setEth; dsimp only; split
  · rfl
  · simp only [State.raiseIf_tick]; (repeat' split) <;> simp
@[simp] theorem State.setEth_cmd (e : Nat) (t : EthState) (n : Nat) : (s.setEth e t n).cmd = s.cmd := by
  unfold State.setEth; dsimp only; split
  · rfl
  · simp only [State.raiseIf_cmd]; (repeat' split) <;> simp
@[simp] theorem State.setEth_chans (e : Nat) (t : EthState) (n : Nat) : (s.setEth e t n).chans = s.chans := by
  unfold State.setEth; dsimp only; split
  · rfl
  · simp only [State.raiseIf_chans]; (repeat' split) <;> simp
@[simp] theorem State.setEth_vonu (e : Nat) (t : EthState) (n : Nat) : (s.setEth e t n).vonu = s.vonu := by
  unfold State.setEth; dsimp only; split
  · rfl
  · simp only [State.raiseIf_vonu]; (repeat' split) <;> simp
@[simp] theorem State.setEth_burin (e : Nat) (t : EthState) (n : Nat) : (s.setEth e t n).burin = s.burin := by
  unfold State.setEth; dsimp only; split
  · rfl
  · simp only [State.raiseIf_burin]; (repeat' split) <;> simp
@[simp] theorem State.setEth_cls (e : Nat) (t : EthState) (n : Nat) : (s.setEth e t n).cls = s.cls := by
  unfold State.setEth; dsimp only; split
  · rfl
  · simp only [State.raiseIf_cls]; (repeat' split) <;> simp
@[simp] theorem State.setEth_bpm (e : Nat) (t : EthState) (n : Nat) : (s.setEth e t n).bpm = s.bpm := by
  unfold State.setEth; dsimp only; split
  · rfl
  · simp only [State.raiseIf_bpm]; (repeat' split) <;> simp
@[simp] theorem State.setEth_alink (e : Nat) (t : EthState) (n : Nat) : (s.setEth e t n).alink = s.alink := by
  unfold State.setEth; dsimp only; split
  · rfl
  · simp only [State.raiseIf_alink]; (repeat' split) <;> simp
@[simp] theorem State.setEth_time (e : Nat) (t : EthState) (n : Nat) : (s.setEth e t n).time = s.time := by
  unfold State.setEth; dsimp only; split
  · rfl
  · simp only [State.raiseIf_time]; (repeat' split) <;> simp
@[simp] theorem State.setEth_ces (e : Nat) (t : EthState) (n : Nat) : (s.setEth e t n).ces = s.ces := by
  unfold State.setEth; dsimp only; split
  · rfl
  · simp only [State.raiseIf_ces]; (repeat' split) <;> simp
@[simp] theorem State.setEth_crypto (e : Nat) (t : EthState) (n : Nat) : (s.setEth e t n).crypto = s.crypto := by
  unfold State.setEth; dsimp only; split
  · rfl
  · simp only [State.raiseIf_crypto]; (repeat' split) <;> simp
@[simp] theorem State.setEth_fault (e : Nat) (t : EthState) (n : Nat) : (s.setEth e t n).fault = s.fault := by
  unfold State.setEth; dsimp only; split
  · rfl
  · simp only [State.raiseIf_fault]; (repeat' split) <;> simp
@[simp] theorem State.setEth_power (e : Nat) (t : EthState) (n : Nat) : (s.setEth e t n).power = s.power := by
  unfold State.setEth; dsimp only; split
  · rfl
  · simp only [State.raiseIf_power]; (repeat' split) <;> simp
@[simp] theorem State.setEth_fw (e : Nat) (t : EthState) (n : Nat) : (s.setEth e t n).fw = s.fw := by
  unfold State.setEth; dsimp only; split
  · rfl
  · simp only [State.raiseIf_fw]; (repeat' split) <;> simp

/-! ### State.exposePort -/

@[simp] theorem State.exposePort_pending (e : Nat) : (s.exposePort e).pending = s.pending := rfl
@[simp] theorem State.exposePort_phase (e : Nat) : (s.exposePort e).phase = s.phase := rfl
@[simp] theorem State.exposePort_legacy (e : Nat) : (s.exposePort e).legacy = s.legacy := rfl
@[simp] theorem State.exposePort_pins (e : Nat) : (s.exposePort e).pins = s.pins := rfl
@[simp] theorem State.exposePort_part (e : Nat) : (s.exposePort e).part = s.part := rfl
@[simp] theorem State.exposePort_fuses (e : Nat) : (s.exposePort e).fuses = s.fuses := rfl
@[simp] theorem State.exposePort_words (e : Nat) : (s.exposePort e).words = s.words := rfl
@[simp] theorem State.exposePort_stipple (e : Nat) : (s.exposePort e).stipple = s.stipple := rfl
@[simp] theorem State.exposePort_cmd (e : Nat) : (s.exposePort e).cmd = s.cmd := rfl
@[simp] theorem State.exposePort_chans (e : Nat) : (s.exposePort e).chans = s.chans := rfl
@[simp] theorem State.exposePort_vonu (e : Nat) : (s.exposePort e).vonu = s.vonu := rfl
@[simp] theorem State.exposePort_burin (e : Nat) : (s.exposePort e).burin = s.burin := rfl
@[simp] theorem State.exposePort_cls (e : Nat) : (s.exposePort e).cls = s.cls := rfl
@[simp] theorem State.exposePort_bpm (e : Nat) : (s.exposePort e).bpm = s.bpm := rfl
@[simp] theorem State.exposePort_alink (e : Nat) : (s.exposePort e).alink = s.alink := rfl
@[simp] theorem State.exposePort_time (e : Nat) : (s.exposePort e).time = s.time := rfl
@[simp] theorem State.exposePort_ces (e : Nat) : (s.exposePort e).ces = s.ces := rfl
@[simp] theorem State.exposePort_crypto (e : Nat) : (s.exposePort e).crypto = s.crypto := rfl
@[simp] theorem State.exposePort_fault (e : Nat) : (s.exposePort e).fault = s.fault := rfl
@[simp] theorem State.exposePort_power (e : Nat) : (s.exposePort e).power = s.power := rfl
@[simp] theorem State.exposePort_fw (e : Nat) : (s.exposePort e).fw = s.fw := rfl
@[simp] theorem State.exposePort_out (e : Nat) : (s.exposePort e).out = s.out := rfl

/-! ### State.ethUnloop -/

@[simp] theorem State.ethUnloop_pending (e : Nat) : (s.ethUnloop e).pending = s.pending := by
  unfold State.ethUnloop; split <;> simp
@[simp] theorem State.ethUnloop_phase (e : Nat) : (s.ethUnloop e).phase = s.phase := by
  unfold State.ethUnloop; split <;> simp
@[simp] theorem State.ethUnloop_legacy (e : Nat) : (s.ethUnloop e).legacy = s.legacy := by
  unfold State.ethUnloop; split <;> simp
@[simp] theorem State.ethUnloop_pins (e : Nat) : (s.ethUnloop e).pins = s.pins := by
  unfold State.ethUnloop; split <;> simp
@[simp] theorem State.ethUnloop_part (e : Nat) : (s.ethUnloop e).part = s.part := by
  unfold State.ethUnloop; split <;> simp
@[simp] theorem State.ethUnloop_fuses (e : Nat) : (s.ethUnloop e).fuses = s.fuses := by
  unfold State.ethUnloop; split <;> simp
@[simp] theorem State.ethUnloop_words (e : Nat) : (s.ethUnloop e).words = s.words := by
  unfold State.ethUnloop; split <;> simp
@[simp] theorem State.ethUnloop_stipple (e : Nat) : (s.ethUnloop e).stipple = s.stipple := by
  unfold State.ethUnloop; split <;> simp
@[simp] theorem State.ethUnloop_cmd (e : Nat) : (s.ethUnloop e).cmd = s.cmd := by
  unfold State.ethUnloop; split <;> simp
@[simp] theorem State.ethUnloop_chans (e : Nat) : (s.ethUnloop e).chans = s.chans := by
  unfold State.ethUnloop; split <;> simp
@[simp] theorem State.ethUnloop_vonu (e : Nat) : (s.ethUnloop e).vonu = s.vonu := by
  unfold State.ethUnloop; split <;> simp
@[simp] theorem State.ethUnloop_burin (e : Nat) : (s.ethUnloop e).burin = s.burin := by
  unfold State.ethUnloop; split <;> simp
@[simp] theorem State.ethUnloop_cls (e : Nat) : (s.ethUnloop e).cls = s.cls := by
  unfold State.ethUnloop; split <;> simp
@[simp] theorem State.ethUnloop_bpm (e : Nat) : (s.ethUnloop e).bpm = s.bpm := by
  unfold State.ethUnloop; split <;> simp
@[simp] theorem State.ethUnloop_alink (e : Nat) : (s.ethUnloop e).alink = s.alink := by
  unfold State.ethUnloop; split <;> simp
@[simp] theorem State.ethUnloop_time (e : Nat) : (s.ethUnloop e).time = s.time := by
  unfold State.ethUnloop; split <;> simp
@[simp] theorem State.ethUnloop_ces (e : Nat) : (s.ethUnloop e).ces = s.ces := by
  unfold State.ethUnloop; split <;> simp
@[simp] theorem State.ethUnloop_crypto (e : Nat) : (s.ethUnloop e).crypto = s.crypto := by
  unfold State.ethUnloop; split <;> simp
@[simp] theorem State.ethUnloop_fault (e : Nat) : (s.ethUnloop e).fault = s.fault := by
  unfold State.ethUnloop; split <;> simp
@[simp] theorem State.ethUnloop_power (e : Nat) : (s.ethUnloop e).power = s.power := by
  unfold State.ethUnloop; split <;> simp
@[simp] theorem State.ethUnloop_fw (e : Nat) : (s.ethUnloop e).fw = s.fw := by
  unfold State.ethUnloop; split <;> simp
@[simp] theorem State.ethUnloop_out (e : Nat) : (s.ethUnloop e).out = s.out := by
  unfold State.ethUnloop; split <;> simp

/-! ### State.ethRates -/

@[simp] theorem State.ethRates_pending (e : Nat) : (s.ethRates e).pending = s.pending := by
  unfold State.ethRates; dsimp only; simp
@[simp] theorem State.ethRates_phase (e : Nat) : (s.ethRates e).phase = s.phase := by
  unfold State.ethRates; dsimp only; simp
@[simp] theorem State.ethRates_legacy (e : Nat) : (s.ethRates e).legacy = s.legacy := by
  unfold State.ethRates; dsimp only; simp
@[simp] theorem State.ethRates_pins (e : Nat) : (s.ethRates e).pins = s.pins := by
  unfold State.ethRates; dsimp only; simp
@[simp] theorem State.ethRates_part (e : Nat) : (s.ethRates e).part = s.part := by
  unfold State.ethRates; dsimp only; simp
@[simp] theorem State.ethRates_fuses (e : Nat) : (s.ethRates e).fuses = s.fuses := by
  unfold State.ethRates; dsimp only; simp
@[simp] theorem State.ethRates_mram (e : Nat) : (s.ethRates e).mram = s.mram := by
  unfold State.ethRates; dsimp only; simp
@[simp] theorem State.ethRates_words (e : Nat) : (s.ethRates e).words = s.words := by
  unfold State.ethRates; dsimp only; simp
@[simp] theorem State.ethRates_counters (e : Nat) : (s.ethRates e).counters = s.counters := by
  unfold State.ethRates; dsimp only; simp
@[simp] theorem State.ethRates_stipple (e : Nat) : (s.ethRates e).stipple = s.stipple := by
  unfold State.ethRates; dsimp only; simp
@[simp] theorem State.ethRates_tick (e : Nat) : (s.ethRates e).tick = s.tick := by
  unfold State.ethRates; dsimp only; simp
@[simp] theorem State.ethRates_cmd (e : Nat) : (s.ethRates e).cmd = s.cmd := by
  unfold State.ethRates; dsimp only; simp
@[simp] theorem State.ethRates_ev (e : Nat) : (s.ethRates e).ev = s.ev := by
  unfold State.ethRates; dsimp only; simp
@[simp] theorem State.ethRates_chans (e : Nat) : (s.ethRates e).chans = s.chans := by
  unfold State.ethRates; dsimp only; simp
@[simp] theorem State.ethRates_vonu (e : Nat) : (s.ethRates e).vonu = s.vonu := by
  unfold State.ethRates; dsimp only; simp
@[simp] theorem State.ethRates_burin (e : Nat) : (s.ethRates e).burin = s.burin := by
  unfold State.ethRates; dsimp only; simp
@[simp] theorem State.ethRates_cls (e : Nat) : (s.ethRates e).cls = s.cls := by
  unfold State.ethRates; dsimp only; simp
@[simp] theorem State.ethRates_qs (e : Nat) : (s.ethRates e).qs = s.qs := by
  unfold State.ethRates; dsimp only; simp
@[simp] theorem State.ethRates_bpm (e : Nat) : (s.ethRates e).bpm = s.bpm := by
  unfold State.ethRates; dsimp only; simp
@[simp] theorem State.ethRates_alink (e : Nat) : (s.ethRates e).alink = s.alink := by
  unfold State.ethRates; dsimp only; simp
@[simp] theorem State.ethRates_time (e : Nat) : (s.ethRates e).time = s.time := by
  unfold State.ethRates; dsimp only; simp
@[simp] theorem State.ethRates_ces (e : Nat) : (s.ethRates e).ces = s.ces := by
  unfold State.ethRates; dsimp only; simp
@[simp] theorem State.ethRates_crypto (e : Nat) : (s.ethRates e).crypto = s.crypto := by
  unfold State.ethRates; dsimp only; simp
@[simp] theorem State.ethRates_fault (e : Nat) : (s.ethRates e).fault = s.fault := by
  unfold State.ethRates; dsimp only; simp
@[simp] theorem State.ethRates_power (e : Nat) : (s.ethRates e).power = s.power := by
  unfold State.ethRates; dsimp only; simp
@[simp] theorem State.ethRates_fw (e : Nat) : (s.ethRates e).fw = s.fw := by
  unfold State.ethRates; dsimp only; simp
@[simp] theorem State.ethRates_leg (e : Nat) : (s.ethRates e).leg = s.leg := by
  unfold State.ethRates; dsimp only; simp
@[simp] theorem State.ethRates_freeCount (e : Nat) : (s.ethRates e).freeCount = s.freeCount := by
  unfold State.ethRates; dsimp only; simp
@[simp] theorem State.ethRates_out (e : Nat) : (s.ethRates e).out = s.out := by
  unfold State.ethRates; dsimp only; simp

/-! ### State.ethSettle -/

@[simp] theorem State.ethSettle_pending (e n : Nat) : (s.ethSettle e n).pending = s.pending := by
  unfold State.ethSettle; (repeat' split) <;> simp
@[simp] theorem State.ethSettle_phase (e n : Nat) : (s.ethSettle e n).phase = s.phase := by
  unfold State.ethSettle; (repeat' split) <;> simp
@[simp] theorem State.ethSettle_legacy (e n : Nat) : (s.ethSettle e n).legacy = s.legacy := by
  unfold State.ethSettle; (repeat' split) <;> simp
@[simp] theorem State.ethSettle_pins (e n : Nat) : (s.ethSettle e n).pins = s.pins := by
  unfold State.ethSettle; (repeat' split) <;> simp
@[simp] theorem State.ethSettle_part (e n : Nat) : (s.ethSettle e n).part = s.part := by
  unfold State.ethSettle; (repeat' split) <;> simp
@[simp] theorem State.ethSettle_fuses (e n : Nat) : (s.ethSettle e n).fuses = s.fuses := by
  unfold State.ethSettle; (repeat' split) <;> simp
@[simp] theorem State.ethSettle_words (e n : Nat) : (s.ethSettle e n).words = s.words := by
  unfold State.ethSettle; (repeat' split) <;> simp
@[simp] theorem State.ethSettle_stipple (e n : Nat) : (s.ethSettle e n).stipple = s.stipple := by
  unfold State.ethSettle; (repeat' split) <;> simp
@[simp] theorem State.ethSettle_cmd (e n : Nat) : (s.ethSettle e n).cmd = s.cmd := by
  unfold State.ethSettle; (repeat' split) <;> simp
@[simp] theorem State.ethSettle_chans (e n : Nat) : (s.ethSettle e n).chans = s.chans := by
  unfold State.ethSettle; (repeat' split) <;> simp
@[simp] theorem State.ethSettle_vonu (e n : Nat) : (s.ethSettle e n).vonu = s.vonu := by
  unfold State.ethSettle; (repeat' split) <;> simp
@[simp] theorem State.ethSettle_burin (e n : Nat) : (s.ethSettle e n).burin = s.burin := by
  unfold State.ethSettle; (repeat' split) <;> simp
@[simp] theorem State.ethSettle_cls (e n : Nat) : (s.ethSettle e n).cls = s.cls := by
  unfold State.ethSettle; (repeat' split) <;> simp
@[simp] theorem State.ethSettle_bpm (e n : Nat) : (s.ethSettle e n).bpm = s.bpm := by
  unfold State.ethSettle; (repeat' split) <;> simp
@[simp] theorem State.ethSettle_alink (e n : Nat) : (s.ethSettle e n).alink = s.alink := by
  unfold State.ethSettle; (repeat' split) <;> simp
@[simp] theorem State.ethSettle_time (e n : Nat) : (s.ethSettle e n).time = s.time := by
  unfold State.ethSettle; (repeat' split) <;> simp
@[simp] theorem State.ethSettle_ces (e n : Nat) : (s.ethSettle e n).ces = s.ces := by
  unfold State.ethSettle; (repeat' split) <;> simp
@[simp] theorem State.ethSettle_crypto (e n : Nat) : (s.ethSettle e n).crypto = s.crypto := by
  unfold State.ethSettle; (repeat' split) <;> simp
@[simp] theorem State.ethSettle_fault (e n : Nat) : (s.ethSettle e n).fault = s.fault := by
  unfold State.ethSettle; (repeat' split) <;> simp
@[simp] theorem State.ethSettle_power (e n : Nat) : (s.ethSettle e n).power = s.power := by
  unfold State.ethSettle; (repeat' split) <;> simp
@[simp] theorem State.ethSettle_fw (e n : Nat) : (s.ethSettle e n).fw = s.fw := by
  unfold State.ethSettle; (repeat' split) <;> simp

end Sys2Proof.Machine
end

