-- ==== Sys2Proof/Laws/Counters.lean ====
section
/-! SUPPORT. Counters: what counting does, and that reports and settling advance only the counts of domains and of dropped
log records. -/

namespace Sys2Proof.Machine

variable (s : State)

theorem State.ctr_setCtr_other (a b : Nat) (v : BitVec 64) (h : a ≠ b) : (s.setCtr b v).ctr a = s.ctr a :=
  mget_mput_other _ _ _ _ _ h

theorem State.ctr_setCtr_same (a : Nat) (v : BitVec 64) (h : (s.counters.now.map (·.1)).Pairwise (· < ·)) :
    (s.setCtr a v).ctr a = v := mget_mput_same _ _ _ _ h

theorem State.ctr_bump_other (a b n : Nat) (h : a ≠ b) : (s.bump b n).ctr a = s.ctr a := mget_mput_other _ _ _ _ _ h

theorem State.ctr_bump_same (a n : Nat) (h : (s.counters.now.map (·.1)).Pairwise (· < ·)) :
    (s.bump a n).ctr a = s.ctr a + BitVec.ofNat 64 n := mget_mput_same _ _ _ _ h

theorem ctr_of_counters {s t : State} (h : t.counters = s.counters) (a : Nat) : t.ctr a = s.ctr a := by
  simp only [State.ctr, h]

variable {a : Nat}

theorem State.mramWrite_ctr (r p : Nat) : (s.mramWrite r p).ctr a = s.ctr a := ctr_of_counters (by simp) a

theorem State.logAppend_ctr (r : LogRec) : (s.logAppend r).ctr a = s.ctr a := ctr_of_counters (by simp) a

theorem State.logWrite_ctr (h : sideCount a = false) (r : EvRec) : (s.logWrite r).ctr a = s.ctr a := by
  have ha : a ≠ addrOf 0x40 0x108 := by
    intro e; simp [sideCount, e] at h
  unfold State.logWrite
  split
  · rfl
  · split
    · exact State.logAppend_ctr s _
    · rw [State.ctr_bump_other _ _ _ _ ha]

theorem State.raise_ctr (h : sideCount a = false) (code p : Nat) : (s.raise code p).ctr a = s.ctr a := by
  unfold State.raise
  dsimp only
  split
  · rw [State.logWrite_ctr _ h]; exact ctr_of_counters (by simp) a
  · exact ctr_of_counters (by simp) a

theorem State.raiseIf_ctr (h : sideCount a = false) (b : Bool) (code p : Nat) : (s.raiseIf b code p).ctr a = s.ctr a := by
  unfold State.raiseIf; split
  · exact State.raise_ctr s h code p
  · rfl

theorem pwrCtr_side (d k : Nat) (hd : 16 * d + 2 * k < 2 ^ 24 - 0x100) : sideCount (pwrCtr d k) = true := by
  have : pwrCtr d k / 2 ^ 24 = 0x70 := by simp only [pwrCtr, addrOf]; omega
  unfold sideCount; rw [this]; rfl

theorem ne_of_side {a b : Nat} (ha : sideCount a = false) (hb : sideCount b = true) : a ≠ b := by
  intro e; rw [e, hb] at ha; cases ha

theorem State.setDomSt_ctr (h : sideCount a = false) (d : Nat) (t : DomSt) : (s.setDomSt d t).ctr a = s.ctr a := by
  unfold State.setDomSt; dsimp only; split
  · rfl
  · rw [State.raise_ctr _ h]; rfl

theorem State.domStep_ctr (h : sideCount a = false) (d : Nat) (hd : d < 13) : (s.domStep d).ctr a = s.ctr a := by
  have h0 := ne_of_side h (pwrCtr_side d 0 (by omega))
  have h2 := ne_of_side h (pwrCtr_side d 2 (by omega))
  unfold State.domStep
  dsimp only
  split
  · split
    · exact (State.setDomSt_ctr _ h _ _).trans rfl
    · rfl
  · split
    · rfl
    · rw [State.ctr_bump_other _ _ _ _ h0, State.setDomSt_ctr _ h]; rfl
  · split
    · rw [State.raise_ctr _ h, State.ctr_bump_other _ _ _ _ h2, State.setDomSt_ctr _ h]; rfl
    · rfl
  · rfl

theorem votesUpdate_ctr (h : sideCount a = false) (l : List Nat) (hl : ∀ d ∈ l, d < 13) :
    (votesUpdate l s).ctr a = s.ctr a := by
  induction l generalizing s with
  | nil => rfl
  | cons d r ih =>
    have ihr := fun s => ih s (fun x hx => hl x (by simp [hx]))
    have h1 := ne_of_side h (pwrCtr_side d 1 (by have := hl d (by simp); omega))
    simp only [votesUpdate]
    split
    · exact ihr _
    · rw [ihr]
      split
      · exact (State.ctr_bump_other _ _ _ _ h1).trans rfl
      · rfl

theorem domSteps_ctr (h : sideCount a = false) (l : List Nat) (hl : ∀ d ∈ l, d < 13) :
    (l.foldl (fun s d => s.domStep d) s).ctr a = s.ctr a := by
  induction l generalizing s with
  | nil => rfl
  | cons d r ih =>
    simp only [List.foldl_cons]
    rw [ih _ fun x hx => hl x (by simp [hx]), State.domStep_ctr _ h _ (hl d (by simp))]

theorem State.settle_ctr (h : sideCount a = false) : s.settle.ctr a = s.ctr a := by
  unfold State.settle
  split
  · rfl
  · rw [domSteps_ctr _ h _ (by decide), votesUpdate_ctr _ h _ (by decide)]

/-- Settling after a command advances no counter of the blocks. -/
theorem State.finish_ctr (h : sideCount a = false) : s.finish.ctr a = s.ctr a := by
  unfold State.finish State.guarantee
  dsimp only
  split
  · exact State.settle_ctr s h
  · rw [State.raise_ctr _ h]; exact (ctr_of_counters rfl a).trans (State.settle_ctr s h)

/-! ### Operations whose reports are their only counts -/

theorem State.setTx_ctr (h : sideCount a = false) (c : Chan) (x : TxState) : (s.setTx c x).ctr a = s.ctr a := by
  unfold State.setTx; dsimp only; split
  · rfl
  · simp [State.raise_ctr, h]

theorem State.txReady_ctr (h : sideCount a = false) (c : Chan) : (s.txReady c).ctr a = s.ctr a := by
  unfold State.txReady; dsimp only; split
  · exact State.setTx_ctr s h _ _
  · rfl

theorem State.txUpdate_ctr (h : sideCount a = false) (c : Chan) : (s.txUpdate c).ctr a = s.ctr a := by
  unfold State.txUpdate; dsimp only
  (repeat' split) <;> simp [State.setTx_ctr, State.txReady_ctr, h]

theorem State.assertLoss_ctr (h : sideCount a = false) (c : Chan) (n : Nat) : (s.assertLoss c n).ctr a = s.ctr a := by
  unfold State.assertLoss; split
  · rfl
  · simp [State.raise_ctr, h]

theorem State.leaveSync_ctr (h : sideCount a = false) (c : Chan) (n : Nat) (b : Bool) :
    (s.leaveSync c n b).ctr a = s.ctr a := by
  unfold State.leaveSync; dsimp only
  split
  · simp
  · simp only [State.raise_ctr _ h]; split <;> rfl

theorem State.assertLos_ctr (h : sideCount a = false) (c : Chan) : (s.assertLos c).ctr a = s.ctr a := by
  unfold State.assertLos; dsimp only
  rw [State.leaveSync_ctr _ h]; split
  · rfl
  · simp [State.raise_ctr, h]

theorem State.ppsSettle_ctr : s.ppsSettle.ctr a = s.ctr a := by unfold State.ppsSettle; split <;> rfl

theorem State.setServo_ctr (h : sideCount a = false) (v : Servo) : (s.setServo v).ctr a = s.ctr a := by
  unfold State.setServo; split
  · rfl
  · rw [State.raise_ctr _ h, State.ppsSettle_ctr]; rfl

theorem State.setEec_ctr (h : sideCount a = false) (v : Eec) : (s.setEec v).ctr a = s.ctr a := by
  unfold State.setEec; split
  · rfl
  · simp [State.raise_ctr, h]

end Sys2Proof.Machine
end

