-- ==== Sys2Proof/Laws/Lasting.lean ====
section
/-! SUPPORT. What MRAM keeps, what fault coverage found and what the legacy command set holds survive every report and the
settling of votes and domains. -/

namespace Sys2Proof.Machine

set_option Elab.async false

variable (s : State)

@[simp] theorem State.mramWrite_kept (r p : Nat) : (s.mramWrite r p).mram.kept = s.mram.kept := by
  unfold State.mramWrite; split
  · rfl
  · dsimp only; split <;> simp [Mram.kept]

@[simp] theorem State.logAppend_kept (r : LogRec) : (s.logAppend r).mram.kept = s.mram.kept := by
  unfold State.logAppend; dsimp only; rw [State.mramWrite_kept]; rfl

@[simp] theorem State.logWrite_kept (r : EvRec) : (s.logWrite r).mram.kept = s.mram.kept := by
  unfold State.logWrite; (repeat' split) <;> simp

@[simp] theorem State.noteFault_served (c : Nat) : (s.noteFault c).leg.served = s.leg.served := by
  unfold State.noteFault; split <;> rfl

@[simp] theorem State.raise_kept (code p : Nat) : (s.raise code p).mram.kept = s.mram.kept := by
  unfold State.raise; dsimp only; split <;> simp

@[simp] theorem State.raise_served (code p : Nat) : (s.raise code p).leg.served = s.leg.served := by
  unfold State.raise; dsimp only; split <;> simp

@[simp] theorem State.raiseIf_kept (b : Bool) (code p : Nat) : (s.raiseIf b code p).mram.kept = s.mram.kept := by
  unfold State.raiseIf; split <;> simp

@[simp] theorem State.raiseIf_served (b : Bool) (code p : Nat) : (s.raiseIf b code p).leg.served = s.leg.served := by
  unfold State.raiseIf; split <;> simp

@[simp] theorem State.setDomSt_kept (d : Nat) (t : DomSt) : (s.setDomSt d t).mram.kept = s.mram.kept := by
  unfold State.setDomSt; dsimp only; split <;> simp

@[simp] theorem State.setDomSt_served (d : Nat) (t : DomSt) : (s.setDomSt d t).leg.served = s.leg.served := by
  unfold State.setDomSt; dsimp only; split <;> simp

@[simp] theorem State.domStep_kept (d : Nat) : (s.domStep d).mram.kept = s.mram.kept := by
  unfold State.domStep; dsimp only; split
  · split <;> simp
  · split <;> simp
  · split <;> simp
  · rfl

@[simp] theorem State.domStep_served (d : Nat) : (s.domStep d).leg.served = s.leg.served := by
  unfold State.domStep; dsimp only; split
  · split <;> simp
  · split <;> simp
  · split <;> simp
  · rfl

theorem domSteps_kept (l : List Nat) :
    (l.foldl (fun s d => s.domStep d) s).mram.kept = s.mram.kept := by
  induction l generalizing s with
  | nil => rfl
  | cons d r ih => simp [ih]

theorem domSteps_served (l : List Nat) :
    (l.foldl (fun s d => s.domStep d) s).leg.served = s.leg.served := by
  induction l generalizing s with
  | nil => rfl
  | cons d r ih => simp [ih]

@[simp] theorem State.settle_kept : s.settle.mram.kept = s.mram.kept := by
  unfold State.settle; split
  · rfl
  · rw [domSteps_kept]; simp

@[simp] theorem State.settle_served : s.settle.leg.served = s.leg.served := by
  unfold State.settle; split
  · rfl
  · rw [domSteps_served]; simp

/-! ### The lifetime counters -/

@[simp] theorem State.setDomSt_life (d : Nat) (t : DomSt) : (s.setDomSt d t).power.life = s.power.life := by
  unfold State.setDomSt; dsimp only; split
  · rfl
  · rw [State.raise_power]; rfl

@[simp] theorem votesUpdate_life (l : List Nat) : (votesUpdate l s).power.life = s.power.life := by
  induction l generalizing s with
  | nil => rfl
  | cons d r ih =>
    simp only [votesUpdate]
    split
    · exact ih _
    · rw [ih]; split <;> rfl

@[simp] theorem State.domStep_life (d : Nat) : (s.domStep d).power.life = s.power.life := by
  unfold State.domStep; dsimp only; split
  · split
    · exact (State.setDomSt_life _ _ _).trans rfl
    · rfl
  · split
    · rfl
    · rw [State.bump_power, State.setDomSt_life]; rfl
  · split
    · rw [State.raise_power, State.bump_power, State.setDomSt_life]; rfl
    · rfl
  · rfl

theorem domSteps_life (l : List Nat) : (l.foldl (fun s d => s.domStep d) s).power.life = s.power.life := by
  induction l generalizing s with
  | nil => rfl
  | cons d r ih => simp [ih]

@[simp] theorem State.settle_life : s.settle.power.life = s.power.life := by
  unfold State.settle; split
  · rfl
  · rw [domSteps_life]; simp

@[simp] theorem State.finish_life : s.finish.power.life = s.power.life := by simp [State.finish]

@[simp] theorem State.guarantee_kept : s.guarantee.mram.kept = s.mram.kept := by
  unfold State.guarantee; dsimp only; split <;> simp

@[simp] theorem State.guarantee_served : s.guarantee.leg.served = s.leg.served := by
  unfold State.guarantee; dsimp only; split <;> simp

@[simp] theorem State.guarantee_found : s.guarantee.fault.found = s.fault.found := by
  unfold State.guarantee; dsimp only; split
  · rfl
  · simp; rfl

@[simp] theorem State.finish_kept : s.finish.mram.kept = s.mram.kept := by simp [State.finish]
@[simp] theorem State.finish_served : s.finish.leg.served = s.leg.served := by simp [State.finish]
@[simp] theorem State.finish_found : s.finish.fault.found = s.fault.found := by simp [State.finish]

end Sys2Proof.Machine
end

