-- ==== Sys2Proof/Laws/Frames.lean ====
section
/-! SUPPORT. The frame of claims: unchanged parts chain, and what reports and settling leave alone is every part. -/

namespace Sys2Proof.Machine

theorem Zone.same_refl (p : Zone) (s : State) : p.same s s := by cases p <;> simp [Zone.same]

theorem Zone.same_trans {p : Zone} {s t u : State} (h : p.same s t) (k : p.same t u) : p.same s u := by
  cases p <;> simp_all [Zone.same]

theorem SameBut.refl (l : List Zone) (s : State) : SameBut l s s := fun p _ => p.same_refl s

theorem SameBut.trans {l : List Zone} {s t u : State} (h : SameBut l s t) (k : SameBut l t u) : SameBut l s u :=
  fun p hp => Zone.same_trans (h p hp) (k p hp)

theorem SameBut.mono {l m : List Zone} {s t : State} (h : SameBut l s t) (hm : ∀ p ∈ l, p ∈ m) : SameBut m s t :=
  fun p hp => h p fun hl => hp (hm p hl)

/-- Raising an event changes no part. -/
theorem sameBut_raise (l : List Zone) (s : State) (c n : Nat) : SameBut l s (s.raise c n) := by
  intro p _; cases p <;> simp [Zone.same]
  intro a h; exact State.raise_ctr _ h _ _

theorem sameBut_raiseIf (l : List Zone) (s : State) (b : Bool) (c n : Nat) : SameBut l s (s.raiseIf b c n) := by
  intro p _; cases p <;> simp [Zone.same]
  intro a h; exact State.raiseIf_ctr _ h _ _ _

/-- Settling changes no part. -/
theorem sameBut_finish (l : List Zone) (s : State) : SameBut l s s.finish := by
  intro p _; cases p <;> simp [Zone.same]
  intro a h; exact State.finish_ctr _ h

theorem SameBut.finish {l : List Zone} {s t : State} (h : SameBut l s t) : SameBut l s t.finish :=
  h.trans (sameBut_finish l t)

theorem SameBut.raise {l : List Zone} {s t : State} (h : SameBut l s t) (c n : Nat) : SameBut l s (t.raise c n) :=
  h.trans (sameBut_raise l t c n)

end Sys2Proof.Machine
end

