-- ==== Sys2Proof/Laws/Maps.lean ====
section
/-! SUPPORT. What the operations on sparse maps can do: a write keeps the canonical form, a read after a write gives the
value written, and every other key reads as before. A state whose maps pass `canonicalB` is canonical. -/

namespace Sys2Proof.Machine

section Maps
variable {α : Type} [DecidableEq α] {d : α}

omit [DecidableEq α] in
theorem mget_of_lt {m : SMap α} {i : Nat} (h : ∀ e ∈ m, i < e.1) : mget d m i = d := by
  induction m with
  | nil => rfl
  | cons e r ih =>
    have := h e (by simp)
    rw [mget, if_neg (by omega)]
    exact ih fun x hx => h x (by simp [hx])

/-- The canonical form, key by key. -/
theorem SMap.wf_iff {m : SMap α} : SMap.wf d m = true ↔ (∀ e ∈ m, e.2 ≠ d) ∧ m.Pairwise (·.1 < ·.1) := by
  simp [SMap.wf, List.pairwise_map]

theorem mput_keys {m : SMap α} {i : Nat} {v : α} : ∀ e ∈ mput d m i v, e.1 = i ∨ ∃ x ∈ m, x.1 = e.1 := by
  induction m with
  | nil => intro e; simp only [mput]; split <;> simp; rintro rfl; simp
  | cons a r ih =>
    intro e he
    simp only [mput] at he
    split at he
    · rcases List.mem_cons.1 he with rfl | he
      · exact .inr ⟨_, by simp, rfl⟩
      · rcases ih e he with h | ⟨x, hx, h⟩
        · exact .inl h
        · exact .inr ⟨x, by simp [hx], h⟩
    · split at he
      · split at he
        · exact .inr ⟨e, by simp [he], rfl⟩
        · rcases List.mem_cons.1 he with rfl | he
          · exact .inr ⟨a, by simp, rfl⟩
          · exact .inr ⟨e, by simp [he], rfl⟩
      · split at he
        · exact .inr ⟨e, he, rfl⟩
        · rcases List.mem_cons.1 he with rfl | he
          · exact .inl rfl
          · exact .inr ⟨e, he, rfl⟩

/-- A write keeps the canonical form. -/
theorem mput_wf {m : SMap α} (i : Nat) (v : α) (h : SMap.wf d m = true) : SMap.wf d (mput d m i v) = true := by
  rw [SMap.wf_iff] at h ⊢
  induction m with
  | nil => simp only [mput]; split <;> simp_all
  | cons a r ih =>
    obtain ⟨h1, h2⟩ := h
    have ⟨h3, h4⟩ := List.pairwise_cons.1 h2
    have hr := ih ⟨fun e he => h1 e (by simp [he]), h4⟩
    simp only [mput]
    split
    · refine ⟨fun e he => ?_, List.pairwise_cons.2 ⟨fun e he => ?_, hr.2⟩⟩
      · rcases List.mem_cons.1 he with rfl | he
        · exact h1 _ (by simp)
        · exact hr.1 e he
      · rcases mput_keys e he with h | ⟨x, hx, h⟩
        · omega
        · have := h3 x hx; omega
    · split
      · split
        · exact ⟨fun e he => h1 e (by simp [he]), h4⟩
        · refine ⟨fun e he => ?_, List.pairwise_cons.2 ⟨h3, h4⟩⟩
          rcases List.mem_cons.1 he with rfl | he
          · assumption
          · exact h1 e (by simp [he])
      · split
        · exact ⟨h1, h2⟩
        · refine ⟨fun e he => ?_, List.pairwise_cons.2 ⟨fun e he => ?_, h2⟩⟩
          · rcases List.mem_cons.1 he with rfl | he
            · assumption
            · exact h1 e he
          · rcases List.mem_cons.1 he with rfl | he
            · show i < a.1; omega
            · have := h3 e he; show i < e.1; omega

theorem mmod_wf {m : SMap α} (i : Nat) (f : α → α) (h : SMap.wf d m = true) : SMap.wf d (mmod d m i f) = true :=
  mput_wf i _ h

omit [DecidableEq α] in
theorem mget_mem {m : SMap α} {i : Nat} : mget d m i = d ∨ ∃ e ∈ m, mget d m i = e.2 := by
  induction m with
  | nil => exact .inl rfl
  | cons a r ih =>
    rw [mget]
    split
    · exact .inr ⟨a, by simp, rfl⟩
    · rcases ih with h | ⟨e, he, h⟩
      · exact .inl h
      · exact .inr ⟨e, by simp [he], h⟩

end Maps

/-- The canonical form, as a test. -/
def State.canonicalB (s : State) : Bool :=
  SMap.wfBy resetWord s.words && SMap.wf (0 : BitVec 64) s.counters.now && SMap.wf EvRec.blank s.ev.mirror &&
  SMap.wf (0 : BitVec 32) s.tick.overrunCount && SMap.wf (none : Option Partial) (s.ch .a).reasm &&
  SMap.wf (none : Option Partial) (s.ch .b).reasm && SMap.wf Vonu.none s.vonu.vonus &&
  SMap.wf (none : Option AllocE) s.vonu.alloc && SMap.wf (none : Option OmciMsg) s.vonu.omciRing &&
  SMap.wf Pair.other (s.vonu.chProfile.get .a) && SMap.wf Pair.other (s.vonu.chProfile.get .b) &&
  SMap.wf Stage.none s.burin.stage && SMap.wf Queue.none s.qs.queues && SMap.wf (none : Option Node) s.qs.nodes &&
  SMap.wf (none : Option Meter) s.qs.meters && SMap.wf (none : Option Cbs) s.qs.credits && SMap.wf Hatch.none s.qs.hatch &&
  SMap.wf Pool.none s.bpm.pools && s.bpm.pools.all (fun e => SMap.wf Cell.free e.2.cells) &&
  SMap.wf Lane.reset s.alink.lanes && SMap.wf (none : Option Credit) s.alink.credits && SMap.wf Prbs.off s.alink.prbs &&
  SMap.wf EthPort.reset s.eth.ports && SMap.wf ([] : List Byte) s.time.tsRing && SMap.wf Trib.none s.ces.tribs &&
  s.ces.tribs.all (fun e => SMap.wf (none : Option JPos) e.2.jb) && SMap.wf ([] : List Packet) s.ces.rx &&
  SMap.wf Slot.empty s.crypto.slots && SMap.wf Dom.off s.power.doms && SMap.wf (0 : Byte) s.fw.banks.a.image &&
  SMap.wf (0 : Byte) s.fw.banks.b.image && SMap.wf 0 s.mram.pageWrites && SMap.wf (0 : BitVec 64) s.leg.bases &&
  SMap.wf (none : Option (BitVec 14)) s.leg.tconts && SMap.wf (none : Option AlignTx) s.alink.sentAlign

theorem State.canonical_of {s : State} (h : s.canonicalB = true) : s.canonical := by
  simp only [State.canonicalB, Bool.and_eq_true, List.all_eq_true] at h
  obtain ⟨⟨⟨⟨⟨⟨⟨⟨⟨⟨⟨⟨⟨⟨⟨⟨⟨⟨⟨⟨⟨⟨⟨⟨⟨⟨⟨⟨⟨⟨⟨⟨⟨⟨h1, h2⟩, h3⟩, h4⟩, h5⟩, h6⟩, h7⟩, h8⟩, h9⟩, h10⟩, h11⟩, h12⟩, h13⟩, h14⟩, h15⟩, h16⟩, h17⟩, h18⟩, h19⟩, h20⟩, h21⟩, h22⟩, h23⟩, h24⟩, h25⟩, h26⟩, h27⟩, h28⟩, h29⟩, h30⟩, h31⟩, h32⟩, h33⟩, h34⟩, h35⟩ := h
  refine
    { words := h1, counters := h2, mirror := h3, overruns := h4, reasm := fun c => by cases c <;> assumption
      vonus := h7, alloc := h8, omciRing := h9, chProfile := fun c => by cases c <;> assumption
      stage := h12, queues := h13, nodes := h14, meters := h15, cbs := h16, hatch := h17, pools := h18, cells := fun p => ?_
      lanes := h20, credits := h21, prbs := h22, ports := h23, tsRing := h24, tribs := h25, jitter := fun k => ?_
      waiting := h27, slots := h28, doms := h29, images := ⟨h30, h31⟩, pages := h32, bases := h33, tconts := h34, sentAlign := h35 }
  · rcases mget_mem (d := Pool.none) (m := s.bpm.pools) (i := p) with h | ⟨e, he, h⟩
    · rw [State.pool, h]; rfl
    · rw [State.pool, h]; exact h19 e he
  · rcases mget_mem (d := Trib.none) (m := s.ces.tribs) (i := k) with h | ⟨e, he, h⟩
    · rw [State.trib, h]; rfl
    · rw [State.trib, h]; exact h26 e he

end Sys2Proof.Machine
end

