-- ==== Sys2Proof/Laws/PerInstr.lean ====
section
/-! SUPPORT. One lemma per command: no word of the table spells it, since the table gives no row any bits. Commands come as
packets and as events. -/

namespace Sys2Proof.Laws.TableWord

/-- No word spells the command. -/
def Statement (i : Instr) : Prop := ∀ nbits w : Nat, decodeTableWord nbits w ≠ some i

theorem all (i : Instr) : Statement i := fun _ _ h => nomatch h

theorem read r : Statement (.read r) := all _
theorem write r : Statement (.write r) := all _
theorem modify r : Statement (.modify r) := all _
theorem bulkRead r : Statement (.bulkRead r) := all _
theorem tableLoad r : Statement (.tableLoad r) := all _
theorem objectWordWrite addr val : Statement (.objectWordWrite addr val) := all _
theorem commitPlate r : Statement (.commitPlate r) := all _
theorem commitHatch r : Statement (.commitHatch r) := all _
theorem commitProfile r : Statement (.commitProfile r) := all _
theorem vonuCreate r : Statement (.vonuCreate r) := all _
theorem vonuEnable r : Statement (.vonuEnable r) := all _
theorem vonuRetire r : Statement (.vonuRetire r) := all _
theorem subscribe r : Statement (.subscribe r) := all _
theorem fetch r : Statement (.fetch r) := all _
theorem ack r : Statement (.ack r) := all _
theorem vote r : Statement (.vote r) := all _
theorem unvote r : Statement (.unvote r) := all _
theorem sleep r : Statement (.sleep r) := all _
theorem imageBegin r : Statement (.imageBegin r) := all _
theorem imageData r : Statement (.imageData r) := all _
theorem imageVerify r : Statement (.imageVerify r) := all _
theorem imageActivate r : Statement (.imageActivate r) := all _
theorem loopSet r : Statement (.loopSet r) := all _
theorem prbsCtl r : Statement (.prbsCtl r) := all _
theorem prbsRead r : Statement (.prbsRead r) := all _
theorem resync r : Statement (.resync r) := all _
theorem servoMode r : Statement (.servoMode r) := all _
theorem timeStep r : Statement (.timeStep r) := all _
theorem timeRate r : Statement (.timeRate r) := all _
theorem twiWriteTransaction target bytes : Statement (.twiWriteTransaction target bytes) := all _
theorem twiReadTransaction target count : Statement (.twiReadTransaction target count) := all _
theorem twiBusRecovery : Statement .twiBusRecovery := all _
theorem twiWriteAbandoned : Statement .twiWriteAbandoned := all _
theorem managementFrame bytes : Statement (.managementFrame bytes) := all _
theorem interimReply t seq : Statement (.interimReply t seq) := all _
theorem chainTimeout t : Statement (.chainTimeout t) := all _
theorem atTickEffect : Statement .atTickEffect := all _
theorem tickBoundEffect : Statement .tickBoundEffect := all _
theorem tick interval found : Statement (.tick interval found) := all _
theorem refFallbackTick found : Statement (.refFallbackTick found) := all _
theorem workWindowClose cls n complete items : Statement (.workWindowClose cls n complete items) := all _
theorem stippleCopy complete : Statement (.stippleCopy complete) := all _
theorem stippleCopyComplete : Statement .stippleCopyComplete := all _
theorem cfgCrcRewrite block sixteenth : Statement (.cfgCrcRewrite block sixteenth) := all _
theorem crossingDisturbance group index diff : Statement (.crossingDisturbance group index diff) := all _
theorem crossingFifoFault group index overflow : Statement (.crossingFifoFault group index overflow) := all _
theorem firmwareResync group : Statement (.firmwareResync group) := all _
theorem chRestart c : Statement (.chRestart c) := all _
theorem resetEq c : Statement (.resetEq c) := all _
theorem chEnable c : Statement (.chEnable c) := all _
theorem chDisable c : Statement (.chDisable c) := all _
theorem cdrLock c : Statement (.cdrLock c) := all _
theorem cdrLockLoss c : Statement (.cdrLockLoss c) := all _
theorem cdrRelockTimeout c : Statement (.cdrRelockTimeout c) := all _
theorem psbdSighting c pos errs sfc : Statement (.psbdSighting c pos errs sfc) := all _
theorem candidatePredictedPsbd c pos f : Statement (.candidatePredictedPsbd c pos f) := all _
theorem downstreamFrame c f : Statement (.downstreamFrame c f) := all _
theorem xgemFrameReceived c x : Statement (.xgemFrameReceived c x) := all _
theorem xgemReassemblyTimeout c port : Statement (.xgemReassemblyTimeout c port) := all _
theorem losAssert c : Statement (.losAssert c) := all _
theorem losClear c : Statement (.losClear c) := all _
theorem channelLossTimeout c : Statement (.channelLossTimeout c) := all _
theorem sdSfWindowEnd c : Statement (.sdSfWindowEnd c) := all _
theorem eqConvergedChange c v : Statement (.eqConvergedChange c v) := all _
theorem tecLockChange c v : Statement (.tecLockChange c v) := all _
theorem tecFault e : Statement (.tecFault e) := all _
theorem monitorSample c m : Statement (.monitorSample c m) := all _
theorem burstProfile c : Statement (.burstProfile c) := all _
theorem assignOnuId c : Statement (.assignOnuId c) := all _
theorem rangingTime c : Statement (.rangingTime c) := all _
theorem deactivateOnuId c : Statement (.deactivateOnuId c) := all _
theorem disableSerialNumber c : Statement (.disableSerialNumber c) := all _
theorem requestRegistration c : Statement (.requestRegistration c) := all _
theorem assignAllocId c : Statement (.assignAllocId c) := all _
theorem keyControl c : Statement (.keyControl c) := all _
theorem sleepAllow c : Statement (.sleepAllow c) := all _
theorem systemProfile c : Statement (.systemProfile c) := all _
theorem channelProfile c : Statement (.channelProfile c) := all _
theorem tuningControl c : Statement (.tuningControl c) := all _
theorem protectionControl c : Statement (.protectionControl c) := all _
theorem changePowerLevel c : Statement (.changePowerLevel c) := all _
theorem adjustTxWavelength c : Statement (.adjustTxWavelength c) := all _
theorem calibrationRequest c : Statement (.calibrationRequest c) := all _
theorem unknownPloamType c : Statement (.unknownPloamType c) := all _
theorem tuningSuperframe v : Statement (.tuningSuperframe v) := all _
theorem tuningTargetSync v : Statement (.tuningTargetSync v) := all _
theorem to1Expiry c v : Statement (.to1Expiry c v) := all _
theorem to2Expiry c v : Statement (.to2Expiry c v) := all _
theorem to4Expiry c v : Statement (.to4Expiry c v) := all _
theorem to5Expiry c v : Statement (.to5Expiry c v) := all _
theorem vonuRetired v : Statement (.vonuRetired v) := all _
theorem omciDownstreamMessage c v msg mic : Statement (.omciDownstreamMessage c v msg mic) := all _
theorem omciRxConsumerWrite val : Statement (.omciRxConsumerWrite val) := all _
theorem vonuOmciTx words : Statement (.vonuOmciTx words) := all _
theorem vonuFlowBind f val : Statement (.vonuFlowBind f val) := all _
theorem bwmapPartition c structs inTime decodeTime : Statement (.bwmapPartition c structs inTime decodeTime) := all _
theorem shadowPartitionDecode c structs inTime : Statement (.shadowPartitionDecode c structs inTime) := all _
theorem snapshotComplete : Statement .snapshotComplete := all _
theorem burstAssembly c : Statement (.burstAssembly c) := all _
theorem commitDeadline c : Statement (.commitDeadline c) := all _
theorem burstStart c : Statement (.burstStart c) := all _
theorem burstEnd c : Statement (.burstEnd c) := all _
theorem refillFrameStaged entry : Statement (.refillFrameStaged entry) := all _
theorem guardDisagreement c snEpisode : Statement (.guardDisagreement c snEpisode) := all _
theorem lightCheckTrip c : Statement (.lightCheckTrip c) := all _
theorem biasSwitchClose c : Statement (.biasSwitchClose c) := all _
theorem twinRewrite c : Statement (.twinRewrite c) := all _
theorem twinReload c : Statement (.twinReload c) := all _
theorem rearm c : Statement (.rearm c) := all _
theorem testTrip c : Statement (.testTrip c) := all _
theorem classifierFirstPass kind index : Statement (.classifierFirstPass kind index) := all _
theorem decap : Statement .decap := all _
theorem macsecVerify e : Statement (.macsecVerify e) := all _
theorem classifierSecondPass : Statement .classifierSecondPass := all _
theorem plateSwap : Statement .plateSwap := all _
theorem plateRetired : Statement .plateRetired := all _
theorem copyActive : Statement .copyActive := all _
theorem copyDone : Statement .copyDone := all _
theorem fragExpired : Statement .fragExpired := all _
theorem fragCarriedDiscard : Statement .fragCarriedDiscard := all _
theorem ruleEntryRepair plate e : Statement (.ruleEntryRepair plate e) := all _
theorem queueAdmission : Statement .queueAdmission := all _
theorem nodeRelease n : Statement (.nodeRelease n) := all _
theorem flush q : Statement (.flush q) := all _
theorem flushComplete : Statement .flushComplete := all _
theorem hatchCopyStart l : Statement (.hatchCopyStart l) := all _
theorem hatchStarted l : Statement (.hatchStarted l) := all _
theorem gateChange l : Statement (.gateChange l) := all _
theorem pktConfigRestore : Statement .pktConfigRestore := all _
theorem allocRequest reqs : Statement (.allocRequest reqs) := all _
theorem free cls ptr : Statement (.free cls ptr) := all _
theorem transfer cls ptr newOwner : Statement (.transfer cls ptr newOwner) := all _
theorem share cls ptr n : Statement (.share cls ptr n) := all _
theorem release cls ptr : Statement (.release cls ptr) := all _
theorem dramRetrain q temp : Statement (.dramRetrain q temp) := all _
theorem laneBlockLock lane : Statement (.laneBlockLock lane) := all _
theorem lockLoss lane : Statement (.lockLoss lane) := all _
theorem alignBlock lane blk : Statement (.alignBlock lane blk) := all _
theorem alinkRetrain : Statement .alinkRetrain := all _
theorem alinkRepair k : Statement (.alinkRepair k) := all _
theorem alinkRestore : Statement .alinkRestore := all _
theorem arxcValid : Statement .arxcValid := all _
theorem arxcLoss : Statement .arxcLoss := all _
theorem clockStateTimeout : Statement .clockStateTimeout := all _
theorem adaptDone : Statement .adaptDone := all _
theorem lockStateEnd : Statement .lockStateEnd := all _
theorem deskewDone : Statement .deskewDone := all _
theorem deskewTimeout : Statement .deskewTimeout := all _
theorem waitPeerTimeout : Statement .waitPeerTimeout := all _
theorem failedRetry : Statement .failedRetry := all _
theorem alanovFrameReceived f : Statement (.alanovFrameReceived f) := all _
theorem creditBlockReceived group l0 l1 l2 l3 : Statement (.creditBlockReceived group l0 l1 l2 l3) := all _
theorem calendarRound : Statement .calendarRound := all _
theorem creditLoss group : Statement (.creditLoss group) := all _
theorem cesLateDrop k : Statement (.cesLateDrop k) := all _
theorem ethRestart e : Statement (.ethRestart e) := all _
theorem ethRerate e val : Statement (.ethRerate e val) := all _
theorem kr4Change v : Statement (.kr4Change v) := all _
theorem anComplete e fec : Statement (.anComplete e fec) := all _
theorem trainingComplete e : Statement (.trainingComplete e) := all _
theorem trainingFailed e : Statement (.trainingFailed e) := all _
theorem ethLinkUp e skew : Statement (.ethLinkUp e skew) := all _
theorem linkWaitTimeout e : Statement (.linkWaitTimeout e) := all _
theorem ethLinkDown e : Statement (.ethLinkDown e) := all _
theorem ethFrameReceived e bytes fcsOk timeCount : Statement (.ethFrameReceived e bytes fcsOk timeCount) := all _
theorem pauseFrameReceived e quanta : Statement (.pauseFrameReceived e quanta) := all _
theorem pfcFrameReceived e vec quanta : Statement (.pfcFrameReceived e vec quanta) := all _
theorem pauseHoldExpiry e prio : Statement (.pauseHoldExpiry e prio) := all _
theorem pauseRepeat e : Statement (.pauseRepeat e) := all _
theorem lpiEntry e : Statement (.lpiEntry e) := all _
theorem lpiExit e : Statement (.lpiExit e) := all _
theorem lldpTransmit e : Statement (.lldpTransmit e) := all _
theorem lldpduReceived e partnerRxTw : Statement (.lldpduReceived e partnerRxTw) := all _
theorem todInputWrite c words : Statement (.todInputWrite c words) := all _
theorem todInput bytes : Statement (.todInput bytes) := all _
theorem todResult c : Statement (.todResult c) := all _
theorem servoHoldover : Statement .servoHoldover := all _
theorem eecLocked : Statement .eecLocked := all _
theorem ppsOutEdge : Statement .ppsOutEdge := all _
theorem ppsInEdge timeCount : Statement (.ppsInEdge timeCount) := all _
theorem ppsInLoss : Statement .ppsInLoss := all _
theorem tsDescriptorDelivery : Statement .tsDescriptorDelivery := all _
theorem tsConsumerWrite val : Statement (.tsConsumerWrite val) := all _
theorem slotStreamFrame k bytes : Statement (.slotStreamFrame k bytes) := all _
theorem cesSsLoss k : Statement (.cesSsLoss k) := all _
theorem cesPacketBuild k : Statement (.cesPacketBuild k) := all _
theorem pwPacketReceived k : Statement (.pwPacketReceived k) := all _
theorem jbStartTimer k : Statement (.jbStartTimer k) := all _
theorem playoutPosition k : Statement (.playoutPosition k) := all _
theorem cesLops k : Statement (.cesLops k) := all _
theorem cesSlip k drop : Statement (.cesSlip k drop) := all _
theorem slotStreamFrameSend k : Statement (.slotStreamFrameSend k) := all _
theorem tributaryEnable k : Statement (.tributaryEnable k) := all _
theorem tributaryDisable k : Statement (.tributaryDisable k) := all _
theorem keyLoadErase slot : Statement (.keyLoadErase slot) := all _
theorem keyLoadMsk slot material : Statement (.keyLoadMsk slot material) := all _
theorem keyLoadBroadcast slot v c material : Statement (.keyLoadBroadcast slot v c material) := all _
theorem keyLoadMacsec slot material : Statement (.keyLoadMacsec slot material) := all _
theorem keySoftLimit slot : Statement (.keySoftLimit slot) := all _
theorem keyRetired slot : Statement (.keyRetired slot) := all _
theorem eraseAll : Statement .eraseAll := all _
theorem keyStoreAlarm source : Statement (.keyStoreAlarm source) := all _
theorem rngFault : Statement .rngFault := all _
theorem reseedRetry pass : Statement (.reseedRetry pass) := all _
theorem drypointOpened : Statement .drypointOpened := all _
theorem bscanActive x : Statement (.bscanActive x) := all _
theorem trstNAssert : Statement .trstNAssert := all _
theorem fuseArm val : Statement (.fuseArm val) := all _
theorem fuseBlow t val : Statement (.fuseBlow t val) := all _
theorem eccUncorrectable e : Statement (.eccUncorrectable e) := all _
theorem goldenRewrite : Statement .goldenRewrite := all _
theorem lockstepMismatch service : Statement (.lockstepMismatch service) := all _
theorem corePairResume service : Statement (.corePairResume service) := all _
theorem clockFault group permille ports : Statement (.clockFault group permille ports) := all _
theorem clockFaultClear group : Statement (.clockFaultClear group) := all _
theorem burstClockActivityLoss c : Statement (.burstClockActivityLoss c) := all _
theorem railFault d : Statement (.railFault d) := all _
theorem railFaultClear d : Statement (.railFaultClear d) := all _
theorem safeStateReset : Statement .safeStateReset := all _
theorem illegalState m : Statement (.illegalState m) := all _
theorem operatingConditionsChange now : Statement (.operatingConditionsChange now) := all _
theorem handoverPhaseStart : Statement .handoverPhaseStart := all _
theorem handoverSelfTestPass : Statement .handoverSelfTestPass := all _
theorem handoverFailure : Statement .handoverFailure := all _
theorem quiesceEnd d : Statement (.quiesceEnd d) := all _
theorem powerDieAck : Statement .powerDieAck := all _
theorem domainResetRelease d : Statement (.domainResetRelease d) := all _
theorem powerDieTimeout : Statement .powerDieTimeout := all _
theorem railFaultRetry d : Statement (.railFaultRetry d) := all _
theorem domainRetry d : Statement (.domainRetry d) := all _
theorem sleepWaitEnd : Statement .sleepWaitEnd := all _
theorem wakeAddressMatch : Statement .wakeAddressMatch := all _
theorem wakeN : Statement .wakeN := all _
theorem aonTimerWake : Statement .aonTimerWake := all _
theorem powerOnReset : Statement .powerOnReset := all _
theorem resetNAssert : Statement .resetNAssert := all _
theorem resetNRelease modeSel madr : Statement (.resetNRelease modeSel madr) := all _
theorem modeSelChange v : Statement (.modeSelChange v) := all _
theorem commandReset val : Statement (.commandReset val) := all _
theorem internalResetEnd : Statement .internalResetEnd := all _
theorem bootWatchdogExpiry : Statement .bootWatchdogExpiry := all _
theorem readyAssert : Statement .readyAssert := all _
theorem legacyCommandTransaction bytes : Statement (.legacyCommandTransaction bytes) := all _
theorem legacyReadTransaction count : Statement (.legacyReadTransaction count) := all _
theorem pacingRelease : Statement .pacingRelease := all _
theorem getIdentity tag : Statement (.getIdentity tag) := all _
theorem getStatus tag : Statement (.getStatus tag) := all _
theorem reset tag : Statement (.reset tag) := all _
theorem getTemperature tag : Statement (.getTemperature tag) := all _
theorem setAlarmMask tag mask : Statement (.setAlarmMask tag mask) := all _
theorem getAlarms tag : Statement (.getAlarms tag) := all _
theorem clearAlarms tag : Statement (.clearAlarms tag) := all _
theorem getVersion tag : Statement (.getVersion tag) := all _
theorem setSerial tag sn : Statement (.setSerial tag sn) := all _
theorem getSerial tag : Statement (.getSerial tag) := all _
theorem setRegId tag regId : Statement (.setRegId tag regId) := all _
theorem enablePon tag : Statement (.enablePon tag) := all _
theorem disablePon tag : Statement (.disablePon tag) := all _
theorem getOnuState tag : Statement (.getOnuState tag) := all _
theorem getOnuId tag : Statement (.getOnuId tag) := all _
theorem getEqd tag : Statement (.getEqd tag) := all _
theorem getOptical tag : Statement (.getOptical tag) := all _
theorem setTxEnable tag on : Statement (.setTxEnable tag on) := all _
theorem getFecStats tag clear : Statement (.getFecStats tag clear) := all _
theorem omciRxFetch tag : Statement (.omciRxFetch tag) := all _
theorem omciTx tag msg : Statement (.omciTx tag msg) := all _
theorem omciStatus tag : Statement (.omciStatus tag) := all _
theorem setMsk tag msk : Statement (.setMsk tag msk) := all _
theorem addGemPort tag index port : Statement (.addGemPort tag index port) := all _
theorem delGemPort tag index : Statement (.delGemPort tag index) := all _
theorem getGemPort tag index : Statement (.getGemPort tag index) := all _
theorem mapTcont tag index allocId : Statement (.mapTcont tag index allocId) := all _
theorem unmapTcont tag index : Statement (.unmapTcont tag index) := all _
theorem getTcont tag index : Statement (.getTcont tag index) := all _
theorem setTcontQueue tag index queue : Statement (.setTcontQueue tag index queue) := all _
theorem getGemCounters tag index clear : Statement (.getGemCounters tag index clear) := all _
theorem addRule tag index words : Statement (.addRule tag index words) := all _
theorem delRule tag index : Statement (.delRule tag index) := all _
theorem getRule tag index : Statement (.getRule tag index) := all _
theorem clearRules tag : Statement (.clearRules tag) := all _
theorem setDefaultAction tag kind words : Statement (.setDefaultAction tag kind words) := all _
theorem getRuleCounters tag index clear : Statement (.getRuleCounters tag index clear) := all _
theorem setMeter tag index words : Statement (.setMeter tag index words) := all _
theorem getMeter tag index : Statement (.getMeter tag index) := all _
theorem setQueue tag index words : Statement (.setQueue tag index words) := all _
theorem getQueue tag index : Statement (.getQueue tag index) := all _
theorem setShaper tag node rate burst : Statement (.setShaper tag node rate burst) := all _
theorem getQueueCounters tag index clear : Statement (.getQueueCounters tag index clear) := all _
theorem setEthCfg tag val : Statement (.setEthCfg tag val) := all _
theorem getEthStatus tag : Statement (.getEthStatus tag) := all _
theorem getEthCounters tag clear : Statement (.getEthCounters tag clear) := all _
theorem setPause tag words : Statement (.setPause tag words) := all _
theorem setMacAddr tag mac : Statement (.setMacAddr tag mac) := all _
theorem getTod tag : Statement (.getTod tag) := all _
theorem setTod tag seconds ns : Statement (.setTod tag seconds ns) := all _
theorem setPps tag val : Statement (.setPps tag val) := all _
theorem setTodSf tag sfc seconds ns teqd : Statement (.setTodSf tag sfc seconds ns teqd) := all _
theorem fwBegin tag length : Statement (.fwBegin tag length) := all _
theorem fwData tag offset bytes : Statement (.fwData tag offset bytes) := all _
theorem fwActivate tag : Statement (.fwActivate tag) := all _
theorem factoryCal tag : Statement (.factoryCal tag) := all _
theorem factoryTest tag : Statement (.factoryTest tag) := all _
theorem factoryFuse tag : Statement (.factoryFuse tag) := all _
theorem identify tag : Statement (.identify tag) := all _
theorem pacingOff tag : Statement (.pacingOff tag) := all _
theorem pacingOn tag : Statement (.pacingOn tag) := all _
theorem txPermitWrite c v : Statement (.txPermitWrite c v) := all _
theorem biasCalibrated c : Statement (.biasCalibrated c) := all _
theorem ethPortEnableWrite e enable hold : Statement (.ethPortEnableWrite e enable hold) := all _
theorem alinkEnableWrite enable hold : Statement (.alinkEnableWrite enable hold) := all _
theorem receiveLpiChange e v : Statement (.receiveLpiChange e v) := all _
theorem prbsCheckerSyncChange lane v : Statement (.prbsCheckerSyncChange lane v) := all _
theorem fuseArmExpiry : Statement .fuseArmExpiry := all _
theorem alarmSourceCleared source : Statement (.alarmSourceCleared source) := all _
theorem poolReinitComplete p : Statement (.poolReinitComplete p) := all _
theorem refreshRateChange i temp : Statement (.refreshRateChange i temp) := all _
theorem ppsPulseEnd : Statement .ppsPulseEnd := all _
theorem commandCompletion t seq : Statement (.commandCompletion t seq) := all _

end Sys2Proof.Laws.TableWord
end

