-- ==== Sys2Proof/Tests/Slice0.lean ====
section
/-! SUPPORT. The model's own tests: well-formedness, results that the manual gives or that its rules give by hand, and, for
every statement, states and operands that meet its hypotheses. Each test is one step on a small state. -/

namespace Sys2Proof.Tests

set_option Elab.async false

open Sys2Proof Sys2Proof.Machine

/-! # States -/

/-- Ready in native mode, with every domain on. -/
def base : State :=
  { State.reset with
    phase := .ready
    power := { PowerSt.reset with doms := (List.range 13).map fun d => (d, { Dom.off with st := .on, votes := 3 }) }
    tick := { TickSt.reset with started := true, number := 100000 } }

/-- Words stored as a host's writes leave them. -/
def cfgs : List (Nat × Word) → State → State
  | [], s => s
  | (a, v) :: r, s => cfgs r (s.putCfg a v)

def tickd (f : TickSt → TickSt) (s : State) : State := { s with tick := f s.tick }

/-! ## Ticks -/
def tRef : State := base |> tickd fun t => { t with overran := [⟨0, 99999, 0⟩, ⟨4, 99999, 7⟩] }
def tChan : State := base |> tickd fun t => { t with selected := .chan .a, source := .chan .a }
def tNew : State := (base.modCh .b fun x => { x with hunt := .sync }) |> tickd fun t => { t with selected := .chan .b, source := .ref }
def tLost : State := base |> tickd fun t => { t with selected := .chan .b, source := .chan .a }
def tFirst : State := base |> tickd fun t => { t with started := false, number := 0 }
def tStip : State := { base with counters := ⟨[(5, 7), (9, 3)], none⟩ } |> tickd fun t => { t with number := 16000 }
def tCopy : State := { base with counters := ⟨[(5, 7), (9, 3)], none⟩ } |> tickd fun t => { t with copying := some [(5, 2)] }
def tSusp : State := base |> tickd fun t => { t with suspect := 0x000F }
def tSync : State := tSusp |> tickd fun t => { t with resyncs := [(100000, 3)] }
def tHeld : State := { base with cmd := { base.cmd with held := [⟨[], 100001, true, none⟩, ⟨[], 100009, true, none⟩] } }
def aRec : EvRec := { code := 0x0101, time := 0, p := 0, unmasked := true }
def evFull : State :=
  { cfgs [(subAddr 0, 0xFFFE)] base with ev := { EvSt.reset with ring := List.replicate 8192 aRec, next := 8192 } }
def evNoTime : State := { base with power := { base.power with doms := base.power.doms.take 12 } }

/-! ## Optical channels -/
/-- A channel in SYNC with its transmitter READY. -/
def opt (c : Chan) (s : State) : State :=
  (s.putCfg (chAddr c 0) (match c with | .a => 0xC79 | .b => 0xC39)).modCh c fun x =>
    { x with running := true, cdr := true, los := false, lof := false, chLoss := false, hunt := .sync, fsOk := true
             sfc64 := 0x1000, tx := .ready, tecLocked := true, biasCal := true, holdReload := false, seenLos := false
             seenLof := false, seenLoss := false }
def op2 : State := opt .b (opt .a base)
def ch1 (f : ChanSt → ChanSt) : State := (op2.modCh .a f).modCh .b f
def oNoCdr : State := ch1 fun x => { x with cdr := false, hunt := .off, los := true, lof := true }
def oRelock : State := ch1 fun x => { x with cdr := false, relocking := true, hunt := .off, lof := true }
def oLos : State := ch1 fun x => { x with los := true, hunt := .hunt }
def oWarm : State := ch1 fun x => { x with tx := .warmup, tecLocked := false }
def oWarm2 : State := ch1 fun x => { x with tx := .warmup, biasCal := false }
def oDone : State := ch1 fun x => { x with burstDone := true }
def oHunt : State := ch1 fun x => { x with hunt := .hunt, lof := true }
def oCand : State := ch1 fun x => { x with hunt := .candidate, lof := true, cands := [⟨3, 77, 1⟩, ⟨9, 5, 0⟩] }
def oCand8 : State := ch1 fun x => { x with hunt := .candidate, cands := (List.range 8).map fun i => ⟨100 + i, 5, 0⟩ }
def oBad : State := ch1 fun x => { x with badCount := 3 }
def oWin : State := ch1 fun x => { x with winFrames := 80, winBits := 4000000000, winUncorr := 9 }
def oOff : State := cfgs [(chAddr .a 0, 0xC78), (chAddr .b 0, 0xC38)] (ch1 fun x => { x with running := false, los := true, tx := .off, hunt := .off, cdr := false })
def oReasm : State := ch1 fun x => { x with reasm := [(1, some ⟨[⟨5, 0, 0, [1, 2]⟩], [(9, 3)], 0⟩)] }
def oReasm2 : State := { oReasm with bpm := { oReasm.bpm with pools := mput Pool.none oReasm.bpm.pools 9 { Pool.fresh 9 with cells := [(3, ⟨1, 1, 0⟩)] } } }

/-! ## vONUs -/
def aProf : Profile :=
  { version := 1, rate := 0, fec := true, valid := true, fromHost := false, preLen := 8, preRep := 4, delLen := 8, preamble := 5, delimiter := 6 }
def vch (a : Act) : VCh :=
  { VCh.none with act := a, onuId := some 5, eqd := some 1000, eqdOrder := 1, profiles := [aProf, noProfile, aProf, noProfile] }
def aVonu (a : Act) : Vonu :=
  { Vonu.none with sn := 0x1234, regId := 0x77, life := .active, enable := ⟨true, true⟩, ch := ⟨vch a, vch a⟩ }
def withV (l : SMap Vonu) (s : State) : State := { s with vonu := { s.vonu with vonus := l } }
/-- One vONU in a state on both channels. -/
def von (a : Act) : State := withV [(0, aVonu a)] op2
def msg (b : PloamBody) (s : State) : State :=
  let q : List PloamWait := [⟨⟨5, b, 0⟩, [0], 100000, none⟩, ⟨⟨5, .protectionControl, 0⟩, [0], 100000, none⟩]
  (s.modCh .a fun x => { x with ploamQ := q }).modCh .b fun x => { x with ploamQ := q }
def alloc1 (s : State) : State :=
  { s with vonu := { s.vonu with alloc := [(0, some ⟨5, 0, .a⟩), (1, some ⟨300, 0, .a⟩), (2, some ⟨300, 0, .b⟩)] } }
def mgmt (s : State) : State :=
  { s with crypto := { s.crypto with slots := (List.range 4).foldl (fun m k => mput Slot.empty m (mgmtSlot (k / 2) (k % 2)) defaultSlot) [] } }
def pProf : State := msg (.burstProfile 1 { aProf with version := 3 }) (von .o23)
def pAssign : State := msg (.assignOnuId 0x1234 9) (von .o23)
def pRange : State := msg (.rangingTime 700 false true) (von .o4)
def pRange2 : State := msg (.rangingTime 700 true false) (von .o5)
def pDeact : State := msg .deactivateOnuId (mgmt (alloc1 (von .o5)))
def pDis : State := msg (.disableSerialNumber (some 0x1234) true) (von .o5)
def pEna : State := { msg (.disableSerialNumber none false) (von .o7) with mram := { base.mram with estops := [⟨0x1234, .a⟩, ⟨0x1234, .b⟩] } }
def pReg : State := msg .requestRegistration (mgmt (von .o5))
def pAlloc : State := msg (.assignAllocId 400 false) (mgmt (alloc1 (von .o5)))
def pRel : State := msg (.assignAllocId 300 true) (mgmt (alloc1 (von .o5)))
def pKey : State := msg (.keyControl 1 false) (mgmt (von .o5))
def pGen : State := msg (.keyControl 1 true) (mgmt (von .o5))
def pSleep : State := msg (.sleepAllow 7 true) (mgmt (von .o5))
def standby (c : Chan) (s : State) : State :=
  withV [(0, let v := aVonu .o5; { v with standby := v.standby.set (otherCh c) true, enable := v.enable.set (otherCh c) false
                                          ch := v.ch.set (otherCh c) VCh.none })] s
def pTune : State :=
  let s := msg (.tuningControl 4 2000) (standby .a (mgmt (von .o5)))
  { s with vonu := { s.vonu with chProfile := ⟨[(4, .ofChan .b)], [(4, .ofChan .a)]⟩ } }
def pTuneB : State :=
  let s := msg (.tuningControl 4 2000) (standby .b (mgmt (von .o5)))
  { s with vonu := { s.vonu with chProfile := ⟨[(4, .ofChan .b)], [(4, .ofChan .a)]⟩ } }
def pProt : State := msg .protectionControl (mgmt (von .o5))
def pPow : State := msg .changePowerLevel (mgmt (von .o5))
def pWave : State := msg .adjustTxWavelength (mgmt (von .o5))
def pCal : State := msg .calibrationRequest (mgmt (von .o5))
def pSys : State := msg (.systemProfile [1, 2, 3]) (von .o5)
def pChP : State := msg (.channelProfile 3 (.ofChan .b)) (von .o5)
def pUnk : State := msg (.unknown 0x55) (mgmt (von .o5))
def timed (a : Act) : State := withV [(0, let x : VCh := { vch a with expiry := some 100000 }; { aVonu a with ch := ⟨x, x⟩ })] (mgmt (alloc1 (von a)))
def vT4 : State := timed .o4
def vT6 : State := timed .o6
def vT8 : State := timed .o8
def vT9 : State := timed .o9
def vTune : State := withV [(0, { aVonu .o5 with standby := ⟨false, true⟩, enable := ⟨true, false⟩, ch := ⟨{ vch .o5 with tuneAt := some 0x0FFF }, VCh.none⟩ })] (mgmt (alloc1 (von .o5)))
def vRet : State := withV [(0, { aVonu .o5 with life := .retiring, ch := ⟨VCh.none, VCh.none⟩, enable := ⟨false, false⟩ })] (mgmt op2)
def flow1 (s : State) : State := cfgs [(flowAddr 2, BitVec.ofNat 32 (77 + 2 ^ 26)), (flowAddr 3, BitVec.ofNat 32 (78 + 2 ^ 25 + 2 ^ 26))] s
def vFlow : State := flow1 (mgmt (alloc1 (von .o5)))

/-! ## Keys -/
def kMsk : State := { mgmt op2 with crypto := { op2.crypto with slots := [(0, { defaultSlot with isDefault := false, key := [1], usage := 2 ^ 38 })] } }
def kHard : State := { op2 with crypto := { op2.crypto with slots := [(0, { defaultSlot with usage := 2 ^ 40 }), (4095, { defaultSlot with state := 2, usage := 2 ^ 41 })], rngOk := false, armed := true, alarmActive := 2 } }
def kBscan : State := { op2 with crypto := { op2.crypto with ir := some .extest } }

/-! ## Bursts -/
def aBurst : Burst :=
  { mkBurst 0 .data 40 77 388800000000000 aProf false [{ entry := 1, size := 40, dbru := true }] 100000 with stop := 388800000090000 }
def withB (f : BCh → BCh) (s : State) : State := (s.modB .a f).modB .b f
def bO5 : State := mgmt (alloc1 (von .o5))
def bQueued : State := withB (fun x => { x with bursts := [aBurst, { aBurst with start := 388800100000000, tick := 100001 }] }) bO5
def bDone : State := withB (fun x => { x with bursts := [{ aBurst with committed := true }] }) bO5
def bJudged : State := withB (fun x => { x with bursts := [{ aBurst with committed := true, judged := true }], shadow := [(100000, 77, some [])] }) bO5
def bNoShadow : State := withB (fun x => { x with bursts := [{ aBurst with committed := true, judged := true }] }) bO5
def bNow : State := withB (fun x => { x with current := some { aBurst with committed := true, judged := true }, trips := [99000, 99500] }) bO5
def bNow1 : State := withB (fun x => { x with current := some { aBurst with committed := true, judged := true }, marks := [⟨0, 3⟩], switchOpen := true }) bO5
def bLatched : State := (withB (fun x => { x with trips := [1, 2, 3], switchOpen := true }) bO5) |> fun s =>
  (s.modCh .a fun x => { x with tx := .latched }).modCh .b fun x => { x with tx := .latched }
def bTaken : State := { bO5 with burin := { bO5.burin with stage := [(1, { Stage.none with taken := some 300, takenRemoved := 20 })] } }
def aPkt : Packet := { kind := 1, index := 3, xgemPort := 77, colour := 0, bytes := List.replicate 60 0x11, cells := [(1, 7)], creditCh := none, flow := none }
def pools7 (s : State) : State :=
  { s with bpm := { s.bpm with pools := mput Pool.none s.bpm.pools 1 { Pool.fresh 1 with cells := [(7, ⟨1, 4, 0⟩), (8, ⟨2, 0x0C, 3⟩), (9, ⟨2, 0x0C, 1⟩)] } } }
def withQ (q : Nat) (x : Queue) (s : State) : State := { s with qs := { s.qs with queues := mput Queue.none s.qs.queues q x } }
def refill1 : State :=
  pools7 (withQ 6 { Queue.none with pkts := [aPkt] } (cfgs [(qAddr 6 0, BitVec.ofNat 32 (1 + 2 ^ 31)), (qAddr 6 1, 20000)] { bO5 with cls := { bO5.cls with restoring := false } }))

/-! ## The classifier -/
def anAct : Machine.Action := { cls := 0, colour := 0, queue := some 6, meter := none, counter := some 3, dispose := 1, recircKind := 0, decapLayer := 1, metaTag := 0 }
def anIn : InFlight := { pkt := aPkt, plate := false, act := anAct, counted := 60, cut := 14, start := .ethernet }
def cRun : State := pools7 { base with cls := { base.cls with restoring := false } }
def cIn : State := { cRun with cls := { cRun.cls with ingress := [{ aPkt with index := 5 }, aPkt] } }
def cDecap : State := { cRun with cls := { cRun.cls with toDecap := [anIn, anIn], second := [anIn], retiring := true, ruleMarks := [(true, 5), (false, 1)], ruleBad := [(true, 5)] } }
def cDecrypt : State := { cRun with cls := { cRun.cls with toDecrypt := [{ anIn with pkt := { aPkt with kind := 3, index := 0 } }] } }
def aFrag (u : BitVec 64) (c : Bool) : Frag := { key := [1, 2], act := anAct, plate := false, generation := 0, carried := c, usedAt := u }
def cSwap : State := { cRun with cls := { cRun.cls with swapDue := some true, frags := [aFrag 99999 false, aFrag 5 true], copyBusy := true } }
def cFlush : State := { cfgs [(clsAddr 0, 0xFFFF)] cRun with cls := { cRun.cls with frags := [aFrag 99999 false, aFrag 5 true] } }
def qNode (n : Nat) (s : State) : State :=
  withQ 6 { Queue.none with pkts := [aPkt] } (cfgs [(qAddr 6 0, BitVec.ofNat 32 (n + 2 ^ 30 + 2 ^ 31)), (qAddr 6 1, 20000)] s)
def qAdm : State := qNode 9000 { cRun with cls := { cRun.cls with toAdmit := [anIn] } }
def qAdm0 : State := { cRun with cls := { cRun.cls with toAdmit := [anIn] } }
def eUp (s : State) : State := { s with eth := { s.eth with ports := (List.range 4).map fun e => (e, { EthPort.reset with state := .up }) } }
def qEth : State := qNode 8704 (eUp cRun)
def qRest : State := { base with qs := { base.qs with flushing := some 6 } }
def aCopy : HCopy := { base := 0, cycle := 1000, entries := [(3, 400), (5, 600)] }
def hPend : State := { base with qs := { base.qs with hatch := (List.range 4).map fun k => (k, { Hatch.none with pending := some aCopy, start := 0 }) } }
def hAct : State := { base with qs := { base.qs with hatch := (List.range 4).map fun k => (k, { Hatch.none with active := some aCopy, copying := true }) } }
def plCells : State := pools7 { base with bpm := { base.bpm with pools := mput Pool.none base.bpm.pools 3 { Pool.fresh 3 with reinit := true } } }

/-! ## The Alanov Link -/
def goodLane (n : Nat) : Lane :=
  { Lane.reset with locked := true, deskewed := true, logical := if n < 8 then BitVec.ofNat 4 n else 15, ready := true, readyRun := 2, period := some 5 }
def link (st : LinkState) (s : State) : State :=
  { cfgs [(alAddr 0, 0x00A183)] s with alink := { s.alink with state := st, lanes := (List.range 9).map fun n => (n, goodLane n), period := some 5 } }
def lAct : State := link .active base
def lActOne : State := { lAct with alink := { lAct.alink with lanes := (List.range 8).map fun n => (n, goodLane n) } }
def lRepair : State := { lAct with alink := { lAct.alink with rxUse := some 2, peerRequest := 1, commanded := true
                                                              prbs := [(3, { Prbs.off with chk := true, pattern := 2 }), (8, { Prbs.off with chk := true, pattern := 1, sync := true })] } }
def lFresh : State := { lAct with alink := { lAct.alink with period := none, lanes := (List.range 5).map fun n => (n, { goodLane n with locked := decide (n < 4) }) } }
def lClock : State := { base with alink := { base.alink with state := .clock } }
def lAdapt : State := link .adapt base
def lLock : State := link .lock base
def lLock2 : State := { lFresh with alink := { lFresh.alink with state := .lock } }
def lDesk : State := link .deskew base
def lDesk0 : State := { lDesk with alink := { lDesk.alink with lanes := (List.range 9).map fun n => (n, { goodLane n with ready := false, readyRun := 0 }) } }
def lWait : State := link .waitPeer base
def lFail : State := link .failed base
def lLoop : State := { link .loop base with alink := { (link .loop base).alink with loopKind := 1 } }
def lCes : State := { lAct with alink := { lAct.alink with cesWait := [(1, [1]), (2, [2, 3]), (1, [4])], lossRun := [3]
                                                           credits := [(0, some ⟨5, 2, 9, 3, 1, 100⟩), (641, some ⟨100, 2, 9, 3, 1, 100⟩)] } }
def al2 (s : State) : State := link .active s

/-! ## Ethernet -/
def eSt (st : EthState) (f : EthPort → EthPort) (s : State) : State :=
  { s with eth := { s.eth with ports := (List.range 4).map fun e => (e, f { EthPort.reset with state := st }) } }
def eCfg (s : State) : State := cfgs ((List.range 4).map fun e => (ethAddr e 0, s.cfg (ethAddr e 0) ||| 0x21)) s
def eAn : State := eCfg (eSt .an id base)
def eTrain : State := eCfg (eSt .train id base)
def eWait : State := eCfg (eSt .linkWait id base)
def eUp1 : State := eCfg (eSt .up id { base with cls := { base.cls with restoring := false } })
def eUpP : State := cfgs ((List.range 4).map fun e => (ethAddr e 4, BitVec.ofNat 32 (1 + 4))) (eSt .up (fun x => { x with paused := true, pfcHeld := 0x0A, txFrame := some (List.replicate 60 1) }) eUp1)
def eUpF : State := cfgs ((List.range 4).map fun e => (ethAddr e 4, BitVec.ofNat 32 (2 + 4 + 0x7F8 + 0x18 * 2 ^ 11))) (eSt .up (fun x => { x with xoffSent := true, pfcHeld := 2 }) eUp1)
def eXoff : State := cfgs ((List.range 4).map fun e => (ethAddr e 5, BitVec.ofNat 32 500)) (eSt .up (fun x => { x with xoffSent := true }) eUpP)
def eXoffF : State := cfgs ((List.range 4).map fun e => (ethAddr e 5, BitVec.ofNat 32 500)) eUpF
def eLpi : State := cfgs ((List.range 4).map fun e => (ethAddr e 6, 3)) (eSt .up (fun x => { x with lpiTx := true }) eUp1)
def eLpi0 : State := cfgs ((List.range 4).map fun e => (ethAddr e 6, 3)) eUp1
def eDown : State := eCfg base
def eLoop : State := eCfg (eSt .loop (fun x => { x with loopKind := 1 }) base)
def eMacCfg : State := cfgs ((List.range 4).map fun e => (ethAddr e 0x11, 0x11111)) eUp1
def eBytes : List Byte := [1, 0, 0, 0, 0, 1, 2, 2, 2, 2, 2, 2, 0x08, 0x06] ++ List.replicate 50 7

/-! ## Time -/
def tm (f : TimeSt → TimeSt) (s : State) : State := { s with time := f s.time }
def mLock : State := op2 |> tm fun t => { t with servo := .locked, lastUsable := 5, ppsOk := true, ppsHigh := true }
def mChan : State := (op2 |> tickd fun t => { t with source := .chan .a }) |> tm fun t => { t with servo := .holdover }
def mLeg : State := { op2 with legacy := true }
def mPps : State := cfgs [(timeAddr 0xA, 1)] op2
def mOff : State := { op2 with power := { op2.power with doms := op2.power.doms.take 12 } }
def todX : TodIn := { sfc := 0x0FF0, seconds := 5, ns := 100, teqd := 7 }
def mTod (l : List (Nat × Option (BitVec 96))) : State :=
  al2 op2 |> tm fun t => { t with todIn := ⟨some todX, some todX⟩, latches := ⟨l, l⟩, tsQueue := [[1, 2, 3, 4], [5]] }
def mTod1 : State := mTod []
def mTod2 : State := mTod [(0x0FF0, some 12345678)]
def mTod3 : State := cfgs [(timeAddr 0x41, BitVec.ofNat 32 (2 ^ 31 + 9)), (timeAddr 0x45, BitVec.ofNat 32 (2 ^ 31 + 9)), (timeAddr 0, 1)] mTod2
def mTodC : State := { mTod2 with alink := { mTod2.alink with credits := [(641, some ⟨100, 2, 9, 3, 1, 100⟩)] } }

/-! ## Circuit emulation -/
def trib1 (w0 : Word) (f : Trib → Trib) (s : State) : State :=
  { cfgs [(cesAddr 0 0, w0), (cesAddr 1 0, w0), (cesAddr 0 3, 0xFFFFFFFE), (cesAddr 1 3, 0xFFFFFFFE)] s with
    ces := { s.ces with tribs := [(0, f Trib.none), (1, f Trib.none)].filter fun e => e.2 ≠ Trib.none } }
def cesBase : State := al2 { base with cls := { base.cls with restoring := false } }

/-! ## Faults and power -/
def fBad : State := { op2 with fault := { op2.fault with rtOk := false, rtMismatches := [99000, 99900], crcBad := [(0x20, 1)] } }
def fFailed : State := { op2 with fault := { op2.fault with rtOk := false, rtFailed := true } }
def fTwo : State := { op2 with fault := { op2.fault with rtMismatches := [99000, 99900], svcMismatches := [99990] } }
def fClock : State := { op2 with fault := { op2.fault with clockGroups := 0x7FF, clockPorts := 5 } }
def fGold : State := { op2 with fault := { op2.fault with goldenBad := [⟨6, false, false, 0, 0, 3, none⟩] }, qs := { op2.qs with eccShut := [3] } }
def fRail : State := { op2 with power := { op2.power with doms := (List.range 13).map fun d => (d, { Dom.off with st := .on, votes := 3, railBad := true }) } }
def fBurst : State := bNow
def fLink : State := al2 bQueued
def fH (p : BitVec 2) (ok : Bool) (n : BitVec 64) : State := { op2 with fault := { op2.fault with handover := some ⟨p, true, n, ok, false⟩ } }
def fH0 : State := fH 0 false 99999
def fH1 : State := fH 1 false 99999
def fH1p : State := fH 1 true 99999
def fH2p : State := fH 2 true 99999
def fH2 : State := fH 2 false 99999
def dSt (st : DomSt) (f : Dom → Dom) : State :=
  { op2 with power := { op2.power with doms := (List.range 13).map fun d => (d, f { Dom.off with st := st, votes := 3 }) } }
def dShut : State := dSt .shuttingDown id
def dUp : State := { dSt .poweringUp id with power := { (dSt .poweringUp id).power with die := [⟨6, true, false⟩, ⟨8, true, false⟩] } }
def dUpR : State := { dSt .poweringUp id with power := { (dSt .poweringUp id).power with die := [⟨6, true, true⟩] } }
def dDown : State := { dSt .shuttingDown (fun x => { x with isolated := true, offAsked := true }) with power := { (dSt .shuttingDown (fun x => { x with isolated := true, offAsked := true })).power with die := [⟨9, false, false⟩] } }
def dAck : State := dSt .poweringUp fun x => { x with acked := true, isolated := true }
def oneDom (d : Nat) (x : Dom) (s : State) : State := { s with power := { s.power with doms := mput Dom.off s.power.doms d x } }
def dOneShut : State := oneDom 9 { Dom.off with st := .shuttingDown } op2
def dOneAck : State := oneDom 9 { Dom.off with st := .poweringUp, acked := true, votes := 1 } op2
def dFailed : State := oneDom 9 { Dom.off with st := .failed, retryOk := true, votes := 1 } (oneDom 11 { Dom.off with st := .failed, votes := 1 } op2)
def rSafe : State := { vFlow with phase := .safe, power := { vFlow.power with safeCause := 2 }, mram := { vFlow.mram with safeStates := 4 } }
def rBoot : State := { op2 with phase := .booting, fw := { op2.fw with banks := ⟨{ Bank.empty with st := .running }, .empty⟩ } }
def rSleep : State := { op2 with phase := .asleep, power := { op2.power with wakeArmed := true, wakeMask := 7 } }
def rWaitR : State := { vFlow with cmd := { vFlow.cmd with wait := some ⟨.reset, .twi, 3⟩ } }
def rWaitS : State := { vFlow with cmd := { vFlow.cmd with wait := some ⟨.sleep, .twi, 3⟩ } }
def rInt : State := { op2 with phase := .internalReset }
def rLegBoot : State := { rBoot with legacy := true }
/-! ## Circuit emulation -/
def e1Sat : Word := BitVec.ofNat 32 (1 + 2 * 2 + 8 * 2 ^ 8 + 32 * 2 ^ 15)
def e1Ces : Word := BitVec.ofNat 32 (1 + 2 * 2 + 8 + 8 * 2 ^ 8 + 32 * 2 ^ 15)
def t1Ces : Word := BitVec.ofNat 32 (1 + 8 + 8 * 2 ^ 8 + 32 * 2 ^ 15)
def jUp : State := trib1 e1Sat (fun x => { x with ssSeq := some 3, lineBits := List.replicate 300 true }) cesBase
def jUpT : State := trib1 t1Ces (fun x => { x with ssSeq := some 3, lineBits := List.replicate 2000 true }) cesBase
def jOff : State := trib1 (e1Sat &&& 0xFFFFFFFE) id cesBase
def pwPkt : Packet := { aPkt with bytes := [0, 0, 0, 5] ++ List.replicate 32 9 }
def withRx (p : Packet) (s : State) : State := { s with ces := { s.ces with rx := [(0, [p, p]), (1, [p])] } }
def jRx : State := withRx pwPkt (pools7 (trib1 e1Sat id cesBase))
def jRxBad : State := withRx aPkt (pools7 (trib1 e1Sat id cesBase))
def jTimer : State := trib1 e1Sat (fun x => { x with timer := true, jb := [(5, some ⟨List.replicate 32 9, false⟩)], nextPlay := 5 }) cesBase
def jPlay : State := trib1 e1Sat (fun x => { x with playing := true, jb := [(5, some ⟨List.replicate 32 9, false⟩)], nextPlay := 5 }) cesBase
def jGap : State := trib1 e1Sat (fun x => { x with playing := true, jb := [(5, some ⟨List.replicate 32 9, false⟩)], nextPlay := 4 }) cesBase
def jDry : State := trib1 e1Sat (fun x => { x with playing := true, nextPlay := 4 }) cesBase
def jSlip : State := trib1 e1Ces (fun x => { x with playing := true, toPlay := [([1, 2], false)], lastFrame := some ⟨[3, 4], false, false⟩ }) cesBase
def jIdle : State := trib1 e1Ces id cesBase
def jSend : State := trib1 e1Sat (fun x => { x with playing := true, toPlay := [(List.replicate 32 9, false)] }) cesBase
def jGrp7 : State := { jSend with fault := { jSend.fault with clockGroups := 0x80 } }
def jGrp7F : State := { jSlip with fault := { jSlip.fault with clockGroups := 0x80 } }
def jSendCr : State := { jIdle with alink := { jIdle.alink with credits := [(512, some ⟨5, 2, 9, 3, 100, 100⟩)] } }
/-! ## Host -/
def rq (t : Transport) (x : Nat × Nat × List Byte) (flags : BitVec 8) : Req :=
  { t, seq := 7, flags, addr := BitVec.ofNat 32 x.1, param := BitVec.ofNat 32 x.2.1, payload := x.2.2 }
def incB : List Byte := leBytes 8 3454501144
def reqData : List (Nat × Nat × List Byte) :=
  [(0x01000000, 1, []), (0x01000000, 2, []), (0xFF000000, 1, []), (0, 1, []), (0x0D, 255, []), (0xFFFFFFFF, 0, []), (0xFFFFFFFF, 0xC0000000, []),
   (0x48000000, 1, wordBytes 1), (hCfgAddr 3 2, 1, wordBytes 77), (hCfgAddr 3 2, 1, wordBytes 77 ++ wordBytes 0xFF),
   (subAddr 0, 1, wordBytes 0xABCDEF), (subAddr 0, 1, wordBytes 0xABCDEF ++ wordBytes 0xF0F0), (0, 3, []), (0, 511, []), (0, 0x30005, []),
   (0, 5, wordBytes 9 ++ wordBytes 8 ++ List.replicate 36 1 ++ [0, 0, 0, 0]),  (1, 5, wordBytes 9 ++ wordBytes 8 ++ List.replicate 40 1),
   (0, 0x40000, []), (0, 6, []), (0, 0xFFFF, []), (1, 0, []), (9, 0, []), (12, 0, []), (13, 0, []), (0, 7, []), (1, 4096, []), (4, 0, List.replicate 16 7),
   (0x100, 0, []), (0x100, 1, []), (0x102, 3, []), (0, 0x1D, []), (8, 0x1A, []), (0x103, 0x1D, []), (0, 0, leBytes 8 5000), (0, 0, leBytes 8 (2 ^ 64 - 77)),
   (0, 0, incB), (0, 0x5001, []), (0, 0, [])]
def atT (x : Nat × Nat × List Byte) : Nat × Nat × List Byte := (x.1, x.2.1, leBytes 8 100002 ++ x.2.2)
def reqs : List Req := reqData.map (fun x => rq .twi x 1) ++ (reqData.map fun x => rq .alanov x 0) ++ reqData.map fun x => rq .twi (atT x) 8
def ringed : State := { op2 with ev := { op2.ev with ring := (List.range 300).map (fun i => { aRec with p := BitVec.ofNat 64 i }), next := 300, alarm := 9, attn := 4 } }
def hBase : State := cfgs [(subAddr 0, 0xFFFE)] (mgmt (al2 ringed))
def hOwner : State := { hBase with time := { hBase.time with hostOwner := true, servo := .host } }
def hImg : State := { hBase with fw := { hBase.fw with banks := ⟨{ Bank.empty with st := .running }, { Bank.empty with st := .writing }⟩, open_ := some (true, 4096) } }
def hImg2 : State := { hBase with fw := { hBase.fw with banks := ⟨{ Bank.empty with st := .running }, { Bank.empty with st := .verified }⟩ } }
def hV : State := { vFlow with alink := hBase.alink }
def hHatch : State := cfgs [(hCfgAddr 0 2, 1000), (hCfgAddr 0 3, 2), (hCfgAddr 3 2, 1000), (hCfgAddr 3 3, 1), (hEntryAddr 3 0, 0x2001), (hEntryAddr 0 0, 0x2001), (hEntryAddr 0 1, 0x2001)] hBase
def hSus : State := { hBase with tick := { hBase.tick with suspect := 0xFFFF } }
def hRun (w : Work) : State :=
  let x : Running := ⟨⟨0x52, rq .twi (1, 0, []) 1⟩, w⟩
  let y : Running := ⟨⟨0x52, rq .alanov (1, 0, []) 1⟩, w⟩
  let p : Past := ⟨7, false, false, none⟩
  { hImg2 with cmd := { hImg2.cmd with port := ⟨{ (hImg2.port .twi) with running := [x], history := [p], expected := some 8 }, { (hImg2.port .alanov) with running := [y], history := [p], expected := some 8 }⟩ } }
def hRunV : State := hRun (.imageVerify true)
def hRunD : State := hRun (.imageData true)
def hRunF : State := hRun (.fuseBlow 1)
def hChain : State := { hBase with cmd := { hBase.cmd with port := ⟨{ (hBase.port .twi) with chain := [⟨0x02, rq .twi (subAddr 0, 1, wordBytes 5) 4⟩], expected := some 8 }, hBase.port .alanov⟩ } }
def hReply : State := { hBase with cmd := { hBase.cmd with port := ⟨{ (hBase.port .twi) with replies := [⟨1, 7, 0x40, 0, 5, 6, [1, 2, 3, 4]⟩] }, hBase.port .alanov⟩ } }
def hFull : State := { hBase with cmd := { hBase.cmd with port := ⟨{ (hBase.port .twi) with running := List.replicate 32 ⟨⟨0x51, rq .twi (1, 0, []) 1⟩, .imageData true⟩ }, hBase.port .alanov⟩ } }
def heldBy (s : State) (op : Byte) (x : Nat × Nat × List Byte) (b : Bool) : State :=
  { s with cmd := { s.cmd with held := [⟨[⟨op, rq .twi (if b then atT x else x) (if b then 9 else 1)⟩], 100000, b, none⟩] } }
def xPlate : State := heldBy hBase 0x10 (0, 1, []) false
def xPlateT : State := heldBy hBase 0x10 (0, 1, []) true
def xHatch : State := heldBy hHatch 0x11 (0, 3, []) false
def xProf : State := heldBy hV 0x12 (0, 0x5000, []) false
def xCreate : State := heldBy hBase 0x20 (0, 5, wordBytes 9 ++ wordBytes 8 ++ List.replicate 36 1 ++ [0, 0, 0, 0]) false
def xCreateT : State := heldBy hBase 0x20 (0, 5, wordBytes 9 ++ wordBytes 8 ++ List.replicate 36 1 ++ [0, 0, 0, 0]) true
def xEnable : State := heldBy hV 0x21 (0, 0x30000, []) false
def xEnable2 : State := heldBy hV 0x21 (0, 0x10000, []) false
def xRetire : State := heldBy hV 0x22 (0, 0, []) false
def xResync : State := heldBy hSus 0x6F (0, 0x5001, []) false
def xVote : State := heldBy hBase 0x40 (9, 0, []) true
/-! ## Legacy -/
def lg (s : State) : State := { s with legacy := true, leg := { s.leg with busy := false, reply := [5, 0, 0, 0, 251] } }
def gFree : State := lg (al2 (eUp op2))
def gCre : State := lg (withV [(0, { Vonu.none with life := .created, sn := 5 })] (mgmt op2))
def gAct : State := lg (cfgs [(flowAddr 0, BitVec.ofNat 32 (77 + 2 ^ 25 + 2 ^ 26)), (ruleAddr 0 3 44, 1), (ruleAddr 0 3 0, 5)]
  { vFlow with leg := { vFlow.leg with tconts := [(1, some 300), (3, some 301)], bases := [] }, counters := ⟨[(clsAddr 0x400000, 4), (ethAcc 0 3, 9)], none⟩ })
def gSat : State := { gAct with counters := ⟨[(chAddr .b 0x48, 0x100000005), (ethAcc 0 3, 9)], none⟩, leg := { gAct.leg with bases := [(ethAcc 0 3, 4)] } }
def gOmci : State := { gAct with vonu := { gAct.vonu with omciRing := [(0, some ⟨0, .b, 5, [1, 2, 3]⟩)], omciProd := 1 } }
def gPace : State := { gAct with mram := { gAct.mram with pacing := true } }
def gPaced : State := { gPace with leg := { gPace.leg with paced := some [0, 1, 0, 0, 255] } }
def gRest : State := { gAct with leg := { gAct.leg with restart := true } }
def gBusy : State := { gAct with leg := { gAct.leg with busy := true } }
def gFw : State := { gAct with fw := { gAct.fw with banks := ⟨{ Bank.empty with st := .running }, { Bank.empty with st := .writing }⟩, open_ := some (true, 4096) } }
def gFw2 : State := { gAct with fw := { gAct.fw with banks := ⟨{ Bank.empty with st := .running }, { Bank.empty with st := .empty }⟩ } }
def gTec : State := lg (dSt .off id)
def eKr : State := cfgs [(ethAddr 0 0, eUp1.cfg (ethAddr 0 0) ||| 8)] eUp1
def eKr4 : State := cfgs [(addrOf 0x50 0, 1), (ethAddr 0 0, eUp1.cfg (ethAddr 0 0))] eUp1
def lSwitch : State := { lAct with alink := { lAct.alink with rxUse := some 2, peerRequest := 1 } }
def aFrame (errs : Nat) (v : Option (BitVec 51)) : DsFrame :=
  { psyncErrs := errs, sfc := v, hlendOk := true, hlendMarked := false, fec := ⟨4, 1, 2, 0, 3⟩, ploam := [], timeCount := 5000 }
def kArm : State := { op2 with crypto := { op2.crypto with armed := true }, fuses := { op2.fuses with legacyLock := true } }
def kBc : State := { vFlow with crypto := { vFlow.crypto with slots := mput Slot.empty vFlow.crypto.slots 0 { defaultSlot with isDefault := false, key := [1] } } }
def eProm : State := cfgs [(ethAddr 0 3, eUp1.cfg (ethAddr 0 3) ||| 0x4000)] eUp1
def eRer : State := eCfg eUp1
def gRule : State := cfgs [(ruleAddr 0 3 40, 0x200), (ruleAddr 0 3 42, 77)] gAct

/-! ## The manual's worked examples -/
def exampleRead : Req := { t := .alanov, seq := 0x0123, flags := 0, addr := 0x02000002, param := 2, payload := [] }
def exampleState : State :=
  { al2 base with
    tick := { base.tick with number := 1000006 }
    cmd := { base.cmd with port := ⟨base.port .twi, { (base.port .alanov) with expected := some 0x0123 }⟩ } }
def exampleTicks : State :=
  (base.modCh .b fun x => { x with hunt := .sync }) |> tickd fun t =>
    { t with selected := .chan .b, source := .chan .a, number := 1000004 }
def exampleHunt : State :=
  ch1 fun x => { x with hunt := .candidate, lof := true, cands := [⟨37, 1000000001, 1⟩, ⟨82, 0x27E319C045D12, 0⟩] }
def examplePause : State := cfgs [(ethAddr 2 0, eUp1.cfg (ethAddr 2 0) ||| 0x21), (ethAddr 2 4, 5)] eUp1
def exampleTod : State :=
  let s := withV [(0, { aVonu .o5 with ch := ⟨VCh.none, { vch .o5 with eqd := some 1151600 }⟩ })] (mgmt (al2 op2))
  let s := cfgs [(chAddr .b 0, s.cfg (chAddr .b 0)), (timeAddr 8, 1000 + 100 * 2 ^ 16)] s
  s |> tm fun t =>
    { t with todIn := ⟨none, some { sfc := 4000000, seconds := 1700000037, ns := 250000000, teqd := 1250000 }⟩
             latches := ⟨[], [(4000000, some (BitVec.ofNat 96 ((1700000037 * 10 ^ 9 + 250006112) * 2 ^ 32)))]⟩ }
def exampleTodArrived : State := (exampleTod.modCh .b fun x => { x with sfc64 := 4000001 }) |> tickd fun t => { t with source := .chan .b }
/-! ## More states, one for a clause each -/
def tSnap : State := tStip |> tickd fun t => { t with snap := some [(5, 6), (9, 3)], snapSuspect := true }
def tTrail : State := { base with counters := ⟨[(5, 7), (9, 3)], some [(5, 6), (5, 7)]⟩ } |> tickd fun t => { t with copying := some [(5, 2)] }
def tWork : State :=
  { alloc1 tHeld with vonu := { (alloc1 tHeld).vonu with moved := [⟨.a, 0, .o1, 1, 1⟩], batch := 1 } } |> tickd fun t => { t with foldLag := 3 }
def oWarmR : State := ch1 fun x => { x with tx := .warmup, tecLocked := false, warmFromReady := true }
def oFault : State := ch1 fun x => { x with tx := .fault }
def oDropped : State := ch1 fun x => { x with payloadDrop := true }
def kDbg : State := { op2 with fuses := { op2.fuses with dbgLock := true } }
def bOwn : State := bO5.stampTables
def bLit : State :=
  withB (fun x => { x with bursts := [{ aBurst with committed := true, judged := true }]
                           shadow := [(100000, 77, some [⟨388800000000000 / cycleU - 10, 388800000090000 / cycleU + 10, false, 388800000090000⟩])] }) bO5
def bSpoilt : State := bQueued |> tickd fun t => { t with transit := [(1, 0), (3, 0)] }
def hAgain : State :=
  { base with qs := { base.qs with hatch := (List.range 4).map fun k => (k, { Hatch.none with active := some aCopy, again := some (aCopy, ⟨1000, 99990, 500⟩) }) } }
def cSwapRun : State :=
  { cSwap with cmd := { cSwap.cmd with port := ⟨{ (cSwap.port .twi) with running := [⟨⟨0x10, rq .twi (0, 1, []) 1⟩, .plateSwap 5⟩] }, cSwap.port .alanov⟩ } }
def lRun : State := { lAct with alink := { lAct.alink with badRun := true } }
def mEec : State := mChan |> tm fun t => { t with chanSince := some 20000 }
def mEdge : State := mPps |> tm fun t => { t with offset := BitVec.ofNat 96 ((10 ^ 9 - 60000) * 2 ^ 32) }
def eReq : State := cfgs [(ethAddr 0 0x40, 2)] eProm
def eHeld : State := eLpi0.modEth 0 fun x => { x with paused := true }
def dSleep : State := { dShut with phase := .sleeping }
def judgedHeld (s : State) : State := { s with cmd := { s.cmd with held := s.cmd.held.map fun h => { h with verdict := some [0] } } }
def yHatch : State := judgedHeld xHatch
def yProf : State := judgedHeld xProf
def yCreate : State := judgedHeld xCreate
def yEnable : State := judgedHeld xEnable
def yRetire : State := judgedHeld xRetire
def yResync : State := judgedHeld xResync
def yVote : State := judgedHeld xVote
def xApplied : State := { xPlate with cmd := { xPlate.cmd with held := xPlate.cmd.held.map fun h => { h with verdict := some [0] } } }
def jFull : State := jSlip.modTrib 0 fun x => { x with toPlay := [([1, 2], false), ([3, 4], true), ([5, 6], false), ([7, 8], false)], slipBuf := [⟨[1, 2], false, false⟩] }
def jEmpty : State := jSlip.modTrib 0 fun x => { x with toPlay := [], slipBuf := [] }
def fHf : State := fH1p |> fun s => { s with fault := { s.fault with handover := s.fault.handover.map fun h => { h with failing := true } } }
def fMore : State := { fClock with fault := { fClock.fault with clockMore := [3, 6, 9, 9] } }
def hRunDV : State := { hRunD with cmd := { hRunD.cmd with port := ⟨{ (hRunD.port .twi) with running := (hRunD.port .twi).running ++ [⟨⟨0x52, rq .twi (1, 0, []) 1⟩, .imageVerify true⟩] }, { (hRunD.port .alanov) with running := [⟨⟨0x52, rq .alanov (1, 0, []) 1⟩, .imageVerify true⟩] }⟩ } }
def dWakeLow : State := { dSleep with power := { dSleep.power with wakeLow := true } }
def rAsleep0 : State := { rSleep with power := { rSleep.power with wakeArmed := false } }
def rWoken : State := { rSleep with phase := .internalReset, power := { rSleep.power with cause := 5, wakeSrc := 1, wakeMask := 7 } }
def eSpoilt : State := eUp1 |> tickd fun t => { t with transit := [(5, 1), (5, 0), (5, 2), (9, 0), (4, 1)] }
def hSpoilt : State := hBase |> tickd fun t => { t with transit := [(5, 1), (9, 0), (4, 1), (4, 0)] }
def gEditing : State := { gAct with leg := { gAct.leg with busy := true, editing := some 0x20 } }
def gRetiring : State := { gEditing with cls := { gEditing.cls with retiring := true } }
def qPort : State := qNode 8192 { al2 cRun with alink := { (al2 cRun).alink with credits := [(0, some ⟨100, 2, 9, 3, 1, 100⟩)] } }
def qCes : State := qNode 8708 (trib1 e1Sat id (al2 cRun))
def pRetK : State := { pReg with crypto := { pReg.crypto with slots := mput Slot.empty pReg.crypto.slots (mgmtSlot 0 0) { Slot.empty with state := 3 } } }
def pKeyNoRng : State := { pKey with crypto := { pKey.crypto with rngOk := false } }
def kArmH : State := { kArm with fault := { kArm.fault with handover := some ⟨1, true, 99999, false, false⟩ } }
def oRailA : State := ch1 fun x => { x with holdRail := true }
def lMoved : State := { lSwitch with alink := { lSwitch.alink with movedAt := some 5 } }
def mSynce : State := cfgs [(timeAddr 0xA, 0x16)] op2
def jLast : State := jEmpty.modTrib 0 fun x => { x with lastFrame := some ⟨[3, 4], false, false⟩ }
def fGrp9 : State := { fClock with phase := .recovery }
def cesSpoilt : State := jUp |> tickd fun t => { t with transit := [(7, 1), (7, 0), (4, 1)] }
def gRetire2 : State := { gAct with cls := { gAct.cls with frags := [aFrag 99999 false], ingress := [aPkt] } }

/-- Every state of the witnesses. -/
def witnessStates : List State :=
  [base, tRef, tChan, tNew, tLost, tFirst, tStip, tCopy, tSusp, tSync, tHeld, evFull, evNoTime, op2, oNoCdr,
    oRelock, oLos, oWarm, oWarm2, oDone, oHunt, oCand, oCand8, oBad, oWin, oOff, oReasm, oReasm2, pProf, pAssign] ++
  [pRange, pRange2, pDeact, pDis, pEna, pReg, pAlloc, pRel, pKey, pGen, pSleep, pTune, pTuneB, pProt, pPow,
    pWave, pCal, pSys, pChP, pUnk, vT4, vT6, vT8, vT9, vTune, vRet, vFlow, kMsk, kHard, kBscan] ++
  [bO5, bQueued, bDone, bJudged, bNoShadow, bNow, bNow1, bLatched, bTaken, refill1, cRun, cIn, cDecap, cDecrypt,
    cSwap, cFlush, qAdm, qAdm0, qEth, qRest, hPend, hAct, plCells, lAct, lActOne, lRepair, lFresh, lClock, lAdapt,
    lLock] ++
  [lLock2, lDesk, lDesk0, lWait, lFail, lLoop, lCes, eAn, eTrain, eWait, eUp1, eUpP, eUpF, eXoff, eXoffF, eLpi,
    eLpi0, eDown, eLoop, eMacCfg, mLock, mChan, mLeg, mPps, mOff, mTod1, mTod2, mTod3, mTodC, cesBase] ++
  [fBad, fFailed, fTwo, fClock, fGold, fRail, fBurst, fLink, fH0, fH1, fH1p, fH2p, fH2, dShut, dUp, dUpR, dDown,
    dAck, dOneShut, dOneAck, dFailed, rSafe, rBoot, rSleep, rWaitR, rWaitS, rInt, rLegBoot, jUp, jUpT] ++
  [jOff, jRx, jRxBad, jTimer, jPlay, jGap, jDry, jSlip, jIdle, jSend, jGrp7, jGrp7F, jSendCr, ringed, hBase,
    hOwner, hImg, hImg2, hV, hHatch, hSus, hRunV, hRunD, hRunF, hChain, hReply, xPlate, xPlateT, xHatch, xProf] ++
  [xCreate, xCreateT, xEnable, xEnable2, xRetire, xResync, xVote, gFree, gCre, gAct, gSat, gOmci, gPace, gPaced,
    gRest, gBusy, gFw, gFw2, gTec, eKr, eKr4, lSwitch, kArm, kBc, eProm, eRer, gRule, exampleState, exampleTicks,
    exampleHunt] ++
  [examplePause, exampleTod, exampleTodArrived, tSnap, tTrail, tWork, oWarmR, oFault, oDropped, kDbg, bOwn, bLit,
    bSpoilt, hAgain, cSwapRun, lRun, mEec, mEdge, eReq, eHeld, dSleep, yHatch, yProf, yCreate, yEnable, yRetire,
    yResync, yVote, xApplied, jFull] ++
  [jEmpty, fHf, fMore, hRunDV, dWakeLow, rAsleep0, rWoken, eSpoilt, hSpoilt, gEditing, gRetiring, qPort, qCes,
    pRetK, pKeyNoRng, kArmH, oRailA, lMoved, mSynce, jLast, fGrp9, cesSpoilt, gRetire2]

/-! # Well-formedness: one ill-formed term for each check -/

theorem test_wf_payload : (Instr.read (rq .twi (0, 1, List.replicate 4081 0) 0)).wf = false ∧
    (Instr.timeRate (rq .twi (0, 1, List.replicate 4080 0) 0)).wf = true := by decide +kernel
theorem test_wf_linkLane : (Instr.laneBlockLock 9).wf = false ∧ (Instr.lockLoss 9).wf = false ∧ (Instr.laneBlockLock 8).wf = true := by decide
theorem test_wf_alignBlock : (Instr.alignBlock 9 ⟨0, 0, 0, true, 0, 0, 0⟩).wf = false ∧ (Instr.alignBlock 0 ⟨0, 0, 9, true, 0, 0, 0⟩).wf = false := by
  decide
theorem test_wf_prbsLane : (Instr.prbsCheckerSyncChange 9 true).wf = false ∧ (Instr.prbsCheckerSyncChange 0x104 true).wf = false ∧
    (Instr.prbsCheckerSyncChange 0x103 true).wf = true := by decide
theorem test_wf_node : (Instr.nodeRelease 8836).wf = false ∧ (Instr.nodeRelease 8835).wf = true := by decide
theorem test_wf_creditGroup : (Instr.creditBlockReceived 162 0 0 0 0).wf = false ∧ (Instr.creditLoss 162).wf = false ∧
    (Instr.creditLoss 161).wf = true := by decide
theorem test_wf_pool : (Instr.poolReinitComplete 7).wf = false ∧ (Instr.poolReinitComplete 12).wf = false ∧
    (Instr.allocRequest [⟨3, .pool 12⟩]).wf = false ∧ (Instr.allocRequest [⟨3, .pool 7⟩]).wf = true ∧ (Instr.allocRequest [⟨3, .size 99999⟩]).wf = true := by decide
theorem test_wf_eccError : (Instr.eccUncorrectable ⟨2, false, false, 0, 12, 0, none⟩).wf = false := by decide
theorem test_wf_illegalState : (Instr.illegalState (.allocator 7)).wf = false ∧ (Instr.illegalState (.allocator 6)).wf = true := by decide
theorem test_wf_pfcQuanta : (Instr.pfcFrameReceived 0 0 [1]).wf = false := by decide
theorem test_wf_todWords : (Instr.todInputWrite .a [1, 2, 3]).wf = false := by decide

/-- The table gives no row any bits, so no word spells a command and nothing is put into the queue. -/
theorem test_no_table_word : decodeTableWord 32 5 = none ∧ State.reset.withFetchWord 32 5 = State.reset := by decide +kernel

/-! # Results from the spec -/

/-- R47: the CRC-32C of "123456789". -/
theorem test_crc32c_check : crc32c [0x31, 0x32, 0x33, 0x34, 0x35, 0x36, 0x37, 0x38, 0x39] = 0xE3069283 := by decide +kernel

/-- The worked example of 02: the BULK_READ command's 16 header bytes. -/
theorem test_bulkRead_command_bytes : headerBytes 2 0x04 0x0123 0 0 0 0x02000002 2 =
    [0x02, 0x04, 0x23, 0x01, 0, 0, 0, 0, 0x02, 0, 0, 0x02, 0x02, 0, 0, 0] := by decide

/-- The same example: the reply's header and payload, at tick 1,000,006 on channel 640. -/
theorem test_bulkRead_reply_bytes : ∃ t, exec (.managementFrame (cmdBytes 0x04 exampleRead)) exampleState = .next t ∧
    (t.lastReply .alanov).map (fun y => (replyBytes y).take 24) =
      some [0x02, 0x04, 0x23, 0x01, 0x08, 0, 0x40, 0, 0x02, 0, 0, 0x02, 0x02, 0, 0, 0, 0x46, 0x42, 0x0F, 0, 0, 0, 0, 0] :=
  ⟨_, rfl, by decide +kernel⟩

/-- The worked example of 01: tick 1,000,005 comes from channel B, 30,855 REF cycles after tick 1,000,004. -/
theorem test_tick_source_change : ∃ t, exec (.tick 30855 []) exampleTicks = .next t ∧ t.tick.number = 1000005 ∧
    t.tick.source = .chan .b ∧ t.tick.lastPeriod = 30855 ∧ t.tick.stretched = true := ⟨_, rfl, by decide +kernel⟩

/-- R20: the first tick is number 0. -/
theorem test_first_tick_is_zero : ∃ t, exec (.tick 19440 []) tFirst = .next t ∧ t.tick.number = 0 ∧ t.tick.started = true :=
  ⟨_, rfl, by decide +kernel⟩

/-- The worked example of 03: the look-alike's predicted position has 29 bit errors, so candidate 2 goes and HUNT_FALSE counts. -/
theorem test_hunt_lookalike_discarded : ∃ t, exec (.candidatePredictedPsbd .a 82 (aFrame 29 none)) exampleHunt = .next t ∧
    (t.ch .a).cands = [⟨37, 1000000001, 1⟩] ∧ t.ctr (chAddr .a 0x60) = 1 := ⟨_, rfl, by decide +kernel⟩

/-- The same example: candidate 1's second advance promotes it. -/
theorem test_hunt_promotes : ∃ t, exec (.candidatePredictedPsbd .a 37 (aFrame 0 (some 1000000002))) exampleHunt = .next t ∧
    (t.ch .a).hunt = .sync ∧ t.onlineSfc .a = 1000000002 ∧ t.ctr (chAddr .a 0x62) = 0 := ⟨_, rfl, by decide +kernel⟩

/-- The worked example of 07: a copy with BASE 10⁹ ns and CYCLE 250,000 ns, committed at 7,000,030,000 ns. -/
theorem test_hatch_start : hatchStart { base := 1000000000, cycle := 250000, entries := [(0x80, 30000), (0x7F, 220000)] } 7000030000 =
    7000250000 := by decide

/-- The worked example of 10: PAUSE with 1,000 quanta, then with 0. -/
theorem test_pause_holds_and_releases : ∃ t u, exec (.pauseFrameReceived 2 1000) examplePause = .next t ∧
    exec (.pauseFrameReceived 2 0) t = .next u ∧ (ethPort t 2).paused = true ∧ (ethPort u 2).paused = false ∧
    u.ctr (ethRc 2 9) = 2 := ⟨_, _, rfl, rfl, by decide +kernel⟩

/-- The worked example of 11: D of TEQD 1,250,000 over a reference EqD of 1,151,600 bit periods at 9.95328 Gbit/s. -/
theorem test_tod_delay : exampleTod.todDelay .b { sfc := 4000000, seconds := 1700000037, ns := 250000000, teqd := 1250000 } = some 4945417 := by
  decide +kernel

/-- The same example: the error against the latch of 1,700,000,037 s + 250,006,112 ns, and the servo's step. -/
theorem test_tod_error : ∃ t, exec (.todResult .b) exampleTodArrived = .next t ∧ (t.time.todOut.get .b).status = 0 ∧
    (t.time.todOut.get .b).errorPs = BitVec.ofInt 64 (-1166583) ∧ t.time.stepSeq = exampleTodArrived.time.stepSeq + 1 ∧
    t.time.offset = exampleTodArrived.time.offset + nsUnits (-1167) ∧ t.time.servo = .acquiring := ⟨_, rfl, by decide +kernel⟩

/-- The worked example of 12: C = 2 × 16 / 4 = 8 positions, and 120 bytes of payload. -/
theorem test_ces_capacity : let g := cesCfgOf (BitVec.ofNat 32 (2 * 3 + 8 + 4 * 256 + 32 * 2 ^ 15)) 16 0xFFFEFFFE
    g.capacity = 8 ∧ g.payload = 120 ∧ g.enableOk = true := by decide +kernel

/-- The worked example of 13: the slots of vONU 7's unicast keys on channel A. -/
theorem test_unicast_slots : uniSlot 7 0 1 = 1052 ∧ uniSlot 7 0 2 = 1053 := by decide

/-- The worked example of 16: the reply to GET_TOD with tag 7, and a read before the reply is readable. -/
theorem test_legacy_frames : legacyFrame 7 { status := 0, payload := leBytes 4 1700000037 ++ leBytes 4 250000000 } =
      [0x00, 0x07, 0x08, 0x00, 0x25, 0xF1, 0x53, 0x65, 0x80, 0xB2, 0xE6, 0x0E, 0xFD] ∧
    legacyFrame 7 (.err 5) = [0x05, 0x07, 0, 0, 0xF4] := by decide

/-- The same example: the command's bytes are taken, and pacing withholds the reply. -/
theorem test_legacy_getTod_paced : ∃ t, exec (.legacyCommandTransaction [0x31, 0x07, 0x00, 0x00, 0xC8]) gPace = .next t ∧
    t.leg.tag = 7 ∧ t.leg.paced.isSome = true ∧ t.legacyReadable = [0x05, 0x07, 0, 0, 0xF4] := ⟨_, rfl, by decide +kernel⟩

/-! # Results worked out from the rules -/

/-- Table CMD-9: SYS_ID reads CHIP 0x4B50 and FAMILY 0x8512 in its first word. -/
theorem test_read_sysId : ∃ t, exec (.read (rq .twi (0x01000000, 0, []) 1)) hBase = .next t ∧
    (t.lastReply .twi).map (·.payload) = some [0x50, 0x4B, 0x12, 0x85] := ⟨_, rfl, by decide +kernel⟩

/-- R44: a packet out of sequence is refused with BAD_SEQUENCE and is not accepted. -/
theorem test_bad_sequence : ∃ t, exec (.read (rq .twi (0x01000000, 0, []) 1)) { hRunV with phase := .ready } = .next t ∧
    (t.port .twi).expected = some 8 ∧ (t.port .twi).seqErr = (hRunV.port .twi).seqErr := ⟨_, rfl, by decide +kernel⟩

/-- R57: a WRITE of SYS_ID is refused with BAD_OBJECT, an unnamed address too. -/
theorem test_write_read_only : opCheck hBase hBase true 0 ⟨0x02, rq .twi (0x01000000, 1, wordBytes 5) 1⟩ = 4 ∧
    opCheck hBase hBase true 0 ⟨0x01, rq .twi (0xFF000000, 1, []) 1⟩ = 4 := by decide +kernel

/-- R280: a cell of another owner is not freed. -/
theorem test_free_of_another : ∃ t, exec (.free 5 (BitVec.ofNat 40 (poolBase 1 + 7 * poolCellSize 1))) plCells = .next t ∧
    t.cell 1 7 = plCells.cell 1 7 := ⟨_, rfl, by decide +kernel⟩

/-- R413: a blow over the Alanov Link changes no fuse, one over the two-wire port does. -/
theorem test_fuse_transports : ∃ t u, exec (.fuseBlow .alanov 0) kArm = .next t ∧ exec (.fuseBlow .twi 0) kArm = .next u ∧
    t.fuses = kArm.fuses ∧ u.fuses.dbgLock = true ∧ u.crypto.armed = false := ⟨_, _, rfl, rfl, by decide +kernel⟩

/-- R198: the third trip within a second latches the transmitter and opens its bias switch. -/
theorem test_third_trip_latches : ∃ t, exec (.guardDisagreement .a false) bNow = .next t ∧ (t.ch .a).tx = .latched ∧
    (t.bch .a).switchOpen = true ∧ (t.ch .b).tx = .ready := ⟨_, rfl, by decide +kernel⟩

/-- Table ALINK-3: 8 locked lanes lead from LOCK to DESKEW, fewer to FAILED with cause 2. -/
theorem test_lock_state_ends : ∃ t u, exec .lockStateEnd lLock = .next t ∧ exec .lockStateEnd lLock2 = .next u ∧
    t.alink.state = .deskew ∧ u.alink.state = .failed ∧ u.alink.failCause = 2 := ⟨_, _, rfl, rfl, by decide +kernel⟩

/-- R2, R3: MODE_SEL is read at the release, and a blown LEGACY_LOCK decides for legacy mode. -/
theorem test_mode_decided_at_release : ∃ t u, exec (.resetNRelease false 3) State.reset = .next t ∧
    exec (.resetNRelease false 3) { State.reset with fuses := { State.reset.fuses with legacyLock := true } } = .next u ∧
    t.legacy = false ∧ t.pins.madrSampled = 3 ∧ u.legacy = true := ⟨_, _, rfl, rfl, by decide +kernel⟩

/-- R433: a rail fault of PD_MGMT leads to the safe state. -/
theorem test_rail_fault_safe_state : ∃ t, exec (.railFault 1) op2 = .next t ∧ t.phase = .safe := ⟨_, rfl, by decide +kernel⟩

/-- R408: an alarm of the key store erases every loaded key. -/
theorem test_alarm_erases : ∃ t, exec (.keyStoreAlarm 1) kMsk = .next t ∧ t.slot 0 = Slot.empty ∧ kMsk.slot 0 ≠ Slot.empty :=
  ⟨_, rfl, by decide +kernel⟩

/-! # Witnesses

One theorem per statement: states and operands that meet its hypotheses, clause by clause, at boundary values where a
clause has a range. The premise `canonical` is met by all the states here (`states_canonical`), `hostMay` by those of
`states_may_write`, `Lone` by those of `lone_witness`, `PlainWord` in `plainWord_witness`. -/

/-- Every witness state is canonical. -/
theorem states_canonical_B : (witnessStates.all State.canonicalB) = true := by decide +kernel

theorem states_canonical : ∀ s ∈ witnessStates, s.canonical := fun s h =>
  State.canonical_of (List.all_eq_true.1 states_canonical_B s h)

/-- States in which a write over the two-wire port is taken. -/
theorem states_may_write : ∀ s ∈ [op2, oOff, vFlow, hBase, bLatched, qRest, lAct, lFail, lRepair, lActOne, eUp1, eKr, mTod1, jOff, jUp,
    kBc,     dFailed, kArm], s.hostMay := by
  unfold State.hostMay; decide +kernel

/-- A command on its own, not held and held for a tick, on each transport. -/
theorem lone_witness : Lone hBase (rq .twi (0x01000000, 1, []) 1) 0 ∧ Lone hBase (rq .alanov (0x01000000, 1, []) 0) 0 ∧
    Lone hBase (rq .twi (atT (1, 0, [])) 8) 8 := by
  refine ⟨⟨?_, ?_, ?_, ?_, ?_, ?_, ?_, ?_, ?_⟩, ⟨?_, ?_, ?_, ?_, ?_, ?_, ?_, ?_, ?_⟩, ⟨?_, ?_, ?_, ?_, ?_, ?_, ?_, ?_, ?_⟩⟩ <;> decide +kernel

/-- Words that only hold what is written: a subscription mask, and the cycle of a Hatch list. -/
theorem plainWord_witness : ∃ f g, PlainWord (subAddr 0) f ∧ PlainWord (hCfgAddr 3 2) g := by
  refine ⟨⟨.fltSub, 0, [0], 1, 0xFFFE, 0⟩, ⟨.hShadowCfg, 0, [3, 2], 6, all32, 0⟩, ⟨by decide +kernel, fun u => rfl, rfl, fun u o n => rfl⟩,
    ⟨by decide +kernel, fun u => rfl, rfl, fun u o n => rfl⟩⟩

theorem witness_StepRunsFront : ({ op2 with pending := [.getStatus 5, .rngFault] } : State).pending = [.getStatus 5, .rngFault] ∧
    op2.pending = [] := by decide +kernel

theorem witness_PacketRoundTrip : (rq .twi (5, 6, List.replicate 4080 1) 0).payload.length ≤ 4080 := by decide +kernel

theorem witness_WordsCanonicalKept : SMap.wfBy resetWord vFlow.words = true ∧ vFlow.words ≠ [] ∧ step vFlow = .next vFlow :=
  ⟨by decide +kernel, by decide +kernel, rfl⟩

theorem witness_FusesForever : kArm.fuseBlown 1 = true ∧ ∃ t, exec (.fuseBlow .twi 0) kArm = .next t ∧ t.fuseBlown 0 = true := by
  refine ⟨by decide +kernel, _, rfl, by decide +kernel⟩

theorem witness_TicksAndSources : (tRef.ticks = true ∧ tRef.tick.selected = .ref) ∧
    (tChan.ticks = true ∧ tChan.tick.selected = .chan .a ∧ tChan.tick.source = .chan .a) ∧
    (tNew.ticks = true ∧ tNew.tick.selected = .chan .b ∧ tNew.tick.source ≠ .chan .b ∧ tNew.inSync .b = true) ∧
    (tLost.ticks = true ∧ tLost.tick.selected = .chan .b ∧ tLost.tick.source ≠ .chan .b ∧ tLost.inSync .b = false) := by
  decide +kernel

theorem witness_WindowsAndCrossings :
    (tWork.ticks = true ∧ tWork.tick.started = true ∧ (99999 : BitVec 64).toNat ≤ tWork.tick.number.toNat ∧
      (13, 99999) ∉ tWork.tick.judged ∧ (4, 99999) ∉ tWork.tick.judged ∧ 8192 ≤ (8192 : BitVec 24).toNat ∧
      ∀ o ∈ tWork.tick.overran, ¬ (o.cls = 13 ∧ o.tick = 99999)) ∧
    (tWork.vonu.moved ≠ [] ∧ tWork.tick.foldLag = 3 ∧ tWork.cmd.held.length = 2 ∧ tWork.vonu.alloc ≠ []) ∧
    (tSnap.ticks = true ∧ tSnap.tick.snap = some [(5, 6), (9, 3)] ∧ tSnap.domOn 8 = true ∧ (8, tSnap.tick.number) ∉ tSnap.tick.judged ∧
      ∀ o ∈ tSnap.tick.overran, ¬ (o.cls = 8 ∧ o.tick = tSnap.tick.number)) ∧
    (tTrail.ticks = true ∧ tTrail.tick.copying = some [(5, 2)] ∧ tTrail.domOn 8 = true ∧ tTrail.counters.trail = some [(5, 6), (5, 7)]) ∧
    (128 ≤ (128 : Byte).toNat ∧ (127 : Byte).toNat < 128 ∧ streamsOf 4 ≠ 0) ∧
    (tSusp.tick.suspect.getLsbD 3 = true ∧ tSusp.domOn (groupDom 3) = true) ∧
    (tSync.tick.resyncs = [(100000, 3)] ∧ tSync.ticks = true ∧ tSync.cmd.held = [] ∧ (100000 : BitVec 64).toNat ≤ tSync.tick.number.toNat ∧
      tSync.domOn (groupDom 3) = true) := by decide +kernel

theorem witness_EventRecords : (tRef.ticks = true ∧ tRef.ringRuns = true ∧ tRef.ev.ring.length < 8191) ∧
    (evFull.ticks = true ∧ evFull.ringRuns = true ∧ evFull.subscribed .twi aRec.code.toNat = true) ∧ evNoTime.domOn 12 = false := by
  decide +kernel

/-- A full ring whose oldest record a transport has not acknowledged. -/
theorem witness_EventRecords_full : evFull.ev.ring = aRec :: List.replicate 8191 aRec ∧ evFull.ev.ring.length = 8192 ∧
    evFull.ev.pos.get .twi = evFull.ev.oldest := by
  have h : evFull.ev.ring = List.replicate 8192 aRec := rfl
  refine ⟨h, by rw [h, List.length_replicate], ?_⟩
  unfold EvSt.oldest
  rw [h, List.length_replicate]
  decide +kernel

theorem witness_LineConditions : ((op2.ch .a).running = true ∧ (op2.ch .a).cdr = true ∧
      op2.fault.clockGroups.getLsbD (1 + 2 * chanN .a) = false) ∧
    ((oNoCdr.ch .a).running = true ∧ (oNoCdr.ch .a).cdr = false) ∧ (oRelock.ch .b).relocking = true ∧ (oLos.ch .b).los = true ∧
    (oHunt.ch .a).lof = true := by decide +kernel

theorem witness_TransmitterEvents : (oWarm.domOn (txDom .a) = true ∧ (oWarm.ch .a).tx = .warmup ∧ oWarm.txHeld .a = false ∧
      (oWarm.ch .a).biasCal = true ∧ (oWarm.ch .a).tecLocked = false) ∧
    (op2.domOn (txDom .b) = true ∧ (op2.ch .b).tx = .ready ∧ op2.txHeld .b = false) ∧
    ((oWarm2.ch .a).tx = .warmup ∧ (oWarm2.ch .a).tecLocked = true) ∧
    (op2.domOn (rxDom .a) = true ∧ (op2.ch .a).burstDone = false ∧ (oDone.ch .a).burstDone = true) ∧
    ((op2.ch .a).running = true ∧ (op2.ch .a).cdr = true) := by decide +kernel

theorem witness_HuntAndFrames :
    ((oHunt.ch .a).hunt = .hunt ∧ 0 ≤ oHunt.psyncTol .a ∧ (∀ k ∈ (oHunt.ch .a).cands, k.pos ≠ 77 % oHunt.frameBits .a) ∧
      (oHunt.ch .a).cands.length < 8) ∧
    ((oCand8.ch .a).hunt = .candidate ∧ 8 ≤ (oCand8.ch .a).cands.length ∧
      ∀ k ∈ (oCand8.ch .a).cands, k.pos ≠ 99 % oCand8.frameBits .a) ∧
    ((oCand.ch .a).cands.find? (fun x => x.pos = 3 % oCand.frameBits .a) = some ⟨3, 77, 1⟩ ∧
      (aFrame 0 (some 78)).psyncErrs ≤ oCand.psyncTol .a ∧ (aFrame 0 (some 78)).sfc = some (77 + 1) ∧
      (aFrame 64 none).psyncErrs > oCand.psyncTol .a) ∧
    ((op2.ch .b).hunt = .sync ∧ (op2.ch .b).mismatched = false) ∧
    ((oBad.ch .a).hunt = .sync ∧ (aFrame 64 none).psyncErrs > oBad.psyncTol .a ∧ oBad.lossCount .a ≤ ((oBad.ch .a).badCount + 1).toNat) ∧
    80 ≤ (oWin.ch .a).winFrames := by decide +kernel

theorem witness_XgemFrames : (op2.inSync .a = true ∧ (op2.ch .a).fsOk = true ∧ (op2.ch .a).payloadDrop = false ∧
      op2.xgemTargets .a 9 = []) ∧
    (vFlow.xgemTargets .a 77 ≠ [] ∧ vFlow.inSync .a = true ∧ (vFlow.ch .a).fsOk = true ∧ (vFlow.ch .a).payloadDrop = false ∧
      vFlow.partialAt .a 77 = none ∧ vFlow.poolServes 9 = true ∧ vFlow.freeCells 9 ≠ 0) ∧
    ((op2.modCh .a fun y => { y with payloadDrop := true }).ch .a).payloadDrop = true ∧
    (oReasm2.partialAt .a 1).isSome = true ∧ (vFlow.pool 9).carried = [] := by decide +kernel

theorem witness_ChannelControl : (oOff.chEnabled .a = false ∧ oOff.writeCheck .twi [⟨chAddr .a 0, 1, 1⟩] = 0) ∧
    (op2.chEnabled .b = true ∧ op2.writeCheck .twi [⟨chAddr .b 0, 0, 1⟩] = 0) ∧ op2.writeCheck .twi [⟨chAddr .a 0, 8, 8⟩] = 0 ∧
    op2.writeCheck .twi [⟨chAddr .a 0, 0, 8⟩] = 0 ∧ op2.writeCheck .twi [⟨chAddr .b 1, 2, 2⟩] = 0 ∧
    (op2.writeCheck .twi [⟨chAddr .b 1, 1, 1⟩] = 0 ∧ op2.domOn (rxDom .b) = true) := by decide +kernel

/-- The message at the head of channel A's queue is for vONU 0 alone, its body is `b`, and one more waits behind it; no timer
of the vONU has run out. -/
def heads (s : State) (b : PloamBody) : Bool :=
  match (s.ch .a).ploamQ with
  | [w, _] => decide (w.msg.body = b ∧ w.targets = [0] ∧ ((s.vch 0 .a).expiry.any fun t => t.toNat ≤ s.tick.number.toNat) = false)
  | _ => false

theorem waits_of_heads {s : State} {b : PloamBody} (h : heads s b = true) : ∃ w rest, Waits s .a 0 w rest ∧ w.msg.body = b := by
  unfold heads at h
  split at h
  · rename_i w x hq
    have hw := of_decide_eq_true h
    refine ⟨w, [x], ⟨hq, hw.2.1, fun a => ?_⟩, hw.1⟩
    have he := hw.2.2
    show (decide _ && (s.vch 0 .a).expiry.any _) = false
    rw [he, Bool.and_false]
  · contradiction

theorem witness_PloamActivation :
    (heads pProf (.burstProfile 1 { aProf with version := 3 }) = true ∧ inO1toO6or89 (pProf.vch 0 .a).act = true ∧
      ¬((pProf.profileAt 0 .a 1).valid = true ∧ (pProf.profileAt 0 .a 1).version = 3) ∧ (pProf.vch 0 .a).profiles.length = 4) ∧
    (heads pAssign (.assignOnuId 0x1234 9) = true ∧ (pAssign.vch 0 .a).act = .o23 ∧ (pAssign.vch 0 .a).profiles.length = 4) ∧
    (heads pRange (.rangingTime 700 false true) = true ∧ inRanging (pRange.vch 0 .a).act = true) ∧
    (heads pRange2 (.rangingTime 700 true false) = true ∧ inRanging (pRange2.vch 0 .a).act = true) ∧
    (heads pDeact .deactivateOnuId = true ∧ inO23toO6or89 (pDeact.vch 0 .a).act = true ∧ (pDeact.vch 0 .a).profiles.length = 4) ∧
    (heads pDis (.disableSerialNumber (some 0x1234) true) = true ∧ (pDis.vch 0 .a).act ≠ .idle ∧ (pDis.vch 0 .a).act ≠ .o7) ∧
    (heads pEna (.disableSerialNumber none false) = true ∧ (pEna.vch 0 .a).act = .o7) := by decide +kernel

theorem witness_PloamService :
    (heads pReg .requestRegistration = true ∧ inRegistered (pReg.vch 0 .a).act = true ∧ (pReg.vch 0 .a).upQ.length < 4) ∧
    (heads pAlloc (.assignAllocId 400 false) = true ∧ (pAlloc.vch 0 .a).act = .o5 ∧ pAlloc.allocFind .a 400 = none ∧
      pAlloc.allocsOf 0 < 64 ∧ pAlloc.vonu.alloc.length < 8192) ∧
    (heads pRel (.assignAllocId 300 true) = true ∧ pRel.allocFind .a 300 = some (1, ⟨300, 0, .a⟩)) ∧
    heads pKey (.keyControl 1 false) = true ∧
    (heads pGen (.keyControl 1 true) = true ∧ (pGen.vch 0 .a).upKey ≠ 1 ∧ pGen.crypto.rngOk = true ∧
      pGen.crypto.alarmActive = 0 ∧ pGen.crypto.lockedOut = false) ∧
    heads pSleep (.sleepAllow 7 true) = true ∧
    (heads pTune (.tuningControl 4 2000) = true ∧ mget Pair.other (pTune.vonu.chProfile.get .a) 4 = .ofChan .b ∧
      (pTune.vonuAt 0).standby.get .b = true ∧ (pTune.vch 0 .b).act = .idle ∧ pTune.chEnabled .b = true ∧
      (pTune.vch 0 .a).tuneAt = none) ∧
    heads pProt .protectionControl = true ∧ heads pPow .changePowerLevel = true ∧ heads pWave .adjustTxWavelength = true ∧
    heads pCal .calibrationRequest = true ∧ (heads pSys (.systemProfile [1, 2, 3]) = true ∧ (pSys.vch 0 .a).act ≠ .idle) ∧
    heads pChP (.channelProfile 3 (.ofChan .b)) = true ∧ heads pUnk (.unknown 0x55) = true := by decide +kernel

theorem witness_VonuTimers : vT4.timerDue .a 0 .o4 = true ∧ vT6.timerDue .b 0 .o6 = true ∧ vT8.timerDue .a 0 .o8 = true ∧
    vT9.timerDue .b 0 .o9 = true ∧ (vTune.tuningOf 0 = some (.a, 0x0FFF) ∧ sfcAhead (vTune.onlineSfc .a) 0x0FFF < 2 ^ 50) ∧
    ((vT8.vch 0 .a).act = .o8 ∧ vT8.inSync .a = true) ∧ (vRet.vonuAt 0).life = .retiring := by decide +kernel

theorem witness_OmciAndFlows : (vFlow.inSync .a = true ∧ (vFlow.vonuAt 0).enable.get .a = true ∧
      (vFlow.vch 0 .a).onuId.isSome = true ∧ vFlow.engineOn = true ∧ vFlow.keyUse (mgmtSlot 0 (chanN .a)) = .ok ∧
      vFlow.omciBacklog < 1024) ∧
    vFlow.writeCheck .twi [⟨addrOf 0x20 0x11, 0, all32⟩] = 0 ∧
    vFlow.writeCheck .twi (wordsIn (omciTxAddr 0) [BitVec.ofNat 32 (48 * 1024), 1, 2, 3, 4, 5, 6, 7, 8, 9, 10, 11, 12]) = 0 ∧
    vFlow.writeCheck .twi [⟨flowAddr 262143, BitVec.ofNat 32 (5000 + 2 ^ 26), all32⟩] = 0 := by decide +kernel

theorem witness_KeyLoads : op2.writeCheck .twi [⟨addrOf 0x68 0x10, loadWord 4095 0 0 0, all32⟩] = 0 ∧
    vFlow.writeCheck .twi (wordsIn (addrOf 0x68 0x10) (loadWord 0 1 0 0 :: List.replicate 12 7)) = 0 ∧
    kBc.writeCheck .twi (wordsIn (addrOf 0x68 0x10) (loadWord (bcastSlot 0 1) 2 0 0 :: List.replicate 12 7)) = 0 ∧
    vFlow.writeCheck .twi (wordsIn (addrOf 0x68 0x10) (loadWord 3080 3 0 0 :: List.replicate 12 7)) = 0 ∧
    ((kMsk.slot 0).state = 1 ∧ 2 ^ kMsk.cfgF (addrOf 0x68 0) 0 6 ≤ (kMsk.slot 0).usage.toNat) ∧
    ((kHard.slot 0).state = 1 ∧ 2 ^ kHard.cfgF (addrOf 0x68 0) 8 6 ≤ (kHard.slot 0).usage.toNat) ∧
    ((kHard.slot 4095).state = 2 ∧ 2 ^ kHard.cfgF (addrOf 0x68 0) 8 6 ≤ (kHard.slot 4095).usage.toNat) := by decide +kernel

theorem witness_KeyStoreAndFuses : op2.writeCheck .twi [⟨addrOf 0x68 1, 1, all32⟩] = 0 ∧ op2.crypto.alarmActive.getLsbD 3 = false ∧
    kHard.crypto.rngOk = false ∧ op2.fuses.dbgLock = false ∧ op2.crypto.bscan ≠ true ∧ kBscan.crypto.bscan ≠ false ∧
    op2.writeCheck .twi [⟨addrOf 0x7E 1, 0x4B508512, all32⟩] = 0 ∧ kArm.writeCheck .twi [⟨addrOf 0x7E 2, 0, all32⟩] = 0 := by
  decide +kernel

theorem witness_GrantsAndWindows :
    (bO5.inSync .a = true ∧ (bO5.ch .a).fsOk = true ∧ bO5.allocFind .a 300 = some (1, ⟨300, 0, .a⟩) ∧ (bO5.vch 0 .a).act = .o5 ∧
      (bO5.profileAt 0 .a 0).valid = true ∧ bO5.rateOffered .a (bO5.profileAt 0 .a 0) = true ∧ (bO5.bch .a).marks = [] ∧
      (bO5.bch .a).bursts = [] ∧ (bO5.bch .a).current = none) ∧
    (bO5.domOn (txDom .a) = true) ∧ (bTaken.allocAt 1 ≠ none ∧ (bTaken.stage 1).taken = some 300) := by decide +kernel

theorem witness_BurstLife : ((bQueued.bch .a).bursts.find? (fun x => !x.committed) = some aBurst) ∧
    ((bDone.bch .a).bursts.find? (fun x => !x.judged) = some { aBurst with committed := true }) ∧
    ((bJudged.bch .a).bursts = [{ aBurst with committed := true, judged := true }] ∧ (bJudged.bch .a).current = none ∧
      bJudged.shadowPresent .a { aBurst with committed := true, judged := true } = true ∧ (bJudged.ch .a).tx = .ready ∧ bJudged.inSync .a = true ∧
      (bJudged.bch .a).testTrip = false) ∧
    ((bNoShadow.bch .a).current = none ∧ bNoShadow.shadowPresent .a aBurst = false ∧ aBurst.content = [] ∧ aBurst.up = none) ∧
    (bNow.bch .a).current = some { aBurst with committed := true, judged := true } ∧
    (refill1.allocAt 1 = some ⟨300, 0, .a⟩ ∧ refill1.urgentDue = [] ∧ (refill1.stage 1).cells < refill1.stageTarget 1 ∧
      refill1.poolServes 8 = true ∧ refill1.freeCells 8 ≠ 0 ∧ aPkt.bytes.length ≤ 256) := by decide +kernel

theorem witness_LaserGuard : (bNow.domOn (txDom .a) = true ∧ 2 ≤ (bNow.recentTrips .a).length ∧ (bO5.recentTrips .a).length < 2) ∧
    (bNow1.ch .a).tx ≠ .latched ∧ bLatched.writeCheck .twi [⟨burinAddr 8, 1, 1⟩] = 0 ∧
    op2.writeCheck .twi [⟨burinAddr 9, 2, 2⟩] = 0 := by decide +kernel

theorem witness_ClassifierPasses : (cIn.passesRun = true ∧ cIn.cls.second = [] ∧
      pluck (fun x : Packet => x.kind = (1 : BitVec 2) && x.index = (5 : BitVec 9)) cIn.cls.ingress = some ({ aPkt with index := 5 }, [aPkt])) ∧
    (cDecap.passesRun = true ∧ cDecap.cls.toDecap = [anIn, anIn] ∧ cDecap.cls.second = [anIn]) ∧
    (cDecrypt.passesRun = true ∧ pluck (fun y : InFlight => y.pkt.index.toNat = (0 : BitVec 2).toNat) cDecrypt.cls.toDecrypt =
      some ({ anIn with pkt := { aPkt with kind := 3, index := 0 } }, [])) := by decide +kernel

theorem witness_PlatesAndFragments : (cSwap.cls.swapDue = some true ∧ cSwap.domOn 6 = true) ∧ cDecap.cls.retiring = true ∧
    op2.writeCheck .twi [⟨clsAddr 1, 1, 1⟩] = 0 ∧ cSwap.cls.copyBusy = true ∧ cFlush.flushOnCommit = true ∧
    ((true, 5) ∈ cDecap.cls.ruleMarks ∧ cDecap.domOn 6 = true) := by decide +kernel

theorem witness_QueueFlow :
    (qAdm.cls.toAdmit = [anIn] ∧ qAdm.domOn 6 = true ∧ qAdm.cls.restoring = false ∧ anIn.act.meter = none ∧ anIn.act.queue = some 6 ∧
      qAdm.qBound 6 = true ∧ qAdm.cfgB (qAddr 6 0) 30 = true ∧ anIn.pkt.colour = 0 ∧
      qAdm.depth 6 + anIn.pkt.bytes.length ≤ (qAdm.cfg (qAddr 6 1)).toNat ∧ (qAdm.queue 6).pkts ≠ []) ∧
    (qAdm0.cls.toAdmit = [anIn] ∧ qAdm0.domOn 6 = true ∧ qAdm0.cls.restoring = false ∧ qAdm0.qBound 6 = false) ∧
    (qEth.domOn 6 = true ∧ qEth.cls.restoring = false ∧ qEth.outputReady 8704 = true ∧ (qEth.queue 6).pkts = [aPkt]) ∧
    qAdm.writeCheck .twi [⟨addrOf 0x38 1, 5 + 65536, all32⟩] = 0 ∧ (qRest.domOn 6 = true ∧ qRest.cls.restoring = true) := by
  decide +kernel

theorem witness_HatchLists : ((hPend.hatch 0).pending = some aCopy ∧ hPend.domOn 12 = true ∧ (hPend.hatch 0).start.toNat ≤ hPend.nsAtMost) ∧
    ((hAct.hatch 3).copying = true ∧ (hAct.hatch 3).active = some aCopy ∧ hAct.domOn 12 = true) := by decide +kernel

theorem witness_BufferPools :
    (wantPool (.size 100) = some 1 ∧ plCells.poolServes 1 = true ∧ plCells.freeCells 1 ≠ 0 ∧ (plCells.pool 1).carried = []) ∧
    (wantPool (.pool 11) = some 11 ∧ plCells.poolServes 11 = true ∧ plCells.freeCells 11 ≠ 0) ∧
    (atPtr 4 (BitVec.ofNat 40 (poolBase 1 + 7 * poolCellSize 1)) = .cell 1 7 ∧ (plCells.cell 1 7).state = 1 ∧ (plCells.cell 1 7).owner = 4) ∧
    ((plCells.cell 1 8).state = 2 ∧ (plCells.cell 1 8).refs > 1) ∧ ((plCells.cell 1 9).state = 2 ∧ (plCells.cell 1 9).refs ≤ 1) ∧
    plCells.domOn 8 = true ∧ (plCells.pool 3).reinit = true := by decide +kernel

theorem witness_LinkLanes : (lFresh.lanesRun = true ∧ (lFresh.lane 4).locked = false) ∧
    (lAct.lanesRun = true ∧ (lAct.lane 0).locked = true ∧ lAct.alink.state = .active ∧ lAct.cfgB (alAddr 0) 1 = true ∧
      (lAct.lane 0).failed = false ∧ (lAct.lane 0).logical.toNat < 8 ∧ lAct.spareOk = true ∧ lAct.spareUsed = false) ∧
    ((lActOne.lane 7).locked = true ∧ (lActOne.lane 7).logical.toNat < 8 ∧ lActOne.spareOk = false) ∧
    ((lSwitch.lane 8).locked = true ∧ (3 : BitVec 4) = (3 : BitVec 3).setWidth 4 ∧ lSwitch.alink.peerRequest = 1 ∧
      lSwitch.alink.rxUse ≠ some 3) ∧ lFresh.alink.period = none ∧
    (laneOk 3 = true ∧ (lRepair.prbs 3).chk = true ∧ (lRepair.prbs 3).pattern ≠ 0 ∧ (lRepair.prbs 8).sync = true) := by decide +kernel

theorem witness_LinkStates : (lClock.alink.state = .clock ∧ lClock.fault.clockGroups.getLsbD 5 = false) ∧
    (lAct.alink.state ≠ .down ∧ lAct.alink.state ≠ .clock ∧ lAct.alink.state ≠ .failed) ∧ lAdapt.alink.state = .adapt ∧
    (lLock.alink.state = .lock ∧ 8 ≤ ((List.range 9).filter fun n => (lLock.lane n).locked).length) ∧
    (lLock2.alink.state = .lock ∧ ((List.range 9).filter fun n => (lLock2.lane n).locked).length < 8) ∧
    (lDesk.alink.state = .deskew ∧ lDesk.lanesUp = 8) ∧ (lDesk0.alink.state = .deskew ∧ lDesk0.lanesUp = 8 ∧
      lDesk0.alink.lanes.all (fun e => !e.2.ready) = true) ∧ lWait.alink.state = .waitPeer ∧
    (lFail.alink.state = .failed ∧ lFail.cfgF (alAddr 0) 12 12 ≠ 0) ∧ lFail.writeCheck .twi [⟨alAddr 1, 1, all32⟩] = 0 ∧
    lAct.writeCheck .twi [⟨alAddr 1, 1, all32⟩] = 0 ∧ lAct.writeCheck .twi [⟨alAddr 1, 2 + 16 * 7, all32⟩] = 0 ∧
    lRepair.writeCheck .twi [⟨alAddr 1, 4, all32⟩] = 0 ∧
    (lAct.domOn 9 = true ∧ lAct.writeCheck .twi [⟨alAddr 0, 1, 5⟩] = 0 ∧ lAct.writeCheck .twi [⟨alAddr 0, 5, 5⟩] = 0 ∧
      op2.writeCheck .twi [⟨alAddr 0, 1, 5⟩] = 0 ∧ op2.alink.state = .down) := by decide +kernel

theorem witness_FramesAndCredit : (lAct.linkCarries = true ∧ descOk (descWord 3 14 1 7 ^^^ 1) = false) ∧
    (descOk (descWord 511 14 1 7) = true ∧ descField (descWord 511 14 1 7) 0 10 = 511 ∧
      descField (descWord 511 14 1 7) 10 14 = (List.replicate 14 (5 : Byte)).length ∧ descField (descWord 511 14 1 7) 24 2 ≠ 3 ∧
      (lAct.credit 511).held.toNat + creditUnits 14 ≤ advertise lAct 511 ∧ poolForSize 14 = some 1 ∧ lAct.poolServes 1 = true ∧
      lAct.freeCells 1 ≠ 0 ∧ [0, 0, 0, 0] ≠ crcTrailer (List.replicate 14 5)) ∧
    (creditUnits 16000 ≤ advertise lAct 0 ∧ poolForSize 16000 = some 6 ∧ lAct.poolServes 6 = true ∧ lAct.freeCells 6 ≠ 0) ∧
    (lAct.alink.state = .active ∧ lAct.cmd.wait = none) ∧ (lCes.alink.lossRun.contains 3 = true) ∧
    (lCes.alink.cesWait = [(1, [1])] ++ (2, [2, 3]) :: [(1, [4])] ∧ ∀ x ∈ [((1 : BitVec 7), [(1 : Byte)])], x.1 ≠ 2) := by decide +kernel

theorem witness_EthernetPorts : ((ethPort eAn 3).state = .an ∧ (0 : BitVec 2).toNat ≤ eAn.cfgF (ethAddr 3 0) 2 2 ∧
      fecOk eAn 3 (eAn.cfgF (ethAddr 3 0) 1 1) 0 = true) ∧ (ethPort eTrain 0).state = .train ∧ (ethPort eWait 1).state = .linkWait ∧
    (ethPort eUp1 2).state = .up ∧ eUp1.writeCheck .twi [⟨ethAddr 3 1, 1, all32⟩] = 0 ∧
    (eRer.writeCheck .twi [⟨ethAddr 0 0, 0x10, 0x3E⟩] = 0 ∧ eRer.ethMayRun 0 = true ∧ (0x10 : Word) &&& 0x3E ≠ eRer.cfg (ethAddr 0 0) &&& 0x3E) ∧
    (eKr.kr4 ≠ true ∧ eKr.writeCheck .twi [⟨addrOf 0x50 0, 1, 1⟩] = 0) ∧ (eKr4.kr4 ≠ false ∧ eKr4.writeCheck .twi [⟨addrOf 0x50 0, 0, 1⟩] = 0) ∧
    (eUp1.domOn 10 = true ∧ eUp1.ethExists 3 = true ∧ eUp1.fault.clockPorts.getLsbD 3 = false ∧
      eUp1.writeCheck .twi [⟨ethAddr 3 0, 0x41, 0x41⟩] = 0 ∧ eUp1.writeCheck .twi [⟨ethAddr 3 0, 1, 0x41⟩] = 0 ∧
      eUp1.writeCheck .twi [⟨ethAddr 3 0, 0, 0x41⟩] = 0) := by decide +kernel

theorem witness_EthernetReceive : ((ethPort eUp1 0).state = .up ∧ (List.replicate 59 (1 : Byte)).length + 4 < 64 ∧
      64 ≤ eUp1.cfgF (ethAddr 0 3) 0 14) ∧
    (eUp1.cfgF (ethAddr 0 3) 0 14 < (List.replicate 1519 (1 : Byte)).length + 4) ∧
    (64 ≤ eBytes.length + 4 ∧ eBytes.length + 4 ≤ eProm.cfgF (ethAddr 0 3) 0 14 ∧ isMacControl eBytes = false ∧
      eProm.ethPasses 0 eBytes = true ∧ eUp1.cfgB (ethAddr 0 0x40) 1 = false ∧ isLldp eBytes = false ∧
      eUp1.ethWaiting 0 + eBytes.length ≤ 262144 ∧ (eBytes.length + 2047) / 2048 ≤ eUp1.cfgF (addrOf 0x40 0) 0 4 ∧
      eUp1.poolServes 0 = true ∧ (eBytes.length + 2047) / 2048 ≤ eUp1.freeCells 0) ∧
    (isMacControl (List.replicate 60 2) = false ∧ eMacCfg.ethPasses 0 (List.replicate 60 2) = false) ∧
    (ethPort eLoop 0).state = .loop := by decide +kernel

theorem witness_PauseAndPriorities : ((ethPort eUpP 0).state = .up ∧ 64 ≤ eUpP.cfgF (ethAddr 0 3) 0 14 ∧ eUpP.cfgF (ethAddr 0 4) 0 2 = 1 ∧
      (ethPort eUpP 0).paused = true ∧ (ethPort eUpP 0).pfcHeld.getLsbD 1 = true) ∧
    (eUpF.cfgF (ethAddr 0 4) 0 2 = 2) ∧
    ((ethPort eXoff 0).xoffSent = true ∧ eXoff.cfgB (ethAddr 0 4) 2 = true ∧
      1024 * eXoff.cfgF (ethAddr 0 5) 24 8 ≤ eXoff.ethWaiting 0 ∧ eXoff.cfgF (ethAddr 0 4) 0 2 = 1 ∧ (ethPort eXoff 0).state = .up) ∧
    ((ethPort eXoffF 0).xoffSent = true ∧ eXoffF.cfgF (ethAddr 0 4) 0 2 = 2) := by decide +kernel

theorem witness_IdleAndLldp : ((ethPort eLpi0 0).state = .up ∧ eLpi0.cfgB (ethAddr 0 6) 0 = true ∧ (ethPort eLpi0 0).lpiTx = false ∧
      (ethPort eLpi0 0).lpiRx ≠ true) ∧ (ethPort eLpi 0).lpiTx = true ∧
    (eLpi.cfgB (ethAddr 0 6) 1 = true ∧ eLpi.cfgB (ethAddr 0 0x40) 0 = false) := by decide +kernel

theorem witness_TimeOfDay : (op2.timeOn = true ∧ op2.writeCheck .twi (wordsIn (timeAddr 0x20) [0x1010, 0, 5, 0, 100, 7]) = 0) ∧
    (mTod1.alink.state = .active ∧ ([0x40, 0, 0, 0, 0x10, 0x10] ++ List.replicate 22 (0 : Byte)).length = 28 ∧
      mTod1.todOk .a (todOf (toWords ([0x10, 0x10] ++ List.replicate 22 0))) = true ∧
      mTod1.todOk .a (todOf (toWords (List.replicate 6 0 ++ [1, 0] ++ List.replicate 16 0))) = false) ∧
    (mTod2.time.todIn.get .a = some todX ∧ mTod2.todDue .a todX = true) := by decide +kernel

theorem witness_ClocksAndStamps : (mLock.timeOn = true ∧ mLock.time.servo = .locked ∧ mLock.servoStill = false ∧
      mLock.time.lastUsable.toNat + 80000 ≤ mLock.tick.number.toNat ∧ mLock.time.ppsOk = true ∧ mLock.legacy = false) ∧
    (mChan.tick.source ≠ .ref ∧ mChan.time.eec ≠ .locked) ∧ mLeg.legacy = true ∧
    (mPps.outRuns = true ∧ mPps.cfgB (timeAddr 0xA) 0 = true ∧ mPps.time.ppsLast = none) ∧ mOff.outRuns = false ∧
    mLock.time.ppsHigh = true ∧
    (mTod3.time.tsQueue = [[1, 2, 3, 4], [5]] ∧ mTod3.cfgB (timeAddr 0) 0 = true ∧
      (mTod3.time.producer - mTod3.cfg (timeAddr 0x11)).toNat < 256) ∧
    (mTodC.cfgB (timeAddr 0) 0 = false ∧ mTodC.linkCarries = true ∧ mTodC.creditFor 641 4 = true) ∧
    mTod1.writeCheck .twi [⟨timeAddr 0x11, 0, all32⟩] = 0 := by decide +kernel

theorem witness_TributaryUp : (jUp.domOn 11 = true ∧ (jUp.ces_ 0).frameBits = 256 ∧ (jUpT.ces_ 0).frameBits = 193 ∧ jUp.tribRuns 0 = true ∧
      (jUp.trib 0).ssSeq = some 3 ∧ (jUp.trib 0).ssLoss = false) ∧
    ((takePayload (jUp.ces_ 0) (jUp.trib 0)).isSome = true ∧ (takePayload (jUpT.ces_ 0) (jUpT.trib 0)).isSome = true ∧
      (poolForSize ((jUp.txHdr 0).length + 4 + 0 + 32)).isSome = true ∧ jUp.poolServes 1 = true ∧ jUp.freeCells 1 ≠ 0) ∧
    (jOff.writeCheck .twi [⟨cesAddr 0 0, 1, 1⟩] = 0 ∧ jOff.cfgB (cesAddr 0 0) 0 = false ∧ jOff.domOn 11 = true) ∧
    (jUp.writeCheck .twi [⟨cesAddr 0 0, 0, 1⟩] = 0 ∧ jUp.cfgB (cesAddr 0 0) 0 = true) := by decide +kernel

theorem witness_TributaryDown : (jRxBad.tribRuns 0 = true ∧ mget [] jRxBad.ces.rx 0 = [aPkt, aPkt] ∧ jRxBad.pwParse 0 aPkt.bytes = none) ∧
    (jRx.tribRuns 0 = true ∧ mget [] jRx.ces.rx 0 = [pwPkt, pwPkt] ∧
      jRx.pwParse 0 pwPkt.bytes = some (5, false, false, List.replicate 32 9) ∧ (jRx.trib 0).playing = false ∧ (jRx.trib 0).jb = []) ∧
    (jTimer.trib 0).timer = true ∧
    ((jPlay.trib 0).playing = true ∧ mget none (jPlay.trib 0).jb (jPlay.trib 0).nextPlay.toNat = some ⟨List.replicate 32 9, false⟩) ∧
    (mget none (jGap.trib 0).jb (jGap.trib 0).nextPlay.toNat = none ∧ (jGap.trib 0).jb ≠ []) ∧
    ((jDry.trib 0).playing = true ∧ (jDry.trib 0).jb = []) ∧ (jDry.trib 0).lops = false ∧
    ((jSlip.ces_ 0).cesopsn = true ∧ (jSlip.ces_ 0).clock ≠ 1 ∧ (jSlip.trib 0).playing = true ∧ 2 - (jFull.trib 0).slipBuf.length < (jFull.trib 0).toPlay.length ∧
      (jSlip.trib 0).toPlay.length ≤ 2 - (jSlip.trib 0).slipBuf.length) ∧
    ((nextFrame (jSend.ces_ 0) (jSend.trib 0)).isSome = true ∧ jSend.fault.clockGroups.getLsbD 7 = false) ∧
    (jGrp7.tribRuns 0 = true ∧ jGrp7.fault.clockGroups.getLsbD 7 = true ∧ (jGrp7.ces_ 0).cesopsn = false ∧ jGrp7F.tribRuns 0 = true ∧
      jGrp7F.fault.clockGroups.getLsbD 7 = true ∧ (jGrp7F.ces_ 0).cesopsn = true) ∧
    (jSendCr.linkCarries && jSendCr.creditFor 512 36) = true ∧ (jIdle.linkCarries && jIdle.creditFor 512 36) = false := by decide +kernel

theorem witness_EccRegions : op2.domsRun = true ∧ (4 : BitVec 4) ≠ 5 ∧ queueCtr 0 0 ≠ fltCtr 1 ∧ sideCount (queueCtr 0 0) = false ∧
    slotKind 1023 = 1 ∧ slotKind 1024 ≠ 1 ∧ fGold.fault.goldenBad ≠ [] := by decide +kernel

theorem witness_CoresAndMachines : (op2.domsRun = true ∧ op2.fault.rtOk = true ∧ op2.pairLast false = false) ∧
    (fTwo.fault.rtOk = true ∧ 2 ≤ (fTwo.pairRecent fTwo.fault.rtMismatches).length) ∧
    (fBad.fault.svcOk = true ∧ fBad.pairLast true = true) ∧ (fBad.fault.rtOk = false ∧ fBad.fault.rtFailed = false) ∧
    fFailed.fault.rtFailed = true ∧ op2.domOn (ctlDom (.port 3)) = true := by decide +kernel

theorem witness_Monitors : (op2.domsRun = true ∧ (List.range 11).all (fun g => op2.domOn (groupOfDom g) && !op2.fault.clockGroups.getLsbD g) = true) ∧
    fClock.fault.clockGroups.getLsbD 10 = true ∧ (fBurst.domOn (txDom .a) = true ∧
      (fBurst.bch .a).current = some { aBurst with committed := true, judged := true }) ∧
    ((List.range 13).all (fun d => d = 0 || (op2.railJudged d && !(op2.dom d).railBad)) = true) ∧
    (fRail.railJudged 12 = true ∧ (fRail.dom 12).railBad = true) := by decide +kernel

theorem witness_Handovers : (fH0.fault.handover = some ⟨0, true, 99999, false, false⟩ ∧ (99999 : BitVec 64).toNat ≤ fH0.tick.number.toNat) ∧
    fH1p.fault.handover = some ⟨1, true, 99999, true, false⟩ ∧ fH2p.fault.handover = some ⟨2, true, 99999, true, false⟩ ∧
    fH2.fault.handover = some ⟨2, true, 99999, false, false⟩ := by decide +kernel

theorem witness_PowerDomains : ((dShut.dom 12).st = .shuttingDown ∧ (dShut.dom 12).isolated = false) ∧
    (dUp.power.die = [⟨6, true, false⟩, ⟨8, true, false⟩] ∧ (dUp.dom 6).st = .poweringUp ∧ dUp.fault.clockGroups.getLsbD 9 = false) ∧
    (dDown.power.die = [⟨9, false, false⟩] ∧ (dDown.dom 9).st = .shuttingDown) ∧ (dUpR.power.die = [⟨6, true, true⟩] ∧
      (dUpR.dom 6).st = .poweringUp) ∧ ((dAck.dom 1).st = .poweringUp ∧ (dAck.dom 1).acked = true) ∧
    ((dFailed.dom 9).st = .failed ∧ (dFailed.dom 9).retryOk = true ∧
      dFailed.writeCheck .twi [⟨addrOf 0x70 (0x20 + 9), 1, all32⟩] = 0) := by decide +kernel

theorem witness_ResetsAndSleep : vFlow.phase ≠ .inReset ∧ vFlow.writeCheck .twi [⟨addrOf 0x70 2, 0x4B505253, all32⟩] = 0 ∧
    rSafe.phase = .safe ∧ (rBoot.phase = .booting ∧ rBoot.fw.banks.a.st = .running) ∧
    (rSleep.phase = .asleep ∧ rSleep.power.wakeArmed = true ∧ rSleep.power.wakeMask = 7) ∧
    (rWaitR.cmd.wait = some ⟨.reset, .twi, 3⟩ ∧ rWaitR.leg.restart = false) ∧ rWaitS.cmd.wait = some ⟨.sleep, .twi, 3⟩ := by decide +kernel

theorem witness_BootAndMode : State.reset.phase = .inReset ∧ rInt.phase = .internalReset ∧ (rBoot.phase = .booting ∧
    rBoot.fw.banks.a.st = .running ∧ (rBoot.dom 1).st = .on ∧ (rBoot.dom 8).st = .on ∧ (rBoot.dom 6).st = .on) ∧
    rLegBoot.legacy = true := by decide +kernel

theorem witness_Transports : rowOf 0x04 (rq .alanov (0x01000000, 1, []) 1) = some (.bulkRead (rq .alanov (0x01000000, 1, []) 1)) ∧
    hBase.takes .twi = true ∧ hBase.inExecution .twi < 32 ∧ (hFull.takes .twi = true ∧ 32 ≤ hFull.inExecution .twi) ∧
    (hBase.port .twi).replies = [] ∧ ((hReply.port .twi).replies ≠ [] ∧ hReply.cmd.wait = none) ∧
    ((hRunV.port .twi).running = [⟨⟨0x52, rq .twi (1, 0, []) 1⟩, .imageVerify true⟩] ∧
      (∀ h ∈ (hRunV.port .twi).history, h.seq = 7 → h.interim = false)) ∧
    (hChain.port .twi).chain = [⟨0x02, rq .twi (subAddr 0, 1, wordBytes 5) 4⟩] := by decide +kernel

theorem witness_HostReads : (nameOf 0x01000000).isSome = true ∧ hBase.domOn 1 = true ∧
    ((List.range 2).all fun i => (nameOf (0x01000000 + i)).any fun x => hBase.domOn x.dom) = true ∧
    (hBase.ackOk .twi 0x0D = true ∧ hBase.ackOk .twi 0xFFFFFFFF = true ∧ hBase.ev.ring.length ≤ 8000) ∧
    (laneOk 0 = true ∧ laneOk 0x103 = true ∧ hBase.domOn 9 = true ∧ hBase.domOn 10 = true) := by decide +kernel

/-- A command passes at its acceptance, as `State.passes` says. -/
def pass (s : State) (op : Byte) (x : Nat × Nat × List Byte) : Bool :=
  opCheck (s.accepted (rq .twi x 1)) (s.accepted (rq .twi x 1)) true 0 { op, r := rq .twi x 1 } = 0

theorem passes_of {s : State} {op : Byte} {x : Nat × Nat × List Byte} (h : pass s op x = true) : s.passes op (rq .twi x 1) :=
  show opCheck _ _ true 0 _ = 0 from of_decide_eq_true h

theorem witness_HostWrites : pass hBase 0x02 (subAddr 0, 1, wordBytes 0xABCDEF) = true ∧ pass hBase 0x05 (hCfgAddr 3 2, 1, wordBytes 1000) = true ∧
    pass hBase 0x03 (subAddr 0, 1, wordBytes 0xABCDEF ++ wordBytes 0xF0F0) = true ∧
    hBase.writeCheck .twi [⟨hCfgAddr 3 2, 1000, all32⟩] = 0 := by decide +kernel

theorem witness_HostRefusals : pass hBase 0x01 (0xFF000000, 1, []) = false ∧ pass hBase 0x02 (0x01000000, 1, wordBytes 1) = false ∧
    pass hBase 0x42 (0, 0x80000000, []) = false := by decide +kernel

theorem witness_HeldCommands : pass hBase 0x10 (0, 1, []) = true ∧ pass hHatch 0x11 (0, 3, []) = true ∧ pass hV 0x12 (0, 0x5000, []) = true ∧
    pass hBase 0x20 (0, 5, wordBytes 9 ++ wordBytes 8 ++ List.replicate 40 1) = true ∧ pass hV 0x21 (0, 0x30000, []) = true ∧
    pass hV 0x22 (0, 0, []) = true ∧ pass hSus 0x6F (0, 0x5001, []) = true ∧
    opCheck (hBase.accepted (rq .twi (atT (9, 0, [])) 8)) (hBase.accepted (rq .twi (atT (9, 0, [])) 8)) true 0
      ⟨0x40, rq .twi (atT (9, 0, [])) 8⟩ = 0 := by decide +kernel

/-- The one held command of a state is due, and its second check passes. -/
def due (s : State) (op : Byte) (x : Nat × Nat × List Byte) (b : Bool) : Bool :=
  let p : Pkt := ⟨op, rq .twi (if b then atT x else x) (if b then 9 else 1)⟩
  let u : State := { s with cmd := { s.cmd with held := [] } }
  s.cmd.held = [⟨[p], 100000, b, none⟩] && s.tick.number = 100000 && s.tick.resyncs = [] && opCheck u u false 0 p = 0

theorem witness_HeldEffects : due xPlate 0x10 (0, 1, []) false = true ∧ due xPlateT 0x10 (0, 1, []) true = true ∧
    due xHatch 0x11 (0, 3, []) false = true ∧ (due xProf 0x12 (0, 0x5000, []) false = true ∧ (xProf.vch 0 .b).profiles.length = 4) ∧
    due xCreate 0x20 (0, 5, wordBytes 9 ++ wordBytes 8 ++ List.replicate 36 1 ++ [0, 0, 0, 0]) false = true ∧
    due xEnable 0x21 (0, 0x30000, []) false = true ∧ due xRetire 0x22 (0, 0, []) false = true ∧
    due xResync 0x6F (0, 0x5001, []) false = true ∧ due xVote 0x40 (9, 0, []) true = true := by decide +kernel

theorem witness_HostPowerAndImages : pass hBase 0x40 (12, 0, []) = true ∧ pass hBase 0x41 (1, 0, []) = true ∧ pass hBase 0x42 (0, 3, []) = true ∧
    pass hBase 0x50 (1, 4096, []) = true ∧ (hImg.fw.open_ = some (true, 4096) ∧ pass hImg 0x51 (4, 0, List.replicate 16 7) = true) ∧
    pass hImg2 0x52 (1, 0, []) = true ∧ pass hImg2 0x53 (1, 0, []) = true := by decide +kernel

theorem witness_Completions : ((hRunV.port .twi).running.find? (fun x => x.pkt.r.seq = 7)).any (fun x => x.work = .imageVerify true) = true ∧
    ((hRunD.port .alanov).running.find? (fun x => x.pkt.r.seq = 7)).any (fun x => x.work = .imageData true && x.pkt.r.t = .alanov) = true ∧
    hRunD.fault.clockGroups.getLsbD 9 = false ∧
    ((hRunF.port .twi).running.find? (fun x => x.pkt.r.seq = 7)).any (fun x => x.work = .fuseBlow 1) = true := by decide +kernel

theorem witness_HostLoopsAndTime : pass hBase 0x60 (0x100, 1, []) = true ∧ pass hBase 0x60 (0, 0, []) = true ∧ pass hBase 0x61 (8, 0x1A, []) = true ∧
    pass hBase 0x70 (0, 1, []) = true ∧ pass hOwner 0x71 (0, 0, leBytes 8 (2 ^ 64 - 77)) = true ∧
    pass hOwner 0x72 (0, 0, leBytes 8 3448649955) = true ∧ pass hOwner 0x72 (0, 0, leBytes 8 3455554159) = true := by decide +kernel

theorem legacy_free : ∀ s ∈ [gFree, gCre, gAct, gOmci, gPace, gFw], s.legacyFree := by unfold State.legacyFree; decide +kernel

theorem witness_LegacyReports : gAct.gemAt 0 = some 77 ∧ gAct.tcont 1 = some 300 ∧ gAct.hasRule 3 = true := by decide +kernel

theorem witness_LegacyCounters : gAct.gemAt 0 ≠ none ∧ gRule.hasRule 3 = true ∧
    (gRule.actionAt (ruleAddr (b2n gRule.cls.active) 3 40)).counter.isSome = true := by decide +kernel

theorem witness_LegacyOnu : ((gFree.vonuAt 0).life = .free ∧ gFree.snHeld 9 = false) ∧ (gCre.vonuAt 0).life = .created ∧ gAct.isLive 0 = true ∧
    gFree.writeCheck .twi [⟨chAddr .b 0, 8, 8⟩] = 0 ∧ gFree.omciBacklog = 0 ∧
    (gOmci.omciBacklog ≠ 0 ∧ mget none gOmci.vonu.omciRing ((gOmci.cfg (addrOf 0x20 0x11)).toNat % 1024) = some ⟨0, .b, 5, [1, 2, 3]⟩) ∧
    ((gAct.vch 0 .b).act = .o5 ∧ (gAct.vch 0 .b).omciQ.length < 8) ∧
    gCre.loadCheck { slot := mgmtSlot 0 1, kind := 1, vonu := 0, chan := 0 } = 0 ∧
    (gAct.flows.length < 256 ∧ gAct.writeCheck .twi [⟨flowAddr 255, BitVec.ofNat 32 (5000 + 2 ^ 25 + 2 ^ 26), all32⟩] = 0) ∧
    (gAct.gemAt 0 ≠ none ∧ gAct.writeCheck .twi [⟨flowAddr 0, 0, all32⟩] = 0) ∧ gAct.leg.tconts.length < 16 ∧
    (gAct.tcont 1 = some 300 ∧ gAct.entryOf 300 = some 2 ∧ gAct.writeCheck .twi [⟨qAddr 5 0, BitVec.ofNat 32 (2 + 2 ^ 31), 0x80003FFF⟩] = 0) := by
  decide +kernel

theorem witness_LegacyTables : (gAct.mayEdit = true ∧ gAct.writeCheck .twi (wordsIn (ruleAddr gAct.editPlate 511 0) [5, 0]) = 0 ∧
      gAct.hasRule 3 = true) ∧ gAct.writeCheck .twi (wordsIn (clsAddr (0x10 + 4 * 3)) [1]) = 0 ∧
    gAct.writeCheck .twi (wordsIn (meterAddr 63 0) [0, 100]) = 0 ∧ gAct.writeCheck .twi (wordsIn (qAddr 65535 0) [gAct.cfg (qAddr 65535 0)]) = 0 ∧
    gAct.writeCheck .twi [⟨nodeAddr 8193 0, 1000, all32⟩, ⟨nodeAddr 8193 1, 9000, all32⟩] = 0 ∧
    (bit (0x21 : Word) 1 = false ∧ gAct.writeCheck .twi [⟨ethAddr 0 0, 0x21, 0x7F⟩] = 0) ∧
    gAct.writeCheck .twi (wordsIn (ethAddr 0 4) [1]) = 0 ∧
    gAct.writeCheck .twi (wordsIn (ethAddr 0 0x10) [7, BitVec.ofNat 32 (5 + 2 ^ 16)]) = 0 ∧ gAct.timeOn = true ∧
    gAct.writeCheck .twi [⟨timeAddr 0xA, 0x41, 0x7FC1⟩] = 0 ∧
    sfcAhead (nearSfc (gAct.onlineSfc .b) 0x1000) (gAct.onlineSfc .b) ≤ 65536 := by decide +kernel

theorem witness_LegacyPort : gFw2.imageBeginOk (b2n (!gFw2.fw.runningBank)) 4096 = true ∧ gFw.fw.open_ = some (true, 4096) ∧
    ([0x31] : List Byte).length < 5 + leNat (slice [(0x31 : Byte)] 2 2) ∧
    (legacyKnown 0x80 = false ∧ (0x80 : Byte) + 5 + 0x7B = 0 ∧ (0x31 : Byte) + 5 + 0xCA = 0) ∧
    (gBusy.legacy = true ∧ gBusy.phase = .ready ∧ gBusy.legacyTakes = false) ∧ gBusy.leg.restart = false ∧
    (gRest.leg.restart = true ∧ gRest.leg.busy = false ∧ gRest.leg.paced = none ∧ gRest.legacyReadable.length ≤ 5) ∧
    gPaced.leg.paced = some [0, 1, 0, 0, 255] := by decide +kernel

/-! ## Further clauses -/

theorem witness_TransmitterEvents_more : ((oWarmR.ch .a).tx = .warmup ∧ (oWarmR.ch .a).tecLocked = false ∧
      (oWarmR.ch .a).warmFromReady = true ∧ oWarmR.inSync .a = true) ∧
    (oFault.domOn (rxDom .a) = true ∧ (oFault.ch .a).tx = .fault) ∧
    ((oDone.ch .a).burstDone = true ∧ (oDone.ch .a).tx ≠ .fault ∧ oDone.domOn (txDom .a) = true) := by decide +kernel

theorem witness_HuntAndFrames_more : ((oCand.ch .a).hunt = .candidate ∧ (aFrame 0 (some 78)).psyncErrs ≤ oCand.psyncTol .a ∧
      (aFrame 0 (some 79)).sfc ≠ some (77 + 1)) ∧
    (oWin.ch .a).winBits > (oWin.cfg (chAddr .a 6)).toNat ∧ 8 ≤ (oWin.ch .a).winUncorr := by decide +kernel

theorem witness_XgemFrames_more : op2.spoilt 0 0 = false ∧ oDropped.spoilt 0 0 = false ∧ (oDropped.inSync .a = true ∧
      (oDropped.ch .a).fsOk = true ∧ (oDropped.ch .a).payloadDrop = true) := by decide +kernel

theorem witness_PloamService_more : (pReg.vch 0 .a).upQ.length < 4 ∧ (pTune.vonuAt 0).standby.get (otherCh .a) = true ∧
    pTune.chEnabled (otherCh .a) = true ∧ (pRel.allocFind .a 300).any (fun e => e.2.vonu = 0) = true ∧
    (∃ k, k < 8192 ∧ pAlloc.allocAt k = none) := ⟨by decide +kernel, by decide +kernel, by decide +kernel, by decide +kernel, 9,
      by decide +kernel, by decide +kernel⟩

theorem witness_KeyStoreAndFuses_more : kDbg.fuses.dbgLock = true ∧ op2.fuses.dbgLock = false ∧
    (op2.chEnabled .a = true ∧ (op2.ch .a).tx = .ready ∧ op2.crypto.bscan = false) ∧
    ([true] ≠ [] ∧ [true].length ≤ 32) ∧
    (∃ scan : List Bool, scan.length ≥ Config.boundaryCells ∧ scan ≠ []) :=
  ⟨by decide +kernel, by decide +kernel, by decide +kernel, by decide, List.replicate (Config.boundaryCells + 1) true, by simp, by simp⟩

theorem witness_GrantsAndWindows_more :
    let own := (bOwn.bch .a).own
    ((bOwn.ch .a).fsOk = true ∧ own.find 300 = some (1, ⟨300, 0, .a⟩) ∧ (own.vonu 0).act = .o5 ∧ (own.profile 0 0).valid = true ∧
      bOwn.rateOffered .a (own.profile 0 0) = true ∧ (bOwn.bch .a).marks = [] ∧ (bOwn.bch .a).bursts = [] ∧
      (bOwn.bch .a).current = none) := by decide +kernel

theorem witness_BurstLife_more : bSpoilt.spoilt 1 0 = true ∧ bQueued.spoilt 1 0 = false ∧
    ((bLit.bch .a).bursts = [{ aBurst with committed := true, judged := true }] ∧ (bLit.bch .a).current = none ∧
      bLit.shadowPresent .a { aBurst with committed := true, judged := true } = true ∧ (bLit.ch .a).tx = .ready ∧ bLit.inSync .a = true ∧ (bLit.bch .a).testTrip = false ∧
      ((bLit.modB .a fun x => { x with bursts := [] }).lightUp .a { aBurst with committed := true, judged := true }).startDisagrees .a
        { aBurst with committed := true, judged := true } = none) ∧
    ((bJudged.modB .a fun x => { x with bursts := [] }).lightUp .a { aBurst with committed := true, judged := true }).startDisagrees .a
      { aBurst with committed := true, judged := true } = some 0 ∧
    bNow.endDisagrees .a { aBurst with committed := true, judged := true } = none := by decide +kernel

/-- A refill that is due, whatever the instant. -/
theorem witness_RefillStages :
    let now := refill1.instant.1
    refill1.domOn 6 = true ∧ refill1.allocAt 1 = some ⟨300, 0, .a⟩ ∧ refill1.poolServes 8 = true ∧ refill1.freeCells 8 ≠ 0 ∧
    (∀ f, refill1.flowBad f = false) ∧ refill1.instant.2.refillNext now = some 1 ∧
    ((refill1.instant.2.turnPast 1 now).requalify 1 now).tokensOk 1 now = true ∧
    ((refill1.instant.2.turnPast 1 now).requalify 1 now).selectQueue 1 now = some 6 ∧
    (((refill1.instant.2.turnPast 1 now).requalify 1 now).queue 6).pkts = [aPkt] ∧ aPkt.bytes.length ≤ 256 :=
  ⟨by decide +kernel, by decide +kernel, by decide +kernel, by decide +kernel, fun f => by cases f with
    | none => rfl
    | some n => exact (rfl : (([] : List EccErr).any fun e => e.region = 0 && e.index = n) = false), by decide +kernel, by decide +kernel, by decide +kernel,
    by decide +kernel, by decide +kernel⟩

theorem witness_LaserGuard_more : ((bO5.recentTrips .a).length < 2 ∧ (bO5.ch .a).tx = .ready ∧ (bO5.ch .a).tecLocked = true ∧
      bO5.txHeld .a = false ∧ bO5.domOn (txDom .a) = true) ∧ (bNow.ch .a).tx ≠ .latched := by decide +kernel

theorem witness_ClassifierPasses_more : cDecap.passesRun = true ∧ cDecap.cls.second = [anIn] := by decide +kernel

theorem witness_PlatesAndFragments_more : (cSwapRun.cls.swapDue = some true ∧ cSwapRun.domOn 6 = true ∧
      ∃ r ∈ (cSwapRun.port .twi).running, r.work = .plateSwap 5) :=
  ⟨by decide +kernel, by decide +kernel, _, List.mem_singleton.2 rfl, rfl⟩

/-- A release that the node and the port allow, whatever the instant. -/
theorem witness_QueueFlow_release :
    let now := qEth.instant.1
    let u := ((settleHeads 8704 (qEth.queuesOf 8704) qEth.instant.2).requalify 8704 now).creditsNow 8704 now
    u.tokensOk 8704 now = true ∧ u.selectQueue 8704 now = some 6 ∧ u.headSends 8704 6 = true ∧ (u.queue 6).pkts = [aPkt] :=
  ⟨by decide +kernel, by decide +kernel, by decide +kernel, by decide +kernel⟩

theorem witness_HatchLists_more : ((hAgain.hatch 2).pending = none ∧ (hAgain.hatch 2).again = some (aCopy, ⟨1000, 99990, 500⟩) ∧ hAgain.domOn 12 = true ∧
      (1000 : BitVec 64).toNat ≤ hAgain.nsAtMost) ∧ ((hAct.hatch 3).active = some aCopy ∧ hAct.domOn 12 = true) := by decide +kernel

theorem witness_BufferPools_more : asks { cls := 3, want := .size 100 } = true ∧ plCells.bpm.temps.length = 4 ∧
    (20 ≤ ((40 : BitVec 16).toInt - (plCells.bpm.trainedAt.getD 3 0).toInt).natAbs) ∧
    (((19 : BitVec 16).toInt - (plCells.bpm.trainedAt.getD 0 0).toInt).natAbs < 20) ∧ (plCells.pool 3).reinit = true := by
  decide +kernel

theorem witness_LinkLanes_more : (lSwitch.lanesRun = true ∧ (lSwitch.lane 8).logical ≠ (3 : BitVec 3).setWidth 4 ∧
    lSwitch.alink.rxUse ≠ some 3) := by decide +kernel

theorem witness_LinkStates_more : (∀ n, (lDesk0.lane n).ready = false) ∧ lClock.alink.state = .clock := by
  refine ⟨fun n => ?_, by decide +kernel⟩
  by_cases h : n < 9
  · have : ((List.range 9).all fun n => (lDesk0.lane n).ready = false) = true := by decide +kernel
    simpa using List.all_eq_true.1 this n (List.mem_range.2 h)
  · have : ∀ l : SMap Lane, (∀ e ∈ l, e.1 < 9) → mget Lane.reset l n = Lane.reset := by
      intro l
      induction l with
      | nil => intro _; rfl
      | cons e r ih =>
        intro hl
        have he : e.1 ≠ n := fun hn => h (hn ▸ hl e (List.mem_cons_self ..))
        simp only [mget, he, if_false]
        exact ih fun x hx => hl x (List.mem_cons_of_mem _ hx)
    have hd : ∀ e ∈ lDesk0.alink.lanes, e.1 < 9 := by decide +kernel
    rw [State.lane, this _ hd]; rfl

theorem witness_FramesAndCredit_more : lAct.spoilt 4 0 = false ∧ lAct.alink.badRun = false ∧ lRun.alink.badRun = true ∧
    lRun.linkCarries = true ∧ (lAct.credit 511).held.toNat + creditUnits 14 ≤ (lAct.credit 511).adv.toNat ∧
    lCes.alink.lossRun ≠ [] ∧ lCes.alink.lossRun.head? = some 3 ∧ lAct.alink.lossRun = [] := by decide +kernel

theorem witness_EthernetReceive_more : eUp1.spoilt 5 0 = false ∧ eLoop.spoilt 5 0 = false ∧
    (eUp1.ethPasses 0 ([0x01, 0x80, 0xC2, 0, 0, 1, 2, 2, 2, 2, 2, 2, 0x88, 0x08, 0, 2] ++ List.replicate 44 0) = true ∧
      isMacControl ([0x01, 0x80, 0xC2, 0, 0, 1, 2, 2, 2, 2, 2, 2, 0x88, 0x08, 0, 2] ++ List.replicate 44 0) = true) ∧
    (eReq.cfgB (ethAddr 0 0x40) 1 = true ∧ eReq.ethPasses 0 eBytes = true ∧ hasSecTag eBytes = false ∧ isEapol eBytes = false ∧
      eBytes.length + 4 ≤ eReq.cfgF (ethAddr 0 3) 0 14 ∧ (ethPort eReq 0).state = .up) := by decide +kernel

/-- Nothing waits for the node of a port, so that it may enter LPI whatever the instant. -/
theorem witness_IdleAndLldp_more :
    let sent := (eLpi0.txDone 0).instant
    (eLpi0.domOn 6 && sent.2.nodeEligible 8704 sent.1) = false ∧ eLpi0.cfgB (ethAddr 0 6) 1 = true ∧ (ethPort eLpi 0).paused = false ∧
    (ethPort eHeld 0).state = .up ∧ (ethPort eHeld 0).paused = true ∧ eHeld.cfgB (ethAddr 0 6) 1 = true :=
  ⟨by decide +kernel, by decide +kernel, by decide +kernel, by decide +kernel, by decide +kernel, by decide +kernel⟩

theorem witness_TimeOfDay_more : mget none (mTod2.time.latches.get .a) todX.sfc.toNat = some 12345678 ∧
    (mTod3.todDelay .a todX).isSome = true ∧ mget none (mTod3.time.latches.get .a) todX.sfc.toNat = some 12345678 ∧
    mTod2.todDelay .a todX = none ∧ mTod1.timeOn = true := by decide +kernel

theorem witness_ClocksAndStamps_more : (mEec.timeOn = true ∧ mEec.tick.source ≠ .ref ∧ mEec.time.eec ≠ .locked ∧
      mEec.time.chanSince = some 20000 ∧ (20000 : BitVec 64).toNat + 80000 ≤ mEec.tick.number.toNat) ∧
    (mEdge.outRuns = true ∧ mEdge.cfgB (timeAddr 0xA) 0 = true ∧ mEdge.secondAt.isSome = true ∧ mEdge.time.ppsLast = none) := by
  decide +kernel

theorem witness_EccRegions_more : (plCells.cell 1 7).state ≠ 3 ∧ 7 < poolCells 1 ∧ (op2.slot 1023).state = (op2.slot 1023).state ∧
    sideCount (chAddr .a 0x48) = false ∧ chAddr .a 0x48 ≠ fltCtr 1 := by decide +kernel

theorem witness_CoresAndMachines_more : op2.pairIn false = true ∧ op2.pairIn true = true ∧ fBad.pairIn true = true ∧
    (lAct.alink.state ≠ .down ∧ lAct.domOn (ctlDom .link) = true) ∧ (bQueued.domOn (ctlDom (.burin .a)) = true ∧
      (bQueued.bch .a).bursts.any (fun b => b.tick = bQueued.tick.number) = true) := by decide +kernel

theorem witness_PowerDomains_more : (dSleep.phase = .sleeping ∧ (dSleep.dom 1).st = .shuttingDown ∧ (dSleep.dom 1).isolated = false) ∧
    (dUp.power.die = ⟨6, true, false⟩ :: [⟨8, true, false⟩] ∧ (∀ q ∈ [(⟨8, true, false⟩ : DieReq)], q.dom ≠ 6)) ∧
    (dUpR.domsRun = true ∧ (dUpR.dom 6).st ≠ .failed) := by decide +kernel

/-- A held command that the APPLY window has passed for the tick, whose second check passes. -/
theorem witness_HeldEffects_verdict : xApplied.cmd.held.map (·.verdict) = [some [0]] ∧
    (xApplied.cmd.held.all fun h => h.due.toNat ≤ xApplied.tick.number.toNat) = true ∧
    xApplied.tick.resyncs = [] := by decide +kernel

theorem witness_HostReads_more : (Lone hBase (rq .twi (0x01000000, 1, []) 1) 0) ∧ (rq .twi (0x01000000, 1, []) 1).payload = [] ∧
    1 ≤ (rq .twi (0x01000000, 2, []) 1).param.toNat ∧ (rq .twi (0x01000000, 2, []) 1).param.toNat ≤ 1020 ∧
    hBase.ackOk .twi 0x0D = true ∧ hBase.ev.ring.length ≤ 8000 :=
  ⟨lone_witness.1, rfl, by decide +kernel, by decide +kernel, by decide +kernel, by decide +kernel⟩

theorem witness_PloamService_keys : pReg.engineOn = true ∧ pReg.keyUse (mgmtSlot 0 (chanN .a)) = .ok ∧
    (pRetK.engineOn = true ∧ pRetK.keyUse (mgmtSlot 0 (chanN .a)) = .retired ∧ heads pRetK .requestRegistration = true ∧
      inRegistered (pRetK.vch 0 .a).act = true) ∧
    (heads pKeyNoRng (.keyControl 1 false) = true ∧ pKeyNoRng.crypto.rngOk = false) ∧
    (pKey.crypto.rngOk = true ∧ (pKey.useKey (mgmtSlot 0 (chanN .a)) 1).keyUse (mgmtSlot 0 (chanN .a)) = .ok) ∧
    (pGen.useKey (mgmtSlot 0 (chanN .a)) 1).keyUse (mgmtSlot 0 (chanN .a)) = .ok := by decide +kernel

theorem witness_VonuTimers_seen : (vT8.vch 0 .a).act = .o8 ∧ vT8.syncSeen .a = true := by decide +kernel

theorem witness_KeyStoreAndFuses_handover : kArm.fault.handover = none ∧ kArmH.hostMay ∧ kArmH.fault.handover ≠ none := by
  unfold State.hostMay; decide +kernel

theorem witness_KeyLoads_use : kBc.keyUse (mgmtSlot 0 (chanN .b)) = .ok := by decide +kernel

theorem witness_GrantsAndWindows_marked : (bO5.ch .a).fsOk = true ∧ (bO5.bch .a).partOwn < 1024 ∧ (bOwn.bch .a).partOwn < 1024 := by
  decide +kernel

theorem witness_LaserGuard_held : bLatched.switchHeld .a = true ∧ (oRailA.ch .a).holdRail = true ∧
    ((bNow1.ch .a).tx ≠ .latched ∧ (bNow1.ch .a).holdRail = false ∧ bNow1.phase ≠ .safe) := by decide +kernel

/-- A release to the Alanov Link and one to a tributary. -/
theorem witness_QueueFlow_kinds :
    (let now := qPort.instant.1
     let u := (settleHeads 8192 (qPort.queuesOf 8192) (qPort.instant.2.creditsNow 8192 now)).requalify 8192 now
     qPort.domOn 6 = true ∧ qPort.cls.restoring = false ∧ qPort.outputReady 8192 = true ∧ nodeKind 8192 = .port 0 ∧
     u.tokensOk 8192 now = true ∧ u.selectQueue 8192 now = some 6 ∧ u.headSends 8192 6 = true ∧ (u.queue 6).pkts = [aPkt] ∧
     qPort.spoilt 4 1 = false) ∧
    (let now := qCes.instant.1
     let u := (settleHeads 8708 (qCes.queuesOf 8708) (qCes.instant.2.creditsNow 8708 now)).requalify 8708 now
     qCes.outputReady 8708 = true ∧ nodeKind 8708 = .ces 0 ∧
     u.tokensOk 8708 now = true ∧ u.selectQueue 8708 now = some 6 ∧ u.headSends 8708 6 = true ∧ (u.queue 6).pkts = [aPkt]) ∧
    (nodeKind 8704 = .ethernet 0 ∧ (ethPort qEth 0).state = .up ∧ qEth.spoilt 5 4 = false ∧ qEth.cfgB (ethAddr 0 0x40) 0 = false ∧
      (padded aPkt.bytes).length + 4 ≤ qEth.cfgF (ethAddr 0 3) 0 14) ∧
    (qAdm.spoilt 15 0 = false ∧ qRest.cls.restoring = true) := by decide +kernel

theorem witness_LinkLanes_moved : lSwitch.alink.movedAt ≠ some 5 ∧ lMoved.alink.movedAt = some 5 := by decide +kernel

theorem witness_FramesAndCredit_carried : (lAct.pool 1).carried = [] ∧ (lAct.pool 6).carried = [] ∧ lAct.spoilt 4 1 = false := by decide +kernel

theorem witness_EthernetReceive_spoilt : (ethPort eLoop 0).state ≠ .up ∧ ((ethPort eSpoilt 0).state = .up ∧ eSpoilt.spoilt 5 0 = true) ∧
    (eProm.pool 0).carried = [] ∧ eLpi.spoilt 5 4 = false := by decide +kernel

theorem witness_ClocksAndStamps_levels : mEec.fault.clockGroups.getLsbD 8 = false ∧
    (mLock.time.ppsHigh = true ∧ mLock.time.ppsEnd.toNat ≤ mLock.time.count.toNat + mLock.tickSpan) ∧ mTodC.spoilt 4 1 = false := by
  decide +kernel

theorem witness_Tributaries_more : (jUp.pool 1).carried = [] ∧ jUp.spoilt 7 1 = false ∧ jRx.spoilt 7 0 = false ∧
    ((jLast.trib 0).lastFrame = some ⟨[3, 4], false, false⟩ ∧ (jLast.trib 0).slipBuf = [] ∧ (jLast.trib 0).toPlay = []) ∧
    ((jFull.trib 0).slipBuf ≠ [] ∧ (jFull.ces_ 0).cesopsn = true ∧ (jFull.ces_ 0).clock ≠ 1 ∧ (jFull.trib 0).playing = true) ∧
    jSend.spoilt 4 1 = false ∧ jGrp7F.spoilt 4 1 = false := by decide +kernel

theorem witness_Monitors_more :
    ((List.range 11).all (fun g => op2.clocksOut g < groupClocks g) = true) ∧
    (fMore.fault.clockGroups.getLsbD 3 = true ∧ fMore.fault.clockMore.contains 3 = true ∧ fMore.fault.clockMore.contains 9 = true ∧
      fMore.fault.clockMore.contains 2 = false) ∧ (fClock.fault.clockMore.contains 9 = false ∧ fClock.phase ≠ .recovery) := by decide +kernel

theorem witness_Handovers_more : (fH0.activationHeld = false ∧ fH2p.fault.clockGroups.getLsbD 9 = false) ∧
    fHf.fault.handover = some ⟨1, true, 99999, true, true⟩ := by decide +kernel

theorem witness_PowerDomains_asked : (dShut.dom 12).offAsked = false ∧ dShut.power.wakeLow = false ∧
    (dSleep.phase = .sleeping ∧ dSleep.power.wakeLow = false) := by decide +kernel

theorem witness_ResetsAndSleep_more : (rAsleep0.phase = .asleep ∧ (rAsleep0.power.wakeArmed && rAsleep0.power.wakeMask.getLsbD 0) = false) ∧
    dSleep.phase = .sleeping ∧ (rWoken.phase = .internalReset ∧ rWoken.power.cause = 5 ∧ rWoken.power.wakeMask = 7) := by decide +kernel

/-- States that meet the premises on the levels of the output contacts, clause by clause. -/
theorem witness_EventRecords_contacts : (gPace.legacy = true ∧ gPace.phase = .ready ∧ gPace.domOn 1 = true) ∧
    (hBase.legacy = false ∧ hBase.phase = .ready ∧ hBase.domOn 1 = true) ∧ rSafe.phase = .safe ∧
    (mEdge.outRuns = true ∧ mEdge.legacy = false) ∧
    (mSynce.timeOn = true ∧ mSynce.legacy = false ∧ mSynce.fault.clockGroups.getLsbD 8 = false ∧ mSynce.cfgB (timeAddr 0xA) 2 = true) ∧
    mOff.timeOn = false := by decide +kernel

/-- R360: with SYNCE_DIV 2, SYNCE_OUT runs at 38.88 MHz. -/
theorem test_synce_divides : mSynce.contacts.synceHz = 38880000 ∧ mSynce.contacts.clk10m = true ∧ mEdge.contacts.clk10m = false := by decide +kernel

theorem witness_Transports_spoilt : hBase.spoilt 9 0 = false ∧ hBase.spoilt 4 0 = false ∧ hSpoilt.spoilt 9 0 = true := by decide +kernel

theorem witness_Completions_data : hRunDV.dataRuns true = true ∧ hRunV.dataRuns true = false ∧
    ((hRunDV.port .twi).running.any fun x => x.work = .imageVerify true) = true ∧ fClock.fault.clockGroups.getLsbD 9 = true ∧
    hRunD.fault.clockGroups.getLsbD 9 = false := by decide +kernel

/-- The writes beneath the legacy commands are good at rest as well. -/
theorem witness_LegacyOnu_rest : gFree.atRest.writeCheck .twi [⟨chAddr .b 0, 8, 8⟩] = 0 ∧
    gAct.atRest.writeCheck .twi [⟨flowAddr 255, BitVec.ofNat 32 (5000 + 2 ^ 25 + 2 ^ 26), all32⟩] = 0 ∧
    gAct.atRest.writeCheck .twi [⟨flowAddr 0, 0, all32⟩] = 0 ∧
    gAct.atRest.writeCheck .twi [⟨qAddr 5 0, BitVec.ofNat 32 (2 + 2 ^ 31), 0x80003FFF⟩] = 0 ∧
    (gAct.engineOn = true ∧ gAct.keyUse (mgmtSlot 0 1) = .ok) := by decide +kernel

theorem witness_LegacyTables_rest : gAct.atRest.writeCheck .twi (wordsIn (ruleAddr gAct.editPlate 511 0) [5, 0]) = 0 ∧
    gAct.atRest.writeCheck .twi (wordsIn (clsAddr (0x10 + 4 * 3)) [1]) = 0 ∧ gAct.atRest.writeCheck .twi (wordsIn (meterAddr 63 0) [0, 100]) = 0 ∧
    gAct.atRest.writeCheck .twi (wordsIn (qAddr 65535 0) [gAct.cfg (qAddr 65535 0)]) = 0 ∧
    gAct.atRest.writeCheck .twi [⟨nodeAddr 8193 0, 1000, all32⟩, ⟨nodeAddr 8193 1, 9000, all32⟩] = 0 ∧
    gAct.atRest.writeCheck .twi [⟨ethAddr 0 0, 0x21, 0x7F⟩] = 0 ∧ gAct.atRest.writeCheck .twi (wordsIn (ethAddr 0 4) [1]) = 0 ∧
    gAct.atRest.writeCheck .twi (wordsIn (ethAddr 0 0x10) [7, BitVec.ofNat 32 (5 + 2 ^ 16)]) = 0 ∧
    gAct.atRest.writeCheck .twi [⟨timeAddr 0xA, 0x41, 0x7FC1⟩] = 0 ∧
    gAct.atRest.writeCheck .twi (wordsIn (qAddr 5 0) [0x3FFF]) = 5 := by decide +kernel

theorem witness_LegacyPort_more : (gEditing.legacy = true ∧ gEditing.phase = .ready ∧ gEditing.leg.editing = some 0x20 ∧
      gEditing.cls.retiring = false) ∧ (gRetiring.leg.editing = some 0x20 ∧ gRetiring.cls.retiring = true) ∧
    gFw2.fault.handover = none ∧ (gBusy.leg.paced = none ∧ gBusy.leg.busy = true ∧ gBusy.leg.editing = none) := by decide +kernel

end Sys2Proof.Tests
end

section
/-! The configuration words keep their canonical form (O4); a blown fuse, the part and the queue of commands stay (O5).
Both follow from one relation `Keeps o s` between the state `o` before a command and every state `s` on the way to its
outcome. Each operation of the model keeps it, which is proved once per operation, in the order of the model's files, by
citing the operations that it calls; a command's outcome is a chain of them. -/

namespace Sys2Proof.Machine
set_option Elab.async false

/-! ### Maps whose default depends on the key -/

theorem mput_sorted {α : Type} [DecidableEq α] {d : α} {m : SMap α} (i : Nat) (v : α) (h : m.Pairwise (·.1 < ·.1)) :
    (mput d m i v).Pairwise (·.1 < ·.1) := by
  induction m with
  | nil => rw [mput]; split <;> simp
  | cons a r ih =>
    obtain ⟨ha, hr⟩ := List.pairwise_cons.1 h
    simp only [mput]
    split
    · refine List.pairwise_cons.2 ⟨fun e he => ?_, ih hr⟩
      obtain rfl | ⟨x, hx, hxe⟩ := mput_keys e he
      · assumption
      · exact hxe ▸ ha x hx
    · split
      · split
        · exact hr
        next e _ => exact List.pairwise_cons.2 ⟨e ▸ ha, hr⟩
      · split
        · exact h
        · refine List.pairwise_cons.2 ⟨fun e he => ?_, h⟩
          obtain rfl | he := List.mem_cons.1 he
          · omega
          · have := ha e he
            omega

theorem mem_mput {α : Type} [DecidableEq α] {d : α} {m : SMap α} {i : Nat} {v : α} {e : Nat × α}
    (h : e ∈ mput d m i v) : e = (i, v) ∧ v ≠ d ∨ e ∈ m := by
  induction m with
  | nil => rw [mput] at h; split at h <;> simp_all
  | cons a r ih =>
    simp only [mput] at h
    split at h
    · obtain rfl | h := List.mem_cons.1 h
      · exact .inr List.mem_cons_self
      · exact (ih h).imp_right (List.mem_cons_of_mem _)
    · split at h <;> split at h
      · exact .inr (List.mem_cons_of_mem _ h)
      next hi hv =>
        subst hi
        exact (List.mem_cons.1 h).imp (⟨·, hv⟩) (List.mem_cons_of_mem _)
      · exact .inr h
      next hv => exact (List.mem_cons.1 h).imp (⟨·, hv⟩) id

theorem SMap.wfBy_iff {α : Type} [DecidableEq α] {d : Nat → α} {m : SMap α} :
    SMap.wfBy d m = true ↔ (∀ e ∈ m, e.2 ≠ d e.1) ∧ m.Pairwise (·.1 < ·.1) := by
  simp [SMap.wfBy, List.pairwise_map]

theorem mput_wfBy {α : Type} [DecidableEq α] {d : Nat → α} {m : SMap α} (i : Nat) (v : α) (h : SMap.wfBy d m = true) :
    SMap.wfBy d (mput (d i) m i v) = true := by
  rw [SMap.wfBy_iff] at h ⊢
  obtain ⟨hne, hs⟩ := h
  refine ⟨fun e he => ?_, mput_sorted i v hs⟩
  obtain ⟨rfl, hv⟩ | he := mem_mput he
  exacts [hv, hne e he]

theorem filter_wfBy {α : Type} [DecidableEq α] {d : Nat → α} {m : SMap α} (f : Nat × α → Bool)
    (h : SMap.wfBy d m = true) : SMap.wfBy d (m.filter f) = true := by
  rw [SMap.wfBy_iff] at h ⊢
  obtain ⟨hne, hs⟩ := h
  exact ⟨fun e he => hne e (List.mem_of_mem_filter he), hs.filter f⟩

/-! ### Fuses -/

/-- `State.fuseBlown`, as a function of the fuses alone. -/
def Fuses.blown (f : Fuses) (n : Nat) : Bool :=
  match n with
  | 0 => f.dbgLock
  | 1 => f.legacyLock
  | n => f.revoked.getLsbD (n - 2)

theorem fuseBlown_eq (s : State) (k : Nat) : s.fuseBlown k = s.fuses.blown k := rfl

theorem blown_blowFuse {s : State} {n k : Nat} (h : s.fuses.blown k = true) : (s.blowFuse n).fuses.blown k = true := by
  match n, k with
  | 0, 0 | 1, 1 => rfl
  | 0, 1 | 0, _ + 2 | 1, 0 | 1, _ + 2 | _ + 2, 0 | _ + 2, 1 => exact h
  | n + 2, k + 2 => simp_all [State.blowFuse, Fuses.blown]

/-! ### The relation -/

/-- `Keeps`, of the four parts of the state that it speaks of. -/
structure Kept (o : State) (part : Part) (pending : List Instr) (fuses : Fuses) (words : SMap Word) : Prop where
  part : part = o.part
  pending : pending = o.pending
  blown : ∀ k, o.fuses.blown k = true → fuses.blown k = true
  words : SMap.wfBy resetWord o.words = true → SMap.wfBy resetWord words = true

/-- `s` has the part and the queue of `o`, every fuse blown in `o`, and words in canonical form if those of `o` are.
It is the relation of four fields, so that two states are never compared whole. -/
abbrev Keeps (o s : State) : Prop := Kept o s.part s.pending s.fuses s.words

namespace Keeps
variable {o s t : State}

theorem refl (s : State) : Keeps s s := ⟨rfl, rfl, fun _ h => h, id⟩

theorem of_eq (h : Keeps o s) (hp : t.part = s.part) (hq : t.pending = s.pending) (hf : t.fuses = s.fuses)
    (hw : t.words = s.words) : Keeps o t := by rw [Keeps, hp, hq, hf, hw]; exact h

/-- A step that leaves the four fields alone, as the model's own laws say. -/
theorem same (h : Keeps o s) (hp : t.part = s.part := by simp) (hq : t.pending = s.pending := by simp)
    (hf : t.fuses = s.fuses := by simp) (hw : t.words = s.words := by simp) : Keeps o t := h.of_eq hp hq hf hw

/-- An update of fields beside the four. -/
theorem aside (h : Keeps o s) (hp : t.part = s.part := by rfl) (hq : t.pending = s.pending := by rfl)
    (hf : t.fuses = s.fuses := by rfl) (hw : t.words = s.words := by rfl) : Keeps o t := h.of_eq hp hq hf hw

theorem iteOf {α : Type} (f : α → State) {p q : α} {c : Prop} [Decidable c] (h : Keeps o (f p)) (k : Keeps o (f q)) :
    Keeps o (f (if c then p else q)) := by split <;> assumption

theorem ite {c : Prop} [Decidable c] (h : Keeps o s) (k : Keeps o t) : Keeps o (if c then s else t) := iteOf id h k

theorem sndIte {α : Type} {p q : α × State} {c : Prop} [Decidable c] (h : Keeps o p.2) (k : Keeps o q.2) :
    Keeps o (if c then p else q).2 := iteOf Prod.snd h k

theorem fstIte {α : Type} {p q : State × α} {c : Prop} [Decidable c] (h : Keeps o p.1) (k : Keeps o q.1) :
    Keeps o (if c then p else q).1 := iteOf Prod.fst h k

theorem snd {α : Type} {p : α × State} {a : α} (h : Keeps o p.2) (e : p = (a, t)) : Keeps o t := by
  rw [e] at h
  exact h

theorem ofGetD {x : Option State} (h : Keeps o (x.getD s)) (e : x = some t) : Keeps o t := by
  rw [e] at h
  exact h

theorem foldlOf {α β : Type} (g : β → State) {f : β → α → β} {l : List α} {b : β} (h : Keeps o (g b))
    (hf : ∀ b a, Keeps o (g b) → Keeps o (g (f b a))) : Keeps o (g (l.foldl f b)) := by
  induction l generalizing b with
  | nil => exact h
  | cons a l ih => exact ih (hf _ _ h)

theorem foldl {α : Type} {f : State → α → State} {l : List α} (h : Keeps o s)
    (hf : ∀ t a, Keeps o t → Keeps o (f t a)) : Keeps o (l.foldl f s) := foldlOf id h hf

theorem foldlFst {α β : Type} {f : State × β → α → State × β} {l : List α} {p : State × β} (h : Keeps o p.1)
    (hf : ∀ p a, Keeps o p.1 → Keeps o (f p a).1) : Keeps o (l.foldl f p).1 := foldlOf Prod.fst h hf

/-! ### Ops -/

theorem putCfg {a v} (h : Keeps o s) : Keeps o (s.putCfg a v) :=
  { h with words := fun w => mput_wfBy a v (h.words w) }
theorem dropCfg {keep} (h : Keeps o s) : Keeps o (s.dropCfg keep) :=
  { h with words := fun w => filter_wfBy _ (h.words w) }
theorem setCtr {a v} (h : Keeps o s) : Keeps o (s.setCtr a v) := h
theorem bump {a n} (h : Keeps o s) : Keeps o (s.bump a n) := h
theorem bumpIf {p a n} (h : Keeps o s) : Keeps o (s.bumpIf p a n) := h.same
theorem fresh (h : Keeps o s) : Keeps o (s.fresh).2 := h
theorem emit {o'} (h : Keeps o s) : Keeps o (s.emit o') := h
theorem instant (h : Keeps o s) : Keeps o (s.instant).2 := h.same
theorem ringWrite {code p} (h : Keeps o s) : Keeps o (s.ringWrite code p) := h.same
theorem mramWrite {region page} (h : Keeps o s) : Keeps o (s.mramWrite region page) := h.same
theorem lived {f} (h : Keeps o s) : Keeps o (s.lived f) := h
theorem logWrite {r} (h : Keeps o s) : Keeps o (s.logWrite r) := h.same
theorem lifeSlot (h : Keeps o s) : Keeps o s.lifeSlot := h.same
theorem noteFault {code} (h : Keeps o s) : Keeps o (s.noteFault code) := h.same
theorem raise {code p} (h : Keeps o s) : Keeps o (s.raise code p) := h.same
theorem raiseIf {b code p} (h : Keeps o s) : Keeps o (s.raiseIf b code p) := h.same
theorem suspectGroup {g} (h : Keeps o s) : Keeps o (s.suspectGroup g) := h
theorem flushStream {g flushed} (h : Keeps o s) : Keeps o (s.flushStream g flushed) := h
theorem spuriousOnce {g} (h : Keeps o s) : Keeps o (s.spuriousOnce g) := h
theorem expose {g} (h : Keeps o s) : Keeps o (s.expose g) := h.same
theorem unspoil {g k} (h : Keeps o s) : Keeps o (s.unspoil g k) := h

/-! ### PoolOps -/

theorem setPool {p x} (h : Keeps o s) : Keeps o (s.setPool p x) := h
theorem poolGuards {p} (h : Keeps o s) : Keeps o (s.poolGuards p) := h.aside.raiseIf.raiseIf
theorem poolChanged {p} (h : Keeps o s) : Keeps o (s.poolChanged p) :=
  (h.aside.raiseIf.ite h.setPool).raiseIf.raiseIf.poolGuards
theorem pickCell {p} (h : Keeps o s) : Keeps o (s.pickCell p).2 := h.fresh
theorem setCell {p k c} (h : Keeps o s) : Keeps o (s.setCell p k c) := h.same
theorem grantCell {p cls began} (h : Keeps o s) : Keeps o (s.grantCell p cls began).2 :=
  h.bump.sndIte (h.bump.sndIte (h.bump.sndIte h.pickCell.setCell.bump.poolChanged))
theorem servePool {p began n l} (h : Keeps o s) : Keeps o (servePool p began n l s) := by
  induction n generalizing s l with
  | zero => cases l <;> exact h
  | succ n ih =>
    cases l with
    | nil => exact h
    | cons x l => exact ih h.grantCell
theorem serveCarried {p n} (h : Keeps o s) : Keeps o (State.serveCarried p n s) := by
  induction n generalizing s with
  | zero => exact h
  | succ n ih => exact h.ite (ih h.setPool.servePool)
theorem poolCatchUp {p} (h : Keeps o s) : Keeps o (s.poolCatchUp p) := h.serveCarried
theorem poolsCatchUp {l} (h : Keeps o s) : Keeps o (poolsCatchUp l s) := by
  induction l generalizing s with
  | nil => exact h
  | cons x l ih => exact ih h.poolCatchUp
theorem takeCell {p cls began} (h : Keeps o s) : Keeps o (s.takeCell p cls began).2 := h.poolCatchUp.grantCell
theorem releaseCell {p k} (h : Keeps o s) : Keeps o (s.releaseCell p k) := h.setCell.bump.poolChanged
theorem dropRef {p k} (h : Keeps o s) : Keeps o (s.dropRef p k) := h.releaseCell.ite h.setCell
theorem refuseCell {cls ptr kind pool c} (h : Keeps o s) : Keeps o (s.refuseCell cls ptr kind pool c) := by
  unfold State.refuseCell
  extract_lets
  split <;> exact h.aside.bump.raise
theorem freeAt {cls ptr p k} (h : Keeps o s) : Keeps o (s.freeAt cls ptr p k) :=
  h.refuseCell.ite (h.dropRef.ite (h.releaseCell.ite h.refuseCell))
theorem cellFree {cls ptr} (h : Keeps o s) : Keeps o (s.cellFree cls ptr) := by
  unfold State.cellFree
  split
  exacts [h, h.refuseCell, h.freeAt]
theorem passAt {cls ptr newOwner p k} (h : Keeps o s) : Keeps o (s.passAt cls ptr newOwner p k) :=
  h.refuseCell.ite (h.setCell.ite h.refuseCell)
theorem cellTransfer {cls ptr newOwner} (h : Keeps o s) : Keeps o (s.cellTransfer cls ptr newOwner) := by
  unfold State.cellTransfer
  split
  exacts [h, h.refuseCell, h.passAt]
theorem cellShare {cls ptr n} (h : Keeps o s) : Keeps o (s.cellShare cls ptr n) := by
  unfold State.cellShare
  split
  · exact h
  · exact h.refuseCell
  · exact h.refuseCell.ite ((h.refuseCell.ite h.setCell).ite ((h.refuseCell.ite (h.ite h.setCell)).ite h.refuseCell))
theorem freeAll {cls l} (h : Keeps o s) : Keeps o (State.freeAll cls l s) := by
  induction l generalizing s with
  | nil => exact h
  | cons x l ih => exact ih h.freeAt
theorem passAll {cls newOwner l} (h : Keeps o s) : Keeps o (State.passAll cls newOwner l s) := by
  induction l generalizing s with
  | nil => exact h
  | cons x l ih => exact ih h.passAt
theorem takeChain {p cls n l} (h : Keeps o s) : Keeps o (State.takeChain p cls n l s).2 := by
  induction n generalizing s l with
  | zero => exact h
  | succ n ih =>
    rw [State.takeChain]
    split
    next e => exact ih (h.takeCell.snd e)
    next e => exact (h.takeCell.snd e).freeAll
theorem buildChain {p cls limit need got} (h : Keeps o s) : Keeps o (State.buildChain p cls limit need got s).2 := by
  unfold State.buildChain
  split
  next e => exact (h.takeChain.snd e).freeAll.bump
  next e =>
    have h := h.takeChain.snd e
    exact h.freeAll.bump.sndIte h
theorem poolCycle {reqs p} (h : Keeps o s) : Keeps o (s.poolCycle reqs p) := h.ite (h.ite h.setPool).servePool
theorem allocCycle {reqs} (h : Keeps o s) : Keeps o (s.allocCycle reqs) := h.bump.foldl fun _ _ h => h.poolCycle
theorem failCarried {p} (h : Keeps o s) : Keeps o (s.failCarried p) := h.setPool.bump
theorem stopPools {l} (h : Keeps o s) : Keeps o (stopPools l s) := by
  induction l generalizing s with
  | nil => exact h
  | cons x l ih => exact ih h.failCarried
theorem poolInit {p} (h : Keeps o s) : Keeps o (s.poolInit p) := h.failCarried.setPool.poolGuards
theorem reclaimPool {classes p} (h : Keeps o s) : Keeps o (s.reclaimPool classes p).1 :=
  h.fstIte h.setPool.bump.poolChanged
theorem reclaim {d} (h : Keeps o s) : Keeps o (s.reclaim d) := by
  unfold State.reclaim
  refine h.ite ?_
  dsimp only
  generalize e : poolList.foldl _ _ = p
  have hp : Keeps o p.1 := by rw [← e]; exact foldlFst h fun _ _ h => h.reclaimPool
  exact hp.aside.bump.raise
theorem dramTrain {i} (h : Keeps o s) : Keeps o (s.dramTrain i) := h.aside.expose
theorem dramReading {i temp} (h : Keeps o s) : Keeps o (s.dramReading i temp) := h.aside.dramTrain.ite h.aside
theorem readSideBpm {f} (h : Keeps o s) : Keeps o (readSideBpm s f) := h.setPool.ite h
theorem applyBpm {f} (h : Keeps o s) : Keeps o (applyBpm s f) := by
  unfold Machine.applyBpm
  split
  exacts [h.poolChanged, h]

/-! ### QueueOps -/

theorem setQueue {q x} (h : Keeps o s) : Keeps o (s.setQueue q x) := h
theorem setNode {n x} (h : Keeps o s) : Keeps o (s.setNode n x) := h
theorem setVirt {n v now} (h : Keeps o s) : Keeps o (s.setVirt n v now) := h.setNode
theorem setMeter {m x} (h : Keeps o s) : Keeps o (s.setMeter m x) := h
theorem setHatch {l x} (h : Keeps o s) : Keeps o (s.setHatch l x) := h
theorem setCbs {e p x} (h : Keeps o s) : Keeps o (s.setCbs e p x) := h
theorem cbsUpdate {e now} (h : Keeps o s) : Keeps o (s.cbsUpdate e now) := h.foldl fun _ _ h => h.setCbs.ite h.setCbs
theorem creditsNow {n now} (h : Keeps o s) : Keeps o (s.creditsNow n now) := by
  unfold State.creditsNow
  split
  exacts [h.cbsUpdate, h]
theorem creditsHere {n} (h : Keeps o s) : Keeps o (s.creditsHere n) := by
  unfold State.creditsHere
  split
  exacts [h.ite h.instant.cbsUpdate, h]
theorem cbsSpend {e p bytes} (h : Keeps o s) : Keeps o (s.cbsSpend e p bytes) := by
  unfold State.cbsSpend
  split
  exacts [h, h.setCbs]
theorem tagHead {n q start} (h : Keeps o s) : Keeps o (s.tagHead n q start) := by
  unfold State.tagHead
  extract_lets
  split
  exacts [h, h.setQueue]
theorem requalifyOne {n now q} (h : Keeps o s) : Keeps o (s.requalifyOne n now q) :=
  h.ite (h.ite (h.setQueue.tagHead.ite h.setQueue))
theorem requalify {n now} (h : Keeps o s) : Keeps o (s.requalify n now) := h.foldl fun _ _ h => h.requalifyOne
theorem dropOversize {n q m} (h : Keeps o s) : Keeps o (State.dropOversize n q m s) := by
  induction m generalizing s with
  | zero => exact h
  | succ n ih =>
    rw [State.dropOversize]
    split
    · exact h
    · split
      exacts [h, ih (h.setQueue.freeAll.bump.ite h.setQueue.freeAll.aside).raiseIf.tagHead]
theorem settleHead {n q} (h : Keeps o s) : Keeps o (s.settleHead n q) := h.dropOversize
theorem releaseHead {n q now} (h : Keeps o s) : Keeps o (s.releaseHead n q now).2 := by
  unfold State.releaseHead
  extract_lets
  split
  · exact h
  · exact ((h.setVirt.ite h).setQueue.tagHead.ite (h.setVirt.ite h).setQueue.tagHead.setNode).bump.bump.settleHead
theorem nodeTouch {n now} (h : Keeps o s) : Keeps o (s.nodeTouch n now) := h.creditsNow.requalify
theorem nodesTouch {now l} (h : Keeps o s) : Keeps o (nodesTouch now l s) := by
  induction l generalizing s with
  | nil => exact h
  | cons x l ih => exact ih h.nodeTouch
theorem gateTouch {l now} (h : Keeps o s) : Keeps o (s.gateTouch l now) := h.nodesTouch
theorem gatesTouch (h : Keeps o s) : Keeps o s.gatesTouch := h.instant.nodesTouch
theorem regate {f} (h : Keeps o s) (hf : ∀ t, Keeps o t → Keeps o (f t)) : Keeps o (s.regate f) :=
  (hf _ h.gatesTouch).gatesTouch
theorem rebase (h : Keeps o s) : Keeps o s.rebase := by
  unfold State.rebase
  dsimp only
  have h1 := h.instant.nodesTouch (now := s.instant.1) (l := s.instant.2.listNodes none)
  generalize e : List.foldl _ _ _ = t
  have ht : Keeps o t := by rw [← e]; exact h1.foldl fun _ _ h => h.cbsUpdate
  exact ht
theorem dropAt {q j p} (h : Keeps o s) : Keeps o (s.dropAt q j p) := h.bump.bump.bump.freeAll
theorem bindPacket {n p} (h : Keeps o s) : Keeps o (s.bindPacket n p).2 := by
  unfold State.bindPacket
  split
  · exact h.sndIte h
  · exact h
theorem admitTo {q p} (h : Keeps o s) : Keeps o (s.admitTo q p) :=
  h.dropAt.ite (h.dropAt.ite (h.dropAt.ite (h.passAll.creditsHere.bindPacket.setQueue.bump.bump.tagHead
      |>.settleHead.ite h.passAll.creditsHere.bindPacket.setQueue.bump.bump)))
theorem meterPacket {m bytes colour} (h : Keeps o s) : Keeps o (s.meterPacket m bytes colour).2 := by
  unfold State.meterPacket
  split
  exacts [h, h.sndIte h.instant.setMeter.bump]
theorem hatchArm {l x tc} (h : Keeps o s) : Keeps o (s.hatchArm l x tc) := h.setHatch
theorem tcontRemoved {n bytes} (h : Keeps o s) : Keeps o (s.tcontRemoved n bytes) := (h.ite h.aside).ite h
theorem flushQueue {q} (h : Keeps o s) : Keeps o (s.flushQueue q) := h.creditsHere.tcontRemoved.setQueue.freeAll.aside
theorem touchAsBefore {before n now} (h : Keeps o s) : Keeps o (State.touchAsBefore before s n now) :=
  (h.foldl fun _ _ h => h.putCfg).nodeTouch.foldl fun _ _ h => h.putCfg
theorem bucketRewrite {before n now} (h : Keeps o s) : Keeps o (State.bucketRewrite before s n now) :=
  h.setNode.ite (h.setNode.ite h.setNode)
theorem nodeRewrite {before n} (h : Keeps o s) : Keeps o (State.nodeRewrite before s n) :=
  h.instant.touchAsBefore.bucketRewrite.nodeTouch
theorem meterRewrite {before m} (h : Keeps o s) : Keeps o (State.meterRewrite before s m) :=
  h.setMeter.ite h.instant.setMeter
theorem cbsRewrite {before e} (h : Keeps o s) : Keeps o (State.cbsRewrite before s e) :=
  h.instant.foldl fun _ _ h => h.setCbs.ite (h.setCbs.ite h.setCbs)
theorem keepHead {q old v} (h : Keeps o s) : Keeps o (s.keepHead q old v) := h.ite h.setQueue
theorem applyQ {f old v} (h : Keeps o s) : Keeps o (applyQ s f old v) := by
  unfold Machine.applyQ
  extract_lets
  split
  exacts [h.keepHead.ite h, h.foldl fun _ _ h => h.poolGuards, h.flushQueue.ite h, h]
theorem rewriteGroups {before l} (h : Keeps o s) : Keeps o (rewriteGroups before l s) := by
  induction l generalizing s with
  | nil => exact h
  | cons x l ih =>
    cases x with
    | node n => exact ih h.nodeRewrite
    | meter m => exact ih h.meterRewrite
    | slopes e => exact ih h.cbsRewrite
theorem readSideQ {f} (h : Keeps o s) : Keeps o (readSideQ s f) := h.instant.ite h

/-! ### LinkOps -/

theorem modLink {f} (h : Keeps o s) : Keeps o (s.modLink f) := h
theorem setLane {n x} (h : Keeps o s) : Keeps o (s.setLane n x) := h.same
theorem setPrbs {n x} (h : Keeps o s) : Keeps o (s.setPrbs n x) := h.same
theorem creditForget (h : Keeps o s) : Keeps o s.creditForget := h
theorem setLink {t' cause} (h : Keeps o s) : Keeps o (s.setLink t' cause) := h.same
theorem linkTo {t' cause} (h : Keeps o s) : Keeps o (s.linkTo t' cause) := h.same
theorem failLink {cause} (h : Keeps o s) : Keeps o (s.failLink cause) := h.same
theorem linkSettle (h : Keeps o s) : Keeps o s.linkSettle := h.same
theorem laneMoved {dir toSpare k commanded} (h : Keeps o s) : Keeps o (s.laneMoved dir toSpare k commanded) := h.same
theorem laneFails {n cause} (h : Keeps o s) : Keeps o (s.laneFails n cause) := h.same
theorem deskewRequest (h : Keeps o s) : Keeps o s.deskewRequest := h.same
theorem peerRequests {k} (h : Keeps o s) : Keeps o (s.peerRequests k) := by
  refine h.ite (h.modLink.ite ?_)
  extract_lets
  split
  exacts [h.modLink.setPrbs.modLink.laneMoved, h.modLink.modLink.laneMoved.ite h.modLink]
theorem laneAdapt {n} (h : Keeps o s) : Keeps o (s.laneAdapt n) := h.same
theorem adaptLanes {l} (h : Keeps o s) : Keeps o (adaptLanes l s) := h.same
theorem aligned (h : Keeps o s) : Keeps o s.aligned := h.same
theorem setCredit {ch x} (h : Keeps o s) : Keeps o (s.setCredit ch x) := h.same
theorem creditRelease {ch n} (h : Keeps o s) : Keeps o (s.creditRelease ch n) := h.setCredit
theorem sendFrame {ch colour d} (h : Keeps o s) (e : s.sendFrame ch colour d = some t) : Keeps o t := by
  unfold State.sendFrame at e
  split at e
  · cases e
  · dsimp only at e
    split at e
    · obtain rfl := Option.some.inj e
      exact h.setCredit.unspoil.bump.emit
    · obtain rfl := Option.some.inj e
      exact h.setCredit.bump.bump.modLink.emit
theorem sendFrameOr {ch colour d} (h : Keeps o s) : Keeps o ((s.sendFrame ch colour d).getD s) := by
  cases e : s.sendFrame ch colour d with
  | none => exact h
  | some t => exact h.sendFrame e
theorem sendReplies {l} (h : Keeps o s) : Keeps o (sendReplies l s) := by
  induction l generalizing s with
  | nil => exact h
  | cons x l ih =>
    rw [Machine.sendReplies]
    split
    · exact h
    next e => exact ih (h.sendFrame e).aside
theorem pumpReplies (h : Keeps o s) : Keeps o s.pumpReplies := h.sendReplies
theorem sendWaiting {l k} (h : Keeps o s) : Keeps o (sendWaiting l k s) := by
  induction l generalizing s k with
  | nil => exact h
  | cons x l ih =>
    rw [Machine.sendWaiting]
    split
    next e => exact ih (h.sendFrame e)
    · exact ih h
theorem pumpCes (h : Keeps o s) : Keeps o s.pumpCes := h.sendWaiting
theorem applyAl {f old v} (h : Keeps o s) : Keeps o (applyAl s f old v) := by
  unfold Machine.applyAl
  split
  · exact (h.ite h.putCfg.adaptLanes.putCfg).linkSettle
  · refine .ite ?_ ((h.modLink.ite h).modLink.ite (h.modLink.ite h))
    split
    · exact ((h.modLink.ite h).modLink.ite (h.modLink.ite h)).setLink
    · exact ((h.modLink.ite h).modLink.ite (h.modLink.ite h)).bump.setLink
    · exact (h.modLink.ite h).modLink.ite (h.modLink.ite h)
  · extract_lets
    split
    exacts [h, h.setCredit]
  · exact h

/-! ### ChannelOps -/

theorem modCh {c f} (h : Keeps o s) : Keeps o (s.modCh c f) := h.same
theorem bumpCh {c i n} (h : Keeps o s) : Keeps o (s.bumpCh c i n) := h.same
theorem adaptTaps {reach l} (h : Keeps o s) : Keeps o (adaptTaps reach l s).2 := by
  induction l generalizing s with
  | nil => exact h
  | cons x l ih => exact ih h.fresh.fresh
theorem adapt {c} (h : Keeps o s) : Keeps o (s.adapt c) := h.adaptTaps.modCh.ite h
theorem assertLoss {c cause} (h : Keeps o s) : Keeps o (s.assertLoss c cause) := h.same
theorem leaveSync {c cause off} (h : Keeps o s) : Keeps o (s.leaveSync c cause off) := h.same
theorem assertLos {c} (h : Keeps o s) : Keeps o (s.assertLos c) := h.same
theorem stopCh {c lossCause} (h : Keeps o s) : Keeps o (s.stopCh c lossCause) :=
  h.leaveSync.assertLos.modCh.assertLoss
theorem takeMode {c} (h : Keeps o s) : Keeps o (s.takeMode c) := by
  refine h.ite ?_
  extract_lets
  split
  exacts [h.modCh, h.modCh.putCfg.putCfg.putCfg]
theorem clearCh {c} (h : Keeps o s) : Keeps o (s.clearCh c) := h.freeAll.modCh.takeMode
theorem startCh {c} (h : Keeps o s) : Keeps o (s.startCh c) := h.clearCh.modCh
theorem restarted {c} (h : Keeps o s) : Keeps o (s.restarted c) := h.raise
theorem setTx {c t'} (h : Keeps o s) : Keeps o (s.setTx c t') := h.same
theorem txReady {c} (h : Keeps o s) : Keeps o (s.txReady c) := h.same
theorem txUpdate {c} (h : Keeps o s) : Keeps o (s.txUpdate c) := h.same
theorem restartCh {c} (h : Keeps o s) : Keeps o (s.restartCh c) :=
  ((h.assertLoss.leaveSync.expose.setTx.ite h.assertLoss.leaveSync.expose).startCh.ite
      (h.assertLoss.leaveSync.expose.setTx.ite h.assertLoss.leaveSync.expose).clearCh.restarted).txUpdate
theorem applyCh {c f old v} (h : Keeps o s) : Keeps o (applyCh s c f old v) := by
  unfold Machine.applyCh
  split
  · exact ((h.startCh.ite h).stopCh.ite (h.startCh.ite h)).txUpdate
  · exact (h.modCh.ite h).restartCh.ite (h.modCh.ite h)
  · exact h

/-! ### CryptoOps -/

theorem setSlot {i x} (h : Keeps o s) : Keeps o (s.setSlot i x) := h
theorem loadSlot {i key} (h : Keeps o s) : Keeps o (s.loadSlot i key) := h.setSlot
theorem eraseSlot {i} (h : Keeps o s) : Keeps o (s.eraseSlot i) := h.setSlot
theorem useKey {i blocks} (h : Keeps o s) : Keeps o (s.useKey i blocks) := h.ite h.setSlot
theorem keyBegin {slot blocks} (h : Keeps o s) : Keeps o (s.keyBegin slot blocks).2 :=
  h.sndIte (h.bump.sndIte h.useKey)
theorem eraseStore (h : Keeps o s) : Keeps o s.eraseStore := h
theorem alarmErase {src active} (h : Keeps o s) : Keeps o (s.alarmErase src active) := h.aside.bump.raise
theorem loadErase {i} (h : Keeps o s) : Keeps o (s.loadErase i) := h.setSlot.ite h.eraseSlot
theorem loadMsk {i material} (h : Keeps o s) : Keeps o (s.loadMsk i material) := h.loadSlot.raise
theorem loadBroadcast {i v c material} (h : Keeps o s) : Keeps o (s.loadBroadcast i v c material) :=
  h.ite h.useKey.loadSlot
theorem loadMacsec {i material} (h : Keeps o s) : Keeps o (s.loadMacsec i material) := h.loadSlot
theorem keyLoad {h' material} (h : Keeps o s) : Keeps o (s.keyLoad h' material) := by
  unfold State.keyLoad
  split
  exacts [h.loadErase, h.loadMsk, h.loadBroadcast, h.loadMacsec]
theorem applyCry {f v} (h : Keeps o s) : Keeps o (applyCry s f v) := by
  unfold Machine.applyCry
  split
  exacts [h.alarmErase.ite h, h, h]

/-! ### VonuOps -/

theorem setVonu {n x} (h : Keeps o s) : Keeps o (s.setVonu n x) := h
theorem modVch {n c f} (h : Keeps o s) : Keeps o (s.modVch n c f) := h.same
theorem bumpVonu {n k} (h : Keeps o s) : Keeps o (s.bumpVonu n k) := h.same
theorem bumpUnmatched {c} (h : Keeps o s) : Keeps o (s.bumpUnmatched c) := h.same
theorem modB {c f} (h : Keeps o s) : Keeps o (s.modB c f) := h
theorem stampOne {c} (h : Keeps o s) : Keeps o (s.stampOne c) := h.modB
theorem stampTables (h : Keeps o s) : Keeps o s.stampTables := h.stampOne.stampOne
theorem stampVonu {c v} (h : Keeps o s) : Keeps o (s.stampVonu c v) := h.modB
theorem setStage {i x} (h : Keeps o s) : Keeps o (s.setStage i x) := h
theorem stageFlush {i c} (h : Keeps o s) : Keeps o (s.stageFlush i c) := h.bump.setStage.freeAll
theorem setAlloc {i a} (h : Keeps o s) : Keeps o (s.setAlloc i a) := h
theorem allocBind {v c id isDefault} (h : Keeps o s) : Keeps o (s.allocBind v c id isDefault) := by
  unfold State.allocBind
  cases s.mapFor v c id isDefault with
  | none =>
    dsimp only
    split
    exacts [h.setAlloc.raise, h]
  | some t =>
    dsimp only
    generalize (s.allocAt t).isNone = u
    cases u with
    | true => exact h.setAlloc
    | false =>
      dsimp only
      split
      exacts [h.setAlloc.raise, h]
theorem allocRelease {i} (h : Keeps o s) : Keeps o (s.allocRelease i) := by
  unfold State.allocRelease
  split
  exacts [h.stageFlush.setAlloc, h]
theorem allocReleaseAll {v c} (h : Keeps o s) : Keeps o (s.allocReleaseAll v c) := h.foldl fun _ _ h => h.allocRelease
theorem allocReleaseDefault {v c} (h : Keeps o s) : Keeps o (s.allocReleaseDefault v c) := by
  unfold State.allocReleaseDefault
  split
  · split
    exacts [h.allocRelease.ite h, h]
  · exact h
theorem allocTry {v c id isDefault} (h : Keeps o s) : Keeps o (s.allocTry v c id isDefault).2 := by
  unfold State.allocTry
  extract_lets
  split
  exacts [h.sndIte h.raise, h.raise.sndIte (h.raise.sndIte h.allocBind)]
theorem discardCh {v c} (h : Keeps o s) : Keeps o (s.discardCh v c) := h.allocReleaseAll.eraseSlot.eraseSlot.modVch
theorem setAct {v c a} (h : Keeps o s) : Keeps o (s.setAct v c a) := by
  refine .modVch ?_
  split
  exacts [h.discardCh, h.discardCh, h]
theorem tryO23 {v c} (h : Keeps o s) : Keeps o (s.tryO23 v c) := h.modVch.ite h
theorem reportMoves {c before cause} (h : Keeps o s) : Keeps o (s.reportMoves c before cause) := h
theorem reportBatch {l} (h : Keeps o s) : Keeps o (s.reportBatch l) := by
  unfold State.reportBatch
  split
  exacts [h, h.raise, h.foldl fun _ _ h => h.raiseIf]
theorem reportMoved (h : Keeps o s) : Keeps o s.reportMoved := h.aside.foldl fun _ _ h => h.reportBatch
theorem moveOne {v c a cause} (h : Keeps o s) : Keeps o (s.moveOne v c a cause) := h.setAct.tryO23.reportMoves
theorem eqdCheck {v c} (h : Keeps o s) : Keeps o (s.eqdCheck v c) := by
  unfold State.eqdCheck
  split
  · split
    exacts [h.raiseIf, h]
  · exact h
theorem cfgStoreWrite (h : Keeps o s) : Keeps o s.cfgStoreWrite := h.fresh.mramWrite
theorem estopWrite {sn c} (h : Keeps o s) : Keeps o (s.estopWrite sn c) := by
  refine h.aside.cfgStoreWrite.ite ?_
  split
  exacts [h.aside.cfgStoreWrite.raise, h.aside.cfgStoreWrite]
theorem estopErase {sn c} (h : Keeps o s) : Keeps o (s.estopErase sn c) := h.aside.cfgStoreWrite.ite h
theorem upMic {v c m} (h : Keeps o s) : Keeps o (s.upMic v c m).2 := by
  unfold State.upMic
  extract_lets
  split
  next e => exact h.keyBegin.snd e
  next e => exact h.keyBegin.snd e
theorem upPloam {v c m arrived} (h : Keeps o s) : Keeps o (s.upPloam v c m arrived) := by
  refine h.bump.ite ?_
  dsimp only
  split
  exacts [h.upMic, h.upMic.modVch.bumpVonu.ite h.upMic.modVch]
theorem expireOne {c v} (h : Keeps o s) : Keeps o (s.expireOne c v) := by
  refine h.ite ?_
  split
  exacts [h.allocReleaseDefault.modVch, h.setAct.tryO23, h]
theorem timerExpiry {c v a} (h : Keeps o s) : Keeps o (s.timerExpiry c v a) := h.ite h.expireOne.reportMoves.stampVonu
theorem tuningDone {c ok v} (h : Keeps o s) : Keeps o (s.tuningDone c ok v) := h.raise
theorem tuningExpiry {c v a} (h : Keeps o s) : Keeps o (s.tuningExpiry c v a) :=
  h.ite h.setAct.tryO23.reportMoves.tuningDone.stampVonu
theorem expireDue {c v} (h : Keeps o s) : Keeps o (s.expireDue c v) := by
  unfold State.expireDue
  split
  exacts [h.timerExpiry, h.timerExpiry, h.tuningExpiry, h.tuningExpiry, h]
theorem conditionOne {c fell cleared loss v} (h : Keeps o s) : Keeps o (s.conditionOne c fell cleared loss v) := by
  refine .ite ?_ ?_
  · split
    · refine .setAct (.ite ?_ ?_)
      · split
        · refine .modVch (.ite ?_ h)
          split
          exacts [h.setAct, h.setAct, h.modVch, h]
        · refine .tryO23 (.ite ?_ h)
          split
          exacts [h.setAct, h.setAct, h.modVch, h]
      · refine .ite ?_ h
        split
        exacts [h.setAct, h.setAct, h.modVch, h]
    · refine .ite ?_ ?_
      · split
        · refine .modVch (.ite ?_ h)
          split
          exacts [h.setAct, h.setAct, h.modVch, h]
        · refine .tryO23 (.ite ?_ h)
          split
          exacts [h.setAct, h.setAct, h.modVch, h]
      · refine .ite ?_ h
        split
        exacts [h.setAct, h.setAct, h.modVch, h]
  · refine .ite ?_ ?_
    · split
      · refine .modVch (.ite ?_ h)
        split
        exacts [h.setAct, h.setAct, h.modVch, h]
      · refine .tryO23 (.ite ?_ h)
        split
        exacts [h.setAct, h.setAct, h.modVch, h]
    · refine .ite ?_ h
      split
      exacts [h.setAct, h.setAct, h.modVch, h]
theorem fanout {c} (h : Keeps o s) : Keeps o (s.fanout c) :=
  ((h.foldl fun _ _ h => h.expireDue).modCh.foldl fun _ _ h => h.conditionOne).reportMoves.ite h.modCh
theorem omciTxApply {words} (h : Keeps o s) : Keeps o (s.omciTxApply words) := by
  unfold State.omciTxApply
  split
  · exact h
  · extract_lets
    split
    next e => exact h.keyBegin.snd e
    next e =>
      have h := h.keyBegin.snd e
      exact h.modVch
theorem refusedVonu {f v status} (h : Keeps o s) : Keeps o (refusedVonu s f v status) := h.raise.ite h

/-! ### TimeOps -/

theorem modTime {f} (h : Keeps o s) : Keeps o (s.modTime f) := h
theorem ppsSettle (h : Keeps o s) : Keeps o s.ppsSettle := h.same
theorem setServo {v} (h : Keeps o s) : Keeps o (s.setServo v) := h.same
theorem setEec {v} (h : Keeps o s) : Keeps o (s.setEec v) := h.same
theorem stepTime {ns byHost} (h : Keeps o s) : Keeps o (s.stepTime ns byHost) :=
  (h.regate fun _ h => h.modTime).bump.raise
theorem setInc {inc} (h : Keeps o s) : Keeps o (s.setInc inc) := h.instant.modTime
theorem servoOwner {host} (h : Keeps o s) : Keeps o (s.servoOwner host) := h.ite h.modTime.setServo
theorem timeEntry (h : Keeps o s) : Keeps o s.timeEntry := h.modTime.setServo.setEec
theorem eecOnRef (h : Keeps o s) : Keeps o s.eecOnRef := by
  unfold State.eecOnRef
  split
  exacts [h.modTime.setEec.ite h.setEec, h]
theorem latch {c sfc count} (h : Keeps o s) : Keeps o (s.latch c sfc count) := h.ite h.modTime
theorem todTake {c x} (h : Keeps o s) : Keeps o (s.todTake c x) := h.modTime.ite h
theorem todPut {c status sfc err d} (h : Keeps o s) : Keeps o (s.todPut c status sfc err d) :=
  h.modTime.bump.bumpIf.raise
theorem todFail {c status sfc} (h : Keeps o s) : Keeps o (s.todFail c status sfc) := h.fresh.fresh.todPut
theorem servoUse {e} (h : Keeps o s) : Keeps o (s.servoUse e) := by
  refine h.modTime.stepTime.modTime.setServo.ite (h.modTime.fresh.fresh.setInc.modTime.setServo.ite ?_)
  split
  · exact h.modTime.fresh.fresh.setInc.modTime.setServo
  · exact h.modTime.fresh.fresh.setInc.modTime.setServo
  · exact h.modTime.fresh.fresh.setInc.modTime
theorem todCompute {c x still} (h : Keeps o s) : Keeps o (s.todCompute c x still) := by
  unfold State.todCompute
  extract_lets
  split
  · exact h.modTime.todFail
  · split
    exacts [h.modTime.todFail, h.modTime.todPut.ite (h.modTime.todPut.modTime.ite h.modTime.todPut.servoUse)]
theorem todMessage {b} (h : Keeps o s) : Keeps o (s.todMessage b) := h.bump.ite (h.todTake.ite h.bump.todFail)
theorem tsQueue {d} (h : Keeps o s) : Keeps o (s.tsQueue d) := h.modTime.bump.raiseIf.ite h.modTime
theorem stamp {k rx m raw xgem vonu} (h : Keeps o s) : Keeps o (s.stamp k rx m raw xgem vonu) := h.ite h.bump.tsQueue
theorem stampEth {e rx frame raw} (h : Keeps o s) : Keeps o (s.stampEth e rx frame raw) := by
  unfold State.stampEth
  split
  exacts [h.stamp.ite h, h]
theorem tsDeliver (h : Keeps o s) : Keeps o s.tsDeliver := by
  unfold State.tsDeliver
  split
  · exact h
  · refine (h.ite h.modTime).ite ?_
    split
    next e => exact (h.sendFrame e).modTime
    · exact h
theorem ppsIn {count} (h : Keeps o s) : Keeps o (s.ppsIn count) := h.ite h.modTime.bump.raiseIf.raiseIf
theorem applyTime {f} (h : Keeps o s) : Keeps o (applyTime s f) := by
  unfold Machine.applyTime
  split
  exacts [h.ppsSettle, h.ppsSettle, h]
theorem readSideTime {f} (h : Keeps o s) : Keeps o (readSideTime s f) := h.instant.ite h

/-! ### BurinOps -/

theorem bumpB {c k n} (h : Keeps o s) : Keeps o (s.bumpB c k n) := h.same
theorem once {c code b p} (h : Keeps o s) : Keeps o (s.once c code b p) := h.modB.raise.ite h
theorem drawSlots {k n l} (h : Keeps o s) : Keeps o (drawSlots k n l s).2 := by
  induction n generalizing s l with
  | zero => exact h
  | succ n ih => exact ih h.fresh
theorem snAnswer {c g own} (h : Keeps o s) : Keeps o (s.snAnswer c g own).2 := by
  unfold State.snAnswer
  extract_lets t base
  refine h.sndIte (h.bump.sndIte ?_)
  extract_lets
  split
  next e =>
    extract_lets s1 drafts
    have h1 : Keeps o s1 := (h.drawSlots.snd e).foldl fun _ _ h => h.modVch
    exact h1.sndIte (h1.aside.raiseIf)
theorem decodeStructs {c l n k} (h : Keeps o s) : Keeps o (decodeStructs c l n k s).2.2 := by
  induction l generalizing s n k with
  | nil => exact h
  | cons x l ih =>
    rw [Machine.decodeStructs]
    split
    · exact ih h
    · split
      · exact ih h.snAnswer
      · dsimp only
        split
        · exact ih h
        · split
          · split <;> exact ih h.setStage
          · exact ih h.setStage
theorem admitBursts {c l a} (h : Keeps o s) : Keeps o (admitBursts c l a s).2 := by
  induction l generalizing s a with
  | nil => exact h
  | cons x l ih =>
    rw [Machine.admitBursts]
    refine .sndIte (ih h.bumpB) (.sndIte (ih h.bumpB) (.sndIte (ih h.bumpB) (.sndIte (ih h.bumpB) ?_)))
    extract_lets
    split <;> exact ih h.bumpB
theorem urgentTrim (h : Keeps o s) : Keeps o s.urgentTrim := h
theorem urgentDone {b} (h : Keeps o s) : Keeps o (s.urgentDone b) := h
theorem turnPast {i now} (h : Keeps o s) : Keeps o (s.turnPast i now) := h.ite h.aside
theorem stageOne {i} (h : Keeps o s) : Keeps o (s.stageOne i) := by
  unfold State.stageOne
  split
  · exact h
  · refine h.ite (h.instant.turnPast.requalify.ite ?_)
    split
    · exact h.instant.turnPast.requalify
    · extract_lets
      split
      next e => exact h.instant.turnPast.requalify.takeChain.snd e
      next e =>
        have h := h.instant.turnPast.requalify.takeChain.snd e
        split
        next e => exact (h.releaseHead.snd e).freeAll
        next e =>
          have h := h.releaseHead.snd e
          exact h.bindPacket.freeAll.freeAll.tcontRemoved.ite h.bindPacket.passAll.freeAll.setStage.urgentTrim
theorem takeSnapshots (h : Keeps o s) : Keeps o s.takeSnapshots := h.foldl fun _ _ h => h.setStage
theorem adoptSnapshots (h : Keeps o s) : Keeps o s.adoptSnapshots := by
  refine h.foldl fun _ _ h => ?_
  split
  exacts [h.setStage, h]
theorem spoilEach {items l} (h : Keeps o s) : Keeps o (spoilEach items l s) := by
  induction l generalizing s with
  | nil => exact h
  | cons x l ih => exact ih (h.fresh.setStage.ite h.fresh)
theorem spoilSnapshots {items} (h : Keeps o s) : Keeps o (s.spoilSnapshots items) := h.spoilEach
theorem stageRemoved {i n} (h : Keeps o s) : Keeps o (s.stageRemoved i n) := h.setStage
theorem sealPiece {c b pos f m slot} (h : Keeps o s) : Keeps o (s.sealPiece c b pos f m slot).2 := by
  cases slot with
  | none => exact h
  | some k => exact h.useKey
theorem fillAlloc {c b i d n m m' l} (h : Keeps o s) : Keeps o (fillAlloc c b i d n m m' l s).2.2.2 := by
  induction n generalizing s m m' l with
  | zero => exact h
  | succ n ih =>
    rw [Machine.fillAlloc]
    dsimp only
    split
    · exact h
    · refine iteOf (fun p : List UpXgem × Nat × Short × State => p.2.2.2) h ?_
      split
      · exact h
      · exact iteOf (fun p : List UpXgem × Nat × Short × State => p.2.2.2) h (ih h.sealPiece.setStage.stageRemoved)
theorem countIdle {c tick i idle why} (h : Keeps o s) : Keeps o (s.countIdle c tick i idle why) := by
  unfold State.countIdle
  split
  exacts [h.bump, h.bump, h.bumpB.once.ite h.bumpB]
theorem commitAlloc {c b d done a} (h : Keeps o s) : Keeps o (s.commitAlloc c b d done a).2 := by
  unfold State.commitAlloc
  extract_lets v own isDefault
  generalize (if isDefault then _ else _) = q
  obtain ⟨msgs, left, at_, shut⟩ := q
  cases shut
  exacts [h.modVch.fillAlloc.countIdle, h.modVch.countIdle]
theorem commitAllocs {c b n m l k} (h : Keeps o s) : Keeps o (commitAllocs c b n m l k s).2 := by
  induction l generalizing s n m k with
  | nil => exact h
  | cons x l ih => exact ih h.commitAlloc
theorem identityUp {v c m} (h : Keeps o s) : Keeps o (s.identityUp v c m).2 := h.upMic
theorem takeUp {c b} (h : Keeps o s) : Keeps o (s.takeUp c b).2 := by
  unfold State.takeUp
  extract_lets
  split
  · exact h.identityUp
  · exact h.identityUp
  · refine h.sndIte ?_
    split
    exacts [h, h.modVch]
theorem commitBurst {c b} (h : Keeps o s) : Keeps o (s.commitBurst c b).2 := h.commitAllocs.takeUp.urgentDone
theorem unstage {v i x} (h : Keeps o s) : Keeps o (s.unstage v i x) := h.setStage.ite h.freeAll
theorem restoreBurst {c b} (h : Keeps o s) : Keeps o (s.restoreBurst c b) :=
  (h.urgentDone.foldl fun _ _ h => h.foldl fun _ _ h => h.unstage).ite (h.urgentDone.foldl fun _ _ h =>
      h.foldl fun _ _ h => h.unstage).modVch
theorem trip {c cause vonu tick} (h : Keeps o s) : Keeps o (s.trip c cause vonu tick) :=
  h.modB.bumpB.lived.raise.modB.setTx.raise.ite h.modB.bumpB.lived.raise
theorem stampPieces {c b l} (h : Keeps o s) : Keeps o (stampPieces c b l s) := by
  induction l generalizing s with
  | nil => exact h
  | cons x l ih =>
    refine ih ?_
    split
    exacts [h.stamp, h]
theorem burstStamps {c b sent} (h : Keeps o s) : Keeps o (s.burstStamps c b sent) := h.stampPieces.ite h
theorem abandon {c b whole} (h : Keeps o s) : Keeps o (s.abandon c b whole) := h.fresh.modB.bumpB.burstStamps.freeAll
theorem switchSettle {c} (h : Keeps o s) : Keeps o (s.switchSettle c) := h.modB
theorem rearm {c} (h : Keeps o s) : Keeps o (s.rearm c) := h.setTx.modB.switchSettle.raise.expose.txUpdate
theorem applyBurin {f v} (h : Keeps o s) : Keeps o (applyBurin s f v) := by
  unfold Machine.applyBurin
  extract_lets
  split
  exacts [(h.rearm.ite h).modB.ite (h.rearm.ite h), h]
theorem readSideBurin {f} (h : Keeps o s) : Keeps o (readSideBurin s f) := h.aside.ite h

/-! ### CesOps -/

theorem setTrib {k x} (h : Keeps o s) : Keeps o (s.setTrib k x) := h
theorem modTrib {k f} (h : Keeps o s) : Keeps o (s.modTrib k f) := h.same
theorem upFramer {k bits} (h : Keeps o s) : Keeps o (s.upFramer k bits) := h.fresh.setTrib.bump.bump.raiseIf
theorem upGap {k n} (h : Keeps o s) : Keeps o (s.upGap k n) := by
  induction n generalizing s with
  | zero => exact h
  | succ n ih => exact ih h.upFramer
theorem ssBack {k} (h : Keeps o s) : Keeps o (s.ssBack k) := h.modTrib.raise.ite h
theorem slotStream {k b} (h : Keeps o s) : Keeps o (s.slotStream k b) :=
  h.ite (h.bump.ite (h.ite h.ssBack.setTrib.upGap.upFramer.bumpIf))
theorem packetBuild {k} (h : Keeps o s) : Keeps o (s.packetBuild k) := by
  unfold State.packetBuild
  extract_lets
  split
  · exact h
  · refine h.setTrib.unspoil.bump.ite ?_
    split
    · exact h.setTrib.bump
    · split
      next e => exact (h.setTrib.takeCell.snd e).bump
      next e => exact (h.setTrib.takeCell.snd e).bump.passAll.admitTo
theorem lopsSeq {k seq} (h : Keeps o s) : Keeps o (s.lopsSeq k seq) := h.setTrib.modTrib.raise.ite h.setTrib
theorem jbStore {k seq p} (h : Keeps o s) : Keeps o (s.jbStore k seq p) := h.modTrib.bump
theorem jbPlace {k seq p} (h : Keeps o s) : Keeps o (s.jbPlace k seq p) :=
  h.modTrib.jbStore.lopsSeq.ite (h.bump.ite (h.jbStore.lopsSeq.ite h.modTrib.bump.raise.jbStore.lopsSeq))
theorem pwReceive {k b} (h : Keeps o s) : Keeps o (s.pwReceive k b) := by
  unfold State.pwReceive
  split
  exacts [h.bump, h.modTrib.bumpIf.bumpIf.jbPlace]
theorem playContent {k data ais} (h : Keeps o s) : Keeps o (s.playContent k data ais) := h.modTrib
theorem playPosition {k} (h : Keeps o s) : Keeps o (s.playPosition k) := by
  unfold State.playPosition
  extract_lets
  split
  exacts [h.setTrib.playContent, h.setTrib.bump.playContent.ite h.setTrib.bump.raise]
theorem monitorFrame {k bits} (h : Keeps o s) : Keeps o (s.monitorFrame k bits) := h.ite h.fresh.setTrib.raiseIf
theorem ncoUpdate {k} (h : Keeps o s) : Keeps o (s.ncoUpdate k) := by
  unfold State.ncoUpdate
  split
  exacts [h.modTrib, h.fresh.modTrib, h.fresh.modTrib]
theorem slip {k drop} (h : Keeps o s) : Keeps o (s.slip k drop) :=
  h.ite (h.setTrib.bump.ite h.setTrib.bump.modTrib.raise)
theorem slotSend {k} (h : Keeps o s) : Keeps o (s.slotSend k) := by
  unfold State.slotSend
  extract_lets _ s1
  have h1 : Keeps o s1 := h.slip.ite h
  split
  · exact h1
  · extract_lets
    split
    next e => exact h1.setTrib.bumpIf.monitorFrame.ncoUpdate.sendFrame e
    · exact h1.setTrib.bumpIf.monitorFrame.ncoUpdate.modLink
theorem tribStart {k} (h : Keeps o s) : Keeps o (s.tribStart k) := h.fresh.fresh.fresh.setTrib
theorem tribStop {k} (h : Keeps o s) : Keeps o (s.tribStop k) := h.setTrib
theorem cesEntry (h : Keeps o s) : Keeps o s.cesEntry := h.foldl fun _ _ h => h.tribStart.ite h
theorem cesExit (h : Keeps o s) : Keeps o s.cesExit := h
theorem applyCes {f old v} (h : Keeps o s) : Keeps o (applyCes s f old v) := by
  unfold Machine.applyCes
  extract_lets
  split
  exacts [(h.tribStart.ite h).tribStop.ite (h.tribStart.ite h), h]

/-! ### EthOps -/

theorem modEth {e f} (h : Keeps o s) : Keeps o (s.modEth e f) := h.same
theorem bumpEth {e k n} (h : Keeps o s) : Keeps o (s.bumpEth e k n) := h.same
theorem txDone {e} (h : Keeps o s) : Keeps o (s.txDone e) := h.same
theorem eeeResolve {e} (h : Keeps o s) : Keeps o (s.eeeResolve e) := h.same
theorem holdChange {e f} (h : Keeps o s) : Keeps o (s.holdChange e f) := h.same
theorem setEth {e t' cause} (h : Keeps o s) : Keeps o (s.setEth e t' cause) := h.same
theorem exposePort {e} (h : Keeps o s) : Keeps o (s.exposePort e) := h.same
theorem ethUnloop {e} (h : Keeps o s) : Keeps o (s.ethUnloop e) := h.same
theorem ethRates {e} (h : Keeps o s) : Keeps o (s.ethRates e) := h.same
theorem ethSettle {e cause} (h : Keeps o s) : Keeps o (s.ethSettle e cause) := h.same
theorem fecTick {e} (h : Keeps o s) : Keeps o (s.fecTick e) := h.ite h.fresh.fresh.bumpEth.bumpEth
theorem ethRestartPort {e} (h : Keeps o s) : Keeps o (s.ethRestartPort e) := h.setEth.ethUnloop.ethSettle
theorem sendPause {e quanta} (h : Keeps o s) : Keeps o (s.sendPause e quanta) := h.txDone.modEth.bumpEth.emit
theorem fcCheck {e} (h : Keeps o s) : Keeps o (s.fcCheck e) :=
  (h.ite h.modEth).ite ((h.ite h.modEth).modEth.sendPause.ite ((h.ite h.modEth).modEth.sendPause.ite
      (h.ite h.modEth)))
theorem pauseIn {e quanta} (h : Keeps o s) : Keeps o (s.pauseIn e quanta) := h.bumpEth.holdChange.ite h.bumpEth
theorem pfcIn {e vec quanta} (h : Keeps o s) : Keeps o (s.pfcIn e vec quanta) := h.bumpEth.holdChange.ite h.bumpEth
theorem countRx {e n b} (h : Keeps o s) : Keeps o (s.countRx e n b) :=
  ((h.bumpEth.bumpEth.bumpEth.ite h.bumpEth.bumpEth).bumpEth.ite
      (h.bumpEth.bumpEth.bumpEth.ite h.bumpEth.bumpEth)).bumpEth
theorem ethQueue {e b} (h : Keeps o s) : Keeps o (s.ethQueue e b) := by
  refine h.bumpEth.modEth.raiseIf.ite ?_
  extract_lets
  split
  next e => exact h.modEth.buildChain.snd e
  next e =>
    have h := h.modEth.buildChain.snd e
    exact h.aside.fcCheck
theorem lldpIn {e tw} (h : Keeps o s) : Keeps o (s.lldpIn e tw) := h.modEth.eeeResolve.ite h
theorem secTx {e b} (h : Keeps o s) : Keeps o (s.secTx e b).2 :=
  h.sndIte (h.putCfg.putCfg.useKey.bumpEth.modEth.sndIte h.bumpEth.modEth.raiseIf)
theorem macSend {e b now} (h : Keeps o s) : Keeps o (s.macSend e b now) := by
  refine h.txDone.unspoil.bumpEth.ite (h.txDone.bumpEth.ite ?_)
  split
  next e => exact h.txDone.secTx.snd e
  next e =>
    have h := h.txDone.secTx.snd e
    exact h.modEth.stampEth
theorem lldpSend {e} (h : Keeps o s) : Keeps o (s.lldpSend e) := h.ite (h.modEth.ite h.modEth.instant.macSend)
theorem lldpHeld {e} (h : Keeps o s) : Keeps o (s.lldpHeld e) := h.lldpSend.ite h
theorem macControl {e b} (h : Keeps o s) : Keeps o (s.macControl e b) := by
  unfold State.macControl
  split
  exacts [h.pauseIn.lldpHeld, h.pfcIn, h]
theorem ethAccept {e b} (h : Keeps o s) : Keeps o (s.ethAccept e b) := by
  refine h.bumpEth.ite (h.macControl.ite (h.bumpEth.ite (.ite ?_ h.ethQueue)))
  split
  exacts [h.lldpIn, h]
theorem ethTake {e b fcsOk count} (h : Keeps o s) : Keeps o (s.ethTake e b fcsOk count) :=
  h.unspoil.bumpEth.ite (h.bumpEth.ite (h.bumpEth.ite (h.bumpEth.ite h.countRx.stampEth.ethAccept)))
theorem ethFrame {e b fcsOk count} (h : Keeps o s) : Keeps o (s.ethFrame e b fcsOk count) := h.ite h.ethTake
theorem takeAll {e l} (h : Keeps o s) : Keeps o (takeAll e l s) := by
  induction l generalizing s with
  | nil => exact h
  | cons x l ih => exact ih h.instant.ethTake
theorem loopBack {e} (h : Keeps o s) : Keeps o (s.loopBack e) := h.modEth.takeAll
theorem ethTicks {l} (h : Keeps o s) : Keeps o (ethTicks l s) := by
  induction l generalizing s with
  | nil => exact h
  | cons x l ih => exact ih h.txDone.loopBack.fecTick
theorem secRx {e b} (h : Keeps o s) : Keeps o (s.secRx e b).2 := by
  refine h.sndIte ?_
  extract_lets
  split
  · exact h
  · refine h.sndIte (h.sndIte (h.sndIte (h.sndIte (h.sndIte ?_))))
    extract_lets
    split
    exacts [h.useKey, h.useKey.putCfg.putCfg]
theorem applyEth {f old v} (h : Keeps o s) : Keeps o (applyEth s f old v) := by
  unfold Machine.applyEth
  extract_lets
  split
  · exact h.ite ((h.foldl fun _ _ h => h.setEth.ethUnloop).foldl fun _ _ h => h.ethSettle).expose
  · exact h.ethRestartPort.exposePort.ite h.ethSettle
  · exact h.ethRestartPort.ite h
  · exact h.fcCheck
  · exact (h.ite h.modEth).eeeResolve.ite (h.ite h.modEth)
  · exact h

/-! ### ClassOps -/

theorem modCls {f} (h : Keeps o s) : Keeps o (s.modCls f) := h
theorem markRule {plate e how} (h : Keeps o s) : Keeps o (s.markRule plate e how) := h.ite h.modCls.raise
theorem lookAction {plate key g unmatched} (h : Keeps o s) : Keeps o (s.lookAction plate key g unmatched).2 := by
  unfold State.lookAction
  split
  · exact h.bump.markRule.sndIte h.bump
  · split <;> exact h.bump
theorem fragStore {k a plate} (h : Keeps o s) : Keeps o (s.fragStore k a plate) :=
  h.bump.bump.modCls.raiseIf.ite h.bump.modCls
theorem fragUse {k} (h : Keeps o s) : Keeps o (s.fragUse k) := h.bump.modCls
theorem dropPkt {p counter} (h : Keeps o s) : Keeps o (s.dropPkt p counter) := h.bump.freeAll
theorem countAction {set_ bytes} (h : Keeps o s) : Keeps o (s.countAction set_ bytes) := by
  unfold State.countAction
  split
  exacts [h.bump.bump, h]
theorem dispose {x p second} (h : Keeps o s) : Keeps o (s.dispose x p second) := by
  unfold State.dispose
  split
  · split
    exacts [h.dropPkt, h.modCls]
  · exact h.dropPkt
  · refine h.dropPkt.ite ((h.modCls.ite h.dropPkt).ite ?_)
    split
    exacts [h.modCls, h.dropPkt]
theorem countParse {g} (h : Keeps o s) : Keeps o (s.countParse g) := h.bumpIf.bumpIf
theorem classify {k plate start first} (h : Keeps o s) : Keeps o (s.classify k plate start first) := by
  unfold State.classify
  extract_lets s1 p i s2 key bytes done
  have h2 : Keeps o s2 := h.bump.countParse
  have hdone : ∀ t a u, Keeps o t → Keeps o (done t a u) := fun _ _ _ h => h.countAction.dispose
  split
  · exact hdone _ _ _ h2.fragUse
  · split
    next e => exact (h2.bumpIf.lookAction.snd e).freeAll
    next e =>
      have h4 := h2.bumpIf.lookAction.snd e
      exact hdone _ _ _ (h4.fragStore.ite h4)
theorem retireIfClear (h : Keeps o s) : Keeps o s.retireIfClear := h.modCls.raise.ite h
theorem swapPlates {plate} (h : Keeps o s) : Keeps o (s.swapPlates plate) := h.modCls.raise.retireIfClear
theorem copyPlate (h : Keeps o s) : Keeps o s.copyPlate :=
  ((h.dropCfg (keep := fun a => !inPlate (1 - b2n s.cls.active) a)).foldl fun _ _ h => h.putCfg).modCls
theorem applyCls {f v} (h : Keeps o s) : Keeps o (applyCls s f v) := by
  unfold Machine.applyCls
  split
  exacts [h.modCls.ite h, h]

/-! ### PowerOps -/

theorem modPower {f} (h : Keeps o s) : Keeps o (s.modPower f) := h
theorem modDom {d f} (h : Keeps o s) : Keeps o (s.modDom d f) := h.same
theorem setDomSt {d t'} (h : Keeps o s) : Keeps o (s.setDomSt d t') := h.same
theorem refuseEntry {d who n} (h : Keeps o s) : Keeps o (s.refuseEntry d who n) := h.same
theorem dieAsk {d on} (h : Keeps o s) : Keeps o (s.dieAsk d on) := h.same
theorem settle (h : Keeps o s) : Keeps o s.settle := h.same
theorem losFill (h : Keeps o s) : Keeps o s.losFill := h.putCfg.putCfg
theorem deviceReset {cause src ph} (h : Keeps o s) : Keeps o (s.deviceReset cause src ph) := by
  refine losFill { h with words := fun w => ?_ }
  dsimp only
  split
  · rfl
  · exact filter_wfBy _ (h.words w)
theorem enterSafe {cause} (h : Keeps o s) : Keeps o (s.enterSafe cause) :=
  h.ite h.modB.modCh.modB.modCh.logWrite.aside.bump.modPower
theorem pktClear (h : Keeps o s) : Keeps o s.pktClear := h
theorem imagesLost (h : Keeps o s) : Keeps o s.imagesLost :=
  h.dropCfg (keep := fun a => (findObj a).all fun f : Found => decide (f.dom ≠ 6))
theorem parseReset (h : Keeps o s) : Keeps o s.parseReset := h.dropCfg
theorem settlePorts {l} (h : Keeps o s) : Keeps o (settlePorts l s) := by
  induction l generalizing s with
  | nil => exact h
  | cons x l ih => exact ih h.ethSettle
theorem freshPorts {l} (h : Keeps o s) : Keeps o (freshPorts l s) := by
  induction l generalizing s with
  | nil => exact h
  | cons x l ih => exact ih h.modEth
theorem rxExit {c} (h : Keeps o s) : Keeps o (s.rxExit c) := h.stopCh.modCh.txUpdate
theorem txExit {c} (h : Keeps o s) : Keeps o (s.txExit c) := (h.modCh.modB.setTx.ite h.modCh.modB).txUpdate
theorem dramGone (h : Keeps o s) : Keeps o s.dramGone := h
theorem prbsStop {gone} (h : Keeps o s) : Keeps o (s.prbsStop gone) := h
theorem exitHook {d} (h : Keeps o s) : Keeps o (s.exitHook d) := by
  unfold State.exitHook
  extract_lets s1
  have h1 : Keeps o s1 := by
    unfold s1
    split
    exacts [h.flushStream, h]
  split
  exacts [h1.aside.stopPools, h1.rxExit, h1.rxExit, h1.txExit, h1.txExit, h1.pktClear.stopPools,
    h1.stopPools.aside.dramGone.imagesLost, h1.linkSettle.modLink.creditForget.prbsStop, h1.settlePorts.prbsStop,
    h1.cesExit, h1.modTime, h1]
theorem bootImage (h : Keeps o s) : Keeps o s.bootImage := by
  unfold State.bootImage
  split
  exacts [h, h.aside.modDom]
theorem setVotes {client ds} (h : Keeps o s) : Keeps o (s.setVotes client ds) := h.foldl fun _ _ h => h.modDom
theorem defaultVotes (h : Keeps o s) : Keeps o s.defaultVotes := h.setVotes.ite h.setVotes
theorem initPools {l} (h : Keeps o s) : Keeps o (initPools l s) := by
  induction l generalizing s with
  | nil => exact h
  | cons x l ih => exact ih h.poolInit
theorem rxEntry {c} (h : Keeps o s) : Keeps o (s.rxEntry c) := h.modCh.startCh.ite h.modCh
theorem packetEntry {l} (h : Keeps o s) :
    Keeps o (
      let s := Machine.initPools l s
      let s := { s with burin := { s.burin with lowWater := 65536 } }
      if s.phase = .booting then s.defaultVotes else s) :=
  h.initPools.aside.defaultVotes.ite h.initPools.aside
theorem dramEntry {l} (h : Keeps o s) :
    Keeps o (let s := (Machine.initPools l s).expose 6; if s.phase = .booting then s.bootImage else s) :=
  h.initPools.expose.bootImage.ite h.initPools.expose
theorem enterHook {d} (h : Keeps o s) : Keeps o (s.enterHook d) := by
  unfold State.enterHook
  extract_lets +onlyGivenNames s1
  have h1 : Keeps o s1 := by
    unfold s1
    split
    exacts [h.spuriousOnce, h]
  clear_value s1
  split
  exacts [h1.initPools, h1.rxEntry, h1.rxEntry, h1.switchSettle.txUpdate, h1.switchSettle.txUpdate,
    h1.pktClear.parseReset.packetEntry, h1.aside.dramGone.dramEntry, h1.linkSettle, h1.aside.freshPorts.settlePorts,
    h1.cesEntry, h1.timeEntry.gatesTouch, h1]
theorem clamp {d} (h : Keeps o s) : Keeps o (s.clamp d) :=
  h.ite ((h.regate fun _ h => h.modDom.exitHook).ite h.modDom.exitHook)
theorem askOff {d} (h : Keeps o s) : Keeps o (s.askOff d) := h.ite h.modDom.dieAsk
theorem isolate {d} (h : Keeps o s) : Keeps o (s.isolate d) := h.clamp.askOff
theorem forceOff {d} (h : Keeps o s) : Keeps o (s.forceOff d) := by
  unfold State.forceOff
  split
  exacts [h, h, h.isolate.setDomSt.reclaim]
theorem failDom {d cause} (h : Keeps o s) : Keeps o (s.failDom d cause) := h.modDom.setDomSt.raise.reclaim
theorem dropBelow {d} (h : Keeps o s) : Keeps o (s.dropBelow d) := h.foldl fun _ _ h => h.forceOff
theorem dieAck (h : Keeps o s) : Keeps o s.dieAck := by
  unfold State.dieAck
  split
  exacts [h, (h.modPower.modDom.ite h.modPower).ite (h.modPower.setDomSt.reclaim.ite h.modPower)]
theorem dieTimeout (h : Keeps o s) : Keeps o s.dieTimeout := by
  unfold State.dieTimeout
  split
  · exact h
  · exact (h.bump.raise.expose.modPower.clamp.failDom.dropBelow.enterSafe.ite
      h.bump.raise.expose.modPower.clamp.failDom.dropBelow).ite h.bump.raise.expose.modPower
theorem domUp {d} (h : Keeps o s) : Keeps o (s.domUp d) := (h.rebase.ite h).modDom.setDomSt.enterHook.settle.ite h
theorem railFault {d} (h : Keeps o s) : Keeps o (s.railFault d) := by
  refine h.ite ?_
  extract_lets
  split
  · exact h.modDom.bump.raise
  · exact h.modDom.bump.raise.modCh.modB.txUpdate
  · exact h.modDom.bump.raise.modCh.modB.txUpdate
  · exact h.modDom.bump.raise.enterSafe
  · exact h.modDom.bump.raise.enterSafe
  · exact h.modDom.bump.raise.modDom.clamp.dropBelow.askOff.failDom
theorem railClear {d} (h : Keeps o s) : Keeps o (s.railClear d) := by
  refine h.ite ?_
  extract_lets
  split
  · exact h.modDom.raise.modCh.switchSettle.txUpdate
  · exact h.modDom.raise.modCh.switchSettle.txUpdate
  · exact h.modDom.raise
theorem domRetry {d} (h : Keeps o s) : Keeps o (s.domRetry d) := h.modDom.setDomSt.settle.ite h
theorem startSleep (h : Keeps o s) : Keeps o s.startSleep := (h.aside.foldl fun _ _ h => h.modDom).eraseStore.settle
theorem wake {source} (h : Keeps o s) : Keeps o (s.wake source) := h.ite (h.deviceReset.ite (h.modPower.ite h))
theorem wakeContact (h : Keeps o s) : Keeps o s.wakeContact := h.modPower.ite h.wake
theorem armWake (h : Keeps o s) : Keeps o s.armWake := h.aside.wake.ite h.aside
theorem wakeAddress (h : Keeps o s) : Keeps o s.wakeAddress := h.emit.wake.ite h.emit
theorem quiesceEnd {d} (h : Keeps o s) : Keeps o (s.quiesceEnd d) := (h.isolate.armWake.ite h.isolate).ite h
theorem release (h : Keeps o s) : Keeps o s.release := h.aside.setVotes.settle
theorem ready (h : Keeps o s) : Keeps o s.ready := by
  refine .ite (.settle (.modPower ?_)) h
  split
  exacts [h.aside.ringWrite.noteFault, h]
theorem setBank {b x} (h : Keeps o s) : Keeps o (s.setBank b x) := h
theorem imageBegin {b n} (h : Keeps o s) : Keeps o (s.imageBegin b n) := by
  unfold State.imageBegin
  extract_lets s1
  have h1 : Keeps o s1 := by
    unfold s1
    split
    exacts [h.ite h.setBank, h]
  exact h1
theorem bankPages {b off n} (h : Keeps o s) : Keeps o (s.bankPages b off n) := h.foldl fun _ _ h => h.mramWrite
theorem imageData {b off data} (h : Keeps o s) : Keeps o (s.imageData b off data) := h.setBank.bankPages
theorem imageVerify {b} (h : Keeps o s) : Keeps o (s.imageVerify b).2 := h.setBank.raise
theorem prefer {b} (h : Keeps o s) : Keeps o (s.prefer b) :=
  h.of_eq (by simp [State.prefer]) (by simp [State.prefer]) (by simp [State.prefer]) (by simp [State.prefer])
theorem imageInService {b} (h : Keeps o s) : Keeps o (s.imageInService b) := h.aside.prefer
theorem applyPwr {f v} (h : Keeps o s) : Keeps o (applyPwr s f v) := by
  unfold Machine.applyPwr
  split
  exacts [h.modPower, h.domRetry.ite h, h]

/-! ### FaultOps -/

theorem modFault {f} (h : Keeps o s) : Keeps o (s.modFault f) := h
theorem guarantee (h : Keeps o s) : Keeps o s.guarantee := h.same
theorem finish (h : Keeps o s) : Keeps o s.finish := h.same
theorem conditions {vin die} (h : Keeps o s) : Keeps o (s.conditions vin die) := h.modFault.guarantee
theorem withdraw {p k} (h : Keeps o s) : Keeps o (s.withdraw p k) := h.ite h.setCell.bump.raise.poolChanged
theorem withdrawAll {p l} (h : Keeps o s) : Keeps o (withdrawAll p l s) := by
  induction l generalizing s with
  | nil => exact h
  | cons x l ih => exact ih h.withdraw
theorem dropStaged {k} (h : Keeps o s) : Keeps o (s.dropStaged k) :=
  (h.foldl fun _ _ h => h.setStage.stageRemoved.bumpB).modB.bumpB.modB.bumpB
theorem dropFrom {hit q} (h : Keeps o s) : Keeps o (s.dropFrom hit q) :=
  h.ite (h.tcontRemoved.setQueue.tagHead.ite h.tcontRemoved.setQueue)
theorem reasmLost {c port} (h : Keeps o s) : Keeps o (s.reasmLost c port) := h.modCh.freeAll.bumpCh
theorem dropRx {hit k} (h : Keeps o s) : Keeps o (s.dropRx hit k) := h
theorem dropHolders {p k} (h : Keeps o s) : Keeps o (s.dropHolders p k) :=
  ((h.foldl fun _ _ h => h.dropFrom).modCls.foldl fun _ _ h => h.dropRx).freeAll
theorem dropLine {p k} (h : Keeps o s) : Keeps o (s.dropLine p k) :=
  ((((h.foldl fun _ _ h => h.reasmLost).foldl fun _ _ h => h.bumpUnmatched).modCh.freeAll.foldl fun _ _ h =>
      h.reasmLost).foldl fun _ _ h => h.bumpUnmatched).modCh.freeAll
theorem suppressTick {c tick} (h : Keeps o s) : Keeps o (s.suppressTick c tick) :=
  (h.foldl fun _ _ h => h.restoreBurst).modB.bumpB
theorem retagAll {n l} (h : Keeps o s) : Keeps o (retagAll n l s) := by
  induction l generalizing s with
  | nil => exact h
  | cons x l ih => exact ih h.setQueue.tagHead
theorem queueLost {q} (h : Keeps o s) : Keeps o (s.queueLost q) :=
  h.flushQueue.setNode.retagAll.foldl fun _ _ h => h.setMeter
theorem dramLost {e} (h : Keeps o s) : Keeps o (s.dramLost e) := by
  unfold State.dramLost
  split
  exacts [h.setCtr, h, h.modTrib, h, h, h]
theorem mramLost {e} (h : Keeps o s) : Keeps o (s.mramLost e) := by
  unfold State.mramLost
  split
  exacts [h.fresh.setBank, h.fresh.setBank, h, h, h]
theorem eccConsequence {e} (h : Keeps o s) : Keeps o (s.eccConsequence e) := by
  unfold State.eccConsequence
  extract_lets
  split
  · exact h.modFault
  · exact h.dropStaged.withdrawAll
  · exact h.withdraw
  · exact h.queueLost
  · exact h
  · split
    exacts [h.suppressTick, (h.aside.ite h).modFault]
  · exact h.dropLine
  · exact h.loadErase
  · exact h.dropHolders.withdraw
  · exact h.dramLost
  · exact h.mramLost
  · exact h
theorem eccReport {e} (h : Keeps o s) : Keeps o (s.eccReport e) := h.modFault.bump.raise
theorem clockApply {g bad ports} (h : Keeps o s) : Keeps o (s.clockApply g bad ports) := by
  unfold State.clockApply
  extract_lets
  split
  · exact h.enterSafe.ite h
  · exact h.assertLos.ite h
  · exact h.modCh.txUpdate
  · exact h.assertLos.ite h
  · exact h.modCh.txUpdate
  · exact h.linkTo.ite h
  · exact h.modFault.settlePorts
  · exact h.modTime.setEec.ite h
  · exact h
theorem clockFault {g permille ports} (h : Keeps o s) : Keeps o (s.clockFault g permille ports) :=
  h.modFault.bump.raise.clockApply.finish
theorem clockClear {g} (h : Keeps o s) : Keeps o (s.clockClear g) :=
  h.ite (h.fresh.modFault.raise.ite h.fresh.modFault.raise.clockApply).finish
theorem pairMismatch {svc} (h : Keeps o s) : Keeps o (s.pairMismatch svc) := h.modFault.bump.raise.raiseIf
theorem loseShadow {c n} (h : Keeps o s) : Keeps o (s.loseShadow c n) := h.modB
theorem ctlRestart {m} (h : Keeps o s) : Keeps o (s.ctlRestart m) := by
  unfold State.ctlRestart
  split
  · exact h.restartCh
  · exact h.ite h.setTx.txUpdate
  · exact h.suppressTick
  · exact h.loseShadow
  · exact h.fresh.moveOne.ite h
  · exact h.ite h.linkTo
  · exact h.ethRestartPort
  · split
    exacts [h, h.setPool.bump]
theorem illegal {m} (h : Keeps o s) : Keeps o (s.illegal m) := h.fresh.bump.raise.ctlRestart.finish
theorem scrubLate {mech n len} (h : Keeps o s) : Keeps o (s.scrubLate mech n len) := by
  unfold State.scrubLate
  split
  exacts [h.bump.raise.ite h, h]
theorem scrubWork (h : Keeps o s) : Keeps o s.scrubWork := h.modFault.bumpIf.scrubLate.scrubLate.scrubLate.scrubLate

/-! ### RegOps -/

theorem readEffect {a n} (h : Keeps o s) : Keeps o (s.readEffect a n) := by
  unfold State.readEffect
  split
  · exact h
  · split
    exacts [h.setCtr, h.readSideBpm, h.readSideBurin, h.readSideTime, h.readSideQ, h]
theorem readEffects {n m} (h : Keeps o s) : Keeps o (readEffects n m s) := by
  induction n generalizing s m with
  | zero => exact h
  | succ n ih =>
    refine ih ?_
    split
    exacts [h.readEffect, h]
theorem blowFuse {n} (h : Keeps o s) : Keeps o (s.blowFuse n) :=
  { h with blown := fun k hk => blown_blowFuse (h.blown k hk) }
theorem applyFuse {f v} (h : Keeps o s) : Keeps o (applyFuse s f v) := by
  unfold Machine.applyFuse
  split
  exacts [h.aside.ite h, h]
theorem applyTick {f v} (h : Keeps o s) : Keeps o (applyTick s f v) := by
  unfold Machine.applyTick
  split <;> exact h
theorem applyWord {a f old new} (h : Keeps o s) : Keeps o (applyWord s a f old new) := by
  unfold Machine.applyWord
  split
  · exact h.applyTick
  · exact h.applyCh
  · exact h.applyCh
  · exact h.applyBurin
  · exact h.applyCls
  · exact h.applyQ
  · exact h.applyBpm
  · exact h.applyAl
  · exact h.applyEth
  · exact h.applyTime
  · exact h.applyCes
  · exact h.applyCry
  · exact h.applyPwr
  · exact h.applyFuse
  · exact h
theorem specialApply {k ws} (h : Keeps o s) : Keeps o (specialApply s k ws) := by
  unfold Machine.specialApply
  split
  exacts [h.keyLoad, h.omciTxApply, h.todTake]
theorem storeAll {l} (h : Keeps o s) : Keeps o (storeAll l s) := by
  induction l generalizing s with
  | nil => exact h
  | cons x l ih => exact ih (h.ite h.putCfg)
theorem applyAll {before l} (h : Keeps o s) : Keeps o (applyAll before l s) := by
  induction l generalizing s with
  | nil => exact h
  | cons x l ih => exact ih h.applyWord
theorem writeApply {ws} (h : Keeps o s) : Keeps o (s.writeApply ws) := by
  unfold State.writeApply
  split
  · exact h
  · extract_lets
    split
    · refine .specialApply ?_
      split
      exacts [h.storeAll, h]
    · exact h.storeAll.applyAll.rewriteGroups
theorem writeRefused {ws status} (h : Keeps o s) : Keeps o (s.writeRefused ws status) := by
  unfold State.writeRefused
  split
  · exact h
  · extract_lets r after full s1
    have h1 : Keeps o s1 := by
      unfold s1
      split
      exacts [h.refusedVonu, h]
    exact h1.aside.ite h1

/-! ### LifeOps -/

theorem createVonu {v sn regId} (h : Keeps o s) : Keeps o (s.createVonu v sn regId) := h.setVonu.setSlot.setSlot
theorem lifeByMasks {v} (h : Keeps o s) : Keeps o (s.lifeByMasks v) := by
  unfold State.lifeByMasks
  extract_lets
  split
  exacts [h.setVonu, h.setVonu, h]
theorem enableOn {v c} (h : Keeps o s) : Keeps o (s.enableOn v c) := h.ite (h.moveOne.raise.ite h.moveOne)
theorem enableOff {v c} (h : Keeps o s) : Keeps o (s.enableOff v c) := h.ite h.moveOne
theorem setMasks {v enable standby} (h : Keeps o s) : Keeps o (s.setMasks v enable standby) := by
  unfold State.setMasks
  extract_lets x two old new s1 one
  have hone : ∀ t c, Keeps o t → Keeps o (one t c) := fun _ _ h => h.enableOn.ite (h.enableOff.ite h)
  exact hone _ _ (hone _ _ h.setVonu.lifeByMasks)
theorem dropBursts {v c} (h : Keeps o s) : Keeps o (s.dropBursts v c) := (h.foldl fun _ _ h => h.restoreBurst).modB
theorem retireVonu {v} (h : Keeps o s) : Keeps o (s.retireVonu v) := h.dropBursts.dropBursts.setVonu.moveOne.moveOne
theorem unbindAll {l} (h : Keeps o s) : Keeps o (unbindAll l s) := by
  induction l generalizing s with
  | nil => exact h
  | cons x l ih => exact ih h.putCfg
theorem freeVonu {v} (h : Keeps o s) : Keeps o (s.freeVonu v) :=
  (h.unbindAll.foldl fun _ _ h => h.eraseSlot).setVonu.raise
theorem leaveDisabled {v c} (h : Keeps o s) : Keeps o (s.leaveDisabled v c) := h.moveOne.ite h
theorem commitProfile {v c p} (h : Keeps o s) : Keeps o (s.commitProfile v c p) := h.modVch.tryO23.reportMoves
theorem commitHatch {l} (h : Keeps o s) : Keeps o (s.commitHatch l) := by
  unfold State.commitHatch
  split
  exacts [h.hatchArm.setHatch, h]
theorem rearmLists {tc l} (h : Keeps o s) : Keeps o (rearmLists tc l s) := by
  induction l generalizing s with
  | nil => exact h
  | cons x l ih =>
    rw [Machine.rearmLists]
    split
    exacts [ih h.setHatch.hatchArm, ih h.setHatch, ih h]
theorem rearmTick (h : Keeps o s) : Keeps o s.rearmTick := h.ite h.aside.rearmLists
theorem commitPlate {plate} (h : Keeps o s) : Keeps o (s.commitPlate plate) := by
  refine .modCls ?_
  split
  exacts [h.swapPlates, h]
theorem resync {mask} (h : Keeps o s) : Keeps o (s.resync mask) := h.aside.raiseIf
theorem resyncAll {l} (h : Keeps o s) : Keeps o (resyncAll l s) := by
  induction l generalizing s with
  | nil => exact h
  | cons x l ih => exact ih (h.resync.ite h)
theorem resyncsDue (h : Keeps o s) : Keeps o s.resyncsDue := h.aside.resyncAll
theorem loopLink {kind} (h : Keeps o s) : Keeps o (s.loopLink kind) :=
  (h.linkTo.ite h).ite h.setLink.modLink.creditForget.raise.expose.linkSettle
theorem loopEth {e kind} (h : Keeps o s) : Keeps o (s.loopEth e kind) :=
  (h.txDone.loopBack.setEth.ethUnloop.ethSettle.ite h).ite (h.ite h.ethRates).setEth.modEth.raise.exposePort.ethSettle
theorem loopSet {addr kind} (h : Keeps o s) : Keeps o (s.loopSet addr kind) := h.loopLink.ite h.loopEth
theorem prbsAdvance {n} (h : Keeps o s) : Keeps o (s.prbsAdvance n) := h.ite h.fresh.fresh.setPrbs
theorem prbsSync {n v} (h : Keeps o s) : Keeps o (s.prbsSync n v) := h.ite h.prbsAdvance.setPrbs
theorem prbsCtl {n v} (h : Keeps o s) : Keeps o (s.prbsCtl n v) := h.prbsAdvance.setPrbs
theorem hostVote {d} (h : Keeps o s) : Keeps o (s.hostVote d) := h.setVotes
theorem hostUnvote {d} (h : Keeps o s) : Keeps o (s.hostUnvote d) := (h.modDom.refuseEntry.ite h.modDom).ite h
theorem refuseAll {l} (h : Keeps o s) : Keeps o (refuseAll l s) := by
  induction l generalizing s with
  | nil => exact h
  | cons x l ih => exact ih h.refuseEntry

/-! ### CmdOps -/

theorem modPort {t' f} (h : Keeps o s) : Keeps o (s.modPort t' f) := h
theorem endWait (h : Keeps o s) : Keeps o s.endWait := by
  unfold State.endWait
  split
  · exact h
  · extract_lets
    split
    exacts [h.aside.startSleep, h.aside.deviceReset]
theorem waitCheck (h : Keeps o s) : Keeps o s.waitCheck := by
  unfold State.waitCheck
  split
  exacts [h, h.ite h.endWait]
theorem pump (h : Keeps o s) : Keeps o s.pump := h.pumpReplies.waitCheck
theorem pushReply {t' r} (h : Keeps o s) : Keeps o (s.pushReply t' r) := by
  unfold State.pushReply
  extract_lets
  split
  exacts [h.modPort, h.modPort.pumpReplies]
theorem commandError {p status} (h : Keeps o s) : Keeps o (s.commandError p status) := h.raise
theorem answer {p r} (h : Keeps o s) : Keeps o (s.answer p r) :=
  (h.modPort.ite h.modPort.commandError).ite h.modPort.pushReply
theorem refuse {p status param} (h : Keeps o s) : Keeps o (s.refuse p status param) := h.commandError.ite h.pushReply
theorem fetch {p} (h : Keeps o s) : Keeps o (s.fetch p).1 := by
  unfold State.fetch
  dsimp only
  split
  exacts [h, h.fresh]
theorem ack {p} (h : Keeps o s) : Keeps o (s.ack p) := h
theorem subscribe {p} (h : Keeps o s) : Keeps o (s.subscribe p).1 := h.putCfg
theorem runWrite {p ws r} (h : Keeps o s) : Keeps o (s.runWrite p ws r).1 := by
  unfold State.runWrite
  extract_lets a s1 q s2
  have h2 : Keeps o s2 := h.writeApply.aside.ite h.writeApply
  cases a with
  | none => exact h2
  | some x => exact h2.modPort
theorem startWork {p w} (h : Keeps o s) : Keeps o (s.startWork p w).1 := h.modPort
theorem preferReset {p} (h : Keeps o s) : Keeps o (s.preferReset p) := h.prefer.aside
theorem runActivate {p} (h : Keeps o s) : Keeps o (s.runActivate p).1 :=
  (h.startWork.fstIte h.preferReset).fstIte (h.startWork.fstIte h.modFault.startWork)
theorem opRun {p} (h : Keeps o s) : Keeps o (s.opRun p).1 := by
  unfold State.opRun
  extract_lets
  split
  · split
    exacts [h.readEffect, h]
  · exact h.runWrite
  · exact h.runWrite
  · split
    exacts [h.readEffect.runWrite, h]
  · exact h.readEffects
  · exact h.commitPlate.startWork
  · exact h.commitHatch
  · exact h.commitProfile
  · exact h.createVonu
  · exact h.setMasks
  · exact h.retireVonu
  · exact h.subscribe
  · exact h.fetch
  · exact h.ack
  · exact h.hostVote
  · exact h.hostUnvote
  · exact h
  · exact h.imageBegin
  · exact h.startWork
  · exact h.startWork
  · exact h.runActivate
  · exact h.loopSet
  · exact h.prbsCtl
  · exact h.prbsAdvance
  · exact h.resync
  · exact h.servoOwner
  · exact h.stepTime
  · exact h.setInc
  · exact h
theorem opRefused {p status} (h : Keeps o s) : Keeps o (s.opRefused p status) := by
  unfold State.opRefused
  split
  exacts [h.refuseAll.ite h, h.writeRefused, h.writeRefused, h.writeRefused, h]
theorem runOne {atTick p} (h : Keeps o s) : Keeps o (s.runOne atTick p) := by
  unfold State.runOne
  dsimp only
  split
  exacts [h.opRun, h.opRun.answer]
theorem runList {atTick l} (h : Keeps o s) : Keeps o (runList atTick l s) := by
  induction l generalizing s with
  | nil => exact h
  | cons x l ih => exact ih h.runOne
theorem refuseChain {firstBad l} (h : Keeps o s) : Keeps o (refuseChain firstBad l s) := by
  induction l generalizing s with
  | nil => exact h
  | cons x l ih => exact ih (h.answer.ite h.opRefused.answer)
theorem answerAll {status l} (h : Keeps o s) : Keeps o (answerAll status l s) := by
  induction l generalizing s with
  | nil => exact h
  | cons x l ih => exact ih h.answer
theorem hold {pkts due atTick} (h : Keeps o s) : Keeps o (s.hold pkts due atTick) := h
theorem holdHandover {pkts} (h : Keeps o s) : Keeps o (s.holdHandover pkts) := by
  unfold State.holdHandover
  split
  exacts [h.modFault, h]
theorem dropHandover {pkts} (h : Keeps o s) : Keeps o (s.dropHandover pkts) := h.modFault.ite h
theorem decideChain {pkts} (h : Keeps o s) : Keeps o (s.decideChain pkts) := by
  unfold State.decideChain
  extract_lets
  split
  · exact h.opRefused.answer.ite h.refuseChain
  · split
    exacts [h, h.hold.ite (h.hold.holdHandover.ite h.runList)]
theorem enchain {p} (h : Keeps o s) : Keeps o (s.enchain p) :=
  h.modPort.answer.ite (h.decideChain.ite (h.modPort.answerAll.ite (h.modPort.ite
      (h.modPort.decideChain.ite h.modPort.answerAll))))
theorem take {p} (h : Keeps o s) : Keeps o (s.take p) := by
  refine .ite ?_ (h.refuse.ite h.modPort.enchain.waitCheck.finish)
  split
  · refine h.ite ?_
    split <;> exact h.pushReply
  · exact h.modPort.refuse
theorem submit {op r} (h : Keeps o s) : Keeps o (s.submit op r) := by
  unfold State.submit
  split
  exacts [h.wakeAddress.ite (h.emit.ite h.take), h.take.ite h]
theorem refusePacket {op r status} (h : Keeps o s) : Keeps o (s.refusePacket op r status) := h.pushReply
theorem packet {t' l} (h : Keeps o s) : Keeps o (s.packet t' l) := by
  unfold State.packet
  dsimp only
  split
  · exact (h.unspoil.sndIte h).modPort.refusePacket
  · exact (h.unspoil.sndIte h).refusePacket
  · exact (h.unspoil.sndIte h).take
theorem mgmtFrame {l} (h : Keeps o s) : Keeps o (s.mgmtFrame l) := h.packet.ite h
theorem twiWrite {target l} (h : Keeps o s) : Keeps o (s.twiWrite target l) :=
  h.ite (h.wakeAddress.ite (h.emit.ite (h.modPort.ite h.packet)))
theorem twiRead {target n} (h : Keeps o s) : Keeps o (s.twiRead target n) := by
  refine h.ite ?_
  split
  exacts [h.emit, h.emit.ite h.emit.modPort.waitCheck]
theorem recoverTwi (h : Keeps o s) : Keeps o s.recoverTwi := h.ite h.modPort.raise
theorem busRecovery (h : Keeps o s) : Keeps o s.busRecovery := h.recoverTwi.expose.ite h
theorem interim {t' seq} (h : Keeps o s) : Keeps o (s.interim t' seq) := by
  unfold State.interim
  split
  exacts [h, h.ite h.modPort.pushReply]
theorem chainTimeout {t'} (h : Keeps o s) : Keeps o (s.chainTimeout t') := h.modPort.answerAll
theorem prepare (h : Keeps o s) : Keeps o s.prepare := h.ite h.aside
theorem effect {h'} (h : Keeps o s) : Keeps o (s.effect h') := by
  unfold State.effect
  extract_lets
  split
  exacts [h.aside.runList, h.aside.dropHandover.opRefused.answer.ite h.aside.dropHandover.refuseChain]
theorem effects {l} (h : Keeps o s) : Keeps o (effects l s) := by
  induction l generalizing s with
  | nil => exact h
  | cons x l ih => exact ih h.effect
theorem complete {t' seq} (h : Keeps o s) : Keeps o (s.complete t' seq) := by
  unfold State.complete
  split
  · exact h
  · extract_lets
    split
    · exact h.ite h.modPort.imageVerify.answer
    · exact h.ite h.modPort.imageData.answer
    · exact h.modPort.blowFuse.answer
    · exact h
    · exact h
theorem endRunning {pick res l} (h : Keeps o s) : Keeps o (endRunning pick res l s) := by
  induction l generalizing s with
  | nil => exact h
  | cons x l ih => exact (ih h).ite (ih h.modPort.answer)
theorem answerSwap {ok} (h : Keeps o s) : Keeps o (s.answerSwap ok) := h.endRunning
theorem swapLost (h : Keeps o s) : Keeps o s.swapLost := h.answerSwap.ite h
theorem answerActivate {ok} (h : Keeps o s) : Keeps o (s.answerActivate ok) := by
  unfold State.answerActivate
  extract_lets one
  have hone : ∀ t x, Keeps o x → Keeps o (one t x) := by
    intro t x h
    unfold one
    split
    exacts [h, h.modPort.answer]
  exact hone _ _ (hone _ _ h)
theorem timeoutRunning (h : Keeps o s) : Keeps o s.timeoutRunning :=
  h.modPort.answerAll.modPort.answerAll.modFault.ite h.modPort.answerAll.modPort.answerAll
theorem activateLater (h : Keeps o s) : Keeps o s.activateLater := by
  refine h.ite ?_
  split
  exacts [h, h.modPort.preferReset.answer]
theorem hostWrite {t' ws} (h : Keeps o s) : Keeps o (s.hostWrite t' ws) :=
  h.ite (h.writeApply.emit.finish.ite h.writeRefused.emit)
theorem hostWords {a ws} (h : Keeps o s) : Keeps o (s.hostWords a ws) := h.hostWrite
theorem hostBits {a val mask} (h : Keeps o s) : Keeps o (s.hostBits a val mask) := h.hostWrite
theorem stampDue {due} (h : Keeps o s) : Keeps o (s.stampDue due) := h.ite h.stampTables

/-! ### AlanovOps -/

theorem laneLocks {n} (h : Keeps o s) : Keeps o (s.laneLocks n) := h.ite h.fresh.bump.setLane.laneAdapt
theorem lanesCheck (h : Keeps o s) : Keeps o s.lanesCheck := h.setLink.ite h
theorem laneUnlocks {n} (h : Keeps o s) : Keeps o (s.laneUnlocks n) :=
  h.ite h.fresh.bump.bump.setLane.laneFails.lanesCheck.deskewRequest
theorem readyCheck (h : Keeps o s) : Keeps o s.readyCheck := h.linkTo.ite (h.linkTo.ite h)
theorem missedLanes {p l} (h : Keeps o s) : Keeps o (missedLanes p l s) := by
  induction l generalizing s with
  | nil => exact h
  | cons x l ih => exact ih (h.setLane.laneFails.ite h)
theorem agedLanes {d l} (h : Keeps o s) : Keeps o (agedLanes d l s) := by
  induction l generalizing s with
  | nil => exact h
  | cons x l ih => exact ih (h.ite h.setLane)
theorem periodTo {p} (h : Keeps o s) : Keeps o (s.periodTo p) := h.modLink.agedLanes
theorem deskew {n b} (h : Keeps o s) : Keeps o (s.deskew n b) :=
  (h.periodTo.missedLanes.ite h).setLane.laneFails.ite (h.periodTo.missedLanes.ite h).setLane
theorem bipCount {n errs} (h : Keeps o s) : Keeps o (s.bipCount n errs) := h.bump.setLane.laneFails.ite h.bump.setLane
theorem laneMap {n k period} (h : Keeps o s) : Keeps o (s.laneMap n k period) :=
  h.setLane.ite ((h.setLane.ite (h.setLane.setPrbs.ite h.setLane).modLink.laneMoved).ite
      ((h.setLane.setPrbs.ite h.setLane).modLink.laneMoved.ite h.setLane))
theorem alignIn {n b} (h : Keeps o s) : Keeps o (s.alignIn n b) := by
  refine h.ite (.readyCheck (.deskewRequest (.lanesCheck ?_)))
  split
  · exact h.bump.deskew.laneMap.bipCount.laneAdapt.setLane.modLink.peerRequests
  · exact h.bump.deskew.laneMap.bipCount.laneAdapt.setLane.modLink.peerRequests
  · exact h.bump.deskew.laneMap.bipCount.laneAdapt.setLane.modLink.peerRequests
  · exact h.bump.deskew.laneMap.bipCount.laneAdapt.setLane.modLink.peerRequests
  · exact h.bump.deskew.laneMap.bipCount.laneAdapt.setLane.modLink.modLink
theorem lockEnds (h : Keeps o s) : Keeps o s.lockEnds := h.ite (h.linkTo.deskewRequest.ite h.failLink)
theorem deskewEnds (h : Keeps o s) : Keeps o s.deskewEnds := h.linkTo.readyCheck.ite h
theorem linkTimeout {t' cause} (h : Keeps o s) : Keeps o (s.linkTimeout t' cause) := h.failLink.ite h
theorem clockLost (h : Keeps o s) : Keeps o s.clockLost := by
  unfold State.clockLost
  split
  exacts [h, h, h.ite h.linkTo, h.linkTo]
theorem frameCell {ch n} (h : Keeps o s) : Keeps o (s.frameCell ch n).2 := by
  refine h.sndIte ?_
  split
  · exact h
  · split
    next e => exact h.takeCell.snd e
    next e => exact h.takeCell.snd e
theorem frameTo {ch colour data cells} (h : Keeps o s) : Keeps o (s.frameTo ch colour data cells) :=
  h.aside.ite (h.slotStream.freeAll.ite (h.mgmtFrame.ite h.todMessage))
theorem looseBlocks {afterIdle} (h : Keeps o s) : Keeps o (s.looseBlocks afterIdle) := h.ite h.bump.modLink
theorem frameChecks {ch len colour f} (h : Keeps o s) : Keeps o (s.frameChecks ch len colour f) := by
  refine h.bump.ite (h.bump.ite (h.bump.ite ?_))
  split
  next e => exact (h.frameCell.snd e).bump
  next e =>
    have h := h.frameCell.snd e
    exact h.bump.freeAll.ite (h.bump.freeAll.ite h.bump.bump.frameTo)
theorem alFrameIn {f} (h : Keeps o s) : Keeps o (s.alFrameIn f) :=
  h.ite (h.unspoil.bump.ite (h.looseBlocks.ite (h.modLink.bump.modLink.ite
      ((h.modLink.setCredit.ite h.modLink).bump.modLink.ite (h.modLink.setCredit.ite h.modLink).frameChecks))))
theorem creditIn {g l0 l1 l2 l3} (h : Keeps o s) : Keeps o (s.creditIn g l0 l1 l2 l3) :=
  h.ite h.setCredit.setCredit.setCredit.setCredit.fresh.bumpIf.modLink.pump.pumpCes
theorem roundFrom {n} (h : Keeps o s) : Keeps o (roundFrom n s) := by
  induction n generalizing s with
  | zero => exact h
  | succ n ih => exact ih h.setCredit
theorem creditBlocks {n m} (h : Keeps o s) : Keeps o (creditBlocks n m s) := by
  induction n generalizing s m with
  | zero => exact h
  | succ n ih => exact ih h.emit
theorem creditCalendar (h : Keeps o s) : Keeps o s.creditCalendar := h.ite h.roundFrom.creditBlocks.pump.pumpCes
theorem creditLost {g} (h : Keeps o s) : Keeps o (s.creditLost g) :=
  h.ite (h.bump.modLink.raise.ite (h.bump.ite (h.ite h.modLink)))
theorem cesLate {k} (h : Keeps o s) : Keeps o (s.cesLate k) := h.modLink.bump.ite h

/-! ### TickOps -/

theorem modTick {f} (h : Keeps o s) : Keeps o (s.modTick f) := h
theorem noteOverrun {cls n items} (h : Keeps o s) : Keeps o (s.noteOverrun cls n items) := h.ite h.modTick
theorem reportOverruns {l} (h : Keeps o s) : Keeps o (reportOverruns l s) := by
  induction l generalizing s with
  | nil => exact h
  | cons x l ih => exact ih h.modTick.raise
theorem judge (h : Keeps o s) : Keeps o s.judge := h.modTick.reportOverruns
theorem reportCorrected {found region} (h : Keeps o s) : Keeps o (s.reportCorrected found region) :=
  h.ite h.bump.raise
theorem crcHolds (h : Keeps o s) : Keeps o s.crcHolds := h.modCh.txUpdate.modCh.txUpdate
theorem finding {f} (h : Keeps o s) : Keeps o (s.finding f) := by
  unfold State.finding
  split
  exacts [h, h.ite h.modFault.bump.raise.crcHolds, h.markRule.ite h, h.modCls, h.ite h.modB.raise]
theorem findings {l} (h : Keeps o s) : Keeps o (findings l s) := by
  induction l generalizing s with
  | nil => exact h
  | cons x l ih => exact ih h.finding
theorem reportRegions {found l} (h : Keeps o s) : Keeps o (reportRegions found l s) := by
  induction l generalizing s with
  | nil => exact h
  | cons x l ih => exact ih h.reportCorrected
theorem twinTick (h : Keeps o s) : Keeps o s.twinTick := h.ite h.fresh.fresh.modB.modB
theorem channelTick {c} (h : Keeps o s) : Keeps o (s.channelTick c) := h.raiseIf.modCh.modB
theorem omciTick (h : Keeps o s) : Keeps o s.omciTick := h.aside.raiseIf
theorem startedTick (h : Keeps o s) : Keeps o s.startedTick := h.ite h.modTick.raise
theorem stageLatch (h : Keeps o s) : Keeps o s.stageLatch := h
theorem timeTick {interval} (h : Keeps o s) : Keeps o (s.timeTick interval) := h.ite (h.modTime.ite h.modTime)
theorem chanTick (h : Keeps o s) : Keeps o s.chanTick := h.modTime
theorem rateTick {old} (h : Keeps o s) : Keeps o (s.rateTick old) := h.fresh.modTime.ite h
theorem refTick (h : Keeps o s) : Keeps o s.refTick := h.eecOnRef.setServo.ite h.eecOnRef
theorem tickCount {src interval tell} (h : Keeps o s) : Keeps o (s.tickCount src interval tell) :=
  (h.timeTick.modTick.raiseIf.rateTick.refTick.ite h.timeTick.modTick.raiseIf.rateTick).chanTick
theorem spuriousCounts {l} (h : Keeps o s) : Keeps o (spuriousCounts l s) := by
  induction l generalizing s with
  | nil => exact h
  | cons x l ih => exact ih h.fresh.bump
theorem spuriousGroups {l} (h : Keeps o s) : Keeps o (spuriousGroups l s) := by
  induction l generalizing s with
  | nil => exact h
  | cons x l ih => exact (ih h).ite ((ih h.fresh.fresh.useKey).ite (ih h.spuriousCounts))
theorem sampleCrossings (h : Keeps o s) : Keeps o s.sampleCrossings := h.spuriousGroups.modTick
theorem secondEnds (h : Keeps o s) : Keeps o s.secondEnds := h.ite h.aside.modTick
theorem foldTick (h : Keeps o s) : Keeps o s.foldTick := h.modTick
theorem tickWork {found} (h : Keeps o s) : Keeps o (s.tickWork found) := by
  unfold State.tickWork
  extract_lets s1 s2 s3 s4 s5 s6 s7 s8 s9 q s10
  have h8 : Keeps o s8 :=
    h.poolsCatchUp.sampleCrossings.secondEnds.judge.foldTick.modTick.fanout.fanout.channelTick.channelTick.adapt.adapt
      |>.omciTick.stageLatch.ethTicks.modLink.adaptLanes.aligned
  have h9 : Keeps o s9 := h8.takeSnapshots.ite h8
  clear_value s9
  have h10 : Keeps o s10 := h9.aside.rearmTick
  exact h10.scrubWork.twinTick.findings.reportRegions.lived.lifeSlot.startedTick.stampTables.finish
theorem pastEdges (h : Keeps o s) : Keeps o s.pastEdges := h.modCh.modCh
theorem tickAt {src interval tell found} (h : Keeps o s) : Keeps o (s.tickAt src interval tell found) :=
  h.pastEdges.reportMoved.prepare.tickCount.tickWork
theorem doTick {interval found} (h : Keeps o s) : Keeps o (s.doTick interval found) := by
  refine h.ite ?_
  split
  exacts [h.tickAt, h.tickAt.ite (h.tickAt.ite h)]
theorem doFallback {found} (h : Keeps o s) : Keeps o (s.doFallback found) := by
  refine h.ite ?_
  split
  exacts [h, h.ite h.tickAt]
theorem deferHeld (h : Keeps o s) : Keeps o s.deferHeld := h
theorem lateCommit {c n} (h : Keeps o s) : Keeps o (s.lateCommit c n) := h.bumpB.noteOverrun.modB
theorem stippleLate (h : Keeps o s) : Keeps o s.stippleLate := by
  unfold State.stippleLate
  split <;> exact h
theorem foldLoss {l} (h : Keeps o s) : Keeps o (foldLoss l s) := by
  induction l generalizing s with
  | nil => exact h
  | cons x l ih => exact ih h.fresh.setCtr
theorem foldLate (h : Keeps o s) : Keeps o s.foldLate := h.modTick.ite h.modTick.foldLoss
theorem overrunConsequence {cls n items} (h : Keeps o s) : Keeps o (s.overrunConsequence cls n items) := by
  unfold State.overrunConsequence
  split
  · exact h.suppressTick
  · exact h.suppressTick
  · exact h.lateCommit
  · exact h.lateCommit
  · exact h.spoilSnapshots
  · exact h.reportMoved
  · exact h.deferHeld
  · exact h.foldLate
  · exact h.stippleLate
  · exact h.modFault
  · exact h.modFault
  · exact h.modFault
  · exact h.loseShadow
  · exact h.loseShadow
  · exact h
theorem windowHeld {cls} (h : Keeps o s) : Keeps o (s.windowHeld cls) := by
  unfold State.windowHeld
  split
  exacts [h.reportMoved, h.prepare, h.modTick, h]
theorem windowClose {cls n complete items} (h : Keeps o s) : Keeps o (s.windowClose cls n complete items) :=
  h.ite (h.windowHeld.ite h.noteOverrun.overrunConsequence.finish)
theorem publish {bank incomplete} (h : Keeps o s) : Keeps o (s.publish bank incomplete) := h
theorem stippleCopy {complete} (h : Keeps o s) : Keeps o (s.stippleCopy complete) := by
  unfold State.stippleCopy
  split
  exacts [h, h.ite (h.publish.ite h.fresh.noteOverrun.stippleLate)]
theorem lateCopy {old trail l k} (h : Keeps o s) : Keeps o (lateCopy old trail l k s).2 := by
  induction l generalizing s k with
  | nil => exact h
  | cons x l ih => exact ih h.fresh
theorem stippleDone (h : Keeps o s) : Keeps o s.stippleDone := by
  unfold State.stippleDone
  split
  exacts [h, h.ite h.lateCopy.publish]
theorem disturb {g} (h : Keeps o s) : Keeps o (s.disturb g) := h.same
theorem crossingDisturbed {g index diff} (h : Keeps o s) : Keeps o (s.crossingDisturbed g index diff) :=
  h.ite h.disturb.suspectGroup.raise
theorem crossingFifo {g index overflow} (h : Keeps o s) : Keeps o (s.crossingFifo g index overflow) :=
  h.ite (h.fresh.ite h.fresh.modTick).disturb.raise
theorem firmwareResync {g} (h : Keeps o s) : Keeps o (s.firmwareResync g) := h.modTick.ite h
theorem crcRewrite {block k} (h : Keeps o s) : Keeps o (s.crcRewrite block k) := h.modFault.crcHolds

/-! ### BurstOps -/

theorem releaseBursts {c l} (h : Keeps o s) : Keeps o (releaseBursts c l s) := by
  induction l generalizing s with
  | nil => exact h
  | cons x l ih => exact ih h.aside
theorem phaseTwo {c ds} (h : Keeps o s) : Keeps o (s.phaseTwo c ds) := h.admitBursts.once.once.releaseBursts
theorem phaseLate {c own} (h : Keeps o s) : Keeps o (s.phaseLate c own) := h.fresh.bumpB.noteOverrun
theorem partition {c structs inTime decodeTime} (h : Keeps o s) : Keeps o (s.partition c structs inTime decodeTime) :=
  h.ite (h.bumpB.bumpB.once.decodeStructs.bumpB.modB.once.phaseTwo.ite
      h.bumpB.bumpB.once.decodeStructs.bumpB.modB.once.phaseLate)
theorem shadowPartition {c structs inTime} (h : Keeps o s) : Keeps o (s.shadowPartition c structs inTime) :=
  h.ite (h.modB.ite h.modB.noteOverrun)
theorem assemble {c} (h : Keeps o s) : Keeps o (s.assemble c) := by
  unfold State.assemble
  extract_lets
  split
  exacts [h, (h.unspoil.bumpB.sndIte h.commitBurst).modB]
theorem judgeOne {c b} (h : Keeps o s) : Keeps o (s.judgeOne c b).2 :=
  h.sndIte (h.sndIte h.bumpB.noteOverrun.urgentDone)
theorem deadline {c} (h : Keeps o s) : Keeps o (s.deadline c) := by
  unfold State.deadline
  split
  exacts [h, h.judgeOne.modB]
theorem cutOff {c cause whole} (h : Keeps o s) : Keeps o (s.cutOff c cause whole) := by
  unfold State.cutOff
  split
  exacts [h.abandon.trip.leaveDisabled.txUpdate, h.trip]
theorem lightUp {c b} (h : Keeps o s) : Keeps o (s.lightUp c b) := h.modB
theorem startBurst {c} (h : Keeps o s) : Keeps o (s.startBurst c) := by
  unfold State.startBurst
  split
  · refine h.modB.judgeOne.restoreBurst.modB.bumpB.ite (h.modB.judgeOne.restoreBurst.modB.bumpB.ite
      (h.modB.judgeOne.lightUp.modB.cutOff.ite ?_))
    split
    exacts [h.modB.judgeOne.lightUp.cutOff, h.modB.judgeOne.lightUp]
  · exact h
theorem burstLeft {c b} (h : Keeps o s) : Keeps o (s.burstLeft c b) :=
  ((h.bumpB.bumpB.bumpVonu.ite h.bumpB.bumpB).bumpVonu.ite (h.bumpB.bumpB.bumpVonu.ite
      h.bumpB.bumpB)).bump.burstStamps.freeAll.lived.modCh.modB.emit.leaveDisabled.txUpdate
theorem endBurst {c} (h : Keeps o s) : Keeps o (s.endBurst c) := by
  unfold State.endBurst
  split
  · exact h
  · split
    exacts [h.cutOff, h.burstLeft]
theorem disagree {c snEpisode} (h : Keeps o s) : Keeps o (s.disagree c snEpisode) := h.ite h.cutOff
theorem lightTrip {c} (h : Keeps o s) : Keeps o (s.lightTrip c) := h.ite h.modB.trip
theorem closeSwitch {c} (h : Keeps o s) : Keeps o (s.closeSwitch c) := h.ite h.modB
theorem rewriteTwins {c} (h : Keeps o s) : Keeps o (s.rewriteTwins c) := h.modB
theorem reloadTwins {c} (h : Keeps o s) : Keeps o (s.reloadTwins c) := h.ite h.modCh.modB.txUpdate

/-! ### NodeOps -/

theorem admitNext (h : Keeps o s) : Keeps o s.admitNext := by
  unfold State.admitNext
  split
  · exact h
  · refine h.ite (.ite ?_ ?_)
    · extract_lets
      split
      exacts [h.modCls.meterPacket.unspoil.dropAt, h.modCls.meterPacket.unspoil.freeAll]
    · split
      exacts [h.modCls.meterPacket.admitTo, h.modCls.meterPacket.freeAll]
theorem settleHeads {n l} (h : Keeps o s) : Keeps o (settleHeads n l s) := by
  induction l generalizing s with
  | nil => exact h
  | cons x l ih => exact ih h.settleHead
theorem deliver {n p now} (h : Keeps o s) : Keeps o (s.deliver n p now) := by
  unfold State.deliver
  split
  · exact h.passAll.sendFrameOr.freeAll
  · exact h.passAll.macSend.freeAll.loopBack
  · exact h.passAll.aside
  · exact h.freeAll
theorem creditTaken {n q} (h : Keeps o s) : Keeps o (s.creditTaken n q) := by
  unfold State.creditTaken
  split
  exacts [h.cbsSpend.ite h, h]
theorem nodeSend {n} (h : Keeps o s) : Keeps o (s.nodeSend n) := by
  refine h.ite (h.instant.creditsNow.settleHeads.requalify.ite ?_)
  split
  · exact h.instant.creditsNow.settleHeads.requalify
  · refine h.instant.creditsNow.settleHeads.requalify.ite ?_
    extract_lets
    split
    next e => exact h.instant.creditsNow.settleHeads.requalify.creditTaken.releaseHead.snd e
    next e => exact (h.instant.creditsNow.settleHeads.requalify.creditTaken.releaseHead.snd e).deliver
theorem nodeRun {n} (h : Keeps o s) : Keeps o (s.nodeRun n) := h.stageOne.ite h.nodeSend
theorem shadowEntries {l n k} (h : Keeps o s) : Keeps o (shadowEntries l n k s) := by
  induction k generalizing s n with
  | nil => exact h
  | cons x l ih => exact ih h.putCfg
theorem hatchCopied {l} (h : Keeps o s) : Keeps o (s.hatchCopied l) := by
  unfold State.hatchCopied
  extract_lets
  split
  exacts [h.shadowEntries.putCfg.putCfg.putCfg.putCfg.setHatch.raise, h]
theorem hatchBegin {l} (h : Keeps o s) : Keeps o (s.hatchBegin l) := by
  unfold State.hatchBegin
  extract_lets
  split
  exacts [h, h.hatchCopied.instant.gateTouch.setHatch.gateTouch]
theorem gateNow {l} (h : Keeps o s) : Keeps o (s.gateNow l) := by
  unfold State.gateNow
  extract_lets
  split
  exacts [h.ite h.instant.setHatch.gateTouch, h]
theorem pktRestore (h : Keeps o s) : Keeps o s.pktRestore := h.ite h.modCls

/-! ### Ces -/

theorem pwTake {k} (h : Keeps o s) : Keeps o (s.pwTake k) := by
  unfold State.pwTake
  split
  exacts [h, h.aside.freeAll.ite (h.aside.freeAll.unspoil.bump.ite h.aside.freeAll.pwReceive)]
theorem ssLost {k} (h : Keeps o s) : Keeps o (s.ssLost k) := h.modTrib.raise.ite h
theorem jbStart {k} (h : Keeps o s) : Keeps o (s.jbStart k) := h.modTrib.ite h
theorem lopsSet {k} (h : Keeps o s) : Keeps o (s.lopsSet k) := h.modTrib.raise.ite h
theorem slipNow {k drop} (h : Keeps o s) : Keeps o (s.slipNow k drop) := h.slip.ite h

/-! ### RxOps -/

theorem omciIn {v c msg mic} (h : Keeps o s) : Keeps o (s.omciIn v c msg mic) := by
  unfold State.omciIn
  split
  next e => exact h.keyBegin.snd e
  next e =>
    have h := h.keyBegin.snd e
    exact h.bumpVonu.ite (h.bump.raise.ite h.aside.bumpVonu)
theorem omciRelay {v c msg mic} (h : Keeps o s) : Keeps o (s.omciRelay v c msg mic) := by
  unfold State.omciRelay
  dsimp only
  exact h.takeCell.omciIn.freeAll
theorem ploamCheck {c m v} (h : Keeps o s) : Keeps o (s.ploamCheck c m v).2 := by
  unfold State.ploamCheck
  extract_lets
  split
  next e => exact h.keyBegin.snd e
  next e =>
    have h := h.keyBegin.snd e
    exact h.bumpVonu.sndIte h.bumpVonu.modCh
theorem ploamChecks {c m l} (h : Keeps o s) : Keeps o (ploamChecks c m l s).2 := by
  induction l generalizing s with
  | nil => exact h
  | cons x l ih => exact ih h.ploamCheck
theorem ploamIn {c m} (h : Keeps o s) : Keeps o (s.ploamIn c m) := by
  refine h.bumpUnmatched.ite ?_
  dsimp only
  exact h.ploamChecks.ite h.ploamChecks.takeCell.modCh
theorem ploamAll {c l} (h : Keeps o s) : Keeps o (ploamAll c l s) := by
  induction l generalizing s with
  | nil => exact h
  | cons x l ih => exact ih h.ploamIn
theorem sdSfEnd {c} (h : Keeps o s) : Keeps o (s.sdSfEnd c) := h.ite h.modCh.raiseIf.raiseIf
theorem fecCount {c f} (h : Keeps o s) : Keeps o (s.fecCount c f) :=
  (h.bumpCh.bumpCh.bumpCh.bumpCh.ite h.bumpCh.bumpCh.bumpCh.bumpCh.bumpCh).sdSfEnd.modCh
theorem frameBody {c f} (h : Keeps o s) : Keeps o (s.frameBody c f) :=
  (h.bumpCh.latch.modCh.fecCount.modCh.ploamAll.ite h.bumpCh.latch.modCh.fecCount.modCh.bumpCh).adapt
theorem sfcJudge {c sfc} (h : Keeps o s) : Keeps o (s.sfcJudge c sfc).2 := by
  unfold State.sfcJudge
  split
  exacts [h.bumpCh, h.modCh.sndIte h.bumpCh.modCh]
theorem frameIn {c f} (h : Keeps o s) : Keeps o (s.frameIn c f) :=
  h.ite (h.modCh.bumpIf.sfcJudge.frameBody.leaveSync.ite (h.modCh.bumpIf.sfcJudge.frameBody.leaveSync.ite
      h.modCh.bumpIf.sfcJudge.frameBody))
theorem sighting {c pos errs sfc} (h : Keeps o s) : Keeps o (s.sighting c pos errs sfc) := by
  unfold State.sighting
  extract_lets
  split
  exacts [h, h.adapt.ite (h.adapt.modCh.ite h.adapt.bumpCh)]
theorem promote {c k f} (h : Keeps o s) : Keeps o (s.promote c k f) := by
  refine .frameBody (.raiseIf ?_)
  split
  exacts [h.sdSfEnd.modCh.bumpCh.raiseIf.raiseIf.raise.raise, h.sdSfEnd.modCh.bumpCh.raiseIf.raiseIf.raise]
theorem candidateAt {c pos f} (h : Keeps o s) : Keeps o (s.candidateAt c pos f) := by
  unfold State.candidateAt
  extract_lets
  split
  exacts [h, h.adapt.ite (h.adapt.modCh.bumpCh.ite (h.adapt.modCh.ite h.adapt.promote))]
theorem cdrLocked {c} (h : Keeps o s) : Keeps o (s.cdrLocked c) := h.ite (h.modCh.restarted.ite h.modCh).adapt
theorem cdrLost {c} (h : Keeps o s) : Keeps o (s.cdrLost c) := h.ite h.modCh.assertLos
theorem cdrLate {c} (h : Keeps o s) : Keeps o (s.cdrLate c) := h.ite h.modCh.assertLos
theorem lightLost {c} (h : Keeps o s) : Keeps o (s.lightLost c) := h.assertLos.ite h
theorem lightBack {c} (h : Keeps o s) : Keeps o (s.lightBack c) := h.ite h.modCh.raise.adapt
theorem lossPersists {c} (h : Keeps o s) : Keeps o (s.lossPersists c) := h.assertLoss.ite h
theorem tecLock {c v} (h : Keeps o s) : Keeps o (s.tecLock c v) := h.ite h.modCh.txUpdate
theorem tecFails {c lost} (h : Keeps o s) : Keeps o (s.tecFails c lost) := h.ite h.modCh.setTx.raise
theorem biasDone {c} (h : Keeps o s) : Keeps o (s.biasDone c) := h.ite h.modCh.txReady
theorem monSample {c m} (h : Keeps o s) : Keeps o (s.monSample c m) := h.ite h.modCh
theorem keyInUse {c k l} (h : Keeps o s) : Keeps o (keyInUse c k l s) := by
  induction l generalizing s with
  | nil => exact h
  | cons x l ih => exact ih (h.ite h.modVch)
theorem keyMissing {c slot} (h : Keeps o s) : Keeps o (s.keyMissing c slot) := h.bump.modCh.raiseIf
theorem openPiece {c x p} (h : Keeps o s) : Keeps o (s.openPiece c x p).2 := by
  unfold State.openPiece
  extract_lets
  split
  · exact h.bump.sndIte h
  · exact h.keyMissing
  · refine h.bump.sndIte (h.unspoil.bump.sndIte ?_)
    split
    exacts [h.keyMissing, h.bump, h.useKey]
theorem openAll {c x l} (h : Keeps o s) : Keeps o (openAll c x l s).2 := by
  induction l generalizing s with
  | nil => exact h
  | cons x l ih =>
    rw [Machine.openAll]
    dsimp only
    split <;> exact ih h.openPiece
theorem sduTo {c port x b} (h : Keeps o s) : Keeps o (s.sduTo c port x b) := by
  unfold State.sduTo
  split
  · exact h.omciRelay
  · refine h.ite ?_
    split
    · exact h
    · split
      next e => exact h.takeCell.snd e
      next e => exact (h.takeCell.snd e).aside
theorem stampSdu {c port x b first} (h : Keeps o s) : Keeps o (s.stampSdu c port x b first) := by
  unfold State.stampSdu
  split
  exacts [h.stamp.ite h, h]
theorem deliverSdu {c port pieces first l a} (h : Keeps o s) : Keeps o (deliverSdu c port pieces first l a s) := by
  induction l generalizing s a with
  | nil => exact h
  | cons x l ih =>
    rw [Machine.deliverSdu]
    split
    next e => exact ih (h.openAll.snd e)
    next e =>
      have h1 := h.openAll.snd e
      exact ih (h1.ite h1.stampSdu).sduTo
theorem setPartial {c port p} (h : Keeps o s) : Keeps o (s.setPartial c port p) := h.modCh
theorem reasmDrop {c port} (h : Keeps o s) : Keeps o (s.reasmDrop c port) := by
  unfold State.reasmDrop
  split
  exacts [h, h.setPartial.freeAll.bumpCh]
theorem reasmGrow {c cells total} (h : Keeps o s) : Keeps o (s.reasmGrow c cells total).2 := h.buildChain
theorem reasmAdd {c port ts p x q} (h : Keeps o s) : Keeps o (s.reasmAdd c port ts p x q) := by
  unfold State.reasmAdd
  extract_lets
  split
  next e =>
    have h := h.reasmGrow.snd e
    exact h.setPartial.bumpCh
  next e =>
    have h := h.reasmGrow.snd e
    exact h.setPartial.freeAll.deliverSdu.ite h.setPartial
theorem reassemble {c port ts x} (h : Keeps o s) : Keeps o (s.reassemble c port ts x) := by
  refine (h.reasmDrop.deliverSdu.ite h.reasmDrop.reasmAdd).ite ?_
  split
  exacts [h.bumpCh, h.reasmAdd]
theorem xgemIn {c x} (h : Keeps o s) : Keeps o (s.xgemIn c x) := by
  refine h.ite (h.unspoil.bumpCh.ite (h.modCh.bumpCh.ite ((h.bumpCh.ite h).ite ((h.bumpCh.ite h).bumpCh.ite ?_))))
  extract_lets
  split
  exacts [(h.bumpCh.ite h).bumpCh, ((h.bumpCh.ite h).bumpCh.keyInUse.ite (h.bumpCh.ite h).bumpCh).reassemble]

/-! ### PassOps -/

theorem takeOwnership {k} (h : Keeps o s) : Keeps o (s.takeOwnership k) := by
  refine .ite ?_ ?_
  · refine .fcCheck ?_
    split
    exacts [h.passAll.creditRelease, h.passAll]
  · split
    exacts [h.passAll.creditRelease, h.passAll]
theorem firstPass {kind index} (h : Keeps o s) : Keeps o (s.firstPass kind index) := by
  refine h.ite ?_
  split
  exacts [h, h.modCls.takeOwnership.classify]
theorem decapNext (h : Keeps o s) : Keeps o s.decapNext := by
  unfold State.decapNext
  split
  exacts [h, h.ite h.modCls]
theorem macsecNext {e} (h : Keeps o s) : Keeps o (s.macsecNext e) := by
  unfold State.macsecNext
  split
  · exact h
  · refine h.ite ?_
    extract_lets
    split
    next e =>
      have h := h.modCls.secRx.snd e
      exact h.bumpEth.modCls
    next e =>
      have h := h.modCls.secRx.snd e
      exact h.bumpEth.freeAll.retireIfClear
    next e => exact (h.modCls.secRx.snd e).bump.freeAll.retireIfClear
    next e => exact (h.modCls.secRx.snd e).bump.freeAll.retireIfClear
theorem secondPass (h : Keeps o s) : Keeps o s.secondPass := by
  unfold State.secondPass
  split
  exacts [h, h.ite h.modCls.classify.retireIfClear]
theorem plateSwap (h : Keeps o s) : Keeps o s.plateSwap := by
  unfold State.plateSwap
  split
  exacts [h.swapPlates.answerSwap.ite h, h]
theorem dropStale {l} (h : Keeps o s) : Keeps o (State.dropStale l s) := by
  induction l generalizing s with
  | nil => exact h
  | cons x l ih => exact ih h.dropPkt.modCls
theorem plateRetire (h : Keeps o s) : Keeps o s.plateRetire := h.ite h.modCls.dropStale.retireIfClear
theorem copyEnd (h : Keeps o s) : Keeps o s.copyEnd := h.ite h.copyPlate.modCls.raise
theorem fragExpire (h : Keeps o s) : Keeps o s.fragExpire := h.modCls.bump
theorem fragFlush (h : Keeps o s) : Keeps o s.fragFlush := h.modCls.ite h
theorem ruleRepair {plate e} (h : Keeps o s) : Keeps o (s.ruleRepair plate e) := h.ite h.modCls

/-! ### KeyOps -/

theorem hostLoad {head material} (h : Keeps o s) : Keeps o (s.hostLoad head material) := h.hostWords
theorem softLimit {i} (h : Keeps o s) : Keeps o (s.softLimit i) := h.setSlot.raise.ite h
theorem hardLimit {i} (h : Keeps o s) : Keeps o (s.hardLimit i) := h.setSlot.raise.ite h
theorem rngFails (h : Keeps o s) : Keeps o s.rngFails := h.aside.bump.raise
theorem reseed {pass} (h : Keeps o s) : Keeps o (s.reseed pass) := h.ite h.aside.raise
theorem alarmOn {src} (h : Keeps o s) : Keeps o (s.alarmOn src) := h.ite h.alarmErase
theorem alarmOff {src} (h : Keeps o s) : Keeps o (s.alarmOff src) := h.ite h.aside
theorem tapUpdate {i} (h : Keeps o s) : Keeps o (s.tapUpdate i) := h.aside.ite h.aside.raise.txUpdate.txUpdate.finish
theorem tapScan {i scan} (h : Keeps o s) : Keeps o (s.tapScan i scan) := by
  unfold State.tapScan
  split
  exacts [h, h.emit, h.emit, h.emit, h.emit, h.aside.emit, h.aside.emit]
theorem drypoint (h : Keeps o s) : Keeps o s.drypoint := h.tapUpdate.ite h.tapUpdate.alarmErase.aside.raise.finish
theorem hostBlow {t' v} (h : Keeps o s) : Keeps o (s.hostBlow t' v) := h.hostWrite.blowFuse.ite h.hostWrite

/-! ### PortOps -/

theorem anDone {e fec} (h : Keeps o s) : Keeps o (s.anDone e fec) := h.ite h.modEth.setEth
theorem trainDone {e} (h : Keeps o s) : Keeps o (s.trainDone e) := h.setEth.ite h
theorem trainFails {e} (h : Keeps o s) : Keeps o (s.trainFails e) := h.setEth.ite h
theorem ethUp {e skew} (h : Keeps o s) : Keeps o (s.ethUp e skew) := h.ite h.modEth.setEth
theorem linkWaitEnds {e} (h : Keeps o s) : Keeps o (s.linkWaitEnds e) := h.setEth.ite h
theorem pcsLost {e} (h : Keeps o s) : Keeps o (s.pcsLost e) := h.setEth.ite h
theorem holdEnds {e prio} (h : Keeps o s) : Keeps o (s.holdEnds e prio) := by
  unfold State.holdEnds
  split
  exacts [h.holdChange.lldpHeld.ite h, h.holdChange.ite h]
theorem pauseAgain {e} (h : Keeps o s) : Keeps o (s.pauseAgain e) := h.sendPause.ite h
theorem lpiEnter {e} (h : Keeps o s) : Keeps o (s.lpiEnter e) :=
  h.ite (h.txDone.instant.ite h.txDone.instant.modEth.bumpEth)
theorem lpiLeave {e} (h : Keeps o s) : Keeps o (s.lpiLeave e) := h.modEth.ite h
theorem lpiReceive {e v} (h : Keeps o s) : Keeps o (s.lpiReceive e v) := h.ite h.modEth.bumpEth

/-! ### ClockOps -/

theorem todNow {c} (h : Keeps o s) : Keeps o (s.todNow c) := by
  unfold State.todNow
  split
  exacts [h, h.todCompute.ite h]
theorem servoHolds (h : Keeps o s) : Keeps o s.servoHolds := h.setServo.ite h
theorem eecLocks (h : Keeps o s) : Keeps o s.eecLocks := h.modTime.setEec.ite h
theorem ppsRises (h : Keeps o s) : Keeps o s.ppsRises := by
  refine h.ite ?_
  split
  exacts [h, h.ite h.modTime.emit]
theorem ppsFalls (h : Keeps o s) : Keeps o s.ppsFalls := h.modTime.ite h
theorem ppsLost (h : Keeps o s) : Keeps o s.ppsLost := h.modTime.raise.ite h

/-! ### LegacyOps -/

theorem modLeg {f} (h : Keeps o s) : Keeps o (s.modLeg f) := h
theorem legacyAnswer {a} (h : Keeps o s) : Keeps o (s.legacyAnswer a) := h.modLeg.ite h.modLeg
theorem legacySettle (h : Keeps o s) : Keeps o s.legacySettle := by
  unfold State.legacySettle
  split
  exacts [h.ite h.modLeg.legacyAnswer, h]
theorem legacyServe {tag f} (h : Keeps o s) (hf : ∀ t, Keeps o t → Keeps o (f t).2) : Keeps o
    (s.legacyServe tag f) := by
  refine h.ite (h.legacySettle.emit.ite ?_)
  extract_lets
  split
  next e => exact ((hf _ h.legacySettle.modLeg).snd e).legacyAnswer
  next e => exact ((hf _ h.legacySettle.modLeg).snd e).modLeg
theorem pacingEnds (h : Keeps o s) : Keeps o s.pacingEnds := by
  unfold State.pacingEnds
  extract_lets
  split
  exacts [h.legacySettle.modLeg, h.legacySettle.modLeg.ite h.legacySettle]
theorem legacyRestart (h : Keeps o s) : Keeps o s.legacyRestart := h.deviceReset.ite h
theorem legacyRead {count} (h : Keeps o s) : Keeps o (s.legacyRead count) :=
  h.ite (h.legacySettle.fresh.emit.legacyRestart.ite h.legacySettle.fresh.emit)
theorem waitEnds (h : Keeps o s) : Keeps o s.waitEnds := (h.ite h.legacyRestart).ite h.endWait
theorem legacyHandover {ok} (h : Keeps o s) : Keeps o (s.legacyHandover ok) := h.legacyAnswer.ite h
theorem readyLegacy (h : Keeps o s) : Keeps o s.readyLegacy :=
  (h.ready.putCfg.startCh.ite h.ready.putCfg).txUpdate.ite h.ready

/-! ### CoverOps -/

theorem flowRestarts {f} (h : Keeps o s) : Keeps o (s.flowRestarts f) := h.reasmDrop
theorem eccError {e} (h : Keeps o s) : Keeps o (s.eccError e) :=
  h.ite (h.eccReport.eccConsequence.flowRestarts.ite h.eccReport.eccConsequence).finish
theorem goldenRewrites (h : Keeps o s) : Keeps o s.goldenRewrites := h
theorem pairDisagrees {svc} (h : Keeps o s) : Keeps o (s.pairDisagrees svc) :=
  h.ite (h.pairMismatch.enterSafe.ite ((h.pairMismatch.timeoutRunning.ite h.pairMismatch).legacyHandover.ite
      (h.pairMismatch.timeoutRunning.ite h.pairMismatch)).finish)
theorem pairResumes {svc} (h : Keeps o s) : Keeps o (s.pairResumes svc) := h.modFault
theorem eccAny {e} (h : Keeps o s) : Keeps o (s.eccAny e) := h.eccError.pairDisagrees.ite h.eccError
theorem clockFails {g permille ports} (h : Keeps o s) : Keeps o (s.clockFails g permille ports) := h.ite h.clockFault
theorem ctlIllegal {m} (h : Keeps o s) : Keeps o (s.ctlIllegal m) := h.illegal.ite h
theorem useErrors {l} (h : Keeps o s) : Keeps o (useErrors l s) := by
  induction l generalizing s with
  | nil => exact h
  | cons x l ih => exact ih h.servoUse
theorem servoResumes (h : Keeps o s) : Keeps o s.servoResumes := h.modTime.useErrors
theorem handoverTold {ok phase} (h : Keeps o s) : Keeps o (s.handoverTold ok phase) := h.bump.raise
theorem handoverEnds {ok} (h : Keeps o s) : Keeps o (s.handoverEnds ok) :=
  h.modFault.answerActivate.legacyHandover.servoResumes.finish
theorem handoverStarts (h : Keeps o s) : Keeps o s.handoverStarts := by
  unfold State.handoverStarts
  split
  exacts [h, h.ite (h.handoverEnds.ite ((h.ite h.imageInService.handoverTold.handoverEnds).ite h.modFault))]
theorem handoverPasses (h : Keeps o s) : Keeps o s.handoverPasses := by
  unfold State.handoverPasses
  split
  exacts [h, h.ite h.modFault]
theorem handoverFails (h : Keeps o s) : Keeps o s.handoverFails := by
  unfold State.handoverFails
  split
  exacts [h, h.ite h.modFault.handoverTold]

/-! ### LegacyRun -/

theorem okVals {op vals} (h : Keeps o s) : Keeps o (okVals op vals s).2 := h
theorem fails {status} (h : Keeps o s) : Keeps o (fails status s).2 := h
theorem inRange {op fields f} (h : Keeps o s) (hf : ∀ t, Keeps o t → Keeps o (f t).2) : Keeps o
    (inRange op fields f s).2 :=
  (hf _ h).sndIte h.fails
theorem legacyWriteIn {op missing full ws} (h : Keeps o s) : Keeps o (legacyWriteIn op missing full ws s).2 :=
  h.fails.sndIte (h.fails.sndIte (h.fails.sndIte (h.fails.sndIte (h.fails.sndIte h.writeApply.finish.okVals))))
theorem legacyWrite {op ws} (h : Keeps o s) : Keeps o (legacyWrite op ws s).2 := h.legacyWriteIn
theorem clearBases {l} (h : Keeps o s) : Keeps o (clearBases l s) := by
  induction l generalizing s with
  | nil => exact h
  | cons x l ih => exact ih h.modLeg
theorem counters {op clear l} (h : Keeps o s) : Keeps o (counters op clear l s).2 := (h.clearBases.ite h).okVals
theorem reportFree {op n} (h : Keeps o s) : Keeps o (reportFree op n s).2 := h.fresh.okVals
theorem lgIdentity (h : Keeps o s) : Keeps o (lgIdentity s).2 := h
theorem alarmWord (h : Keeps o s) : Keeps o (s.alarmWord).2 := h.fresh
theorem lgAlarms (h : Keeps o s) : Keeps o (lgAlarms s).2 := h.alarmWord.okVals
theorem lgAlarmMask {mask} (h : Keeps o s) : Keeps o (lgAlarmMask mask s).2 := h.modLeg.okVals
theorem lgClearAlarms (h : Keeps o s) : Keeps o (lgClearAlarms s).2 := (h.ite h.modLeg).okVals
theorem lgVersion (h : Keeps o s) : Keeps o (lgVersion s).2 := h.okVals
theorem lgStatus (h : Keeps o s) : Keeps o (lgStatus s).2 := h.alarmWord.okVals
theorem lgReset (h : Keeps o s) : Keeps o (lgReset s).2 := h.modLeg.okVals
theorem lgSetSerial {sn} (h : Keeps o s) : Keeps o (lgSetSerial sn s).2 := by
  unfold Machine.lgSetSerial
  extract_lets
  split
  exacts [h.fails.sndIte h.createVonu.okVals, h.createVonu.okVals, h.fails]
theorem lgSetRegId {r} (h : Keeps o s) : Keeps o (lgSetRegId r s).2 := by
  unfold Machine.lgSetRegId
  split
  exacts [h.setVonu.okVals, h.setVonu.okVals, h.fails]
theorem lgPon {op on} (h : Keeps o s) : Keeps o (lgPon op on s).2 := h.setMasks.finish.okVals.sndIte h.fails
theorem lgOnuId (h : Keeps o s) : Keeps o (lgOnuId s).2 := h.okVals
theorem lgEqd (h : Keeps o s) : Keeps o (lgEqd s).2 := h.okVals
theorem lgOptical (h : Keeps o s) : Keeps o (lgOptical s).2 := h.okVals
theorem lgTxEnable {on} (h : Keeps o s) : Keeps o (lgTxEnable on s).2 := h.legacyWrite
theorem lgOmciFetch (h : Keeps o s) : Keeps o (lgOmciFetch s).2 := by
  refine h.okVals.sndIte ?_
  extract_lets
  split <;> exact h.putCfg.okVals
theorem lgGetSerial (h : Keeps o s) : Keeps o (lgGetSerial s).2 := h.okVals
theorem lgOnuState (h : Keeps o s) : Keeps o (lgOnuState s).2 := h.okVals
theorem lgOmciTx {msg} (h : Keeps o s) : Keeps o (lgOmciTx msg s).2 := by
  refine h.fails.sndIte ?_
  split
  exacts [h.omciTxApply.okVals, h.fails]
theorem lgOmciStatus (h : Keeps o s) : Keeps o (lgOmciStatus s).2 := h.okVals
theorem lgMsk {msk} (h : Keeps o s) : Keeps o (lgMsk msk s).2 := h.fails.sndIte h.loadMsk.okVals
theorem lgAddGem {i port} (h : Keeps o s) : Keeps o (lgAddGem i port s).2 := h.legacyWriteIn
theorem lgDelGem {i} (h : Keeps o s) : Keeps o (lgDelGem i s).2 := h.legacyWriteIn
theorem lgGetGem {i} (h : Keeps o s) : Keeps o (lgGetGem i s).2 := by
  unfold Machine.lgGetGem
  split
  exacts [h.okVals, h.fails]
theorem lgMapTcont {i a} (h : Keeps o s) : Keeps o (lgMapTcont i a s).2 := h.fails.sndIte h.modLeg.okVals
theorem lgUnmapTcont {i} (h : Keeps o s) : Keeps o (lgUnmapTcont i s).2 := h.fails.sndIte h.modLeg.okVals
theorem lgGetTcont {i} (h : Keeps o s) : Keeps o (lgGetTcont i s).2 := by
  unfold Machine.lgGetTcont
  split
  exacts [h.okVals, h.fails]
theorem lgTcontQueue {i q} (h : Keeps o s) : Keeps o (lgTcontQueue i q s).2 := by
  unfold Machine.lgTcontQueue
  split
  · exact h.fails
  · split
    exacts [h.fails, h.legacyWrite]
theorem lgGemCounters {i clear} (h : Keeps o s) : Keeps o (lgGemCounters i clear s).2 := h.fails.sndIte h.counters
theorem ruleEdit {f} (h : Keeps o s) (hf : ∀ a t, Keeps o t → Keeps o (f a t)) : Keeps o (s.ruleEdit f) :=
  (hf _ _ h.copyPlate).swapPlates
theorem ruleDone {op} (h : Keeps o s) : Keeps o (ruleDone op s).2 := h.modLeg.sndIte h.okVals
theorem dropRule {e p} (h : Keeps o s) : Keeps o (dropRule e p s) := h.dropCfg
theorem lgAddRule {e words} (h : Keeps o s) : Keeps o (lgAddRule e words s).2 :=
  h.fails.sndIte (h.fails.sndIte (h.fails.sndIte (h.ruleEdit fun _ _ h => h.dropRule.writeApply.putCfg).ruleDone))
theorem lgDelRule {e} (h : Keeps o s) : Keeps o (lgDelRule e s).2 :=
  h.fails.sndIte (h.fails.sndIte (h.ruleEdit fun _ _ h => h.dropRule).ruleDone)
theorem lgGetRule {e} (h : Keeps o s) : Keeps o (lgGetRule e s).2 := h.fails.sndIte h.okVals
theorem lgClearRules (h : Keeps o s) : Keeps o (lgClearRules s).2 :=
  h.fails.sndIte (h.ruleEdit fun _ _ h => h.dropCfg).ruleDone
theorem lgDefaultAction {kind words} (h : Keeps o s) : Keeps o (lgDefaultAction kind words s).2 := h.legacyWrite
theorem lgRuleCounters {e clear} (h : Keeps o s) : Keeps o (lgRuleCounters e clear s).2 := by
  refine h.fails.sndIte ?_
  split
  exacts [h.counters, h.okVals]
theorem lgSetMeter {m words} (h : Keeps o s) : Keeps o (lgSetMeter m words s).2 := h.legacyWriteIn
theorem lgGetMeter {m} (h : Keeps o s) : Keeps o (lgGetMeter m s).2 := h.fails.sndIte h.okVals
theorem lgSetQueue {q words} (h : Keeps o s) : Keeps o (lgSetQueue q words s).2 := h.legacyWrite
theorem lgGetQueue {q} (h : Keeps o s) : Keeps o (lgGetQueue q s).2 := h.okVals
theorem lgShaper {n rate burst} (h : Keeps o s) : Keeps o (lgShaper n rate burst s).2 := h.legacyWrite
theorem lgQueueCounters {q clear} (h : Keeps o s) : Keeps o (lgQueueCounters q clear s).2 := h.counters
theorem lgEthCfg {val} (h : Keeps o s) : Keeps o (lgEthCfg val s).2 := h.fails.sndIte h.legacyWrite
theorem lgEthStatus (h : Keeps o s) : Keeps o (lgEthStatus s).2 := h.okVals
theorem lgEthCounters {clear} (h : Keeps o s) : Keeps o (lgEthCounters clear s).2 := h.counters
theorem lgPause {words} (h : Keeps o s) : Keeps o (lgPause words s).2 := h.legacyWrite
theorem lgMac {mac} (h : Keeps o s) : Keeps o (lgMac mac s).2 := h.legacyWrite
theorem lgGetTod (h : Keeps o s) : Keeps o (lgGetTod s).2 := h.instant
theorem lgSetTod {seconds ns} (h : Keeps o s) : Keeps o (lgSetTod seconds ns s).2 :=
  h.fails.sndIte (h.fails.sndIte h.instant.stepTime.okVals)
theorem lgPps {val} (h : Keeps o s) : Keeps o (lgPps val s).2 := h.legacyWrite
theorem lgTodSf {sfc seconds ns teqd} (h : Keeps o s) : Keeps o (lgTodSf sfc seconds ns teqd s).2 :=
  h.instant.todTake.okVals.sndIte h.instant.fails
theorem lgFwBegin {n} (h : Keeps o s) : Keeps o (lgFwBegin n s).2 := h.imageBegin.okVals.sndIte h.fails
theorem lgFwData {off data} (h : Keeps o s) : Keeps o (lgFwData off data s).2 := h.imageData.okVals.sndIte h.fails
theorem lgFwActivate (h : Keeps o s) : Keeps o (lgFwActivate s).2 := by
  unfold Machine.lgFwActivate
  extract_lets
  split
  next e =>
    have h1 := h.imageVerify.snd e
    split
    exacts [h1.modFault, h.fails]
theorem lgIdentify (h : Keeps o s) : Keeps o (lgIdentify s).2 := h
theorem lgPacing {on} (h : Keeps o s) : Keeps o (lgPacing on s).2 := h.fails.sndIte h.fresh.mramWrite.aside
theorem legacyFit {op l f} (h : Keeps o s) (hf : ∀ t, Keeps o t → Keeps o (f t).2) : Keeps o
    (legacyFit op l f s).2 := by
  unfold Machine.legacyFit
  split
  · exact hf _ h
  · split
    exacts [h.inRange hf, h.fails]
theorem legacyRun {op clear l} (h : Keeps o s) : Keeps o (legacyRun op clear l s).2 := by
  unfold Machine.legacyRun
  split
  · exact h.lgIdentity
  · exact h.lgStatus
  · exact h.lgReset
  · exact h.reportFree
  · exact h.lgAlarmMask
  · exact h.lgAlarms
  · exact h.lgClearAlarms
  · exact h.lgVersion
  · exact h.lgSetSerial
  · exact h.lgGetSerial
  · exact h.lgSetRegId
  · exact h.lgPon
  · exact h.lgPon
  · exact h.lgOnuState
  · exact h.lgOnuId
  · exact h.lgEqd
  · exact h.lgOptical
  · exact h.lgTxEnable
  · exact h.counters
  · exact h.lgOmciFetch
  · exact h.lgOmciTx
  · exact h.lgOmciStatus
  · exact h.lgMsk
  · exact h.lgAddGem
  · exact h.lgDelGem
  · exact h.lgGetGem
  · exact h.lgMapTcont
  · exact h.lgUnmapTcont
  · exact h.lgGetTcont
  · exact h.lgTcontQueue
  · exact h.lgGemCounters
  · exact h.lgAddRule
  · exact h.lgDelRule
  · exact h.lgGetRule
  · exact h.lgClearRules
  · exact h.lgDefaultAction
  · exact h.lgRuleCounters
  · exact h.lgSetMeter
  · exact h.lgGetMeter
  · exact h.lgSetQueue
  · exact h.lgGetQueue
  · exact h.lgShaper
  · exact h.lgQueueCounters
  · exact h.lgEthCfg
  · exact h.lgEthStatus
  · exact h.lgEthCounters
  · exact h.lgPause
  · exact h.lgMac
  · exact h.lgGetTod
  · exact h.lgSetTod
  · exact h.lgPps
  · exact h.lgTodSf
  · exact h.lgFwBegin
  · exact h.lgFwData
  · exact h.lgFwActivate
  · generalize l.getD 0 0 = a
    split
    exacts [h.lgIdentify, h.lgPacing, h.lgPacing, h.fails]
  · exact h.fails
theorem legacyParse {bytes} (h : Keeps o s) : Keeps o (legacyParse bytes s).2 := by
  unfold Machine.legacyParse
  split
  · exact h.fails
  · split
    · exact h.fails
    · split
      · exact h.fails
      · generalize legacyFieldsOf _ _ = q
        cases q with
        | none => exact h.fails
        | some l =>
          dsimp only
          split
          exacts [h.fails, h.legacyFit fun _ h => h.legacyRun]
theorem legacyCommand {bytes} (h : Keeps o s) : Keeps o (s.legacyCommand bytes) :=
  h.ite (h.legacyServe fun _ h => h.legacyParse)

/-! ### PloamOps -/

theorem served {c k} (h : Keeps o s) (hk : ∀ t w, Keeps o t → Keeps o ((k t w).getD t)) : Keeps o (s.served c k) := by
  unfold State.served
  split
  · exact h
  · split
    next e => exact ((hk _ _ h.modCh.freeAll).ofGetD e).finish
    · exact h
theorem eachTarget {c listed f l} (h : Keeps o s) (hf : ∀ t v, Keeps o t → Keeps o (f t v)) :
    Keeps o (eachTarget c listed f l s) := by
  induction l generalizing s with
  | nil => exact h
  | cons x l ih => exact ih ((hf _ _ h).ite h.bumpUnmatched)
theorem expireFirst {c w} (h : Keeps o s) : Keeps o (s.expireFirst c w) := h.foldl fun _ _ h => h.expireDue
theorem serveAll {c w listed f} (h : Keeps o s) (hf : ∀ t b, Keeps o t → Keeps o (f t b)) : Keeps o
    (s.serveAll c w listed f) :=
  (h.expireFirst.eachTarget fun _ _ h => (hf _ _ h)).reportMoves
theorem putProfile {c idx p v} (h : Keeps o s) : Keeps o (s.putProfile c idx p v) := h.ite h.modVch.tryO23
theorem assignId {c id v} (h : Keeps o s) : Keeps o (s.assignId c id v) := h.modVch.allocTry
theorem assignEqd {c value relative ack arrived v} (h : Keeps o s) : Keeps o
    (s.assignEqd c value relative ack arrived v) :=
  (h.aside.modVch.eqdCheck.tuningDone.ite h.aside.modVch.eqdCheck).upPloam.ite
      (h.aside.modVch.eqdCheck.tuningDone.ite h.aside.modVch.eqdCheck)
theorem deactivate {c v} (h : Keeps o s) : Keeps o (s.deactivate c v) := h.setAct.tryO23
theorem stopSerial {c v} (h : Keeps o s) : Keeps o (s.stopSerial c v) := h.ite h.modVch.estopWrite
theorem startSerial {c v} (h : Keeps o s) : Keeps o (s.startSerial c v) := h.ite h.estopErase.setAct.tryO23
theorem serialService {c w sn disable} (h : Keeps o s) : Keeps o (s.serialService c w sn disable) :=
  (h.expireFirst.serveAll fun _ _ h => h.stopSerial.ite h.startSerial).raiseIf
theorem assignAlloc {c id release arrived v} (h : Keeps o s) : Keeps o (s.assignAlloc c id release arrived v) := by
  refine .ite ?_ h.allocTry.upPloam
  split
  exacts [(h.allocRelease.ite h).upPloam, h.upPloam]
theorem drawKey {slot} (h : Keeps o s) : Keeps o (s.drawKey slot) := h.aside.loadSlot.bump
theorem keyReport {c k arrived v} (h : Keeps o s) : Keeps o (s.keyReport c k arrived v) := by
  refine .ite ?_ h.upPloam
  extract_lets
  split
  next e => exact (h.keyBegin.snd e).upPloam
  next e => exact h.keyBegin.snd e
theorem keyControlIn {c k generate arrived v} (h : Keeps o s) : Keeps o (s.keyControlIn c k generate arrived v) :=
  h.ite (h.keyReport.ite (h.ite h.drawKey.keyReport))
theorem sleepAllowIn {c value ack arrived v} (h : Keeps o s) : Keeps o (s.sleepAllowIn c value ack arrived v) :=
  h.modVch.upPloam.ite h.modVch
theorem tuningIn {c id sfc arrived v} (h : Keeps o s) : Keeps o (s.tuningIn c id sfc arrived v) :=
  (h.modVch.ite h).upPloam
theorem moveBindings {v o' l} (h : Keeps o s) : Keeps o (moveBindings v o' l s) := by
  induction l generalizing s with
  | nil => exact h
  | cons x l ih => exact ih (h.ite h.putCfg)
theorem moveAllocs {o' l} (h : Keeps o s) : Keeps o (moveAllocs o' l s) := by
  induction l generalizing s with
  | nil => exact h
  | cons x l ih =>
    obtain ⟨i, _ | a⟩ := x
    exacts [ih h, ih h.setAlloc]
theorem moveKey {v c o' k} (h : Keeps o s) : Keeps o (s.moveKey v c o' k) := h.setSlot.eraseSlot
theorem tuneNow {v c} (h : Keeps o s) : Keeps o (s.tuneNow v c) :=
  h.setVonu.moveAllocs.moveBindings.moveKey.moveKey.setAct.modVch.reportMoves.reportMoves
theorem tuningSuperframeIn {v} (h : Keeps o s) : Keeps o (s.tuningSuperframeIn v) := by
  unfold State.tuningSuperframeIn
  split
  exacts [h.tuneNow.ite h, h]
theorem tuneSynced {v c} (h : Keeps o s) : Keeps o (s.tuneSynced v c) := h.modVch.reportMoves.ite h

/-! ### Ploam -/

theorem noLaserChange {c w} (h : Keeps o s) : Keeps o (s.noLaserChange c w) := h.serveAll fun _ _ h => h.upPloam

/-! ### Power -/

theorem railRetry {d} (h : Keeps o s) : Keeps o (s.railRetry d) := h.modDom.domRetry.ite h
theorem bootFails (h : Keeps o s) : Keeps o s.bootFails := h.aside.deviceReset.ite h

end Keeps

/-! ### Every command -/

/-- Every command has an outcome, and it keeps the part, the queue, the blown fuses and the words' canonical form. -/
theorem exec_keeps (c : Instr) (s : State) : ∃ t, exec c s = .next t ∧ Keeps s t := by
  have h := Keeps.refl s
  cases c with
  | read | write | modify | bulkRead | tableLoad => exact ⟨_, rfl, h.submit⟩
  | objectWordWrite => exact ⟨_, rfl, h.hostWords⟩
  | commitPlate | commitHatch | commitProfile | vonuCreate | vonuEnable | vonuRetire | subscribe | fetch
  | ack | vote | unvote | sleep | imageBegin | imageData | imageVerify | imageActivate | loopSet | prbsCtl
  | prbsRead | resync | servoMode | timeStep | timeRate => exact ⟨_, rfl, h.submit⟩
  | twiWriteTransaction => exact ⟨_, rfl, h.twiWrite⟩
  | twiReadTransaction => exact ⟨_, rfl, h.twiRead⟩
  | twiBusRecovery => exact ⟨_, rfl, h.busRecovery⟩
  | twiWriteAbandoned => exact ⟨_, rfl, h.recoverTwi⟩
  | managementFrame => exact ⟨_, rfl, h.mgmtFrame⟩
  | interimReply => exact ⟨_, rfl, h.interim⟩
  | chainTimeout => exact ⟨_, rfl, h.chainTimeout⟩
  | atTickEffect => exact ⟨_, rfl, h.effects.stampDue.finish⟩
  | tickBoundEffect => exact ⟨_, rfl, h.effects.resyncsDue.stampDue.finish⟩
  | tick => exact ⟨_, rfl, h.doTick⟩
  | refFallbackTick => exact ⟨_, rfl, h.doFallback⟩
  | workWindowClose => exact ⟨_, rfl, h.windowClose⟩
  | stippleCopy => exact ⟨_, rfl, h.stippleCopy⟩
  | stippleCopyComplete => exact ⟨_, rfl, h.stippleDone⟩
  | cfgCrcRewrite => exact ⟨_, rfl, h.crcRewrite.finish⟩
  | crossingDisturbance => exact ⟨_, rfl, h.crossingDisturbed⟩
  | crossingFifoFault => exact ⟨_, rfl, h.crossingFifo⟩
  | firmwareResync => exact ⟨_, rfl, h.firmwareResync⟩
  | chRestart | resetEq | chEnable | chDisable => exact ⟨_, rfl, h.hostBits⟩
  | cdrLock => exact ⟨_, rfl, h.cdrLocked.finish⟩
  | cdrLockLoss => exact ⟨_, rfl, h.cdrLost.finish⟩
  | cdrRelockTimeout => exact ⟨_, rfl, h.cdrLate.finish⟩
  | psbdSighting => exact ⟨_, rfl, h.sighting⟩
  | candidatePredictedPsbd => exact ⟨_, rfl, h.candidateAt.finish⟩
  | downstreamFrame => exact ⟨_, rfl, h.frameIn.finish⟩
  | xgemFrameReceived => exact ⟨_, rfl, h.xgemIn⟩
  | xgemReassemblyTimeout => exact ⟨_, rfl, h.reasmDrop⟩
  | losAssert => exact ⟨_, rfl, h.lightLost.finish⟩
  | losClear => exact ⟨_, rfl, h.lightBack.finish⟩
  | channelLossTimeout => exact ⟨_, rfl, h.lossPersists⟩
  | sdSfWindowEnd => exact ⟨_, rfl, h.sdSfEnd⟩
  | eqConvergedChange => exact ⟨_, rfl, h.modCh.ite h⟩
  | tecLockChange => exact ⟨_, rfl, h.tecLock.finish⟩
  | tecFault => exact ⟨_, rfl, h.tecFails.finish⟩
  | monitorSample => exact ⟨_, rfl, h.monSample⟩
  | burstProfile => exact ⟨_, rfl, h.served fun _ _ h => by split; exacts [h.serveAll fun _ _ h => h.putProfile, h]⟩
  | assignOnuId => exact ⟨_, rfl, h.served fun _ _ h => by split; exacts [h.serveAll fun _ _ h => h.assignId, h]⟩
  | rangingTime => exact ⟨_, rfl, h.served fun _ _ h => by split; exacts [h.serveAll fun _ _ h => h.assignEqd, h]⟩
  | deactivateOnuId => exact ⟨_, rfl, h.served fun _ _ h => by split; exacts [h.serveAll fun _ _ h => h.deactivate, h]⟩
  | disableSerialNumber => exact ⟨_, rfl, h.served fun _ _ h => by split; exacts [h.serialService, h]⟩
  | requestRegistration => exact ⟨_, rfl, h.served fun _ _ h => by split; exacts [h.serveAll fun _ _ h => h.upPloam, h]⟩
  | assignAllocId => exact ⟨_, rfl, h.served fun _ _ h => by split; exacts [h.serveAll fun _ _ h => h.assignAlloc, h]⟩
  | keyControl => exact ⟨_, rfl, h.served fun _ _ h => by split; exacts [h.serveAll fun _ _ h => h.keyControlIn, h]⟩
  | sleepAllow => exact ⟨_, rfl, h.served fun _ _ h => by split; exacts [h.serveAll fun _ _ h => h.sleepAllowIn, h]⟩
  | systemProfile | channelProfile =>
    exact ⟨_, rfl, h.served fun _ _ h => by split; exacts [h.serveAll fun _ _ h => h.aside, h]⟩
  | tuningControl => exact ⟨_, rfl, h.served fun _ _ h => by split; exacts [h.serveAll fun _ _ h => h.tuningIn, h]⟩
  | protectionControl | changePowerLevel | adjustTxWavelength | calibrationRequest =>
    exact ⟨_, rfl, h.served fun _ _ h => by split; exacts [h.noLaserChange, h]⟩
  | unknownPloamType => exact ⟨_, rfl, h.served fun _ _ h => by split; exacts [h.serveAll fun _ _ h => h.upPloam, h]⟩
  | tuningSuperframe => exact ⟨_, rfl, h.tuningSuperframeIn.finish⟩
  | tuningTargetSync => exact ⟨_, rfl, h.tuneSynced.tuneSynced⟩
  | to1Expiry | to2Expiry => exact ⟨_, rfl, h.timerExpiry⟩
  | to4Expiry | to5Expiry => exact ⟨_, rfl, h.tuningExpiry⟩
  | vonuRetired => exact ⟨_, rfl, h.freeVonu.finish.ite h⟩
  | omciDownstreamMessage => exact ⟨_, rfl, h.omciRelay.ite h⟩
  | omciRxConsumerWrite | vonuOmciTx | vonuFlowBind => exact ⟨_, rfl, h.hostWords⟩
  | bwmapPartition => exact ⟨_, rfl, h.partition⟩
  | shadowPartitionDecode => exact ⟨_, rfl, h.shadowPartition⟩
  | snapshotComplete => exact ⟨_, rfl, h.adoptSnapshots⟩
  | burstAssembly => exact ⟨_, rfl, h.assemble⟩
  | commitDeadline => exact ⟨_, rfl, h.deadline⟩
  | burstStart => exact ⟨_, rfl, h.startBurst.finish⟩
  | burstEnd => exact ⟨_, rfl, h.endBurst.finish⟩
  | refillFrameStaged => exact ⟨_, rfl, h.stageOne⟩
  | guardDisagreement => exact ⟨_, rfl, h.disagree.finish⟩
  | lightCheckTrip => exact ⟨_, rfl, h.lightTrip.finish⟩
  | biasSwitchClose => exact ⟨_, rfl, h.closeSwitch⟩
  | twinRewrite => exact ⟨_, rfl, h.rewriteTwins⟩
  | twinReload => exact ⟨_, rfl, h.reloadTwins.finish⟩
  | rearm | testTrip => exact ⟨_, rfl, h.hostBits⟩
  | classifierFirstPass => exact ⟨_, rfl, h.firstPass⟩
  | decap => exact ⟨_, rfl, h.decapNext⟩
  | macsecVerify => exact ⟨_, rfl, h.macsecNext⟩
  | classifierSecondPass => exact ⟨_, rfl, h.secondPass⟩
  | plateSwap => exact ⟨_, rfl, h.plateSwap⟩
  | plateRetired => exact ⟨_, rfl, h.plateRetire⟩
  | copyActive => exact ⟨_, rfl, h.hostBits⟩
  | copyDone => exact ⟨_, rfl, h.copyEnd⟩
  | fragExpired => exact ⟨_, rfl, h.fragExpire⟩
  | fragCarriedDiscard => exact ⟨_, rfl, h.fragFlush⟩
  | ruleEntryRepair => exact ⟨_, rfl, h.ruleRepair⟩
  | queueAdmission => exact ⟨_, rfl, h.admitNext⟩
  | nodeRelease => exact ⟨_, rfl, h.nodeRun.ite h⟩
  | flush => exact ⟨_, rfl, h.hostWords⟩
  | flushComplete => exact ⟨_, rfl, h.aside⟩
  | hatchCopyStart => exact ⟨_, rfl, h.hatchBegin⟩
  | hatchStarted => exact ⟨_, rfl, h.hatchCopied⟩
  | gateChange => exact ⟨_, rfl, h.gateNow⟩
  | pktConfigRestore => exact ⟨_, rfl, h.pktRestore⟩
  | allocRequest => exact ⟨_, rfl, h.allocCycle⟩
  | free => exact ⟨_, rfl, h.cellFree⟩
  | transfer => exact ⟨_, rfl, h.cellTransfer⟩
  | share => exact ⟨_, rfl, h.ite h.cellShare⟩
  | release => exact ⟨_, rfl, h.cellFree⟩
  | dramRetrain => exact ⟨_, rfl, h.dramReading.ite h⟩
  | laneBlockLock => exact ⟨_, rfl, h.laneLocks.aligned⟩
  | lockLoss => exact ⟨_, rfl, h.laneUnlocks.aligned⟩
  | alignBlock => exact ⟨_, rfl, h.alignIn.aligned⟩
  | alinkRetrain | alinkRepair | alinkRestore => exact ⟨_, rfl, h.hostWords.aligned⟩
  | arxcValid => exact ⟨_, rfl, (h.linkTo.ite h).aligned⟩
  | arxcLoss => exact ⟨_, rfl, h.clockLost.aligned⟩
  | clockStateTimeout => exact ⟨_, rfl, h.linkTimeout.aligned⟩
  | adaptDone => exact ⟨_, rfl, (h.linkTo.ite h).aligned⟩
  | lockStateEnd => exact ⟨_, rfl, h.lockEnds.aligned⟩
  | deskewDone => exact ⟨_, rfl, h.deskewEnds.aligned⟩
  | deskewTimeout | waitPeerTimeout => exact ⟨_, rfl, h.linkTimeout.aligned⟩
  | failedRetry => exact ⟨_, rfl, (h.linkTo.ite h).aligned⟩
  | alanovFrameReceived => exact ⟨_, rfl, h.alFrameIn.finish⟩
  | creditBlockReceived => exact ⟨_, rfl, h.creditIn.finish⟩
  | calendarRound => exact ⟨_, rfl, h.creditCalendar.finish⟩
  | creditLoss => exact ⟨_, rfl, h.creditLost⟩
  | cesLateDrop => exact ⟨_, rfl, h.cesLate⟩
  | ethRestart => exact ⟨_, rfl, h.hostWords⟩
  | ethRerate | kr4Change => exact ⟨_, rfl, h.hostBits⟩
  | anComplete => exact ⟨_, rfl, h.anDone⟩
  | trainingComplete => exact ⟨_, rfl, h.trainDone⟩
  | trainingFailed => exact ⟨_, rfl, h.trainFails⟩
  | ethLinkUp => exact ⟨_, rfl, h.ethUp⟩
  | linkWaitTimeout => exact ⟨_, rfl, h.linkWaitEnds⟩
  | ethLinkDown => exact ⟨_, rfl, h.pcsLost⟩
  | ethFrameReceived | pauseFrameReceived | pfcFrameReceived => exact ⟨_, rfl, h.ethFrame⟩
  | pauseHoldExpiry => exact ⟨_, rfl, h.holdEnds⟩
  | pauseRepeat => exact ⟨_, rfl, h.pauseAgain⟩
  | lpiEntry => exact ⟨_, rfl, h.lpiEnter⟩
  | lpiExit => exact ⟨_, rfl, h.lpiLeave⟩
  | lldpTransmit => exact ⟨_, rfl, h.lldpSend⟩
  | lldpduReceived => exact ⟨_, rfl, h.lldpIn⟩
  | todInputWrite => exact ⟨_, rfl, h.hostWords⟩
  | todInput => exact ⟨_, rfl, h.todMessage.ite h⟩
  | todResult => exact ⟨_, rfl, h.todNow⟩
  | servoHoldover => exact ⟨_, rfl, h.servoHolds⟩
  | eecLocked => exact ⟨_, rfl, h.eecLocks⟩
  | ppsOutEdge => exact ⟨_, rfl, h.ppsRises⟩
  | ppsInEdge => exact ⟨_, rfl, h.ite h.ppsIn⟩
  | ppsInLoss => exact ⟨_, rfl, h.ppsLost⟩
  | tsDescriptorDelivery => exact ⟨_, rfl, h.tsDeliver⟩
  | tsConsumerWrite => exact ⟨_, rfl, h.hostWords⟩
  | slotStreamFrame => exact ⟨_, rfl, h.slotStream⟩
  | cesSsLoss => exact ⟨_, rfl, h.ssLost⟩
  | cesPacketBuild => exact ⟨_, rfl, h.packetBuild.ite h⟩
  | pwPacketReceived => exact ⟨_, rfl, h.pwTake⟩
  | jbStartTimer => exact ⟨_, rfl, h.jbStart⟩
  | playoutPosition => exact ⟨_, rfl, h.playPosition.ite h⟩
  | cesLops => exact ⟨_, rfl, h.lopsSet⟩
  | cesSlip => exact ⟨_, rfl, h.slipNow⟩
  | slotStreamFrameSend => exact ⟨_, rfl, h.slotSend.ite h⟩
  | tributaryEnable | tributaryDisable => exact ⟨_, rfl, h.hostBits⟩
  | keyLoadErase => exact ⟨_, rfl, h.hostWords⟩
  | keyLoadMsk | keyLoadBroadcast | keyLoadMacsec => exact ⟨_, rfl, h.hostLoad⟩
  | keySoftLimit => exact ⟨_, rfl, h.softLimit⟩
  | keyRetired => exact ⟨_, rfl, h.hardLimit⟩
  | eraseAll => exact ⟨_, rfl, h.hostWords⟩
  | keyStoreAlarm => exact ⟨_, rfl, h.alarmOn⟩
  | rngFault => exact ⟨_, rfl, h.rngFails⟩
  | reseedRetry => exact ⟨_, rfl, h.reseed⟩
  | drypointOpened => exact ⟨_, rfl, h.drypoint⟩
  | bscanActive => exact ⟨_, rfl, h.tapUpdate.tapScan⟩
  | trstNAssert => exact ⟨_, rfl, h.tapUpdate.expose⟩
  | fuseArm => exact ⟨_, rfl, h.hostWords⟩
  | fuseBlow => exact ⟨_, rfl, h.hostBlow⟩
  | eccUncorrectable => exact ⟨_, rfl, h.eccAny⟩
  | goldenRewrite => exact ⟨_, rfl, h.goldenRewrites⟩
  | lockstepMismatch => exact ⟨_, rfl, h.pairDisagrees⟩
  | corePairResume => exact ⟨_, rfl, h.pairResumes⟩
  | clockFault => exact ⟨_, rfl, h.clockFails⟩
  | clockFaultClear => exact ⟨_, rfl, h.clockClear.activateLater⟩
  | burstClockActivityLoss => exact ⟨_, rfl, h.disagree.finish.ite h⟩
  | railFault => exact ⟨_, rfl, h.railFault.swapLost.finish⟩
  | railFaultClear => exact ⟨_, rfl, h.railClear.finish⟩
  | safeStateReset => exact ⟨_, rfl, h.deviceReset.ite h⟩
  | illegalState => exact ⟨_, rfl, h.ctlIllegal⟩
  | operatingConditionsChange => exact ⟨_, rfl, h.conditions⟩
  | handoverPhaseStart => exact ⟨_, rfl, h.handoverStarts⟩
  | handoverSelfTestPass => exact ⟨_, rfl, h.handoverPasses⟩
  | handoverFailure => exact ⟨_, rfl, h.handoverFails⟩
  | quiesceEnd => exact ⟨_, rfl, h.quiesceEnd.swapLost.finish⟩
  | powerDieAck => exact ⟨_, rfl, h.ite h.dieAck.finish⟩
  | domainResetRelease => exact ⟨_, rfl, h.domUp.finish⟩
  | powerDieTimeout => exact ⟨_, rfl, h.dieTimeout.swapLost.finish⟩
  | railFaultRetry => exact ⟨_, rfl, h.railRetry.finish⟩
  | domainRetry => exact ⟨_, rfl, h.hostWords⟩
  | sleepWaitEnd => exact ⟨_, rfl, h.waitEnds⟩
  | wakeAddressMatch => exact ⟨_, rfl, h.wakeAddress.ite h.wake⟩
  | wakeN => exact ⟨_, rfl, h.wakeContact⟩
  | aonTimerWake => exact ⟨_, rfl, h.wake⟩
  | powerOnReset => exact ⟨_, rfl, h.deviceReset⟩
  | resetNAssert => exact ⟨_, rfl, h.ite h.deviceReset⟩
  | resetNRelease => exact ⟨_, rfl, h.aside.release.ite h⟩
  | modeSelChange => exact ⟨_, rfl, h.aside⟩
  | commandReset => exact ⟨_, rfl, h.hostWrite.deviceReset.ite h.hostWrite⟩
  | internalResetEnd => exact ⟨_, rfl, h.release.ite h⟩
  | bootWatchdogExpiry => exact ⟨_, rfl, h.bootFails⟩
  | readyAssert => exact ⟨_, rfl, h.readyLegacy.finish⟩
  | legacyCommandTransaction => exact ⟨_, rfl, h.legacyCommand⟩
  | legacyReadTransaction => exact ⟨_, rfl, h.legacyRead⟩
  | pacingRelease => exact ⟨_, rfl, h.pacingEnds⟩
  | getIdentity => exact ⟨_, rfl, h.legacyServe fun _ h => h.lgIdentity⟩
  | getStatus => exact ⟨_, rfl, h.legacyServe fun _ h => h.lgStatus⟩
  | reset => exact ⟨_, rfl, h.legacyServe fun _ h => h.lgReset⟩
  | getTemperature => exact ⟨_, rfl, h.legacyServe fun _ h => h.reportFree⟩
  | setAlarmMask => exact ⟨_, rfl, h.legacyServe fun _ h => h.inRange fun _ h => h.lgAlarmMask⟩
  | getAlarms => exact ⟨_, rfl, h.legacyServe fun _ h => h.lgAlarms⟩
  | clearAlarms => exact ⟨_, rfl, h.legacyServe fun _ h => h.lgClearAlarms⟩
  | getVersion => exact ⟨_, rfl, h.legacyServe fun _ h => h.lgVersion⟩
  | setSerial => exact ⟨_, rfl, h.legacyServe fun _ h => h.inRange fun _ h => h.lgSetSerial⟩
  | getSerial => exact ⟨_, rfl, h.legacyServe fun _ h => h.lgGetSerial⟩
  | setRegId => exact ⟨_, rfl, h.legacyServe fun _ h => h.inRange fun _ h => h.lgSetRegId⟩
  | enablePon | disablePon => exact ⟨_, rfl, h.legacyServe fun _ h => h.lgPon⟩
  | getOnuState => exact ⟨_, rfl, h.legacyServe fun _ h => h.lgOnuState⟩
  | getOnuId => exact ⟨_, rfl, h.legacyServe fun _ h => h.lgOnuId⟩
  | getEqd => exact ⟨_, rfl, h.legacyServe fun _ h => h.lgEqd⟩
  | getOptical => exact ⟨_, rfl, h.legacyServe fun _ h => h.lgOptical⟩
  | setTxEnable => exact ⟨_, rfl, h.legacyServe fun _ h => h.inRange fun _ h => h.lgTxEnable⟩
  | getFecStats => exact ⟨_, rfl, h.legacyServe fun _ h => h.counters⟩
  | omciRxFetch => exact ⟨_, rfl, h.legacyServe fun _ h => h.lgOmciFetch⟩
  | omciTx => exact ⟨_, rfl, h.legacyServe fun _ h => h.inRange fun _ h => h.lgOmciTx⟩
  | omciStatus => exact ⟨_, rfl, h.legacyServe fun _ h => h.lgOmciStatus⟩
  | setMsk => exact ⟨_, rfl, h.legacyServe fun _ h => h.inRange fun _ h => h.lgMsk⟩
  | addGemPort => exact ⟨_, rfl, h.legacyServe fun _ h => h.inRange fun _ h => h.lgAddGem⟩
  | delGemPort => exact ⟨_, rfl, h.legacyServe fun _ h => h.inRange fun _ h => h.lgDelGem⟩
  | getGemPort => exact ⟨_, rfl, h.legacyServe fun _ h => h.inRange fun _ h => h.lgGetGem⟩
  | mapTcont => exact ⟨_, rfl, h.legacyServe fun _ h => h.inRange fun _ h => h.lgMapTcont⟩
  | unmapTcont => exact ⟨_, rfl, h.legacyServe fun _ h => h.inRange fun _ h => h.lgUnmapTcont⟩
  | getTcont => exact ⟨_, rfl, h.legacyServe fun _ h => h.inRange fun _ h => h.lgGetTcont⟩
  | setTcontQueue => exact ⟨_, rfl, h.legacyServe fun _ h => h.inRange fun _ h => h.lgTcontQueue⟩
  | getGemCounters => exact ⟨_, rfl, h.legacyServe fun _ h => h.inRange fun _ h => h.lgGemCounters⟩
  | addRule => exact ⟨_, rfl, h.legacyServe fun _ h => h.inRange fun _ h => h.lgAddRule⟩
  | delRule => exact ⟨_, rfl, h.legacyServe fun _ h => h.inRange fun _ h => h.lgDelRule⟩
  | getRule => exact ⟨_, rfl, h.legacyServe fun _ h => h.inRange fun _ h => h.lgGetRule⟩
  | clearRules => exact ⟨_, rfl, h.legacyServe fun _ h => h.lgClearRules⟩
  | setDefaultAction => exact ⟨_, rfl, h.legacyServe fun _ h => h.inRange fun _ h => h.lgDefaultAction⟩
  | getRuleCounters => exact ⟨_, rfl, h.legacyServe fun _ h => h.inRange fun _ h => h.lgRuleCounters⟩
  | setMeter => exact ⟨_, rfl, h.legacyServe fun _ h => h.inRange fun _ h => h.lgSetMeter⟩
  | getMeter => exact ⟨_, rfl, h.legacyServe fun _ h => h.inRange fun _ h => h.lgGetMeter⟩
  | setQueue => exact ⟨_, rfl, h.legacyServe fun _ h => h.inRange fun _ h => h.lgSetQueue⟩
  | getQueue => exact ⟨_, rfl, h.legacyServe fun _ h => h.inRange fun _ h => h.lgGetQueue⟩
  | setShaper => exact ⟨_, rfl, h.legacyServe fun _ h => h.inRange fun _ h => h.lgShaper⟩
  | getQueueCounters => exact ⟨_, rfl, h.legacyServe fun _ h => h.inRange fun _ h => h.lgQueueCounters⟩
  | setEthCfg => exact ⟨_, rfl, h.legacyServe fun _ h => h.inRange fun _ h => h.lgEthCfg⟩
  | getEthStatus => exact ⟨_, rfl, h.legacyServe fun _ h => h.lgEthStatus⟩
  | getEthCounters => exact ⟨_, rfl, h.legacyServe fun _ h => h.lgEthCounters⟩
  | setPause => exact ⟨_, rfl, h.legacyServe fun _ h => h.inRange fun _ h => h.lgPause⟩
  | setMacAddr => exact ⟨_, rfl, h.legacyServe fun _ h => h.inRange fun _ h => h.lgMac⟩
  | getTod => exact ⟨_, rfl, h.legacyServe fun _ h => h.lgGetTod⟩
  | setTod => exact ⟨_, rfl, h.legacyServe fun _ h => h.lgSetTod⟩
  | setPps => exact ⟨_, rfl, h.legacyServe fun _ h => h.inRange fun _ h => h.lgPps⟩
  | setTodSf => exact ⟨_, rfl, h.legacyServe fun _ h => h.inRange fun _ h => h.lgTodSf⟩
  | fwBegin => exact ⟨_, rfl, h.legacyServe fun _ h => h.inRange fun _ h => h.lgFwBegin⟩
  | fwData => exact ⟨_, rfl, h.legacyServe fun _ h => h.inRange fun _ h => h.lgFwData⟩
  | fwActivate => exact ⟨_, rfl, h.legacyServe fun _ h => h.lgFwActivate⟩
  | factoryCal | factoryTest | factoryFuse => exact ⟨_, rfl, h.legacyServe fun _ h => h.fails⟩
  | identify => exact ⟨_, rfl, h.legacyServe fun _ h => h.lgIdentify⟩
  | pacingOff | pacingOn => exact ⟨_, rfl, h.legacyServe fun _ h => h.lgPacing⟩
  | txPermitWrite => exact ⟨_, rfl, h.hostBits⟩
  | biasCalibrated => exact ⟨_, rfl, h.biasDone⟩
  | ethPortEnableWrite => exact ⟨_, rfl, h.hostBits⟩
  | alinkEnableWrite => exact ⟨_, rfl, h.hostBits.aligned⟩
  | receiveLpiChange => exact ⟨_, rfl, h.lpiReceive⟩
  | prbsCheckerSyncChange => exact ⟨_, rfl, h.prbsSync⟩
  | fuseArmExpiry => exact ⟨_, rfl, h.aside⟩
  | alarmSourceCleared => exact ⟨_, rfl, h.alarmOff⟩
  | poolReinitComplete => exact ⟨_, rfl, h.setPool.ite h⟩
  | refreshRateChange => exact ⟨_, rfl, h.dramReading.ite h⟩
  | ppsPulseEnd => exact ⟨_, rfl, h.ppsFalls⟩
  | commandCompletion => exact ⟨_, rfl, h.complete.finish⟩

theorem keeps_of_exec {c : Instr} {s t : State} (h : exec c s = .next t) : Keeps s t := by
  obtain ⟨u, hu, hk⟩ := exec_keeps c s
  rw [hu] at h
  obtain rfl := Host.Outcome.next.inj h
  exact hk

/-- Settles O5: the relation `Keeps` of a command's outcome. -/
theorem fusesForever : Obligations.FusesForever := by
  intro c s t h
  obtain ⟨hpart, hpending, hblown, -⟩ := keeps_of_exec h
  exact ⟨hblown, hpart, hpending⟩

/-- Settles O4: a step with an empty queue changes nothing, any other runs a command on the same words. The canonical
form is the model's own choice (log 19). -/
theorem wordsCanonicalKept : Obligations.WordsCanonicalKept := by
  intro s t hs h
  unfold step at h
  split at h
  · obtain rfl := Host.Outcome.next.inj h
    exact hs
  · exact (keeps_of_exec h).words hs

end Sys2Proof.Machine
end

section
/-! The state right after reset (O2). -/

namespace Sys2Proof.Machine

theorem reset_dom_st (d : Nat) : (State.reset.dom d).st = if d = 0 then .on else .off := by
  by_cases h : d = 0
  · subst h; rfl
  · rw [if_neg h]
    show (mget Dom.off PowerSt.reset.doms d).st = .off
    simp [PowerSt.reset, mget, Ne.symm h, Dom.off]

/-- Settles O2: the reset state written out; its maps are empty but for domain 0's entry. -/
theorem resetState : Obligations.ResetState := by
  refine ⟨State.canonical_of (by decide +kernel), rfl, rfl, rfl, rfl, reset_dom_st, rfl, rfl, rfl, ?_, ?_, rfl,
    fun _ => rfl, ?_⟩
  · intro t; cases t <;> rfl
  · intro c; cases c <;> exact ⟨rfl, rfl⟩
  · intro t; cases t <;> rfl

end Sys2Proof.Machine
end

section
/-! Release, MODE_SEL and READY (O46). What each stage of a release or of READY changes is said once, as a frame (`SameBut`)
from the state before it; the frames chain to those of the commands. -/

namespace Sys2Proof.Machine
set_option Elab.async false

/-! ### Stored words -/

theorem find?_mput_other {α : Type} [DecidableEq α] {d : α} {m : SMap α} {i j : Nat} {v : α} (h : j ≠ i) :
    (mput d m i v).find? (fun e => e.1 = j) = m.find? (fun e => e.1 = j) := by
  induction m with
  | nil => rw [mput]; split <;> simp [Ne.symm h]
  | cons a r ih =>
    simp only [mput]
    split
    · simp only [List.find?_cons, ih]
    · split
      next hi => split <;> simp [hi, Ne.symm h]
      · split <;> simp [Ne.symm h]

theorem cfg_putCfg_other (s : State) {a b : Nat} (v : Word) (h : b ≠ a) : (s.putCfg a v).cfg b = s.cfg b := by
  simp only [State.cfg, State.putCfg_words, find?_mput_other h]

theorem cfg_eq_mget (s : State) (a : Nat) : s.cfg a = mget (resetWord a) s.words a := by
  unfold State.cfg
  induction s.words with
  | nil => rfl
  | cons e r ih =>
    by_cases h : e.1 = a
    · simp [mget, h]
    · simpa [mget, h] using ih

theorem cfg_putCfg_same {s : State} (a : Nat) (v : Word) (h : SMap.wfBy resetWord s.words = true) :
    (s.putCfg a v).cfg a = v := by
  rw [cfg_eq_mget, State.putCfg_words]
  exact mget_mput_same _ _ _ _ (List.pairwise_map.2 (SMap.wfBy_iff.1 h).2)

/-! ### The vote of the boot -/

/-- Votes change nothing but the domains. -/
theorem setVotes_eq (client : Nat) (ds : List Nat) (s : State) :
    ∃ x, s.setVotes client ds = { s with power := { s.power with doms := x } } := by
  unfold State.setVotes
  induction ds generalizing s with
  | nil => exact ⟨_, rfl⟩
  | cons d ds ih => exact ih (s.modDom d _)

theorem sameBut_setVotes (l : List Zone) (s : State) (client : Nat) (ds : List Nat) :
    SameBut l s (s.setVotes client ds) := by
  obtain ⟨x, hx⟩ := setVotes_eq client ds s
  rw [hx]
  intro p _
  cases p <;> simp [Zone.same]
  exact fun _ _ => rfl

theorem sameBut_settle (l : List Zone) (s : State) : SameBut l s s.settle := by
  intro p _
  cases p <;> simp [Zone.same]
  exact fun a h => State.settle_ctr s h

/-! ### Release -/

/-- What `State.release` samples, before the first votes. -/
def State.strapped (s : State) : State :=
  { s with phase := .booting, legacy := s.fuses.legacyLock || s.pins.modeSel
           pins := { s.pins with madrSampled := s.pins.madr } }

theorem sameBut_strapped (s : State) : SameBut [.phase, .straps] s s.strapped := by
  intro p hp
  cases p <;> simp_all [Zone.same, State.strapped]
  exact fun _ _ => rfl

theorem sameBut_release (l : List Zone) (s : State) : SameBut l s.strapped s.release :=
  (sameBut_setVotes l s.strapped 1 [1, 8]).trans (sameBut_settle l _)

theorem release_spec (s : State) :
    s.release.phase = .booting ∧ s.release.legacy = (s.fuses.legacyLock || s.pins.modeSel) ∧
    s.release.pins = { s.pins with madrSampled := s.pins.madr } ∧ SameBut [.phase, .straps] s s.release := by
  have h := sameBut_release [] s
  obtain ⟨hl, hp⟩ := h .straps (by simp)
  exact ⟨h .phase (by simp), hl, hp, (sameBut_strapped s).trans (sameBut_release _ s)⟩

section
variable (s : State)

/-! ### Settling keeps what awaits a report of the safe state -/

@[simp] theorem State.setDomSt_safePending (d : Nat) (t : DomSt) :
    (s.setDomSt d t).power.safePending = s.power.safePending := by
  unfold State.setDomSt
  dsimp only
  split
  · rfl
  · rw [State.raise_power]; rfl

@[simp] theorem votesUpdate_safePending (l : List Nat) : (votesUpdate l s).power.safePending = s.power.safePending := by
  induction l generalizing s with
  | nil => rfl
  | cons d r ih =>
    simp only [votesUpdate]
    split
    · exact ih s
    · rw [ih]; split <;> rfl

@[simp] theorem State.domStep_safePending (d : Nat) : (s.domStep d).power.safePending = s.power.safePending := by
  unfold State.domStep
  dsimp only
  split
  · split
    · exact (State.setDomSt_safePending ..).trans rfl
    · rfl
  · split
    · rfl
    · rw [State.bump_power, State.setDomSt_safePending]; rfl
  · split
    · rw [State.raise_power, State.bump_power, State.setDomSt_safePending]; rfl
    · rfl
  · rfl

theorem domSteps_safePending (l : List Nat) :
    (l.foldl (fun s d => s.domStep d) s).power.safePending = s.power.safePending := by
  induction l generalizing s with
  | nil => rfl
  | cons d r ih => simp [ih]

@[simp] theorem State.settle_safePending : s.settle.power.safePending = s.power.safePending := by
  unfold State.settle
  split
  · rfl
  · rw [domSteps_safePending, votesUpdate_safePending]

@[simp] theorem State.finish_safePending : s.finish.power.safePending = s.power.safePending := by simp [State.finish]

end

theorem State.busy_of_served {t u : State} (h : t.leg.served = u.leg.served) : t.leg.busy = u.leg.busy :=
  (congrArg LegacySt.busy h : t.leg.served.busy = u.leg.served.busy)

/-! ### READY -/

/-- The conditions of READY (R469). -/
def State.mayReady (s : State) : Prop :=
  s.phase = .booting ∧ (s.fw.banks.a.st = .running ∨ s.fw.banks.b.st = .running) ∧ (s.dom 1).st = .on ∧
    (s.dom 8).st = .on ∧ (s.dom 6).st = .on

/-- READY as its conditions hold, before the safe state is reported. -/
def State.readied (s : State) : State :=
  { s with phase := .ready, fw := { s.fw with failedMark := 0 }, leg := { s.leg with busy := false } }

/-- The report of a safe state before the reset (R433). -/
def State.reportSafe (s : State) : State :=
  match s.power.safePending, s.mram.safeLog with
  | true, some (c, t) => (s.ringWrite 0x0F09 (put 56 4 c.toNat + t.toNat)).noteFault 0x0F09
  | _, _ => s

theorem ready_of_mayReady {s : State} (h : s.mayReady) :
    s.ready = (s.readied.reportSafe.modPower fun p => { p with safePending := false }).settle := by
  obtain ⟨hp, hb, h1, h8, h6⟩ := h
  have : s.fw.banks.a.st = .running || s.fw.banks.b.st = .running := by simpa using hb
  unfold State.ready
  simp only [hp, this, h1, h8, h6]
  rfl

theorem sameBut_readied (s : State) : SameBut [.phase, .images, .legacySet] s s.readied := by
  intro p hp
  cases p <;> simp_all [Zone.same, State.readied]
  exact fun _ _ => rfl

theorem sameBut_reportSafe (s : State) (l : List Zone) : SameBut l s s.reportSafe := by
  unfold State.reportSafe
  split
  · intro p _
    cases p <;> simp [Zone.same]
    exact fun a _ => ctr_of_counters (by simp) a
  · exact .refl l s

theorem sameBut_safeReported (s : State) (l : List Zone) :
    SameBut l s (s.modPower fun p => { p with safePending := false }) := by
  intro p _
  cases p <;> simp [Zone.same]

theorem ready_spec {s : State} (h : s.mayReady) :
    s.ready.phase = .ready ∧ s.ready.fw.failedMark = 0 ∧ s.ready.leg.busy = false ∧
    s.ready.power.safePending = false ∧ SameBut [.phase, .images, .legacySet] s s.ready := by
  have hr : ∀ l, SameBut l s.readied s.ready := fun l => by
    rw [ready_of_mayReady h]
    exact ((sameBut_reportSafe _ l).trans (sameBut_safeReported _ l)).trans (sameBut_settle l _)
  refine ⟨hr [] .phase (by simp), ?_, State.busy_of_served (hr [] .legacySet (by simp)), ?_,
    (sameBut_readied s).trans (hr _)⟩
  · exact congrArg FwSt.failedMark (hr [] .images (by simp))
  · rw [ready_of_mayReady h]
    simp

/-! ### Freeing cells -/

/-- The parts that freeing cells may change: the pools, with the guards and the low water that watch them, and counters. -/
def poolZones : List Zone := [.counters, .bursts, .queues, .pools]

/-- `t` differs from `s` by what freeing cells may change, and not in its power domains. -/
def CellsOnly (s t : State) : Prop := SameBut poolZones s t ∧ t.power = s.power

namespace CellsOnly
variable {s t : State}

theorem refl (s : State) : CellsOnly s s := ⟨.refl _ s, rfl⟩

theorem trans {u : State} (h : CellsOnly s t) (k : CellsOnly t u) : CellsOnly s u :=
  ⟨SameBut.trans h.1 k.1, k.2.trans h.2⟩

theorem raise {code p : Nat} (h : CellsOnly s t) : CellsOnly s (t.raise code p) :=
  ⟨h.1.raise code p, (State.raise_power ..).trans h.2⟩

theorem raiseIf {b : Bool} {code p : Nat} (h : CellsOnly s t) : CellsOnly s (t.raiseIf b code p) := by
  unfold State.raiseIf
  split
  exacts [h.raise, h]

/-- An update of the pools, of what watches them, or of counters. -/
theorem update {bpm : BpmSt} {qs : QSt} {burin : BurinSt} {counters : Ctrs} (h : CellsOnly s t) :
    CellsOnly s { t with bpm, qs, burin, counters } :=
  h.trans ⟨fun p hp => by cases p <;> simp_all [Zone.same, poolZones], rfl⟩

theorem bump {a n : Nat} (h : CellsOnly s t) : CellsOnly s (t.bump a n) := h.update
theorem setPool {p : Nat} {x : Pool} (h : CellsOnly s t) : CellsOnly s (t.setPool p x) := h.update
theorem setCell {p k : Nat} {c : Cell} (h : CellsOnly s t) : CellsOnly s (t.setCell p k c) := h.setPool
theorem poolGuards {p : Nat} (h : CellsOnly s t) : CellsOnly s (t.poolGuards p) := h.update.raiseIf.raiseIf

theorem ite {c : Prop} [Decidable c] {u : State} (h : CellsOnly s t) (k : CellsOnly s u) :
    CellsOnly s (if c then t else u) := by split <;> assumption

theorem poolChanged {p : Nat} (h : CellsOnly s t) : CellsOnly s (t.poolChanged p) :=
  (h.setPool.update.raiseIf.ite h.setPool).raiseIf.raiseIf.poolGuards

theorem releaseCell {p k : Nat} (h : CellsOnly s t) : CellsOnly s (t.releaseCell p k) := h.setCell.bump.poolChanged

theorem dropRef {p k : Nat} (h : CellsOnly s t) : CellsOnly s (t.dropRef p k) := h.releaseCell.ite h.setCell

theorem refuseCell {cls : BitVec 6} {ptr : BitVec 40} {kind pool : Nat} {c : Cell} (h : CellsOnly s t) :
    CellsOnly s (t.refuseCell cls ptr kind pool c) := by
  unfold State.refuseCell
  extract_lets
  split <;> exact h.update.bump.raise

theorem freeAt {cls : BitVec 6} {ptr : BitVec 40} {p k : Nat} (h : CellsOnly s t) : CellsOnly s (t.freeAt cls ptr p k) :=
  h.refuseCell.ite (h.dropRef.ite (h.releaseCell.ite h.refuseCell))

theorem freeAll {cls : BitVec 6} {cells : List (Nat × Nat)} (h : CellsOnly s t) :
    CellsOnly s (State.freeAll cls cells t) := by
  induction cells generalizing t with
  | nil => exact h
  | cons x l ih => exact ih h.freeAt

end CellsOnly

/-! ### A channel's start -/

/-- MODE taking effect leaves CH_CTL of both channels. -/
theorem cfg_takeMode (s : State) (c d : Chan) : (s.takeMode c).cfg (chAddr d 0) = s.cfg (chAddr d 0) := by
  unfold State.takeMode
  dsimp only
  split
  · rfl
  · cases c with
    | a => rfl
    | b =>
      dsimp only
      have hne : ∀ i ∈ [4, 5, 6], chAddr d 0 ≠ chAddr .b i := by cases d <;> decide
      rw [cfg_putCfg_other _ _ (hne 4 (by simp)), cfg_putCfg_other _ _ (hne 6 (by simp)),
        cfg_putCfg_other _ _ (hne 5 (by simp))]
      rfl

theorem sameBut_takeMode (s : State) (c : Chan) : SameBut [.words, .channels] s (s.takeMode c) := by
  intro p hp
  unfold State.takeMode
  dsimp only
  split
  · exact p.same_refl s
  · cases c <;> cases p <;> simp_all [Zone.same]

theorem takeMode_power (s : State) (c : Chan) : (s.takeMode c).power = s.power := by
  unfold State.takeMode
  dsimp only
  split
  · rfl
  · cases c <;> rfl

theorem sameBut_modCh (s : State) (c : Chan) (f : ChanSt → ChanSt) : SameBut [.channels] s (s.modCh c f) := by
  intro p hp
  cases p <;> simp_all [Zone.same]

/-- The parts that a channel's start may change. -/
def startZones : List Zone := [.words, .channels] ++ poolZones

/-- A start leaves alone what it does not name, the power domains, and CH_CTL. -/
theorem startCh_spec (s : State) (c : Chan) :
    SameBut startZones s (s.startCh c) ∧ (s.startCh c).power = s.power ∧
    ∀ d, (s.startCh c).cfg (chAddr d 0) = s.cfg (chAddr d 0) := by
  unfold State.startCh State.clearCh
  extract_lets keep s1 s2
  have h1 : CellsOnly s s1 := (CellsOnly.refl s).freeAll
  have hw : s1.words = s.words := h1.1 .words (by decide)
  have h2 : SameBut startZones s s2 :=
    (h1.1.mono (by decide)).trans ((sameBut_modCh s1 c _).mono (by decide))
  refine ⟨?_, (takeMode_power s2 c).trans h1.2, fun d => ?_⟩
  · exact (h2.trans ((sameBut_takeMode s2 c).mono (by decide))).trans ((sameBut_modCh _ c _).mono (by decide))
  · refine (cfg_takeMode s2 c d).trans ?_
    show s1.cfg _ = _
    simp only [State.cfg, hw]

/-! ### The transmitter's update -/

theorem sameBut_setTx (s : State) (c : Chan) (t : TxState) : SameBut [.channels] s (s.setTx c t) := by
  unfold State.setTx
  dsimp only
  split
  · exact .refl _ s
  · exact (sameBut_modCh s c _).raise _ _

theorem sameBut_txReady (s : State) (c : Chan) : SameBut [.channels] s (s.txReady c) := by
  unfold State.txReady
  dsimp only
  split
  exacts [sameBut_setTx _ c _, .refl _ s]

theorem sameBut_txUpdate (s : State) (c : Chan) : SameBut [.channels] s (s.txUpdate c) := by
  unfold State.txUpdate
  extract_lets x busy
  split
  · split
    · exact .refl _ s
    · exact ((sameBut_modCh s c _).trans (sameBut_setTx _ c _)).trans (sameBut_txReady _ c)
  · split
    exacts [sameBut_setTx _ c _, sameBut_txReady _ c]
  · split
    · split
      exacts [.refl _ s, sameBut_setTx _ c _]
    · split
      exacts [.refl _ s, sameBut_setTx _ c _]
  · exact .refl _ s
  · exact .refl _ s

/-! ### READY in legacy mode -/

/-- Channel B is enabled in legacy mode at READY (R485). -/
def State.enableB (s : State) : State :=
  let t := s.putCfg (chAddr .b 0) (s.cfg (chAddr .b 0) ||| 1)
  (if t.domOn 4 then t.startCh .b else t).txUpdate .b

theorem enableB_spec {s : State} (hw : SMap.wfBy resetWord s.words = true) :
    SameBut startZones s s.enableB ∧ s.enableB.power = s.power ∧ s.enableB.chEnabled .b = true := by
  unfold State.enableB
  extract_lets t
  have hs : SameBut startZones s t := fun p hp => by cases p <;> simp_all [Zone.same, t, startZones, poolZones]
  have ht : t.chEnabled .b = true := by
    unfold State.chEnabled State.cfgB
    rw [cfg_putCfg_same _ _ hw]
    simp [bit]
  have key : ∀ u : State, SameBut startZones s u → u.power = s.power → u.chEnabled .b = true →
      SameBut startZones s (u.txUpdate .b) ∧ (u.txUpdate .b).power = s.power ∧ (u.txUpdate .b).chEnabled .b = true :=
    fun u hu hpow hen => ⟨hu.trans ((sameBut_txUpdate u .b).mono (by decide)), by simpa using hpow,
      by simpa [State.chEnabled, State.cfgB, State.cfg] using hen⟩
  obtain ⟨h1, h2, h3⟩ := startCh_spec t .b
  split
  · exact key _ (hs.trans h1) h2 (by rw [State.chEnabled, State.cfgB, h3]; exact ht)
  · exact key _ hs rfl ht

theorem readyLegacy_of_legacy {s : State} (h : s.mayReady) (hl : s.legacy = true) : s.readyLegacy = s.ready.enableB := by
  obtain ⟨hp, -, -, -, hs⟩ := ready_spec h
  have hleg : s.ready.legacy = true := (hs .straps (by decide)).1.trans hl
  simp only [State.readyLegacy, hleg, h.1, hp]
  rfl

theorem readyLegacy_of_native {s : State} (h : s.mayReady) (hl : s.legacy = false) : s.readyLegacy = s.ready := by
  obtain ⟨-, -, -, -, hs⟩ := ready_spec h
  have hleg : s.ready.legacy = false := (hs .straps (by decide)).1.trans hl
  simp only [State.readyLegacy, hleg]
  rfl

/-- What READY does, in both modes. -/
theorem readyLegacy_spec {s : State} (h : s.mayReady) (hw : SMap.wfBy resetWord s.words = true) :
    SameBut startZones s.ready s.readyLegacy ∧ s.readyLegacy.power = s.ready.power ∧
    (s.legacy = true → s.readyLegacy.chEnabled .b = true) ∧
    (s.legacy = false → SameBut [.phase, .images, .legacySet] s s.readyLegacy) := by
  obtain ⟨-, -, -, -, hs⟩ := ready_spec h
  cases hl : s.legacy with
  | true =>
    have hw' : s.ready.words = s.words := hs .words (by decide)
    obtain ⟨h1, h2, h3⟩ := enableB_spec (s := s.ready) (by rwa [hw'])
    rw [readyLegacy_of_legacy h hl]
    exact ⟨h1, h2, fun _ => h3, nofun⟩
  | false =>
    rw [readyLegacy_of_native h hl]
    exact ⟨.refl _ _, rfl, nofun, fun _ => hs⟩

theorem completes_readyAssert {s : State} (h : s.mayReady) (hw : SMap.wfBy resetWord s.words = true) :
    Completes .readyAssert s fun t =>
    t.phase = .ready ∧ t.fw.failedMark = 0 ∧ t.leg.busy = false ∧ t.power.safePending = false ∧
    (s.legacy = true → t.chEnabled .b = true) ∧ (s.legacy = false → SameBut [.phase, .images, .legacySet] s t) ∧
    SameBut [.words, .counters, .phase, .channels, .bursts, .queues, .pools, .images, .legacySet] s t := by
  obtain ⟨hp, hf, hb, hsp, hs⟩ := ready_spec h
  obtain ⟨hl, hpow, hen, hnat⟩ := readyLegacy_spec h hw
  have ht := SameBut.finish hl
  refine ⟨_, rfl, (ht .phase (by decide)).trans hp, ?_, (State.busy_of_served (ht .legacySet (by decide))).trans hb,
    ?_, fun h => ?_, fun h => (hnat h).finish, (hs.mono (by decide)).trans (ht.mono (by decide))⟩
  · exact (congrArg FwSt.failedMark (ht .images (by decide))).trans hf
  · rw [State.finish_safePending, hpow, hsp]
  · simpa [State.chEnabled, State.cfgB, State.cfg] using hen h

theorem completes_resetNRelease {s : State} (m : Bool) (a : BitVec 3) (h : s.phase = .inReset) :
    Completes (.resetNRelease m a) s fun t =>
    t.phase = .booting ∧ t.legacy = (s.fuses.legacyLock || m) ∧ t.pins = { modeSel := m, madr := a, madrSampled := a } ∧
    SameBut [.phase, .straps] s t := by
  obtain ⟨hp, hl, hpins, hs⟩ := release_spec { s with pins := { s.pins with modeSel := m, madr := a } }
  refine ⟨_, congrArg Host.Outcome.next (if_pos h), hp, hl, hpins, SameBut.trans (fun p hp => ?_) hs⟩
  cases p <;> simp_all [Zone.same]
  exact fun _ _ => rfl

theorem completes_internalResetEnd {s : State} (h : s.phase = .internalReset) : Completes .internalResetEnd s fun t =>
    t.phase = .booting ∧ t.legacy = (s.fuses.legacyLock || s.pins.modeSel) ∧ t.pins.madrSampled = s.pins.madr ∧
    SameBut [.phase, .straps] s t := by
  obtain ⟨hp, hl, hpins, hs⟩ := release_spec s
  exact ⟨_, congrArg Host.Outcome.next (if_pos h), hp, hl, congrArg Pins.madrSampled hpins, hs⟩

theorem completes_modeSelChange (s : State) (v : Bool) : Completes (.modeSelChange v) s fun t =>
    t.pins = { s.pins with modeSel := v } ∧ t.legacy = s.legacy ∧ SameBut [.straps] s t := by
  refine ⟨_, rfl, rfl, rfl, fun p hp => ?_⟩
  cases p <;> simp_all [Zone.same]
  exact fun _ _ => rfl

/-- Settles O46, a command at a time. -/
theorem bootAndMode : Obligations.BootAndMode := fun s hs =>
  ⟨fun m a h => completes_resetNRelease m a h, completes_internalResetEnd, completes_modeSelChange s,
    fun hp hb h1 h8 h6 => completes_readyAssert ⟨hp, hb, h1, h8, h6⟩ hs.words⟩

end Sys2Proof.Machine
end

section
/-! The tick and its source (O7). The frame that the statement gives the tick leaves out the words, and the statement asks of
the state no more than its canonical form. Nothing there ties the frames that a loop has returned to the state of their port:
a port that is UP may still hold some, though every way out of a loop drops them. The tick gives such a frame to the port's
receiver, and a MAC control frame lets an LLDPDU that waits go out. Protected by MACsec (R346), it takes the next packet
number, which is a word of the SA. -/

namespace Sys2Proof.Machine

/-- Ready, with the tick from REF. Port 0 is UP with its LLDP agent and its SecY enabled and a SAK in the last slot; it holds
a PAUSE frame as returned by a loop, and an LLDPDU that waits. -/
def loopedUp : State :=
  { State.reset with
    phase := .ready
    power := { PowerSt.reset with doms := (List.range 13).map fun d => (d, { Dom.off with st := .on, votes := 3 }) }
    words := [(ethAddr 0 6, 2), (ethAddr 0 0x40, 1), (ethAddr 0 0x47, 0x1FFF)]
    crypto := { CryptoSt.reset with slots := [(4095, defaultSlot)] }
    eth := { ports := [(0, { EthPort.reset with state := .up, returned := [pauseFrame 0], lldpDue := true })] } }

theorem loopedUp_canonical : loopedUp.canonical := State.canonical_of (by decide +kernel)

theorem loopedUp_ticks : loopedUp.ticks = true ∧ loopedUp.tick.selected = .ref := by decide +kernel

/-- The tick takes a packet number of the SA: word 0 of its PN. -/
theorem loopedUp_tick_pn :
    loopedUp.cfg (ethAddr 0 0x50) = 0 ∧ (loopedUp.doTick 0 []).cfg (ethAddr 0 0x50) = 1 := by decide +kernel

/-- Refutes O7: at a tick of `loopedUp` the returned PAUSE frame sends the LLDPDU that waits, and the packet number that
MACsec gives it is a word, which the statement's frame leaves out. -/
theorem not_ticksAndSources : ¬ Obligations.TicksAndSources := by
  intro h
  obtain ⟨hticks, hsel⟩ := loopedUp_ticks
  obtain ⟨t, ht, -, -, -, -, -, -, -, -, -, -, hframe⟩ := (h loopedUp [] loopedUp_canonical hticks).1 0 hsel
  obtain rfl : loopedUp.doTick 0 [] = t := Host.Outcome.next.inj ht
  have hwords : (loopedUp.doTick 0 []).words = loopedUp.words := hframe .words (by decide)
  have hpn : (loopedUp.doTick 0 []).cfg (ethAddr 0 0x50) = loopedUp.cfg (ethAddr 0 0x50) := by
    simp only [State.cfg, hwords]
  rw [loopedUp_tick_pn.1, loopedUp_tick_pn.2] at hpn
  exact absurd hpn (by decide)

end Sys2Proof.Machine
end

section
/-! Frames of the operations that the bursts, the windows of a tick and the guard share (O8, O22). A claim's frame speaks of
whole parts of the state; some of its other clauses follow something smaller through an operation that changes the rest of
its part: a channel's bursts, the staging, the packets of the queues, one counter. `Frame` says both at once, and each
operation has one lemma, proved by citing those of the operations that it calls. -/

namespace Sys2Proof.Machine
set_option Elab.async false

/-- What is followed inside a part: a channel's side of the Burin, in it the bursts that wait and the one in progress; the
staging; the queues; the bytes of aborted bursts. -/
inductive Core
  | chan (c : Chan) | line (c : Chan) | staged | packets | aborted
deriving DecidableEq

def Core.same (q : Core) (s t : State) : Prop :=
  match q with
  | .chan c => t.bch c = s.bch c
  | .line c => (t.bch c).bursts = (s.bch c).bursts ∧ (t.bch c).current = (s.bch c).current
  | .staged => t.burin.stage = s.burin.stage
  | .packets => t.qs.queues = s.qs.queues
  | .aborted => ∀ c, t.ctr (burinCtr c 17) = s.ctr (burinCtr c 17)

/-- Every part but those of `l` is the same, and of what is followed inside a part all but `m`. -/
structure Frame (l : List Zone) (m : List Core) (s t : State) : Prop where
  zones : SameBut l s t
  cores : ∀ q, q ∉ m → q.same s t

namespace Frame
variable {l l' : List Zone} {m m' : List Core} {s t u : State}

theorem refl (s : State) : Frame l m s s := by
  refine ⟨.refl l s, fun q _ => ?_⟩
  cases q <;> simp [Core.same]

theorem trans (h : Frame l m s t) (k : Frame l m t u) : Frame l m s u := by
  refine ⟨h.zones.trans k.zones, fun q hq => ?_⟩
  have h1 := h.cores q hq
  have h2 := k.cores q hq
  cases q <;> simp_all [Core.same]

theorem mono (h : Frame l' m' s t) (hl : ∀ p ∈ l', p ∈ l) (hm : ∀ q ∈ m', q ∈ m) : Frame l m s t :=
  ⟨h.zones.mono hl, fun q hq => h.cores q fun hq' => hq (hm q hq')⟩

/-- An operation that stays within `l'` and `m'` stays within more. -/
theorem within (h : Frame l m s t) (hl : ∀ p ∈ l', p ∈ l) (hm : ∀ q ∈ m', q ∈ m)
    (k : ∀ o, Frame l' m' o t → Frame l' m' o u) : Frame l m s u := h.trans ((k t (refl t)).mono hl hm)

/-- What an operation leaves alone, where it leaves the Burin, the queues and the counters alone too. -/
theorem beside (h : Frame l m s t) (k : SameBut l t u) (hb : u.burin = t.burin := by simp) (hq : u.qs = t.qs := by simp)
    (hc : ∀ c, u.ctr (burinCtr c 17) = t.ctr (burinCtr c 17) := by simp) : Frame l m s u := by
  refine h.trans ⟨k, fun q _ => ?_⟩
  cases q
  case aborted => exact hc
  all_goals simp [Core.same, State.bch, hb, hq]

theorem iteOf {α : Type} (f : α → State) {p q : α} {c : Prop} [Decidable c] (h : Frame l m s (f p)) (k : Frame l m s (f q)) :
    Frame l m s (f (if c then p else q)) := by split <;> assumption

theorem ite {c : Prop} [Decidable c] (h : Frame l m s t) (k : Frame l m s u) : Frame l m s (if c then t else u) := iteOf id h k

theorem sndIte {α : Type} {p q : α × State} {c : Prop} [Decidable c] (h : Frame l m s p.2) (k : Frame l m s q.2) :
    Frame l m s (if c then p else q).2 := iteOf Prod.snd h k

theorem snd {α : Type} {p : α × State} {a : α} (h : Frame l m s p.2) (e : p = (a, t)) : Frame l m s t := by
  rw [e] at h
  exact h

theorem foldl {α : Type} {f : State → α → State} {xs : List α} (h : Frame l m s t)
    (hf : ∀ u a, Frame l m s u → Frame l m s (f u a)) : Frame l m s (xs.foldl f t) := by
  induction xs generalizing t with
  | nil => exact h
  | cons a xs ih => exact ih (hf _ _ h)

/-! ### Updates of one part -/

theorem fresh (h : Frame l m s t) : Frame l m s t.fresh.2 :=
  h.beside fun p _ => by cases p <;> simp [Zone.same]

theorem instant (h : Frame l m s t) : Frame l m s t.instant.2 :=
  h.beside fun p _ => by cases p <;> simp [Zone.same]

theorem modTick {f} (h : Frame l m s t) (hl : .tick ∈ l := by decide) : Frame l m s (t.modTick f) :=
  h.beside fun p hp => by cases p <;> simp_all [Zone.same]

theorem unspoil {g k} (h : Frame l m s t) (hl : .tick ∈ l := by decide) : Frame l m s (t.unspoil g k) :=
  h.beside fun p hp => by cases p <;> simp_all [Zone.same]

theorem modCh {c f} (h : Frame l m s t) (hl : .channels ∈ l := by decide) : Frame l m s (t.modCh c f) :=
  h.beside fun p hp => by cases p <;> simp_all [Zone.same]

theorem modTime {f} (h : Frame l m s t) (hl : .time ∈ l := by decide) : Frame l m s (t.modTime f) :=
  h.beside fun p hp => by cases p <;> simp_all [Zone.same]

theorem modFault {f} (h : Frame l m s t) (hl : .faults ∈ l := by decide) : Frame l m s (t.modFault f) :=
  h.beside fun p hp => by cases p <;> simp_all [Zone.same]

theorem emit {o} (h : Frame l m s t) (hl : .contacts ∈ l := by decide) : Frame l m s (t.emit o) :=
  h.beside fun p hp => by cases p <;> simp_all [Zone.same]

theorem lived {f} (h : Frame l m s t) (hl : .lasting ∈ l := by decide) : Frame l m s (t.lived f) :=
  h.beside fun p hp => by cases p <;> simp_all [Zone.same]

theorem setSlot {i x} (h : Frame l m s t) (hl : .keys ∈ l := by decide) : Frame l m s (t.setSlot i x) :=
  h.beside fun p hp => by cases p <;> simp_all [Zone.same]

/-- An update of the vONUs. -/
theorem vonu {x} (h : Frame l m s t) (hl : .vonus ∈ l := by decide) : Frame l m s { t with vonu := x } :=
  h.beside (hc := fun _ => rfl) fun p hp => by cases p <;> simp_all [Zone.same]; exact fun _ _ => rfl

/-- An update of the pools. -/
theorem setPool {p x} (h : Frame l m s t) (hl : .pools ∈ l := by decide) : Frame l m s (t.setPool p x) :=
  h.beside fun p hp => by cases p <;> simp_all [Zone.same]

theorem pools {x} (h : Frame l m s t) (hl : .pools ∈ l := by decide) : Frame l m s { t with bpm := x } :=
  h.beside (hc := fun _ => rfl) fun p hp => by cases p <;> simp_all [Zone.same]; exact fun _ _ => rfl

/-- An update of the Burin beside its channels and its staging. -/
theorem burin {b : BurinSt} (h : Frame l m s t) (hc : b.ch = t.burin.ch := by rfl)
    (hs : b.stage = t.burin.stage := by rfl) (hl : .bursts ∈ l := by decide) : Frame l m s { t with burin := b } := by
  refine h.trans ⟨fun p hp => ?_, fun q _ => ?_⟩
  · cases p <;> simp_all [Zone.same]
    exact fun _ _ => rfl
  · cases q <;> simp [Core.same, State.bch, hc, hs]
    exact fun _ => rfl

theorem setStage {i x} (h : Frame l m s t) (hl : .bursts ∈ l := by decide) (hm : .staged ∈ m := by simp) :
    Frame l m s (t.setStage i x) := by
  refine h.trans ⟨fun p hp => ?_, fun q hq => ?_⟩
  · cases p <;> simp_all [Zone.same]
  · cases q <;> simp_all [Core.same, State.bch]

theorem modB {c f} (h : Frame l m s t) (hl : .bursts ∈ l := by decide)
    (hm : ∀ q ∈ [Core.chan c, .line c], q ∈ m := by simp) : Frame l m s (t.modB c f) := by
  refine h.trans ⟨fun p hp => ?_, fun q hq => ?_⟩
  · cases p <;> simp_all [Zone.same]
  · cases q
    case chan d =>
      have hd : d ≠ c := fun e => hq (hm _ (by simp [e]))
      simp [Core.same, State.bch, Two.get_set_ne _ _ hd]
    case line d =>
      have hd : d ≠ c := fun e => hq (hm _ (by simp [e]))
      simp [Core.same, State.bch, Two.get_set_ne _ _ hd]
    all_goals simp [Core.same]

/-- An update of a channel's side of the Burin beside its bursts. -/
theorem modGuard {c f} (h : Frame l m s t) (hb : ∀ x, (f x).bursts = x.bursts := by intro _; rfl)
    (hx : ∀ x, (f x).current = x.current := by intro _; rfl) (hl : .bursts ∈ l := by decide)
    (hm : .chan c ∈ m := by simp) : Frame l m s (t.modB c f) := by
  refine h.trans ⟨fun p hp => ?_, fun q hq => ?_⟩
  · cases p <;> simp_all [Zone.same]
  · cases q
    case chan d =>
      have hd : d ≠ c := fun e => hq (e ▸ hm)
      simp [Core.same, State.bch, Two.get_set_ne _ _ hd]
    case line d =>
      by_cases hd : d = c
      · subst hd
        simp [Core.same, State.bch, hb, hx]
      · simp [Core.same, State.bch, Two.get_set_ne _ _ hd]
    all_goals simp [Core.same]

/-- An update of the queues' part beside the queues. -/
theorem queues {x : QSt} (h : Frame l m s t) (hx : x.queues = t.qs.queues := by rfl) (hl : .queues ∈ l := by decide) :
    Frame l m s { t with qs := x } := by
  refine h.trans ⟨fun p hp => ?_, fun q _ => ?_⟩
  · cases p <;> simp_all [Zone.same]
    exact fun _ _ => rfl
  · cases q <;> simp [Core.same, State.bch, hx]
    exact fun _ => rfl

theorem setQueue {q x} (h : Frame l m s t) (hl : .queues ∈ l := by decide) (hm : .packets ∈ m := by simp) :
    Frame l m s (t.setQueue q x) := by
  refine h.trans ⟨fun p hp => ?_, fun q hq => ?_⟩
  · cases p <;> simp_all [Zone.same]
  · cases q <;> simp_all [Core.same, State.bch]

/-- A write of a counter that is not one of those followed. -/
theorem setCtr {a v} (h : Frame l m s t) (ha : ∀ c, burinCtr c 17 ≠ a) (hl : .counters ∈ l := by decide) :
    Frame l m s (t.setCtr a v) := by
  refine h.trans ⟨fun p hp => ?_, fun q _ => ?_⟩
  · cases p <;> simp_all [Zone.same]
  · cases q
    case aborted => exact fun c => mget_mput_other _ _ _ _ _ (ha c)
    all_goals simp [Core.same, State.bch]

theorem bump {a n} (h : Frame l m s t) (ha : ∀ c, burinCtr c 17 ≠ a) (hl : .counters ∈ l := by decide) :
    Frame l m s (t.bump a n) := h.setCtr ha hl

/-- A write of any counter. -/
theorem setCtrAny {a v} (h : Frame l m s t) (hl : .counters ∈ l := by decide) (hm : .aborted ∈ m := by simp) :
    Frame l m s (t.setCtr a v) := by
  refine h.trans ⟨fun p hp => ?_, fun q hq => ?_⟩
  · cases p <;> simp_all [Zone.same]
  · cases q <;> simp_all [Core.same, State.bch]

theorem bumpAny {a n} (h : Frame l m s t) (hl : .counters ∈ l := by decide) (hm : .aborted ∈ m := by simp) :
    Frame l m s (t.bump a n) := h.setCtrAny hl hm

end Frame

/-! ### Reports -/

theorem sideCount_aborted (c : Chan) : sideCount (burinCtr c 17) = false := by cases c <;> decide

namespace Frame
variable {l l' : List Zone} {m m' : List Core} {s t u : State}

theorem raise {code p} (h : Frame l m s t) : Frame l m s (t.raise code p) :=
  h.beside (sameBut_raise l t code p) (hc := fun c => State.raise_ctr _ (sideCount_aborted c) _ _)

theorem raiseIf {b code p} (h : Frame l m s t) : Frame l m s (t.raiseIf b code p) :=
  h.beside (sameBut_raiseIf l t b code p) (hc := fun c => State.raiseIf_ctr _ (sideCount_aborted c) _ _ _)

theorem finish (h : Frame l m s t) : Frame l m s t.finish :=
  h.beside (sameBut_finish l t) (hc := fun c => State.finish_ctr _ (sideCount_aborted c))

end Frame
end Sys2Proof.Machine
end

section
/-! Frames of the pools, the queues, the keys and the vONUs. -/

namespace Sys2Proof.Machine
set_option Elab.async false

/-! ### Counters beside those of aborted bytes -/

theorem aborted_ne_of_le {a : Nat} (h : 0x29000000 ≤ a) (c : Chan) : burinCtr c 17 ≠ a := by
  have : burinCtr c 17 < 0x29000000 := by cases c <;> decide
  omega

theorem aborted_ne_poolCtr (p k : Nat) : ∀ c, burinCtr c 17 ≠ poolCtr p k :=
  aborted_ne_of_le (by simp only [poolCtr, addrOf]; omega)
theorem aborted_ne_bpmCtr (j : Nat) : ∀ c, burinCtr c 17 ≠ bpmCtr j :=
  aborted_ne_of_le (by simp only [bpmCtr, addrOf]; omega)
theorem aborted_ne_qDropCtr (j : Nat) : ∀ c, burinCtr c 17 ≠ qDropCtr j :=
  aborted_ne_of_le (by simp only [qDropCtr, addrOf]; omega)
theorem aborted_ne_nodeCtr (n k : Nat) : ∀ c, burinCtr c 17 ≠ nodeCtr n k :=
  aborted_ne_of_le (by simp only [nodeCtr, addrOf]; omega)
theorem aborted_ne_cryCtr (j : Nat) : ∀ c, burinCtr c 17 ≠ cryCtr j :=
  aborted_ne_of_le (by simp only [cryCtr, addrOf]; omega)
theorem aborted_ne_burinCtr (d : Chan) {k : Nat} (hk : k < 17 ∨ k = 18) (c : Chan) : burinCtr c 17 ≠ burinCtr d k := by
  cases c <;> cases d <;> simp only [burinCtr, chanN, addrOf] <;> omega

namespace Frame
variable {l l' : List Zone} {m m' : List Core} {o s t u : State}

/-! ### Pools -/

theorem poolGuards {p} (h : Frame poolZones [] s t) : Frame poolZones [] s (t.poolGuards p) := h.queues.raiseIf.raiseIf

theorem poolChanged {p} (h : Frame poolZones [] s t) : Frame poolZones [] s (t.poolChanged p) :=
  (h.setPool.burin.raiseIf.ite h.setPool).raiseIf.raiseIf.poolGuards

theorem setCell {p k c} (h : Frame poolZones [] s t) : Frame poolZones [] s (t.setCell p k c) := h.setPool

theorem grantCell {p cls began} (h : Frame poolZones [] s t) : Frame poolZones [] s (t.grantCell p cls began).2 :=
  sndIte (h.bump (aborted_ne_poolCtr _ _)) <| sndIte (h.bump (aborted_ne_poolCtr _ _)) <|
    sndIte (h.bump (aborted_ne_poolCtr _ _)) (h.fresh.setCell.bump (aborted_ne_poolCtr _ _)).poolChanged

theorem servePool {p began n r} (h : Frame poolZones [] s t) : Frame poolZones [] s (servePool p began n r t) := by
  induction r generalizing t n with
  | nil => cases n <;> exact h
  | cons x r ih =>
    cases n with
    | zero => exact h.setPool
    | succ n => exact ih h.grantCell

theorem serveCarried {p n} (h : Frame poolZones [] s t) : Frame poolZones [] s (State.serveCarried p n t) := by
  induction n generalizing t with
  | zero => exact h
  | succ n ih => exact h.ite (ih h.setPool.servePool)

theorem takeCell {p cls began} (h : Frame poolZones [] s t) : Frame poolZones [] s (t.takeCell p cls began).2 :=
  h.serveCarried.grantCell

theorem releaseCell {p k} (h : Frame poolZones [] s t) : Frame poolZones [] s (t.releaseCell p k) :=
  (h.setCell.bump (aborted_ne_poolCtr _ _)).poolChanged

theorem refuseCell {cls ptr kind pool c} (h : Frame poolZones [] s t) :
    Frame poolZones [] s (t.refuseCell cls ptr kind pool c) := by
  unfold State.refuseCell
  extract_lets
  split
  case h_3 => exact (h.pools.bump (aborted_ne_bpmCtr _)).raise
  all_goals exact (h.pools.bump (aborted_ne_poolCtr _ _)).raise

theorem freeAt {cls ptr p k} (h : Frame poolZones [] s t) : Frame poolZones [] s (t.freeAt cls ptr p k) :=
  h.refuseCell.ite ((h.releaseCell.ite h.setCell).ite (h.releaseCell.ite h.refuseCell))

theorem passAt {cls ptr new p k} (h : Frame poolZones [] s t) : Frame poolZones [] s (t.passAt cls ptr new p k) :=
  h.refuseCell.ite (h.setCell.ite h.refuseCell)

theorem freeAllIn {cls cells} (h : Frame poolZones [] s t) : Frame poolZones [] s (State.freeAll cls cells t) := by
  induction cells generalizing t with
  | nil => exact h
  | cons x r ih => exact ih h.freeAt

theorem freeAll {cls cells} (h : Frame l m s t) (hl : ∀ p ∈ poolZones, p ∈ l := by decide) :
    Frame l m s (State.freeAll cls cells t) := h.within hl (m' := []) (by simp) fun _ h => h.freeAllIn

theorem passAllIn {cls new cells} (h : Frame poolZones [] s t) : Frame poolZones [] s (State.passAll cls new cells t) := by
  induction cells generalizing t with
  | nil => exact h
  | cons x r ih => exact ih h.passAt

theorem passAll {cls new cells} (h : Frame l m s t) (hl : ∀ p ∈ poolZones, p ∈ l := by decide) :
    Frame l m s (State.passAll cls new cells t) := h.within hl (m' := []) (by simp) fun _ h => h.passAllIn

theorem takeChain {p cls n got} (h : Frame poolZones [] s t) : Frame poolZones [] s (State.takeChain p cls n got t).2 := by
  induction n generalizing t got with
  | zero => exact h
  | succ n ih =>
    rw [State.takeChain]
    split
    next e => exact ih (h.takeCell.snd e)
    next e => exact (h.takeCell.snd e).freeAll

/-! ### Queues -/

theorem tagHead {n q start} (h : Frame l m s t) (hl : .queues ∈ l := by decide) (hm : .packets ∈ m := by simp) :
    Frame l m s (t.tagHead n q start) := by
  unfold State.tagHead
  extract_lets
  split
  exacts [h, h.setQueue hl hm]

theorem requalify {n now} (h : Frame l m s t) (hl : .queues ∈ l := by decide) (hm : .packets ∈ m := by simp) :
    Frame l m s (t.requalify n now) :=
  h.foldl fun _ _ h => h.ite (h.ite (((h.setQueue hl hm).tagHead hl hm).ite (h.setQueue hl hm)))

theorem setNode {n x} (h : Frame l m s t) (hl : .queues ∈ l := by decide) : Frame l m s (t.setNode n x) := h.queues rfl hl

theorem dropOversize {n q k} (h : Frame poolZones [.packets] s t) :
    Frame poolZones [.packets] s (State.dropOversize n q k t) := by
  induction k generalizing t with
  | zero => exact h
  | succ k ih =>
    rw [State.dropOversize]
    split
    · exact h
    · split
      · exact h
      · exact ih ((h.setQueue.freeAll.bump (aborted_ne_qDropCtr 5)).ite
          (h.setQueue.freeAll.bump (aborted_ne_qDropCtr 5)).queues).raiseIf.tagHead

theorem releaseHead {n q now} (h : Frame poolZones [.packets] s t) :
    Frame poolZones [.packets] s (t.releaseHead n q now).2 := by
  unfold State.releaseHead
  extract_lets
  split
  · exact h
  · exact ((((h.setNode.ite h).setQueue.tagHead.ite (h.setNode.ite h).setQueue.tagHead.setNode).bump
      (aborted_ne_nodeCtr _ _)).bump (aborted_ne_nodeCtr _ _)).dropOversize

theorem bindPacket {n p} (h : Frame l m s t) : Frame l m s (t.bindPacket n p).2 := by
  unfold State.bindPacket
  split
  · exact h.sndIte h.fresh
  · exact h

/-! ### Keys -/

theorem useKey {i n} (h : Frame l m s t) (hl : .keys ∈ l := by decide) : Frame l m s (t.useKey i n) := h.ite (h.setSlot hl)

theorem eraseSlot {i} (h : Frame l m s t) (hl : .keys ∈ l := by decide) : Frame l m s (t.eraseSlot i) := h.setSlot hl

theorem keyBegin {slot n} (h : Frame l m s t) (hk : .keys ∈ l := by decide) (hc : .counters ∈ l := by decide) :
    Frame l m s (t.keyBegin slot n).2 :=
  sndIte h (sndIte (h.bump (aborted_ne_cryCtr 1) hc) (h.useKey hk))

/-! ### vONUs -/

theorem modVch {v c f} (h : Frame l m s t) (hl : .vonus ∈ l := by decide) : Frame l m s (t.modVch v c f) := h.vonu hl

/-- The parts that an entry's release may change. -/
def releaseZones : List Zone := .vonus :: poolZones

theorem stageFlush {i c} (h : Frame releaseZones [.staged] s t) : Frame releaseZones [.staged] s (t.stageFlush i c) :=
  (h.bump (aborted_ne_burinCtr c (by decide))).setStage.freeAll

theorem allocRelease {i} (h : Frame releaseZones [.staged] s t) : Frame releaseZones [.staged] s (t.allocRelease i) := by
  unfold State.allocRelease
  split
  exacts [h.stageFlush.vonu, h]

theorem allocReleaseAll {v c} (h : Frame l m s t) (hl : ∀ p ∈ releaseZones, p ∈ l := by decide)
    (hm : ∀ q ∈ [Core.staged], q ∈ m := by simp) : Frame l m s (t.allocReleaseAll v c) :=
  h.within hl hm fun _ h => h.foldl fun _ _ h => h.allocRelease

/-- The parts that a move of a vONU may change. -/
def actZones : List Zone := .keys :: releaseZones

theorem discardCh {v c} (h : Frame actZones [.staged] s t) : Frame actZones [.staged] s (t.discardCh v c) := by
  unfold State.discardCh
  exact h.allocReleaseAll.eraseSlot.eraseSlot.modVch

theorem setAct {v c a} (h : Frame actZones [.staged] s t) : Frame actZones [.staged] s (t.setAct v c a) := by
  unfold State.setAct
  refine modVch ?_
  split
  exacts [h.discardCh, h.discardCh, h]

theorem leaveDisabled {v c} (h : Frame l m s t) (hl : ∀ p ∈ actZones, p ∈ l := by decide)
    (hm : ∀ q ∈ [Core.staged], q ∈ m := by simp) : Frame l m s (t.leaveDisabled v c) :=
  h.within hl hm fun _ h => (h.setAct.modVch.ite h.setAct).vonu.ite h

theorem txUpdate {c} (h : Frame l m s t) (hl : .channels ∈ l := by decide) : Frame l m s (t.txUpdate c) :=
  h.beside ((sameBut_txUpdate t c).mono (by simpa using hl)) (hc := fun d => State.txUpdate_ctr _ (sideCount_aborted d) _)

theorem setTx {c x} (h : Frame l m s t) (hl : .channels ∈ l := by decide) : Frame l m s (t.setTx c x) :=
  h.beside ((sameBut_setTx t c x).mono (by simpa using hl)) (hc := fun d => State.setTx_ctr _ (sideCount_aborted d) _ _)

end Frame
end Sys2Proof.Machine
end

section
/-! Frames of a burst's way to the fibre. -/

namespace Sys2Proof.Machine
set_option Elab.async false
namespace Frame
variable {l l' : List Zone} {m m' : List Core} {o s t u : State}

/-- The parts that the commit of a burst may change. -/
def commitZones : List Zone := [.counters, .vonus, .bursts, .keys]

/-! ### What a burst takes back -/

theorem urgentDone {b} (h : Frame l m s t) (hl : .bursts ∈ l := by decide) : Frame l m s (t.urgentDone b) := h.burin rfl rfl hl

theorem unstage {v i x} (h : Frame releaseZones [.staged] s t) : Frame releaseZones [.staged] s (t.unstage v i x) :=
  h.setStage.ite h.freeAll

theorem restoreBurst {c b} (h : Frame l m s t) (hl : ∀ p ∈ releaseZones, p ∈ l := by decide)
    (hm : ∀ q ∈ [Core.staged], q ∈ m := by simp) : Frame l m s (t.restoreBurst c b) :=
  h.within hl hm fun _ h =>
    have h1 := h.urgentDone.foldl fun _ (k : BContent) h => h.foldl fun _ _ h => h.unstage (v := b.vonu) (i := k.entry)
    h1.ite h1.modVch

/-! ### Commit -/

theorem sealPiece {c b pos f n slot} (h : Frame l m s t) (hl : .keys ∈ l := by decide) :
    Frame l m s (t.sealPiece c b pos f n slot).2 := by
  cases slot with
  | none => exact h
  | some k => exact h.useKey hl

theorem fillAlloc {c b i d n done space acc} (h : Frame commitZones [.staged, .chan c] s t) :
    Frame commitZones [.staged, .chan c] s (fillAlloc c b i d n done space acc t).2.2.2 := by
  induction n generalizing t done space acc with
  | zero => exact h
  | succ n ih =>
    let out (p : List UpXgem × Nat × Short × State) : State := p.2.2.2
    rw [Machine.fillAlloc]
    dsimp only
    split
    · exact h
    · refine iteOf out h ?_
      split
      · exact h
      · exact iteOf out h (ih h.sealPiece.setStage.setStage)

theorem countIdle {c tick i idle why} (h : Frame commitZones [.staged, .chan c] s t) :
    Frame commitZones [.staged, .chan c] s (t.countIdle c tick i idle why) := by
  unfold State.countIdle
  split
  · exact h.bump (aborted_ne_qDropCtr 7)
  · exact h.bump (aborted_ne_cryCtr 3)
  · have h1 : Frame commitZones [.staged, .chan c] s (t.bumpB c 13 idle) := h.bump (aborted_ne_burinCtr c (by decide))
    exact (h1.modGuard.raise.ite h1).ite (h.bump (aborted_ne_burinCtr c (by decide)))

theorem commitAlloc {c b d done a} (h : Frame commitZones [.staged, .chan c] s t) :
    Frame commitZones [.staged, .chan c] s (t.commitAlloc c b d done a).2 := by
  unfold State.commitAlloc
  extract_lets v own isDefault
  generalize (if isDefault then _ else _) = q
  obtain ⟨msgs, left, at_, shut⟩ := q
  cases shut
  case false => exact h.modVch.fillAlloc.countIdle
  case true =>
    simp only [if_true]
    exact h.modVch.countIdle

theorem commitAllocs {c b d done as acc} (h : Frame commitZones [.staged, .chan c] s t) :
    Frame commitZones [.staged, .chan c] s (commitAllocs c b d done as acc t).2 := by
  induction as generalizing t d done acc with
  | nil => exact h
  | cons a r ih => exact ih h.commitAlloc

theorem identityUp {v c msg} (h : Frame commitZones m s t) : Frame commitZones m s (t.identityUp v c msg).2 := by
  unfold State.identityUp State.upMic
  extract_lets
  split
  next e => split at e <;> cases e <;> rename_i e <;> exact h.keyBegin.snd e

theorem takeUp {c b} (h : Frame commitZones m s t) : Frame commitZones m s (t.takeUp c b).2 := by
  unfold State.takeUp
  extract_lets
  split
  · exact h.identityUp
  · exact h.identityUp
  · refine h.sndIte ?_
    split
    · exact h
    next r _ => exact h.modVch (f := fun x => { x with upQ := r })

theorem commitBurst {c b} (h : Frame commitZones [.staged, .chan c] s t) :
    Frame commitZones [.staged, .chan c] s (t.commitBurst c b).2 := h.commitAllocs.takeUp.urgentDone

/-! ### The guard -/

/-- The parts that a trip may change. -/
def tripZones : List Zone := [.counters, .channels, .bursts, .lasting]

theorem trip {c cause v tick} (h : Frame l m s t) (hl : ∀ p ∈ tripZones, p ∈ l := by decide)
    (hm : ∀ q ∈ [Core.chan c], q ∈ m := by simp) : Frame l m s (t.trip c cause v tick) :=
  h.within hl hm fun _ h => by
    unfold State.trip
    extract_lets trips s1 s2 s3
    have h3 : Frame tripZones [.chan c] _ s3 :=
      (lived (h.modGuard.bump (aborted_ne_burinCtr c (by decide)))).raise
    exact h3.modGuard.setTx.raise.ite h3

end Frame
end Sys2Proof.Machine
end

section
/-! A burst from assembly to its end, and the refill engine (O22). Each command's outcome is written as an equation for the
branch that the hypotheses choose; what the statement asks is then read off that state, the frame by its chain. -/

namespace Sys2Proof.Machine
set_option Elab.async false
variable {s t u : State} {c : Chan} {b : Burst}

/-! ### Reading what was written -/

@[simp] theorem State.modB_bch_same (s : State) (c : Chan) (f : BCh → BCh) : (s.modB c f).bch c = f (s.bch c) := by
  simp [State.bch]

theorem otherCh_ne (c : Chan) : otherCh c ≠ c := by cases c <;> decide

theorem keys_sorted {α : Type} [DecidableEq α] {d : α} {m : SMap α} (h : SMap.wf d m = true) :
    (m.map (·.1)).Pairwise (· < ·) := List.pairwise_map.2 (SMap.wf_iff.1 h).2

theorem mput_mget {α : Type} [DecidableEq α] {d : α} {m : SMap α} (i : Nat) (h : SMap.wf d m = true) :
    mput d m i (mget d m i) = m := by
  rw [SMap.wf_iff] at h
  induction m with
  | nil => simp [mget, mput]
  | cons e r ih =>
    obtain ⟨k, w⟩ := e
    obtain ⟨hne, hsorted⟩ := h
    obtain ⟨hk, hr⟩ := List.pairwise_cons.1 hsorted
    obtain hki | rfl | hik := Nat.lt_trichotomy k i
    · simp [mget, mput, hki, hki.ne, ih ⟨fun e he => hne e (by simp [he]), hr⟩]
    · simp [mget, mput, hne _ List.mem_cons_self]
    · have hd : mget d r i = d := mget_of_lt fun e he => hik.trans (hk e he)
      simp [mget, mput, hik.ne', hik.not_gt, hd]

theorem State.ctr_bump (hs : SMap.wf (0 : BitVec 64) s.counters.now = true) (a n : Nat) :
    (s.bump a n).ctr a = s.ctr a + BitVec.ofNat 64 n := State.ctr_bump_same s a n (keys_sorted hs)

theorem State.noteOverrun_ctr (s : State) (k : Nat) (n : BitVec 64) (i : BitVec 24) (a : Nat) :
    (s.noteOverrun k n i).ctr a = s.ctr a := by
  unfold State.noteOverrun
  split <;> rfl

theorem Frame.noteOverrun {l m k n i} (h : Frame l m s t) (hl : .tick ∈ l := by decide) :
    Frame l m s (t.noteOverrun k n i) := h.ite (h.modTick hl)

/-- A frame tells that the other channel's side of the Burin is the same. -/
theorem Frame.otherBch {l m} (h : Frame l m s t) (hm : Core.chan (otherCh c) ∉ m := by simp [otherCh_ne]) :
    t.bch (otherCh c) = s.bch (otherCh c) := h.cores _ hm

/-- One burst of a channel is replaced, after an operation that leaves the bursts of the channel alone. -/
theorem Frame.replaceBurst {l m} {f : Burst → Burst} (h : Frame l m s u) (hl : .bursts ∈ l := by decide)
    (hm : ∀ q ∈ m, q ∈ [Core.staged, .chan c] := by simp) :
    let t := u.modB c fun x => { x with bursts := x.bursts.map f }
    SameBut l s t ∧ (t.bch c).bursts = (s.bch c).bursts.map f ∧ (t.bch c).current = (s.bch c).current ∧
      t.bch (otherCh c) = s.bch (otherCh c) := by
  obtain ⟨hb, hc⟩ : (u.bch c).bursts = (s.bch c).bursts ∧ (u.bch c).current = (s.bch c).current :=
    h.cores (.line c) fun hq => by simpa using hm _ hq
  have ht := (h.mono (m := [Core.staged, .chan c, .line c]) (l := l) (fun _ => id) fun q hq => by
    obtain rfl | rfl := by simpa using hm q hq
    all_goals simp).modB (c := c) (f := fun x => { x with bursts := x.bursts.map f }) hl
  exact ⟨ht.zones, by simp [hb], by simp [hc], ht.otherBch⟩

/-! ### Assembly -/

theorem assemble_of_spoilt (hb : (s.bch c).bursts.find? (fun x => !x.committed) = some b)
    (hg : s.spoilt (2 * chanN c + 1) 0 = true) :
    s.assemble c = ((s.unspoil (2 * chanN c + 1) 0).bumpB c 12 1).modB c fun x =>
      { x with bursts := x.bursts.map fun y => if y = b then { s.lateBurst b with judged := b.judged } else y } := by
  unfold State.assemble
  simp only [hb, hg, if_true]

theorem assemble_of_not_spoilt (hb : (s.bch c).bursts.find? (fun x => !x.committed) = some b)
    (hg : s.spoilt (2 * chanN c + 1) 0 = false) :
    s.assemble c = (s.commitBurst c b).2.modB c fun x =>
      { x with bursts := x.bursts.map fun y => if y = b then (s.commitBurst c b).1 else y } := by
  unfold State.assemble
  simp only [hb, hg]
  rfl

theorem completes_burstAssembly (hs : s.canonical) (hb : (s.bch c).bursts.find? (fun x => !x.committed) = some b) :
    Completes (.burstAssembly c) s fun t =>
    SameBut [.counters, .tick, .vonus, .bursts, .keys] s t ∧
    (s.spoilt (2 * chanN c + 1) 0 = true → t.ctr (burinCtr c 12) = s.ctr (burinCtr c 12) + 1) ∧
    (s.spoilt (2 * chanN c + 1) 0 = false → t.tick = s.tick) ∧
    (∃ d : Burst, d.committed = true ∧ d.vonu = b.vonu ∧ d.start = b.start ∧ d.stop = b.stop ∧ d.judged = b.judged ∧
      (t.bch c).bursts = (s.bch c).bursts.map fun y => if y = b then d else y) ∧
    (t.bch c).current = (s.bch c).current ∧ t.bch (otherCh c) = s.bch (otherCh c) := by
  refine ⟨s.assemble c, rfl, ?_⟩
  cases hg : s.spoilt (2 * chanN c + 1) 0 with
  | true =>
    rw [assemble_of_spoilt hb hg]
    obtain ⟨hz, hbs, hcur, ho⟩ := ((Frame.refl (l := [.counters, .tick, .vonus, .bursts, .keys]) (m := []) s).unspoil
      (g := 2 * chanN c + 1) (k := 0) |>.bump (n := 1) (aborted_ne_burinCtr c (k := 12) (by decide))).replaceBurst (c := c)
      (f := fun y => if y = b then { s.lateBurst b with judged := b.judged } else y)
    exact ⟨hz, fun _ => State.ctr_bump (s := s.unspoil _ 0) hs.counters _ 1, nofun,
      ⟨{ s.lateBurst b with judged := b.judged }, rfl, rfl, rfl, rfl, rfl, hbs⟩, hcur, ho⟩
  | false =>
    rw [assemble_of_not_spoilt hb hg]
    obtain ⟨hz, hbs, hcur, ho⟩ := (Frame.refl (l := Frame.commitZones) (m := [.staged, .chan c]) s).commitBurst (b := b)
      |>.replaceBurst (c := c) (f := fun y => if y = b then (s.commitBurst c b).1 else y)
    exact ⟨hz.mono (by decide), nofun, fun _ => hz .tick (by decide),
      ⟨(s.commitBurst c b).1, rfl, rfl, rfl, rfl, rfl, hbs⟩, hcur, ho⟩

/-! ### The deadline -/

theorem deadline_eq (hb : (s.bch c).bursts.find? (fun x => !x.judged) = some b) :
    s.deadline c = (s.judgeOne c b).2.modB c fun x =>
      { x with bursts := x.bursts.map fun y => if y = b then (s.judgeOne c b).1 else y } := by
  unfold State.deadline
  simp only [hb]

theorem judgeOne_of_judged (h : b.judged = true) : s.judgeOne c b = (b, s) := if_pos h

theorem judgeOne_of_committed (h : b.judged = false) (hc : b.committed = true) :
    s.judgeOne c b = ({ b with judged := true }, s) := by simp [State.judgeOne, h, hc]

theorem judgeOne_of_late (h : b.judged = false) (hc : b.committed = false) :
    s.judgeOne c b =
      (s.lateBurst b, ((s.bumpB c 12 1).noteOverrun (2 + chanN c) b.tick (BitVec.ofNat 24 1)).urgentDone b) := by
  simp [State.judgeOne, h, hc]

theorem completes_commitDeadline (hs : s.canonical) (hb : (s.bch c).bursts.find? (fun x => !x.judged) = some b) :
    Completes (.commitDeadline c) s fun t =>
    (∃ d : Burst, d.committed = true ∧ d.judged = true ∧ d.vonu = b.vonu ∧ d.start = b.start ∧
      (b.committed = true → d.content = b.content) ∧
      (t.bch c).bursts = (s.bch c).bursts.map fun y => if y = b then d else y) ∧
    (b.committed = false → t.ctr (burinCtr c 12) = s.ctr (burinCtr c 12) + 1) ∧
    t.bch (otherCh c) = s.bch (otherCh c) ∧ SameBut [.bursts, .counters, .tick] s t := by
  have hj : b.judged = false := by simpa using List.find?_some hb
  refine ⟨s.deadline c, rfl, ?_⟩
  rw [deadline_eq hb]
  have h0 := Frame.refl (l := [.bursts, .counters, .tick]) (m := []) s
  cases hc : b.committed with
  | true =>
    rw [judgeOne_of_committed hj hc]
    obtain ⟨hz, hbs, -, ho⟩ := h0.replaceBurst (c := c) (f := fun y => if y = b then { b with judged := true } else y)
    exact ⟨⟨{ b with judged := true }, hc, rfl, rfl, rfl, fun _ => rfl, hbs⟩, nofun, ho, hz⟩
  | false =>
    rw [judgeOne_of_late hj hc]
    obtain ⟨hz, hbs, -, ho⟩ := ((h0.bump (n := 1) (aborted_ne_burinCtr c (k := 12) (by decide))).noteOverrun
      (k := 2 + chanN c) (n := b.tick) (i := BitVec.ofNat 24 1)).urgentDone (b := b)
      |>.replaceBurst (c := c) (f := fun y => if y = b then s.lateBurst b else y)
    refine ⟨⟨s.lateBurst b, rfl, rfl, rfl, rfl, nofun, hbs⟩, fun _ => ?_, ho, hz⟩
    exact (State.noteOverrun_ctr _ _ _ _ _).trans (State.ctr_bump hs.counters _ 1)

end Sys2Proof.Machine
end

section
/-! The start of a burst. -/

namespace Sys2Proof.Machine
set_option Elab.async false
variable {s t u : State} {c : Chan} {b : Burst} {r : List Burst}

/-- The channel's side of a state whose next burst has been taken from the line. -/
def State.unlined (s : State) (c : Chan) (r : List Burst) : State := s.modB c fun x => { x with bursts := r }

theorem startBurst_of_dark (hl : (s.bch c).bursts = b :: r) (hx : (s.bch c).current = none) (hj : b.judged = true)
    (hs : s.shadowPresent c b = false) :
    s.startBurst c = (((s.unlined c r).restoreBurst c b).modB c fun x => { x with lit := false }).bumpB c 10 1 := by
  have hs' : (s.unlined c r).shadowPresent c b = false := by simpa [State.shadowPresent, State.unlined] using hs
  unfold State.startBurst
  simp only [hl, hx, judgeOne_of_judged hj]
  rw [← State.unlined, if_pos (by simp [hs'])]

theorem startBurst_of_lit (hl : (s.bch c).bursts = b :: r) (hx : (s.bch c).current = none) (hj : b.judged = true)
    (hs : s.shadowPresent c b = true) (ht : (s.ch c).tx = .ready) (hi : s.inSync c = true) (htrip : (s.bch c).testTrip = false) :
    s.startBurst c = (((s.unlined c r).lightUp c b).startDisagrees c b).elim ((s.unlined c r).lightUp c b) fun k =>
      ((s.unlined c r).lightUp c b).cutOff c k true := by
  have hs' : (s.unlined c r).shadowPresent c b = true := by simpa [State.shadowPresent, State.unlined] using hs
  have hr : ¬ ((decide (((s.unlined c r).ch c).tx ≠ .ready) || !(s.unlined c r).inSync c) = true) := by
    have ht' : ((s.unlined c r).ch c).tx = .ready := ht
    have hi' : (s.unlined c r).inSync c = true := hi
    simp [ht', hi']
  have htrip' : ¬ ((((s.unlined c r).lightUp c b).bch c).testTrip = true) := by simp [State.lightUp, State.unlined, htrip]
  unfold State.startBurst
  simp only [hl, hx, judgeOne_of_judged hj]
  rw [← State.unlined, if_neg (by simp [hs']), if_neg hr, if_neg htrip']
  cases ((s.unlined c r).lightUp c b).startDisagrees c b <;> rfl

/-- A burst without content gives nothing back but its urgent allocations. -/
theorem restoreBurst_of_empty (hv : SMap.wf Vonu.none s.vonu.vonus = true) (hc : b.content = []) (hu : b.up = none) :
    s.restoreBurst c b = s.urgentDone b := by
  have hch : ∀ x : Two VCh, x.set c (x.get c) = x := fun x => by cases c <;> rfl
  unfold State.restoreBurst
  simp only [hc, hu, List.foldl_nil, List.flatMap_nil, Option.toList_none]
  split
  · rfl
  · simp only [State.modVch, State.setVonu, hch]
    rw [State.vonuAt, mput_mget _ (by exact hv)]

theorem burstStamps_zero (s : State) (c : Chan) (b : Burst) : s.burstStamps c b 0 = s := by
  simp [State.burstStamps, stampPieces]

/-- What a burst leaves that is abandoned whole (R195). -/
def State.darkened (s : State) (c : Chan) (b : Burst) : State :=
  (s.fresh.2.modB c fun x => { x with current := none, lit := false }).bumpB c 17 (burstBytes b)

theorem cutOff_whole (k : Nat) (h : (s.bch c).current = some b) :
    s.cutOff c k true = ((((s.darkened c b).freeAll 0x09 (burstCells b)).trip c k b.vonu.toNat b.tick).leaveDisabled
      b.vonu.toNat c).txUpdate c := by
  simp [State.cutOff, h, State.abandon, State.darkened, burstStamps_zero]

theorem trip_bch (s : State) (c : Chan) (k v : Nat) (n : BitVec 64) :
    ((s.trip c k v n).bch c).current = (s.bch c).current ∧ ((s.trip c k v n).bch c).lit = (s.bch c).lit ∧
      ((s.trip c k v n).bch c).lastCause = BitVec.ofNat 2 k := by
  unfold State.trip
  extract_lets trips s1 s2 s3
  have h3 : s3.bch c = { s.bch c with trips, lastCause := BitVec.ofNat 2 k } := by simp [s3, s2, s1, State.bch, State.bumpB]
  split <;> simp_all [State.bch]

/-- The parts that a burst's cut-off may change. -/
def cutZones : List Zone := [.counters, .channels, .vonus, .bursts, .queues, .pools, .keys, .lasting]

theorem cutOff_start (k : Nat) (hs : s.canonical) (h : (u.bch c).current = some b) (hu : Frame [.bursts] [.chan c, .line c] s u)
    (hctr : u.counters = s.counters) :
    let t := (u.cutOff c k true).finish
    (t.bch c).current = none ∧ (t.bch c).lit = false ∧ (t.bch c).lastCause = BitVec.ofNat 2 k ∧
      t.ctr (burinCtr c 17) = s.ctr (burinCtr c 17) + BitVec.ofNat 64 (burstBytes b) ∧
      t.bch (otherCh c) = s.bch (otherCh c) ∧ SameBut cutZones s t := by
  rw [cutOff_whole k h]
  have hd : Frame cutZones [.chan c, .line c, .staged, .aborted] s (u.darkened c b) :=
    (hu.mono (by decide) (by simp)).fresh.modB.bumpAny
  have hfree : Frame cutZones [] (u.darkened c b) ((u.darkened c b).freeAll 0x09 (burstCells b)) :=
    (Frame.refl _).freeAll
  generalize (u.darkened c b).freeAll 0x09 (burstCells b) = e at hfree ⊢
  obtain ⟨hcur, hlit, hcause⟩ := trip_bch e c k b.vonu.toNat b.tick
  have htrip : Frame cutZones [.chan c] e (e.trip c k b.vonu.toNat b.tick) := (Frame.refl _).trip
  generalize e.trip c k b.vonu.toNat b.tick = f at hcur hlit hcause htrip ⊢
  have hrest : Frame cutZones [.staged] f ((f.leaveDisabled b.vonu.toNat c).txUpdate c).finish :=
    (Frame.refl _).leaveDisabled.txUpdate.finish
  have hbch : ((f.leaveDisabled b.vonu.toNat c).txUpdate c).finish.bch c = f.bch c := hrest.cores (.chan c) (by simp)
  have hdark : (e.bch c).current = none ∧ (e.bch c).lit = false := by
    rw [show e.bch c = (u.darkened c b).bch c from hfree.cores (.chan c) (by simp)]
    simp [State.darkened, State.bch, State.bumpB]
  refine ⟨?_, ?_, ?_, ?_, ?_, ?_⟩
  · rw [hbch, hcur, hdark.1]
  · rw [hbch, hlit, hdark.2]
  · rw [hbch, hcause]
  · rw [hrest.cores .aborted (by simp) c, htrip.cores .aborted (by simp) c, hfree.cores .aborted (by simp) c]
    have hsum := State.ctr_bump (s := u) (by rw [hctr]; exact hs.counters) (burinCtr c 17) (burstBytes b)
    exact hsum.trans (by rw [State.ctr, hctr, State.ctr])
  · rw [hrest.otherBch, htrip.otherBch, hfree.otherBch, hd.otherBch]
  · exact hd.zones.trans (hfree.zones.trans (htrip.zones.trans hrest.zones))

theorem completes_burstStart (hl : (s.bch c).bursts = b :: r) (hx : (s.bch c).current = none)
    (hj : b.judged = true) (hp : s.shadowPresent c b = true) (ht : (s.ch c).tx = .ready) (hi : s.inSync c = true)
    (htrip : (s.bch c).testTrip = false) (hd : ((s.unlined c r).lightUp c b).startDisagrees c b = none) :
    Completes (.burstStart c) s fun t =>
      (t.bch c).current = some b ∧ (t.bch c).lit = true ∧ (t.bch c).bursts = r ∧ t.bch (otherCh c) = s.bch (otherCh c) ∧
      SameBut [.bursts] s t := by
  refine ⟨(s.startBurst c).finish, rfl, ?_⟩
  rw [startBurst_of_lit hl hx hj hp ht hi htrip, hd]
  have hf : Frame [.bursts] [.chan c, .line c] s ((s.unlined c r).lightUp c b).finish := ((Frame.refl s).modB.modB).finish
  refine ⟨?_, ?_, ?_, hf.otherBch, hf.zones⟩ <;> simp [State.bch, State.lightUp, State.unlined]

theorem completes_burstStart_cut {k : Nat} (hs : s.canonical) (hl : (s.bch c).bursts = b :: r) (hx : (s.bch c).current = none)
    (hj : b.judged = true) (hp : s.shadowPresent c b = true) (ht : (s.ch c).tx = .ready) (hi : s.inSync c = true)
    (htrip : (s.bch c).testTrip = false) (hd : ((s.unlined c r).lightUp c b).startDisagrees c b = some k) :
    Completes (.burstStart c) s fun t =>
      (t.bch c).current = none ∧ (t.bch c).lit = false ∧ (t.bch c).lastCause = BitVec.ofNat 2 k ∧
      t.ctr (burinCtr c 17) = s.ctr (burinCtr c 17) + BitVec.ofNat 64 (burstBytes b) ∧
      t.bch (otherCh c) = s.bch (otherCh c) ∧ SameBut cutZones s t := by
  refine ⟨(s.startBurst c).finish, rfl, ?_⟩
  rw [startBurst_of_lit hl hx hj hp ht hi htrip, hd]
  exact cutOff_start k hs (by simp [State.lightUp]) (Frame.refl s).modB.modB rfl

theorem completes_burstStart_dark (hs : s.canonical) (hl : (s.bch c).bursts = b :: r) (hx : (s.bch c).current = none)
    (hj : b.judged = true) (hp : s.shadowPresent c b = false) (hc : b.content = []) (hu : b.up = none) :
    Completes (.burstStart c) s fun t =>
      (t.bch c).current = none ∧ (t.bch c).bursts = r ∧ t.ctr (burinCtr c 10) = s.ctr (burinCtr c 10) + 1 ∧
      SameBut [.bursts, .counters] s t := by
  refine ⟨(s.startBurst c).finish, rfl, ?_⟩
  rw [startBurst_of_dark hl hx hj hp, restoreBurst_of_empty (by exact hs.vonus) hc hu]
  have hf : Frame [.bursts, .counters] [.chan c, .line c] s ((((s.unlined c r).urgentDone b).modB c fun x =>
      { x with lit := false }).bumpB c 10 1).finish :=
    ((Frame.refl s).modB.urgentDone.modB.bump (aborted_ne_burinCtr c (by decide))).finish
  refine ⟨?_, ?_, ?_, hf.zones⟩
  · simp [State.bch, State.bumpB, State.urgentDone, State.unlined]; exact hx
  · simp [State.bch, State.bumpB, State.urgentDone, State.unlined]
  · exact (State.finish_ctr _ (by cases c <;> decide)).trans (State.ctr_bump (by exact hs.counters) _ 1)

end Sys2Proof.Machine
end

section
/-! The end of a burst. -/

namespace Sys2Proof.Machine
set_option Elab.async false
variable {s t u : State} {c : Chan} {b : Burst}

/-! ### The transmitter's update, seen past the transmitter -/

section
variable {α : Type} {g : ChanSt → α}
  (hg : ∀ x t w k, g { x with tx := t, warmFromReady := w, biasCal := k } = g x)
include hg

theorem setTx_view (s : State) (c d : Chan) (x : TxState) : g ((s.setTx c x).ch d) = g (s.ch d) := by
  unfold State.setTx
  dsimp only
  split
  · rfl
  · by_cases hd : d = c
    · subst hd
      simpa [State.ch] using hg (s.chans.get d) x _ (s.chans.get d).biasCal
    · simp [State.ch, Two.get_set_ne _ _ hd]

theorem txReady_view (s : State) (c d : Chan) : g ((s.txReady c).ch d) = g (s.ch d) := by
  unfold State.txReady
  dsimp only
  split
  exacts [setTx_view hg s c d _, rfl]

theorem txUpdate_view (s : State) (c d : Chan) : g ((s.txUpdate c).ch d) = g (s.ch d) := by
  unfold State.txUpdate
  extract_lets x busy
  split
  case h_1 =>
    split
    · rfl
    · rw [txReady_view hg, setTx_view hg]
      by_cases hd : d = c
      · subst hd
        simpa [State.ch] using hg (s.chans.get d) (s.chans.get d).tx (s.chans.get d).warmFromReady false
      · simp [State.ch, Two.get_set_ne _ _ hd]
  case h_2 => split; exacts [setTx_view hg s c d _, txReady_view hg s c d]
  case h_3 =>
    split
    · split; exacts [rfl, setTx_view hg s c d _]
    · split; exacts [rfl, setTx_view hg s c d _]
  all_goals rfl

end

/-! ### Time-stamps -/

theorem aborted_ne_timeCtr (j : Nat) (c : Chan) : burinCtr c 17 ≠ timeCtr j := by
  have : timeAddr 0x100 ≤ timeCtr j := by simp only [timeCtr, timeAddr, addrOf]; omega
  exact aborted_ne_of_le (le_trans (by decide) this) c

namespace Frame
variable {l : List Zone} {m : List Core}

theorem tsQueue {d} (h : Frame l m s t) (ht : .time ∈ l := by decide) (hc : .counters ∈ l := by decide) :
    Frame l m s (t.tsQueue d) := ((h.modTime ht).bump (aborted_ne_timeCtr 2) hc).raiseIf.ite (h.modTime ht)

theorem stamp {k rx x raw xgem vonu} (h : Frame l m s t) (ht : .time ∈ l := by decide) (hc : .counters ∈ l := by decide) :
    Frame l m s (t.stamp k rx x raw xgem vonu) := h.ite ((h.bump (aborted_ne_timeCtr _) hc).tsQueue ht hc)

theorem stampPieces {c b ps} (h : Frame l m s t) (ht : .time ∈ l := by decide) (hc : .counters ∈ l := by decide) :
    Frame l m s (stampPieces c b ps t) := by
  induction ps generalizing t with
  | nil => exact h
  | cons x ps ih =>
    refine ih ?_
    split
    exacts [h.stamp ht hc, h]

theorem burstStamps {c b sent} (h : Frame l m s t) (ht : .time ∈ l := by decide) (hc : .counters ∈ l := by decide) :
    Frame l m s (t.burstStamps c b sent) := (h.stampPieces ht hc).ite h

end Frame

/-! ### The last bit -/

/-- The parts that a burst's end may change. -/
def endZones : List Zone := [.counters, .channels, .vonus, .bursts, .queues, .pools, .time, .keys, .contacts, .lasting]

/-- A burst that has left: counted, stamped, freed and told, before its vONU and its transmitter follow. -/
structure BurstTold (s : State) (c : Chan) (b : Burst) (e : State) : Prop where
  frame : Frame endZones [.chan c, .line c, .aborted] s e
  out : e.out = s.out ++ [.burst c b]
  done : (e.ch c).burstDone = true
  rate : (e.ch c).rateLast = b.profile.rate
  idle : (e.bch c).current = none

theorem burstLeft_eq (s : State) (c : Chan) (b : Burst) :
    ∃ e, BurstTold s c b e ∧ s.burstLeft c b = (e.leaveDisabled b.vonu.toNat c).txUpdate c := by
  unfold State.burstLeft
  extract_lets v s1 s2 s3 s4 s5 s6 gap s7 s8
  have h1 : Frame [.counters, .bursts, .queues, .pools, .time] [.aborted] s s1 := (Frame.refl s).bumpAny.bumpAny
  have h2 : Frame [.counters, .bursts, .queues, .pools, .time] [.aborted] s s2 := h1.bumpAny.ite h1
  have h4 : Frame [.counters, .bursts, .queues, .pools, .time] [.aborted] s s4 := (h2.bumpAny.ite h2).bumpAny
  have h6 : Frame [.counters, .bursts, .queues, .pools, .time] [.aborted] s s6 := h4.burstStamps.freeAll
  refine ⟨s8.emit (.burst c b), ⟨?_, ?_, ?_, ?_, ?_⟩, rfl⟩
  · exact (h6.mono (by decide) (by simp)).lived.modCh.modB.emit
  · rw [← show s6.out = s.out from h6.zones .contacts (by decide)]
    rfl
  all_goals simp [s8, State.ch, State.bch]

theorem burstLeft_spec (s : State) (c : Chan) (b : Burst) :
    let t := (s.burstLeft c b).finish
    SameBut endZones s t ∧ (t.bch c).current = none ∧ t.out = s.out ++ [.burst c b] ∧ (t.ch c).burstDone = true ∧
      (t.ch c).rateLast = b.profile.rate ∧ t.bch (otherCh c) = s.bch (otherCh c) := by
  obtain ⟨e, he, heq⟩ := burstLeft_eq s c b
  rw [heq]
  have hl : Frame Frame.actZones [.staged] e (e.leaveDisabled b.vonu.toNat c) := (Frame.refl e).leaveDisabled
  have ht : Frame endZones [.staged] e ((e.leaveDisabled b.vonu.toNat c).txUpdate c).finish :=
    ((hl.mono (by decide) (by simp)).txUpdate).finish
  have hchans : (e.leaveDisabled b.vonu.toNat c).chans = e.chans := hl.zones .channels (by decide)
  have hview {α : Type} (g : ChanSt → α) (hg : ∀ x t w k, g { x with tx := t, warmFromReady := w, biasCal := k } = g x) :
      g (((e.leaveDisabled b.vonu.toNat c).txUpdate c).finish.ch c) = g (e.ch c) := by
    simpa [State.ch, hchans] using txUpdate_view hg (e.leaveDisabled b.vonu.toNat c) c c
  have hout : (e.leaveDisabled b.vonu.toNat c).out = e.out := hl.zones .contacts (by decide)
  refine ⟨he.frame.zones.trans ht.zones, ?_, ?_, ?_, ?_, ?_⟩
  · rw [show _ = e.bch c from ht.cores (.chan c) (by simp), he.idle]
  · rw [State.finish_out, State.txUpdate_out, hout, he.out]
  · rw [hview ChanSt.burstDone fun _ _ _ _ => rfl, he.done]
  · rw [hview ChanSt.rateLast fun _ _ _ _ => rfl, he.rate]
  · rw [ht.otherBch, he.frame.otherBch]

theorem completes_burstEnd (hb : (s.bch c).current = some b) (hd : s.endDisagrees c b = none) :
    Completes (.burstEnd c) s fun t =>
    SameBut endZones s t ∧ (t.bch c).current = none ∧ t.out = s.out ++ [.burst c b] ∧ (t.ch c).burstDone = true ∧
      (t.ch c).rateLast = b.profile.rate ∧ t.bch (otherCh c) = s.bch (otherCh c) := by
  refine ⟨(s.endBurst c).finish, rfl, ?_⟩
  have he : s.endBurst c = s.burstLeft c b := by
    unfold State.endBurst
    simp only [hb, hd]
  rw [he]
  exact burstLeft_spec s c b

end Sys2Proof.Machine
end

section
/-! The refill engine. -/

namespace Sys2Proof.Machine
set_option Elab.async false
variable {s t u v w x : State} {i n q : Nat} {a : AllocE} {p p' : Packet} {r : List Packet} {now : BitVec 64}
  {cells : List (Nat × Nat)}

/-! ### The turn of an entry -/

/-- Only the queues' part differs. -/
def OnlyQueues (s t : State) : Prop := ∃ y, t = { s with qs := y }

theorem onlyQueues_setQueue (h : OnlyQueues s t) (q : Nat) (z : Queue) : OnlyQueues s (t.setQueue q z) := by
  obtain ⟨y, rfl⟩ := h
  exact ⟨_, rfl⟩

theorem onlyQueues_tagHead (h : OnlyQueues s t) (n q : Nat) (z : BitVec 48) : OnlyQueues s (t.tagHead n q z) := by
  unfold State.tagHead
  extract_lets
  split
  exacts [h, onlyQueues_setQueue h _ _]

theorem onlyQueues_requalifyOne (h : OnlyQueues s t) (n : Nat) (now : BitVec 64) (q : Nat) :
    OnlyQueues s (t.requalifyOne n now q) := by
  unfold State.requalifyOne
  extract_lets y e z
  have hz : OnlyQueues s z := onlyQueues_setQueue h _ _
  split
  · exact h
  · split
    · exact h
    · split
      exacts [onlyQueues_tagHead hz _ _ _, hz]

theorem onlyQueues_requalify (s : State) (n : Nat) (now : BitVec 64) : OnlyQueues s (s.requalify n now) := by
  unfold State.requalify
  suffices ∀ (l : List Nat) t, OnlyQueues s t → OnlyQueues s (l.foldl (fun s q => s.requalifyOne n now q) t) from
    this _ s ⟨_, rfl⟩
  intro l
  induction l with
  | nil => exact fun t h => h
  | cons q l ih => exact fun t h => ih _ (onlyQueues_requalifyOne h n now q)

/-- When it is an entry's turn, only the turn, the queues and the free value differ. -/
theorem turn_eq (s : State) (i : Nat) (now : BitVec 64) :
    ∃ k y, (s.instant.2.turnPast i now).requalify i now =
      { s.instant.2 with burin := { s.burin with turn := k }, qs := y } := by
  obtain ⟨y, hy⟩ := onlyQueues_requalify (s.instant.2.turnPast i now) i now
  rw [hy]
  unfold State.turnPast
  split
  exacts [⟨_, _, rfl⟩, ⟨_, _, rfl⟩]

theorem Frame.turnPast {l m} (h : Frame l m s t) (hl : .bursts ∈ l := by decide) : Frame l m s (t.turnPast i now) :=
  h.ite (h.burin rfl rfl hl)

/-! ### A cell for the frame -/

theorem grantCell_some {k : BitVec 6} {b : Bool} (hs : s.poolServes 8 = true) (hf : s.freeCells 8 ≠ 0) :
    ((s.grantCell 8 k b).1).isSome := by
  unfold State.grantCell
  simp [hs, hf]

theorem takeCell_some {k : BitVec 6} {b : Bool} (hs : s.poolServes 8 = true) (hf : s.freeCells 8 ≠ 0)
    (hc : (s.pool 8).carried = []) : ((s.takeCell 8 k b).1).isSome := by
  have h : s.poolCatchUp 8 = s := by simp [State.poolCatchUp, hc, State.serveCarried]
  rw [State.takeCell, h]
  exact grantCell_some hs hf

theorem takeChain_some {k : BitVec 6} (hs : s.poolServes 8 = true) (hf : s.freeCells 8 ≠ 0)
    (hc : (s.pool 8).carried = []) (hn : n ≤ 1) : ∃ cells v, State.takeChain 8 k n [] s = (some cells, v) := by
  obtain rfl | rfl : n = 0 ∨ n = 1 := by omega
  · exact ⟨_, _, rfl⟩
  · obtain ⟨c, hc⟩ := Option.isSome_iff_exists.1 (takeCell_some (k := k) (b := false) hs hf hc)
    refine ⟨[(8, c)], (s.takeCell 8 k false).2, ?_⟩
    rw [State.takeChain, show s.takeCell 8 k false = (some c, (s.takeCell 8 k false).2) from Prod.ext hc rfl]
    rfl

/-! ### The frame -/

theorem releaseHead_some (h : (s.queue q).pkts = p :: r) : (s.releaseHead n q now).1 = some p := by
  unfold State.releaseHead
  simp only [h]

theorem bindPacket_bytes (s : State) (n : Nat) (p : Packet) : (s.bindPacket n p).1.bytes = p.bytes := by
  unfold State.bindPacket
  split
  · split <;> rfl
  · rfl

/-- The frame that a packet becomes at the end of what is staged for an entry. -/
def stagedFrame (z : Stage) (a : AllocE) (p : Packet) (cells : List (Nat × Nat)) : SFrame :=
  { data := p.bytes, cells := cells.map (·.2), vonu := a.vonu, flow := p.flow, port := p.xgemPort, seq := z.nextSeq, off := 0
    ends := true }

/-- A frame joins what is staged for an entry. -/
def State.joinStage (s : State) (i : Nat) (f : SFrame) : State :=
  (s.setStage i { s.stage i with frames := (s.stage i).frames ++ [f], nextSeq := (s.stage i).nextSeq + 1 }).urgentTrim

theorem stageOne_eq (hd : s.domOn 6 = true) (ha : s.allocAt i = some a) (hf : s.freeCells 8 ≠ 0)
    (hn : s.instant.2.refillNext s.instant.1 = some i)
    (hu : (s.instant.2.turnPast i s.instant.1).requalify i s.instant.1 = u) (ht : u.tokensOk i s.instant.1 = true)
    (hq : u.selectQueue i s.instant.1 = some q) (hp : (u.queue q).pkts = p :: r)
    (hv : State.takeChain 8 0x08 ((p.bytes.length + 255) / 256) [] u = (some cells, v))
    (hw : v.releaseHead i q s.instant.1 = (some p, w)) (hx : w.bindPacket i p = (p', x)) (hb : x.flowBad p'.flow = false) :
    let y := (x.passAll 0x08 0x09 cells).freeAll 0x07 p'.cells
    s.stageOne i = y.joinStage i (stagedFrame (y.stage i) a p' cells) := by
  have hguard : ¬ ((!s.domOn 6 || decide (s.instant.2.refillNext s.instant.1 ≠ some i) ||
      decide (s.freeCells 8 = 0)) = true) := by
    simp [hd, hn, hf]
  unfold State.stageOne
  simp only [ha]
  rw [if_neg hguard]
  simp only [hu, ht, hq, hp, List.head?_cons, Option.map_some, Option.getD_some, hv, hw, hx, hb]
  rfl

theorem completes_refillFrameStaged {i : BitVec 13} (hs : s.canonical) (hd : s.domOn 6 = true) (ha : s.allocAt i.toNat = some a)
    (hserves : s.poolServes 8 = true) (hf : s.freeCells 8 ≠ 0) (hcar : (s.pool 8).carried = [])
    (hbad : ∀ f, s.flowBad f = false)
    (hn : s.instant.2.refillNext s.instant.1 = some i.toNat)
    (hu : (s.instant.2.turnPast i.toNat s.instant.1).requalify i.toNat s.instant.1 = u)
    (ht : u.tokensOk i.toNat s.instant.1 = true) (hq : u.selectQueue i.toNat s.instant.1 = some q)
    (hp : (u.queue q).pkts = p :: r) (hl : p.bytes.length ≤ 256) : Completes (.refillFrameStaged i) s fun t =>
    SameBut [.counters, .bursts, .queues, .pools] s t ∧
    ∃ f : SFrame, (t.stage i.toNat).frames = (s.stage i.toNat).frames ++ [f] ∧ f.data = p.bytes ∧ f.vonu = a.vonu ∧
      f.off = 0 ∧ f.ends = true := by
  refine ⟨s.stageOne i.toNat, rfl, ?_⟩
  obtain ⟨k, z, huz⟩ := turn_eq s i.toNat s.instant.1
  have hsu : Frame [.counters, .bursts, .queues, .pools] [.packets] s u :=
    hu ▸ (((Frame.refl s).instant.turnPast (i := i.toNat) (now := s.instant.1)).requalify)
  obtain ⟨cells, v, hv⟩ : ∃ cells v, State.takeChain 8 0x08 ((p.bytes.length + 255) / 256) [] u = (some cells, v) := by
    subst hu
    rw [huz]
    exact takeChain_some hserves hf hcar (by omega)
  have huv : Frame poolZones [] u v := (Frame.refl u).takeChain.snd hv
  have hqv : v.queue q = u.queue q := by rw [State.queue, State.queue, show v.qs.queues = _ from huv.cores .packets (by simp)]
  obtain ⟨w, hw⟩ : ∃ w, v.releaseHead i.toNat q s.instant.1 = (some p, w) :=
    ⟨_, Prod.ext (releaseHead_some (by rw [hqv, hp])) rfl⟩
  have hvw : Frame poolZones [.packets] v w := (Frame.refl v).releaseHead.snd hw
  obtain ⟨p', x, hx⟩ : ∃ p' x, w.bindPacket i.toNat p = (p', x) := ⟨_, _, rfl⟩
  have hwx : Frame poolZones [.packets] w x := (Frame.refl w).bindPacket.snd hx
  have hbytes : p'.bytes = p.bytes := by simpa [hx] using bindPacket_bytes w i.toNat p
  have hsx : Frame [.counters, .bursts, .queues, .pools] [.packets] s x :=
    hsu.trans ((huv.mono (by decide) (by simp)).trans (hvw.trans hwx))
  have hbx : x.flowBad p'.flow = false := by
    rw [← hbad p'.flow]
    have hfound : x.fault.found = s.fault.found := hsx.zones .faults (by decide)
    have hgolden : x.fault.goldenBad = s.fault.goldenBad := congrArg (·.goldenBad) hfound
    simp only [State.flowBad, hgolden]
  rw [stageOne_eq hd ha hf hn hu ht hq hp hv hw hx hbx]
  have hy : Frame [.counters, .bursts, .queues, .pools] [.packets] s ((x.passAll 0x08 0x09 cells).freeAll 0x07 p'.cells) :=
    hsx.passAll.freeAll
  generalize (x.passAll 0x08 0x09 cells).freeAll 0x07 p'.cells = y at hy ⊢
  have hst : y.burin.stage = s.burin.stage := hy.cores .staged (by simp)
  have hjoin : Frame [.counters, .bursts, .queues, .pools] [.packets, .staged] s
      (y.joinStage i.toNat (stagedFrame (y.stage i.toNat) a p' cells)) :=
    (hy.mono (fun _ => id) (by simp)).setStage.burin
  refine ⟨hjoin.zones, stagedFrame (y.stage i.toNat) a p' cells, ?_, hbytes, rfl, rfl, rfl⟩
  have hstage : y.stage i.toNat = s.stage i.toNat := by rw [State.stage, hst, State.stage]
  have hsorted := keys_sorted (hst ▸ hs.stage : SMap.wf Stage.none y.burin.stage = true)
  rw [State.joinStage, hstage]
  exact congrArg Stage.frames (mget_mput_same _ _ _ _ hsorted)

/-- Settles O22: each command's outcome is the one that its hypotheses choose, and its frame the chain of its operations'. -/
theorem burstLife : Obligations.BurstLife := by
  unfold Obligations.BurstLife
  refine ⟨fun s c hs => ⟨?_, ?_, fun b r hl hx hj => ⟨fun hp ht hi htrip => ⟨?_, ?_⟩, ?_⟩, ?_⟩, ?_⟩
  · exact fun b hb => completes_burstAssembly hs hb
  · exact fun b hb => completes_commitDeadline hs hb
  · exact fun hd => completes_burstStart hl hx hj hp ht hi htrip hd
  · exact fun k hd => completes_burstStart_cut hs hl hx hj hp ht hi htrip hd
  · exact fun hp hc hu => completes_burstStart_dark hs hl hx hj hp hc hu
  · exact fun b hb hd => completes_burstEnd hb hd
  · exact fun s i a q p r hs hd ha hserves hf hcar hbad hn ht hq hp hl =>
      completes_refillFrameStaged hs hd ha hserves hf hcar hbad hn rfl ht hq hp hl

end Sys2Proof.Machine
end

section
/-! What a window that overruns leaves behind (O8): a lemma for each class's consequence, and the frame of them all. -/

namespace Sys2Proof.Machine
set_option Elab.async false
variable {s t u : State} {c : Chan} {n : BitVec 64} {k : Nat} {i : BitVec 24}

/-! ### The note of an overrun -/

theorem addOverrun_new {o : Overrun} {l : List Overrun} (h : ∀ x ∈ l, ¬ (x.cls = o.cls ∧ x.tick = o.tick)) :
    addOverrun o l = l ++ [o] := by
  induction l with
  | nil => rfl
  | cons x l ih =>
    obtain ⟨hx, hl⟩ := List.forall_mem_cons.1 h
    rw [addOverrun, if_neg (by simpa using hx), ih hl, List.cons_append]

theorem addOverrun_join {o p : Overrun} {l : List Overrun} (h : ∀ x ∈ l, ¬ (x.cls = o.cls ∧ x.tick = o.tick))
    (hp : p.cls = o.cls ∧ p.tick = o.tick) : addOverrun o (l ++ [p]) = l ++ [{ p with items := p.items + o.items }] := by
  induction l with
  | nil => simp [addOverrun, hp]
  | cons x l ih =>
    obtain ⟨hx, hl⟩ := List.forall_mem_cons.1 h
    rw [List.cons_append, addOverrun, if_neg (by simpa using hx), ih hl, List.cons_append]

/-- No overrun of the class and tick is noted or judged. -/
structure Unnoted (s : State) (k : Nat) (n : BitVec 64) : Prop where
  judged : (k, n) ∉ s.tick.judged
  noted : ∀ o ∈ s.tick.overran, ¬ (o.cls = k ∧ o.tick = n)

theorem noteOverrun_tick (h : (k, n) ∉ s.tick.judged) :
    (s.noteOverrun k n i).tick = { s.tick with overran := addOverrun ⟨k, n, i⟩ s.tick.overran } := by
  simp [State.noteOverrun, h]

theorem Unnoted.overran (h : Unnoted s k n) : (s.noteOverrun k n i).tick.overran = s.tick.overran ++ [⟨k, n, i⟩] := by
  rw [noteOverrun_tick h.judged]
  exact addOverrun_new h.noted

/-! ### The consequences -/

theorem suppressTick_bursts : ∀ b ∈ ((s.suppressTick c n).bch c).bursts, b.tick ≠ n := by
  intro b hb
  unfold State.suppressTick at hb
  rw [State.bumpB, show ∀ (x : State) a m, (x.bump a m).bch c = x.bch c from fun _ _ _ => rfl, State.modB_bch_same] at hb
  simpa using (List.mem_filter.1 hb).2

theorem lateCommit_bursts : ∀ b ∈ ((s.lateCommit c n).bch c).bursts, b.tick = n → b.judged = true := by
  intro b hb hn
  unfold State.lateCommit at hb
  extract_lets mine late s1 one at hb
  rw [State.modB_bch_same] at hb
  obtain ⟨a, -, rfl⟩ := List.mem_map.1 hb
  simp only [one] at hn ⊢
  split at hn
  next h =>
    rw [if_pos h]
    simpa [mine, hn] using h
  next h =>
    rw [if_neg h]
    split <;> rfl

theorem mem_keys_of_mget {α : Type} [DecidableEq α] {d : α} {m : SMap α} {a : Nat} (h : mget d m a ≠ d) :
    a ∈ m.map (·.1) := by
  induction m with
  | nil => exact absurd rfl h
  | cons e r ih =>
    rw [mget] at h
    split at h
    next he => simp [he]
    next => exact List.mem_cons_of_mem _ (ih h)

theorem pairwise_keys_mput {α : Type} [DecidableEq α] {d : α} {m : SMap α} {a : Nat} {v : α}
    (h : (m.map (·.1)).Pairwise (· < ·)) : ((mput d m a v).map (·.1)).Pairwise (· < ·) :=
  List.pairwise_map.2 (mput_sorted a v (List.pairwise_map.1 h))

theorem spoilEach_snapOk {items a : Nat} {l : List Nat} (hi : 8192 ≤ items)
    (hs : (s.burin.stage.map (·.1)).Pairwise (· < ·)) (h : a ∈ l ∨ (s.stage a).snapOk = false) :
    ((spoilEach items l s).stage a).snapOk = false := by
  induction l generalizing s with
  | nil => exact h.resolve_left (by simp)
  | cons e l ih =>
    have hhit : (decide (items ≥ 8192) || (decide (items ≠ 0) && decide (s.fresh.1 % 2 = 1))) = true := by simp [hi]
    have hstep : spoilEach items (e :: l) s = spoilEach items l (s.fresh.2.setStage e { s.stage e with snapOk := false }) := by
      rw [spoilEach]
      simp only [hhit, if_true]
      rfl
    rw [hstep]
    refine ih (pairwise_keys_mput hs) ?_
    by_cases he : a = e
    · subst he
      exact .inr (congrArg Stage.snapOk (mget_mput_same _ _ _ _ hs))
    · refine (List.mem_of_ne_of_mem he ·) |> h.imp <| fun h => ?_
      exact (congrArg Stage.snapOk (mget_mput_other _ _ _ _ _ he)).trans h

theorem deferHeld_held :
    ∀ h ∈ s.deferHeld.cmd.held, (s.tick.number + 1).toNat < h.due.toNat ∨ h.due = s.tick.number + 2 := by
  intro h hh
  unfold State.deferHeld at hh
  extract_lets next one late at hh
  obtain ⟨a, -, rfl⟩ := List.mem_map.1 hh
  simp only [one]
  split
  next => exact .inr (by simp only [next]; ring)
  next h => exact .inl (Nat.lt_of_not_le h)

theorem loseShadow_absent {b : Burst} (h : b.tick = n) : (s.loseShadow c n).shadowPresent c b = false := by
  unfold State.shadowPresent State.loseShadow
  rw [State.modB_bch_same, List.any_eq_false]
  intro e he
  obtain ⟨a, -, rfl⟩ := List.mem_map.1 he
  split <;> simp_all

namespace Frame
variable {l : List Zone} {m : List Core}

theorem reportBatch {ms} (h : Frame l m s t) : Frame l m s (t.reportBatch ms) := by
  unfold State.reportBatch
  split
  exacts [h, h.raise, h.foldl fun _ _ h => h.raiseIf]

theorem commands {x} (h : Frame l m s t) (hl : .commands ∈ l := by decide) : Frame l m s { t with cmd := x } :=
  h.beside (hc := fun _ => rfl) fun p hp => by cases p <;> simp_all [Zone.same]; exact fun _ _ => rfl

theorem commandsTick {x y} (h : Frame l m s t) (hc : .commands ∈ l := by decide) (ht : .tick ∈ l := by decide) :
    Frame l m s { t with cmd := x, tick := y } :=
  h.beside (hc := fun _ => rfl) fun p hp => by cases p <;> simp_all [Zone.same]; exact fun _ _ => rfl

theorem tick {x} (h : Frame l m s t) (hl : .tick ∈ l := by decide) : Frame l m s { t with tick := x } :=
  h.beside (hc := fun _ => rfl) fun p hp => by cases p <;> simp_all [Zone.same]; exact fun _ _ => rfl

theorem reportMoved (h : Frame l m s t) (hl : .vonus ∈ l := by decide) : Frame l m s t.reportMoved :=
  (h.vonu hl).foldl fun _ _ h => h.reportBatch

theorem spoilEach {items ks} (h : Frame [.bursts] [.staged] s t) : Frame [.bursts] [.staged] s (spoilEach items ks t) := by
  induction ks generalizing t with
  | nil => exact h
  | cons e ks ih => exact ih (h.fresh.setStage.ite h.fresh)

theorem foldLoss {ks} (h : Frame [.counters] [.aborted] s t) : Frame [.counters] [.aborted] s (foldLoss ks t) := by
  induction ks generalizing t with
  | nil => exact h
  | cons e ks ih => exact ih h.fresh.setCtrAny

theorem suppressTick {c n} (h : Frame releaseZones [.staged, .chan c, .line c, .aborted] s t) :
    Frame releaseZones [.staged, .chan c, .line c, .aborted] s (t.suppressTick c n) :=
  (h.foldl fun _ _ h => h.restoreBurst).modB.bumpAny

theorem lateCommit {c n} (h : Frame [.counters, .tick, .bursts] [.chan c, .line c] s t) :
    Frame [.counters, .tick, .bursts] [.chan c, .line c] s (t.lateCommit c n) := by
  unfold State.lateCommit
  extract_lets mine late s1 one
  have h1 : Frame [.counters, .tick, .bursts] [.chan c, .line c] s s1 :=
    (h.bump (aborted_ne_burinCtr c (k := 12) (by decide))).noteOverrun
  exact h1.modB

theorem deferHeld (h : Frame l m s t) (hc : .commands ∈ l := by decide) (ht : .tick ∈ l := by decide) :
    Frame l m s t.deferHeld := h.commandsTick hc ht

theorem stippleLate (h : Frame l m s t) (hl : .tick ∈ l := by decide) : Frame l m s t.stippleLate := by
  unfold State.stippleLate
  split
  exacts [h, h.tick hl]

theorem foldLate (h : Frame [.counters, .tick] [.aborted] s t) : Frame [.counters, .tick] [.aborted] s t.foldLate :=
  h.modTick.ite (h.modTick.within (by decide) (by simp) fun _ h => h.foldLoss)

end Frame

/-- The parts that an overrun may change. -/
def lateZones : List Zone := [.counters, .tick, .commands, .vonus, .bursts, .queues, .pools, .faults]

theorem sameBut_overrunConsequence (s : State) (k : Nat) (n : BitVec 64) (items : Nat) :
    SameBut lateZones s (s.overrunConsequence k n items) := by
  unfold State.overrunConsequence
  split
  · exact (Frame.refl s).suppressTick.zones.mono (by decide)
  · exact (Frame.refl s).suppressTick.zones.mono (by decide)
  · exact (Frame.refl s).lateCommit.zones.mono (by decide)
  · exact (Frame.refl s).lateCommit.zones.mono (by decide)
  · exact (Frame.refl s).spoilEach.zones.mono (by decide)
  · exact (Frame.refl (m := []) s).reportMoved.zones
  · exact (Frame.refl (m := []) s).deferHeld.zones
  · exact (Frame.refl s).foldLate.zones.mono (by decide)
  · exact (Frame.refl (m := []) s).stippleLate.zones
  · exact (Frame.refl (m := []) s).modFault.zones
  · exact (Frame.refl (m := []) s).modFault.zones
  · exact (Frame.refl (m := []) s).modFault.zones
  · exact (Frame.refl (m := [.chan (clsChan 12), .line (clsChan 12)]) s).modB.zones
  · exact (Frame.refl (m := [.chan (clsChan 13), .line (clsChan 13)]) s).modB.zones
  · exact .refl _ s

theorem overrunConsequence_overran (hk : k ≠ 2 ∧ k ≠ 3) (s : State) (n : BitVec 64) (items : Nat) :
    (s.overrunConsequence k n items).tick.overran = s.tick.overran := by
  have htick {l m t} (h : Frame l m s t) (hl : .tick ∉ l := by decide) : t.tick.overran = s.tick.overran := by
    rw [show t.tick = s.tick from h.zones .tick hl]
  unfold State.overrunConsequence
  split
  · exact htick (Frame.refl s).suppressTick
  · exact htick (Frame.refl s).suppressTick
  · exact absurd rfl hk.1
  · exact absurd rfl hk.2
  · exact htick (Frame.refl s).spoilEach
  · exact htick (Frame.refl (m := []) (l := [.vonus]) s).reportMoved
  · rfl
  · unfold State.foldLate
    extract_lets s1
    split
    · rfl
    · rw [show (foldLoss _ s1).tick = s1.tick from (Frame.refl s1).foldLoss.zones .tick (by decide)]
      rfl
  · unfold State.stippleLate
    split <;> rfl
  all_goals rfl

theorem foldLate_lag (s : State) : s.foldLate.tick.foldLag = s.tick.foldLag + 1 := by
  unfold State.foldLate
  extract_lets s1
  split
  · rfl
  · rw [show (foldLoss _ s1).tick = s1.tick from (Frame.refl s1).foldLoss.zones .tick (by decide)]
    rfl

/-- The bursts that the close of a COMMIT window finds without content (R191). -/
def State.lateBursts (s : State) (c : Chan) (n : BitVec 64) : List Burst :=
  (s.bch c).bursts.filter fun b => b.tick = n && !b.judged && !b.committed

theorem lateCommit_overran {l : List Overrun} (hj : (2 + chanN c, n) ∉ s.tick.judged)
    (hl : ∀ x ∈ l, ¬ (x.cls = 2 + chanN c ∧ x.tick = n)) (h : s.tick.overran = l ++ [⟨2 + chanN c, n, 0⟩]) :
    (s.lateCommit c n).tick.overran = l ++ [⟨2 + chanN c, n, BitVec.ofNat 24 (s.lateBursts c n).length⟩] := by
  have hnote := noteOverrun_tick (s := s.bumpB c 12 (s.lateBursts c n).length) (i := BitVec.ofNat 24 (s.lateBursts c n).length) hj
  refine (congrArg TickSt.overran hnote).trans ?_
  rw [show (s.bumpB c 12 (s.lateBursts c n).length).tick.overran = _ from h]
  simpa using addOverrun_join (o := ⟨2 + chanN c, n, BitVec.ofNat 24 (s.lateBursts c n).length⟩) (p := ⟨_, _, 0⟩) hl
    ⟨rfl, rfl⟩

theorem noteOverrun_bch (c : Chan) : (s.noteOverrun k n i).bch c = s.bch c :=
  ((Frame.refl (l := [.tick]) (m := []) s).noteOverrun).cores (.chan c) (by simp)

/-- What an incomplete window notes: late bursts one by one, and the items of the other classes. -/
theorem overrun_noted {items : BitVec 24} (hu : Unnoted s k n) :
    ((s.noteOverrun k n (itemsOf k items)).overrunConsequence k n items.toNat).tick.overran = s.tick.overran ++ [⟨k, n,
      if k = 2 ∨ k = 3 then BitVec.ofNat 24 (s.lateBursts (chanOf (k % 2)) n).length else itemsOf k items⟩] := by
  have hn := hu.overran (i := itemsOf k items)
  have hj : (k, n) ∉ (s.noteOverrun k n (itemsOf k items)).tick.judged := by
    rw [noteOverrun_tick hu.judged]
    exact hu.judged
  have hb (c : Chan) : (s.noteOverrun k n (itemsOf k items)).lateBursts c n = s.lateBursts c n := by
    rw [State.lateBursts, noteOverrun_bch, State.lateBursts]
  by_cases hk : k = 2 ∨ k = 3
  · rw [if_pos hk, ← hb]
    obtain rfl | rfl := hk
    · exact lateCommit_overran (c := .a) hj hu.noted hn
    · exact lateCommit_overran (c := .b) hj hu.noted hn
  · rw [if_neg hk, overrunConsequence_overran (by tauto), hn]

/-- The state after a window that did not hold its work. -/
def State.overrunAt (s : State) (k : Nat) (n : BitVec 64) (items : BitVec 24) : State :=
  ((s.noteOverrun k n (itemsOf k items)).overrunConsequence k n items.toNat).finish

theorem windowClose_late {items : BitVec 24} (hk : k < 14) (ht : s.ticks = true) (hst : s.tick.started = true)
    (hn : n.toNat ≤ s.tick.number.toNat) : s.windowClose k n false items = s.overrunAt k n items := by
  unfold State.windowClose
  rw [if_neg (by simp [hk, ht, hst, hn])]
  rfl

theorem windowClose_held {items : BitVec 24} (hk : k < 14) (ht : s.ticks = true) (hst : s.tick.started = true)
    (hn : n.toNat ≤ s.tick.number.toNat) : s.windowClose k n true items = s.windowHeld k := by
  unfold State.windowClose
  rw [if_neg (by simp [hk, ht, hst, hn])]
  rfl

theorem overrunAt_spec (hs : s.canonical) (hk : k < 14) (hu : Unnoted s k n) (items : BitVec 24) :
    let t := s.overrunAt k n items
    t.tick.overran = s.tick.overran ++ [⟨k, n,
      if k = 2 ∨ k = 3 then BitVec.ofNat 24 (s.lateBursts (chanOf (k % 2)) n).length else itemsOf k items⟩] ∧
    (k < 2 → ∀ b ∈ (t.bch (chanOf k)).bursts, b.tick ≠ n) ∧
    (k = 2 ∨ k = 3 → ∀ b ∈ (t.bch (chanOf (k % 2))).bursts, b.tick = n → b.judged = true) ∧
    (k = 4 → 8192 ≤ items.toNat → ∀ a x, mget none s.vonu.alloc a = some x → (t.stage a).snapOk = false) ∧
    (k = 6 → ∀ h ∈ t.cmd.held, (s.tick.number + 1).toNat < h.due.toNat ∨ h.due = s.tick.number + 2) ∧
    (k = 7 → t.tick.foldLag = s.tick.foldLag + 1) ∧
    (12 ≤ k → ∀ b : Burst, b.tick = n → t.shadowPresent (chanOf (k % 2)) b = false) ∧ SameBut lateZones s t := by
  have hnote : Frame [.tick] [] s (s.noteOverrun k n (itemsOf k items)) := (Frame.refl s).noteOverrun
  have hover := overrun_noted (items := items) hu
  have htick := noteOverrun_tick (i := itemsOf k items) hu.judged
  unfold State.overrunAt
  generalize s.noteOverrun k n (itemsOf k items) = u at hnote hover htick ⊢
  have hzones : SameBut lateZones s (u.overrunConsequence k n items.toNat).finish :=
    ((hnote.zones.mono (by decide)).trans (sameBut_overrunConsequence u k n items.toNat)).trans (sameBut_finish _ _)
  have hbch (t : State) (c : Chan) : t.finish.bch c = t.bch c := by simp [State.bch]
  refine ⟨by rw [State.finish_tick]; exact hover, fun h => ?_, fun h => ?_, fun h hi a x ha => ?_, fun h => ?_, fun h => ?_,
    fun h b hb => ?_, hzones⟩
  · obtain rfl | rfl : k = 0 ∨ k = 1 := by omega
    all_goals rw [hbch]; exact suppressTick_bursts
  · obtain rfl | rfl := h
    all_goals rw [hbch]; exact lateCommit_bursts
  · subst h
    have hv : u.vonu = s.vonu := hnote.zones .vonus (by decide)
    have hst : u.burin.stage = s.burin.stage := hnote.cores .staged (by simp)
    have hsnap : ((spoilEach items.toNat (u.vonu.alloc.map (·.1)) u).stage a).snapOk = false :=
      spoilEach_snapOk hi (by rw [hst]; exact keys_sorted hs.stage) (.inl (hv ▸ mem_keys_of_mget (d := none) (by simp [ha])))
    rw [State.stage, State.finish_burin]
    exact hsnap
  · subst h
    have hheld := deferHeld_held (s := u)
    rw [htick] at hheld
    rw [State.finish_cmd]
    exact hheld
  · subst h
    rw [State.finish_tick, show (u.overrunConsequence 7 n items.toNat).tick.foldLag = _ from foldLate_lag u, htick]
  · obtain rfl | rfl : k = 12 ∨ k = 13 := by omega
    all_goals rw [State.shadowPresent, hbch]; exact loseShadow_absent hb

/-! ### A window that holds its work -/


theorem prepareAll_verdict {due : Nat} {l kept : List Held} :
    ∀ h ∈ prepareAll due l kept s, h.due.toNat ≤ due → h.verdict.isSome = true := by
  induction l generalizing kept s with
  | nil => simp [prepareAll]
  | cons e l ih =>
    rw [prepareAll]
    split
    next he => exact List.forall_mem_cons.2 ⟨fun h => absurd h (by omega), ih⟩
    next => exact List.forall_mem_cons.2 ⟨fun _ => rfl, ih⟩

theorem foldl_reportBatch_vonu (f : Nat → List Moved) (l : List Nat) (s : State) :
    (l.foldl (fun t b => t.reportBatch (f b)) s).vonu = s.vonu :=
  ((Frame.refl (l := []) (m := []) s).foldl fun _ _ h => h.reportBatch).zones .vonus (by decide)

theorem reportMoved_moved (s : State) : s.reportMoved.vonu.moved = [] :=
  congrArg VonuSt.moved (foldl_reportBatch_vonu _ _ _)

/-- The parts that a window of a class may change where it holds its work. -/
def heldZones (k : Nat) : List Zone :=
  if k = 5 then [.vonus] else if k = 6 then [.commands] else if k = 7 then [.tick] else []

theorem windowHeld_spec (hst : s.tick.started = true) (k : Nat) :
    let t := s.windowHeld k
    t.tick.overran = s.tick.overran ∧ t.tick.foldLag = (if k = 7 then 0 else s.tick.foldLag) ∧
    (k = 6 → ∀ h ∈ t.cmd.held, h.due.toNat ≤ s.tick.number.toNat + 1 → h.verdict.isSome = true) ∧
    (k = 5 → t.vonu.moved = []) ∧ SameBut (heldZones k) s t := by
  unfold State.windowHeld
  split
  · have h : Frame [.vonus] [] s s.reportMoved := (Frame.refl s).reportMoved
    have htick : s.reportMoved.tick = s.tick := h.zones .tick (by decide)
    exact ⟨by rw [htick], by rw [htick]; rfl, nofun, fun _ => reportMoved_moved s, h.zones⟩
  · have he : s.prepare = { s with cmd := { s.cmd with held := prepareAll (s.tick.number.toNat + 1) s.cmd.held [] s } } := by
      simp [State.prepare, hst]
    rw [he]
    exact ⟨rfl, rfl, fun _ => prepareAll_verdict, nofun, ((Frame.refl (l := [.commands]) (m := []) s).commands).zones⟩
  · exact ⟨rfl, rfl, nofun, nofun, ((Frame.refl (l := [.tick]) (m := []) s).modTick).zones⟩
  next h5 h6 h7 => exact ⟨rfl, (if_neg h7).symm, fun h => absurd h h6, fun h => absurd h h5, .refl _ s⟩

end Sys2Proof.Machine
end

section
/-! The stipple snapshot, block CRCs and crossings (O8). -/

namespace Sys2Proof.Machine
set_option Elab.async false
variable {s t u : State} {n : BitVec 64} {g : BitVec 4}

/-! ### The stipple snapshot -/

theorem stippleCopy_complete {m : SMap (BitVec 64)} (ht : s.ticks = true) (hm : s.tick.snap = some m) (hd : s.domOn 8 = true) :
    s.stippleCopy true = s.publish m false := by
  simp [State.stippleCopy, hm, ht, hd]

theorem sameBut_publish (s : State) (bank : SMap (BitVec 64)) (b : Bool) : SameBut [.stipple, .tick] s (s.publish bank b) := by
  intro p hp
  cases p <;> simp_all [Zone.same, State.publish]
  exact fun _ _ => rfl

theorem completes_stippleCopy {m : SMap (BitVec 64)} (ht : s.ticks = true) (hm : s.tick.snap = some m) (hd : s.domOn 8 = true) :
    Completes (.stippleCopy true) s fun t =>
      t.stipple = m ∧ t.tick.incomplete = false ∧ t.tick.second = BitVec.ofNat 30 (s.tick.number.toNat / 8000) ∧
      t.tick.copying = none ∧ t.tick.snap = none ∧ t.tick.secondSuspect = s.tick.snapSuspect ∧
      SameBut [.stipple, .tick] s t := by
  refine ⟨s.stippleCopy true, rfl, ?_⟩
  rw [stippleCopy_complete ht hm hd]
  exact ⟨rfl, rfl, rfl, rfl, rfl, rfl, sameBut_publish s m false⟩

/-- A copy that its window does not hold goes on, and its overrun is noted. -/
theorem stippleCopy_late {m : SMap (BitVec 64)} (ht : s.ticks = true) (hm : s.tick.snap = some m) (hd : s.domOn 8 = true)
    (hu : Unnoted s 8 s.tick.number) : ∃ i, s.stippleCopy false = { s.fresh.2 with tick := { s.tick with
      overran := s.tick.overran ++ [⟨8, s.tick.number, i⟩], copying := some m, snap := none } } := by
  have hd' : (!s.ticks || !s.domOn 8) = false := by simp [ht, hd]
  have hadd (i : BitVec 24) : addOverrun ⟨8, s.tick.number, i⟩ s.tick.overran = _ := addOverrun_new hu.noted
  refine ⟨BitVec.ofNat 24 s.fresh.1, ?_⟩
  simp [State.stippleCopy, hm, hd', State.noteOverrun, hu.judged, hadd, State.stippleLate, State.modTick]

theorem completes_stippleCopy_late {m : SMap (BitVec 64)} (ht : s.ticks = true) (hm : s.tick.snap = some m)
    (hd : s.domOn 8 = true) (hu : Unnoted s 8 s.tick.number) : Completes (.stippleCopy false) s fun t =>
      t.stipple = s.stipple ∧ t.tick.copying = some m ∧ t.tick.snap = none ∧ t.counters = s.counters ∧
      (∃ items, t.tick.overran = s.tick.overran ++ [{ cls := 8, tick := s.tick.number, items }]) ∧ SameBut [.tick] s t := by
  refine ⟨s.stippleCopy false, rfl, ?_⟩
  obtain ⟨i, hi⟩ := stippleCopy_late ht hm hd hu
  rw [hi]
  exact ⟨rfl, rfl, rfl, rfl, ⟨i, rfl⟩, ((Frame.refl (m := []) s).fresh.tick).zones⟩

/-- The value that a late copy gives a counter: the one at the tick or one that it has taken since (R77). -/
def Taken (old : SMap (BitVec 64)) (trail : List (Nat × BitVec 64)) (a : Nat) (v : BitVec 64) : Prop :=
  v = mget 0 old a ∨ (a, v) ∈ trail

theorem taken_of_mem {old : SMap (BitVec 64)} {trail : List (Nat × BitVec 64)} {a : Nat} {v : BitVec 64}
    (h : v ∈ mget 0 old a :: (trail.filter fun e => e.1 = a).map (·.2)) : Taken old trail a v := by
  obtain rfl | h := List.mem_cons.1 h
  · exact .inl rfl
  · obtain ⟨e, he, rfl⟩ := List.mem_map.1 h
    obtain ⟨hmem, hkey⟩ := List.mem_filter.1 he
    rw [← of_decide_eq_true hkey]
    exact .inr hmem

theorem getD_mod_mem {l : List (BitVec 64)} (h : l ≠ []) (f : Nat) : l.getD (f % l.length) 0 ∈ l := by
  have hlt : f % l.length < l.length := Nat.mod_lt _ (List.length_pos_iff.2 h)
  rw [List.getD_eq_getElem _ _ hlt]
  exact List.getElem_mem hlt

/-- A late copy gives each of the counters it goes over a value that the counter had, and changes the free values alone. -/
theorem lateCopy_spec {old : SMap (BitVec 64)} {trail : List (Nat × BitVec 64)} {ks : List Nat} {acc : SMap (BitVec 64)}
    {a : Nat} (hacc : (acc.map (·.1)).Pairwise (· < ·)) (h : a ∈ ks ∨ Taken old trail a (mget 0 acc a)) (s : State) :
    Taken old trail a (mget 0 (lateCopy old trail ks acc s).1 a) := by
  induction ks generalizing acc s with
  | nil => exact h.resolve_left (by simp)
  | cons k ks ih =>
    refine ih (pairwise_keys_mput hacc) ?_ _
    by_cases hk : a = k
    · subst hk
      rw [mget_mput_same _ _ _ _ hacc]
      exact .inr (taken_of_mem (getD_mod_mem (by simp) _))
    · rw [mget_mput_other _ _ _ _ _ hk]
      exact h.imp (List.mem_of_ne_of_mem hk) id

theorem lateCopy_frame {l m} {old : SMap (BitVec 64)} {trail : List (Nat × BitVec 64)} {ks : List Nat} {acc : SMap (BitVec 64)}
    (h : Frame l m s t) : Frame l m s (lateCopy old trail ks acc t).2 := by
  induction ks generalizing acc t with
  | nil => exact h
  | cons k ks ih => exact ih h.fresh

/-- The counters that a late copy goes over. -/
def copyKeys (old : SMap (BitVec 64)) (trail : List (Nat × BitVec 64)) : List Nat := old.map (·.1) ++ (trail.map (·.1)).dedup

theorem stippleDone_eq {old : SMap (BitVec 64)} (ht : s.ticks = true) (ho : s.tick.copying = some old) (hd : s.domOn 8 = true) :
    let copy := lateCopy old (s.counters.trail.getD []) (copyKeys old (s.counters.trail.getD [])) [] s
    s.stippleDone = copy.2.publish copy.1 true := by
  have hd' : ¬ ((!s.ticks || !s.domOn 8) = true) := by simp [ht, hd]
  unfold State.stippleDone
  simp only [ho]
  exact if_neg hd'

theorem completes_stippleCopyComplete {old : SMap (BitVec 64)} (ht : s.ticks = true) (ho : s.tick.copying = some old)
    (hd : s.domOn 8 = true) : Completes .stippleCopyComplete s fun t =>
    (∀ a, mget 0 t.stipple a = mget 0 old a ∨ (a, mget 0 t.stipple a) ∈ s.counters.trail.getD []) ∧
    t.tick.incomplete = true ∧ t.tick.copying = none ∧ t.counters.trail = none ∧ SameBut [.stipple, .tick] s t := by
  refine ⟨s.stippleDone, rfl, ?_⟩
  rw [stippleDone_eq ht ho hd]
  refine ⟨fun a => lateCopy_spec (by simp) ?_ s, rfl, rfl, rfl,
    ((lateCopy_frame (m := []) (Frame.refl s)).zones).trans (sameBut_publish _ _ true)⟩
  by_cases ha : a ∈ copyKeys old (s.counters.trail.getD [])
  · exact .inl ha
  · have hold : mget 0 old a = 0 := by
      by_contra hne
      exact ha (List.mem_append_left _ (mem_keys_of_mget hne))
    exact .inr (.inl hold.symm)

end Sys2Proof.Machine
end

section
/-! Block CRCs and crossings (O8). -/

namespace Sys2Proof.Machine
set_option Elab.async false
variable {s t u : State} {n : BitVec 64}

/-! ### Block CRCs -/

/-- A channel is held while a block that governs it is bad (R428). -/
def State.crcHold (s : State) (c : Chan) : State :=
  (s.modCh c fun x => { x with holdCrc := s.fault.crcBad.any fun e => crcGoverns e.1.toNat c }).txUpdate c

theorem crcHolds_eq (s : State) : s.crcHolds = (s.crcHold .a).crcHold .b := rfl

theorem crcHold_frame (s : State) (c : Chan) : Frame [.channels] [] s (s.crcHold c) := (Frame.refl s).modCh.txUpdate

theorem crcHold_fault (s : State) (c : Chan) : (s.crcHold c).fault = s.fault := by simp [State.crcHold]

theorem crcHold_same (s : State) (c : Chan) :
    ((s.crcHold c).ch c).holdCrc = s.fault.crcBad.any fun e => crcGoverns e.1.toNat c := by
  rw [State.crcHold, txUpdate_view (g := ChanSt.holdCrc) (fun _ _ _ _ => rfl)]
  simp [State.ch]

theorem crcHold_other {c d : Chan} (h : d ≠ c) (s : State) : ((s.crcHold c).ch d).holdCrc = (s.ch d).holdCrc := by
  rw [State.crcHold, txUpdate_view (g := ChanSt.holdCrc) (fun _ _ _ _ => rfl)]
  simp [State.ch, Two.get_set_ne _ _ h]

theorem crcHolds_holdCrc (s : State) (c : Chan) :
    (s.crcHolds.ch c).holdCrc = s.fault.crcBad.any fun e => crcGoverns e.1.toNat c := by
  rw [crcHolds_eq]
  cases c with
  | a => rw [crcHold_other (by decide), crcHold_same]
  | b => rw [crcHold_same, crcHold_fault]

theorem completes_cfgCrcRewrite (s : State) (b : Byte) (k : BitVec 4) : Completes (.cfgCrcRewrite b k) s fun t =>
    (b, k) ∉ t.fault.crcBad ∧ (∀ e, e ≠ (b, k) → (e ∈ t.fault.crcBad ↔ e ∈ s.fault.crcBad)) ∧
    (∀ c, (t.ch c).holdCrc = t.fault.crcBad.any fun e => crcGoverns e.1.toNat c) ∧ SameBut [.channels, .faults] s t := by
  refine ⟨(s.crcRewrite b k).finish, rfl, ?_⟩
  unfold State.crcRewrite
  have hf : Frame [.channels, .faults] [] s (s.modFault fun x => { x with crcBad := x.crcBad.filter fun e => e ≠ (b, k) }) :=
    (Frame.refl s).modFault
  have hbad : (s.modFault fun x => { x with crcBad := x.crcBad.filter fun e => e ≠ (b, k) }).fault.crcBad =
      s.fault.crcBad.filter fun e => e ≠ (b, k) := rfl
  generalize s.modFault _ = u at hf hbad ⊢
  have hfin : (u.crcHolds.finish).fault.crcBad = u.fault.crcBad := by
    have hfound : u.crcHolds.finish.fault.found = u.fault.found := by
      rw [State.finish_found, crcHolds_eq, crcHold_fault, crcHold_fault]
    exact congrArg (·.crcBad) hfound
  have hch (c : Chan) : u.crcHolds.finish.ch c = u.crcHolds.ch c := by simp [State.ch]
  refine ⟨?_, fun e he => ?_, fun c => ?_, ?_⟩
  · simp [hfin, hbad]
  · simp [hfin, hbad, he]
  · rw [hch, crcHolds_holdCrc, hfin]
  · have h2 : Frame [.channels] [] u u.crcHolds.finish := ((crcHold_frame u .a).trans (crcHold_frame _ .b)).finish
    exact hf.zones.trans (h2.zones.mono (by decide))

/-! ### Crossings -/

theorem getLsbD_or_two_pow {g : Nat} (hg : g < 16) (x : BitVec 16) : (x ||| BitVec.ofNat 16 (2 ^ g)).getLsbD g = true := by
  simp only [BitVec.getLsbD_or, BitVec.getLsbD_ofNat, hg, Nat.testBit_two_pow_self, decide_true, Bool.and_self, Bool.or_true]

theorem completes_crossingDisturbance {g : BitVec 4} {i : BitVec 12} {d : Byte} (ht : s.ticks = true) (hd : 128 ≤ d.toNat) :
    Completes (.crossingDisturbance g i d) s fun t =>
      t.tick.disturbed.getLsbD g.toNat = true ∧ t.tick.suspect.getLsbD g.toNat = true ∧ SameBut [.tick] s t := by
  refine ⟨s.crossingDisturbed g.toNat i.toNat d.toNat, rfl, ?_⟩
  have hguard : ¬ ((!s.ticks || decide (d.toNat < 128)) = true) := by simp [ht, hd]
  unfold State.crossingDisturbed
  rw [if_neg hguard]
  refine ⟨?_, ?_, ((Frame.refl (m := []) s).modTick.tick.raise).zones⟩ <;> rw [State.raise_tick] <;>
    exact getLsbD_or_two_pow g.isLt _

theorem completes_crossingDisturbance_small {g : BitVec 4} {i : BitVec 12} {d : Byte} (hd : d.toNat < 128) :
    Completes (.crossingDisturbance g i d) s fun t => t = s := by
  refine ⟨s.crossingDisturbed g.toNat i.toNat d.toNat, rfl, ?_⟩
  unfold State.crossingDisturbed
  exact if_pos (by simp [hd])

/-- The tick's side of a crossing fault: the stream that it spoils, if the group carries any. -/
def State.transited (s : State) (g : Nat) : State :=
  let k := s.fresh.1 % streamsOf g
  if streamsOf g = 0 || s.fresh.2.spoilt g k then s.fresh.2
  else s.fresh.2.modTick fun t => { t with transit := t.transit ++ [(g, k)] }

theorem transited_suspect (s : State) (g : Nat) : (s.transited g).tick.suspect = s.tick.suspect := by
  unfold State.transited
  extract_lets k
  split <;> rfl

theorem transited_transit {g : Nat} (hg : streamsOf g ≠ 0) : (s.transited g).tick.transit =
    if s.spoilt g (s.fresh.1 % streamsOf g) then s.tick.transit else s.tick.transit ++ [(g, s.fresh.1 % streamsOf g)] := by
  have hk (k : Nat) : s.fresh.2.spoilt g k = s.spoilt g k := rfl
  unfold State.transited
  extract_lets k
  simp only [hg, decide_false, Bool.false_or, hk]
  cases s.spoilt g k <;> rfl

theorem completes_crossingFifoFault {g : BitVec 4} {i : BitVec 12} {o : Bool} (ht : s.ticks = true)
    (hd : s.domOn (groupDom g.toNat) = true) : Completes (.crossingFifoFault g i o) s fun t =>
      t.tick.disturbed.getLsbD g.toNat = true ∧ t.tick.suspect = s.tick.suspect ∧
      (streamsOf g.toNat ≠ 0 → ∃ k, k < streamsOf g.toNat ∧
        t.tick.transit = if s.spoilt g.toNat k then s.tick.transit else s.tick.transit ++ [(g.toNat, k)]) ∧
      SameBut [.tick] s t := by
  refine ⟨s.crossingFifo g.toNat i.toNat o, rfl, ?_⟩
  have hguard : ¬ ((!s.ticks || !s.domOn (groupDom g.toNat)) = true) := by simp [ht, hd]
  have he : s.crossingFifo g.toNat i.toNat o = ((s.transited g.toNat).disturb g.toNat).raise 0x0F21
      (put 60 4 g.toNat + put 48 12 i.toNat + put 40 1 (b2n o) + (s.transited g.toNat).tickLow) := by
    unfold State.crossingFifo
    rw [if_neg hguard]
    rfl
  rw [he]
  have hf : Frame [.tick] [] s (s.transited g.toNat) := (Frame.refl s).fresh.ite (Frame.refl s).fresh.modTick
  refine ⟨?_, ?_, fun hn => ⟨s.fresh.1 % streamsOf g.toNat, Nat.mod_lt _ (Nat.pos_of_ne_zero hn), ?_⟩,
    hf.modTick.raise.zones⟩
  · rw [State.raise_tick]
    exact getLsbD_or_two_pow g.isLt _
  · rw [State.raise_tick]
    exact transited_suspect s g.toNat
  · rw [State.raise_tick]
    exact transited_transit hn

theorem completes_firmwareResync {g : BitVec 4} (ht : s.ticks = true) (hg : s.tick.suspect.getLsbD g.toNat = true)
    (hd : s.domOn (groupDom g.toNat) = true) : Completes (.firmwareResync g) s fun t =>
      t.tick = { s.tick with resyncs := s.tick.resyncs ++ [(s.tick.number + 2, g)] } ∧ SameBut [.tick] s t := by
  refine ⟨s.firmwareResync g, rfl, ?_⟩
  unfold State.firmwareResync
  rw [if_pos (by simp only [ht, hg, hd, Bool.and_self])]
  exact ⟨rfl, ((Frame.refl (m := []) s).modTick).zones⟩

theorem resyncsDue_single {g : BitVec 4} {due : BitVec 64} (hr : s.tick.resyncs = [(due, g)])
    (hdue : due.toNat ≤ s.tick.number.toNat) (hd : s.domOn (groupDom g.toNat) = true) :
    s.resyncsDue = (s.modTick fun t => { t with resyncs := [] }).resync (2 ^ g.toNat) := by
  have hall (l : List (BitVec 64 × BitVec 4)) :
      ({ s with tick := { s.tick with resyncs := l } } : State).domOn (groupDom g.toNat) = true := hd
  unfold State.resyncsDue
  simp [hr, hdue, resyncAll, hall, State.modTick]

theorem resync_tick (s : State) (mask : Nat) : (s.resync mask).tick =
    { s.tick with suspect := s.tick.suspect &&& ~~~BitVec.ofNat 16 mask
                  spurious := s.tick.spurious &&& ~~~BitVec.ofNat 16 mask } := by
  simp [State.resync]

theorem getLsbD_clear {g k : Nat} (hk : k < 16) (x : BitVec 16) :
    (x &&& ~~~BitVec.ofNat 16 (2 ^ g)).getLsbD k = (x.getLsbD k && k ≠ g) := by
  simp only [BitVec.getLsbD_and, BitVec.getLsbD_not, BitVec.getLsbD_ofNat, Nat.testBit_two_pow, hk, decide_true, Bool.true_and]
  simp only [ne_comm (a := k), ne_eq, decide_not]

theorem completes_tickBoundEffect {g : BitVec 4} {due : BitVec 64} (hr : s.tick.resyncs = [(due, g)])
    (hdue : due.toNat ≤ s.tick.number.toNat) (hd : s.domOn (groupDom g.toNat) = true) (hh : s.cmd.held = []) :
    Completes .tickBoundEffect s fun t =>
      (∀ k, k < 16 → t.tick.suspect.getLsbD k = (s.tick.suspect.getLsbD k && k ≠ g.toNat)) ∧
      t.tick.disturbed = s.tick.disturbed ∧ t.tick.resyncs = [] ∧ SameBut [.tick] s t := by
  have hheld : s.heldDue = [] := by simp [State.heldDue, hh]
  refine ⟨s.resyncsDue.finish, ?_, ?_⟩
  · show Sys2Proof.Machine.execTickBoundEffect s = _
    simp [execTickBoundEffect, hheld, effects, State.stampDue, next]
  · rw [resyncsDue_single hr hdue hd]
    dsimp only
    rw [State.finish_tick, resync_tick]
    exact ⟨fun k hk => getLsbD_clear hk _, rfl, rfl, ((Frame.refl (m := []) s).modTick.tick.raiseIf.finish).zones⟩

/-- Settles O8, a command at a time: a window by the class that it closes, the others by the branch that the hypotheses choose. -/
theorem windowsAndCrossings : Obligations.WindowsAndCrossings := by
  unfold Obligations.WindowsAndCrossings
  refine fun s hs ht => ⟨fun cls n items hk hst hn => ⟨?_, ?_⟩, fun m hm hd => ⟨?_, ?_⟩, ?_, ?_, fun g i d => ⟨?_, ?_, ?_, ?_, ?_⟩⟩
  · exact ⟨_, rfl, (windowClose_held hk ht hst hn).symm ▸ windowHeld_spec hst cls.toNat⟩
  · exact fun hj ho => ⟨_, rfl, (windowClose_late hk ht hst hn).symm ▸ overrunAt_spec hs hk ⟨hj, ho⟩ items⟩
  · exact completes_stippleCopy ht hm hd
  · exact fun hj ho => completes_stippleCopy_late ht hm hd ⟨hj, ho⟩
  · exact fun old ho hd => completes_stippleCopyComplete ht ho hd
  · exact completes_cfgCrcRewrite s
  · exact fun h => completes_crossingDisturbance ht h
  · exact completes_crossingDisturbance_small
  · exact fun o hd => completes_crossingFifoFault ht hd
  · exact completes_firmwareResync ht
  · exact fun due hr hdue hd hh => completes_tickBoundEffect hr hdue hd hh

end Sys2Proof.Machine
end

section
/-! Packets as bytes (O3). A packet is its 16 header bytes, its payload and four bytes of CRC. Each field of the header reads
back as what `headerBytes` wrote there, whatever stands behind the header; so a packet whose last four bytes are the CRC reads
back as its command, and one whose last four bytes are not is a bad packet with the same header (R48). -/

namespace Sys2Proof.Machine

/-! ### Little-endian numbers -/

@[simp] theorem length_leBytes (n v : Nat) : (leBytes n v).length = n := by
  induction n generalizing v with
  | zero => rfl
  | succ n ih => rw [leBytes, List.length_cons, ih]

theorem leNat_leBytes (n v : Nat) : leNat (leBytes n v) = v % 256 ^ n := by
  induction n generalizing v with
  | zero => rw [pow_zero, Nat.mod_one]; rfl
  | succ n ih => rw [leBytes, leNat, ih, pow_succ', Nat.mod_mul, BitVec.toNat_ofNat]

theorem leNat_leBytes_toNat {w : Nat} (n : Nat) (v : BitVec w) (h : 2 ^ w ≤ 256 ^ n) : leNat (leBytes n v.toNat) = v.toNat := by
  rw [leNat_leBytes, Nat.mod_eq_of_lt (v.isLt.trans_le h)]

theorem leNat_lt (l : List Byte) : leNat l < 256 ^ l.length := by
  induction l with
  | nil => decide
  | cons b l ih =>
    have hb : b.toNat < 256 := b.isLt
    rw [leNat, List.length_cons, pow_succ']
    omega

/-! ### The header -/

/-- The header of a command packet. -/
def cmdHead (op : Byte) (r : Req) : List Byte := headerBytes 2 op r.seq r.payload.length r.flags 0 r.addr r.param

@[simp] theorem length_cmdHead (op : Byte) (r : Req) : (cmdHead op r).length = 16 := rfl

theorem cmdBytes_eq (op : Byte) (r : Req) :
    cmdBytes op r = cmdHead op r ++ r.payload ++ crcTrailer (cmdHead op r ++ r.payload) := rfl

@[simp] theorem length_crcTrailer (l : List Byte) : (crcTrailer l).length = 4 := length_leBytes ..

theorem length_cmdBytes (op : Byte) (r : Req) : (cmdBytes op r).length = 20 + r.payload.length := by
  simp [cmdBytes_eq]
  omega

section
variable (t : Transport) (op : Byte) (r : Req) (l : List Byte)

theorem len_cmdHead (h : r.payload.length ≤ 4080) : leNat (slice (cmdHead op r ++ l) 4 2) = r.payload.length := by
  show leNat (leBytes 2 r.payload.length) = _
  rw [leNat_leBytes, Nat.mod_eq_of_lt (by omega)]

/-- The fields behind a command's header read back, the payload as LENGTH counts it in what follows. -/
theorem pktReq_cmdHead (h : r.payload.length ≤ 4080) :
    pktReq t (cmdHead op r ++ l) = { r with t, payload := l.take r.payload.length } := by
  have hseq : leNat (slice (cmdHead op r ++ l) 2 2) = r.seq.toNat := leNat_leBytes_toNat 2 r.seq (by decide)
  have haddr : leNat (slice (cmdHead op r ++ l) 8 4) = r.addr.toNat := leNat_leBytes_toNat 4 r.addr (by decide)
  have hparam : leNat (slice (cmdHead op r ++ l) 12 4) = r.param.toNat := leNat_leBytes_toNat 4 r.param (by decide)
  rw [pktReq, hseq, haddr, hparam, len_cmdHead op r l h]
  simp only [BitVec.ofNat_toNat, BitVec.setWidth_eq]
  rfl

end

/-! ### The packet -/

/-- A packet with a command's header and payload is the command where its last four bytes are the CRC (R47, R48). -/
theorem parsePacket_framed {op : Byte} {r : Req} {c : List Byte} (h : r.payload.length ≤ 4080) (hc : c.length = 4) :
    parsePacket r.t (cmdHead op r ++ (r.payload ++ c)) =
      if c = crcTrailer (cmdHead op r ++ r.payload) then .command op r else .badCrc op { r with payload := [] } := by
  have hlen := len_cmdHead op r (r.payload ++ c) h
  have hreq := pktReq_cmdHead r.t op r (r.payload ++ c) h
  have hop : pktByte (cmdHead op r ++ (r.payload ++ c)) 1 = op := rfl
  have hversion : pktByte (cmdHead op r ++ (r.payload ++ c)) 0 = 2 := rfl
  have hsize : (cmdHead op r ++ (r.payload ++ c)).length = 20 + r.payload.length := by simp [hc]; omega
  have hfront : (cmdHead op r ++ (r.payload ++ c)).take (16 + r.payload.length) = cmdHead op r ++ r.payload := by
    rw [← List.append_assoc]
    exact List.take_left' (by simp)
  have hback : slice (cmdHead op r ++ (r.payload ++ c)) (16 + r.payload.length) 4 = c := by
    rw [slice, ← List.append_assoc, List.drop_left' (by simp), List.take_of_length_le hc.le]
  rw [List.take_left] at hreq
  rw [parsePacket, hlen, hreq, hop, hversion, hsize, hfront, hback]
  by_cases hcrc : c = crcTrailer (cmdHead op r ++ r.payload) <;> simp [hcrc, h]

theorem parsePacket_cmdBytes {op : Byte} {r : Req} (h : r.payload.length ≤ 4080) :
    parsePacket r.t (cmdBytes op r) = .command op r := by
  rw [cmdBytes_eq, List.append_assoc, parsePacket_framed h (length_crcTrailer _), if_pos rfl]

/-- Settles O3: each field behind the header reads back, and the CRC behind the payload is the one sent. -/
theorem packetRoundTrip : Obligations.PacketRoundTrip := fun _ _ => parsePacket_cmdBytes

end Sys2Proof.Machine
end

section
/-! The transports (O47). A command as a packet arrives as the command itself: the write transaction and the management frame
test what `State.submit` tests, and the packet parses. Every other clause is one update of the transport's port, seen through
`port_modPort`. -/

namespace Sys2Proof.Machine

/-! ### A port and what leaves it alone -/

@[simp] theorem State.port_modPort (s : State) (t : Transport) (f : PortSt → PortSt) : (s.modPort t f).port t = f (s.port t) := by
  simp [State.port]

theorem State.port_modPort_ne (s : State) {t u : Transport} (f : PortSt → PortSt) (h : u ≠ t) :
    (s.modPort t f).port u = s.port u := by simp [State.port, PerT.get_set_ne _ _ h]

theorem State.port_of_cmd {s t : State} (h : t.cmd = s.cmd) (x : Transport) : t.port x = s.port x := by rw [State.port, h]; rfl

namespace Frame
variable {l : List Zone} {m : List Core} {s t : State}

theorem modPort {x f} (h : Frame l m s t) (hl : .commands ∈ l := by decide) : Frame l m s (t.modPort x f) :=
  h.beside fun p hp => by cases p <;> simp_all [Zone.same]

theorem expose {g} (h : Frame l m s t) (hl : .tick ∈ l := by decide) : Frame l m s (t.expose g) :=
  h.beside fun p hp => by cases p <;> simp_all [Zone.same]

end Frame

theorem State.waitCheck_of_none {s : State} (h : s.cmd.wait = none) : s.waitCheck = s := by simp [State.waitCheck, h]

theorem State.pushReply_twi (s : State) (y : Reply) :
    s.pushReply .twi y = s.modPort .twi fun q => { q with replies := q.replies ++ [y] } := rfl

/-! ### A row is its opcode -/

theorem exec_rowOf {n : Nat} {r : Req} {i : Instr} (h : rowOf n r = some i) (s : State) :
    exec i s = .next (s.submit (BitVec.ofNat 8 n) r) := by
  unfold rowOf at h
  split at h <;> cases h <;> rfl

theorem exec_row {op : Byte} {r : Req} {i : Instr} (h : rowOf op.toNat r = some i) (s : State) :
    exec i s = .next (s.submit op r) := by simpa using exec_rowOf h s

/-! ### Good packets -/

variable {s : State} {op : Byte} {r : Req} {l : List Byte} {y : Reply}

/-- The address of the two-wire port (R38). -/
def State.twiOwn (s : State) : BitVec 7 := 0x58 + s.pins.madrSampled.setWidth 7

theorem packet_command {t : Transport} (hs : s.spoilt (transGroup t) 0 = false) (hp : parsePacket t l = .command op r) :
    s.packet t l = s.take { op, r } := by simp [State.packet, hs, hp]

theorem twiWrite_cmdBytes (ht : r.t = .twi) (hl : r.payload.length ≤ 4080) (hs : s.spoilt 9 0 = false) :
    s.twiWrite s.twiOwn (cmdBytes op r) = s.submit op r := by
  have hp : parsePacket .twi (cmdBytes op r) = .command op r := ht ▸ parsePacket_cmdBytes hl
  simp [State.twiWrite, State.twiOwn, State.submit, ht, length_cmdBytes, packet_command (t := .twi) hs hp]

theorem mgmtFrame_cmdBytes (ht : r.t = .alanov) (hl : r.payload.length ≤ 4080) (hs : s.spoilt 4 0 = false) :
    s.mgmtFrame (cmdBytes op r) = s.submit op r := by
  have hp : parsePacket .alanov (cmdBytes op r) = .command op r := ht ▸ parsePacket_cmdBytes hl
  have hlen : 20 + r.payload.length ≤ 4100 := by omega
  simp [State.mgmtFrame, State.submit, ht, length_cmdBytes, hlen, packet_command (t := .alanov) hs hp]

/-! ### Write transactions that are no command -/

theorem native_of_takes (h : s.takes .twi = true) : s.legacy = false ∧ (s.phase = .ready ∨ s.phase = .recovery) := by
  simpa [State.takes] using h

theorem awake_of_takes (h : s.takes .twi = true) : s.phase ≠ .asleep := by
  obtain ⟨-, h | h⟩ := native_of_takes h <;> simp [h]

theorem twiWrite_other {a : BitVec 7} (h : a ≠ s.twiOwn) : s.twiWrite a l = s := if_pos h

theorem twiWrite_full (ht : s.takes .twi = true) (hf : 32 ≤ s.inExecution .twi) : s.twiWrite s.twiOwn l = s.emit .twiNack := by
  simp [State.twiWrite, State.twiOwn, awake_of_takes ht, hf]

/-- A write to a port that has room is a packet, or short of one (R38, R40). -/
theorem twiWrite_taken (ht : s.takes .twi = true) (hr : s.inExecution .twi < 32) :
    s.twiWrite s.twiOwn l =
      if l.length < 20 then s.modPort .twi fun q => { q with runt := q.runt + 1 } else s.packet .twi l := by
  simp [State.twiWrite, State.twiOwn, awake_of_takes ht, ht, hr]

/-- The state that a packet has passed its crossing into: one that was spoilt there takes its fault with it (R25). -/
def State.crossed (s : State) (g : Nat) : State := if s.spoilt g 0 then s.unspoil g 0 else s

theorem crossed_frame (s : State) (g : Nat) : Frame [.commands, .tick] [] s (s.crossed g) :=
  (Frame.refl s).unspoil.ite (.refl s)

theorem crossed_cmd (s : State) (g : Nat) : (s.crossed g).cmd = s.cmd := by unfold State.crossed; split <;> rfl

theorem crossed_spoilt {g : Nat} (h : s.spoilt g 0 = true) : s.crossed g = s.unspoil g 0 := if_pos h

theorem crossed_good {g : Nat} (h : s.spoilt g 0 = false) : s.crossed g = s := by simp [State.crossed, h]

/-- A packet on the two-wire port with a bad CRC, counted and answered (R48). -/
def State.badPacket (s : State) (op : Byte) (r : Req) : State :=
  ((s.crossed 9).modPort .twi fun q => { q with badCrc := q.badCrc + 1 }).refusePacket op r 2

theorem packet_badCrc (h : parsePacket .twi l = .badCrc op r) : s.packet .twi l = s.badPacket op r := by
  unfold State.packet State.badPacket State.crossed
  by_cases hs : s.spoilt 9 0 = true <;> simp [transGroup, hs, h, Parsed.spoil]

theorem packet_spoilt (hs : s.spoilt 9 0 = true) (h : parsePacket .twi l = .command op r) :
    s.packet .twi l = s.badPacket op r := by simp [State.packet, State.badPacket, State.crossed, transGroup, hs, h, Parsed.spoil]

theorem badPacket_spec (ht : r.t = .twi) :
    ((s.badPacket op r).port .twi).badCrc = (s.port .twi).badCrc + 1 ∧
    ((s.badPacket op r).port .twi).expected = (s.port .twi).expected ∧
    (∃ y : Reply, ((s.badPacket op r).port .twi).replies = (s.port .twi).replies ++ [y] ∧ y.op = op ∧ y.seq = r.seq ∧ y.status = 2) ∧
    SameBut [.commands, .tick] s (s.badPacket op r) ∧ (s.badPacket op r).tick = (s.crossed 9).tick := by
  have hport := State.port_of_cmd (crossed_cmd s 9) .twi
  have hframe := crossed_frame s 9
  unfold State.badPacket State.refusePacket
  rw [ht, State.pushReply_twi]
  generalize s.crossed 9 = u at *
  simp only [State.port_modPort, hport, true_and]
  exact ⟨⟨_, rfl, rfl, rfl, rfl⟩, hframe.modPort.modPort.zones, rfl⟩

theorem set_getD_ne {c : List Byte} {k : Nat} (h : k < c.length) : c.set k (c.getD k 0 ^^^ 1) ≠ c := by
  intro e
  have hk : c.getD k 0 ^^^ 1 = c.getD k 0 := by
    conv_rhs => rw [← e]
    simp [h]
  have hone : (1 : Byte) = 0 := by simpa [← BitVec.xor_assoc] using congrArg (c.getD k 0 ^^^ ·) hk
  exact absurd hone (by decide)

/-- With its last bit flipped, the packet of a command without payload has a bad CRC. -/
theorem parsePacket_flipped (ht : r.t = .twi) (hp : r.payload = []) :
    parsePacket .twi ((cmdBytes op r).set 19 ((cmdBytes op r).getD 19 0 ^^^ 1)) = .badCrc op { r with payload := [] } := by
  have hbytes : cmdBytes op r = cmdHead op r ++ (r.payload ++ crcTrailer (cmdHead op r ++ r.payload)) := by
    rw [cmdBytes_eq, List.append_assoc]
  have hflip : (cmdBytes op r).set 19 ((cmdBytes op r).getD 19 0 ^^^ 1) = cmdHead op r ++ (r.payload ++
      (crcTrailer (cmdHead op r ++ r.payload)).set 3 ((crcTrailer (cmdHead op r ++ r.payload)).getD 3 0 ^^^ 1)) := by
    rw [hbytes, hp, List.nil_append, List.nil_append]
    rfl
  rw [hflip, ← ht, parsePacket_framed (by simp [hp]) (by simp), if_neg (set_getD_ne (by simp))]

/-! ### Read transactions (R39) -/

theorem twiRead_empty {n : Nat} (ht : s.takes .twi = true) (h : s.cmd.port.twi.replies = []) :
    s.twiRead s.twiOwn n = s.emit (.bytes .twi (List.replicate n 0)) := by
  obtain ⟨hl, hp | hp⟩ := native_of_takes ht <;> simp [State.twiRead, State.twiOwn, hl, hp, h]

theorem take_padded (b : List Byte) (n : Nat) :
    (b ++ List.replicate (n - b.length) 0).take n = (b ++ List.replicate n 0).take n := by
  simp [List.take_append, List.take_replicate]

/-- A read that takes the whole of a reply takes it away; any read takes its bytes, and zeros behind them. -/
theorem twiRead_reply {n : Nat} {rest : List Reply} (ht : s.takes .twi = true) (h : s.cmd.port.twi.replies = y :: rest) :
    s.twiRead s.twiOwn n =
      let u := s.emit (.bytes .twi ((replyBytes y ++ List.replicate n 0).take n))
      if n < (replyBytes y).length then u else (u.modPort .twi fun q => { q with replies := rest }).waitCheck := by
  rw [← take_padded]
  obtain ⟨hl, hp | hp⟩ := native_of_takes ht <;> simp [State.twiRead, State.twiOwn, hl, hp, h]

theorem completes_twiRead_empty (ht : s.takes .twi = true) (n : Nat) (h : (s.port .twi).replies = []) :
    Completes (.twiReadTransaction s.twiOwn n) s fun t =>
      t.out = s.out ++ [.bytes .twi (List.replicate n 0)] ∧ SameBut [.contacts] s t :=
  ⟨_, congrArg Host.Outcome.next (twiRead_empty ht h), rfl, (Frame.refl (m := []) s).emit.zones⟩

theorem completes_twiRead_reply (ht : s.takes .twi = true) (n : Nat) {rest : List Reply}
    (h : (s.port .twi).replies = y :: rest) (hw : s.cmd.wait = none) :
    Completes (.twiReadTransaction s.twiOwn n) s fun t =>
      t.out = s.out ++ [.bytes .twi ((replyBytes y ++ List.replicate n 0).take n)] ∧
      (t.port .twi).replies = (if (replyBytes y).length ≤ n then rest else y :: rest) ∧ SameBut [.commands, .contacts] s t := by
  refine ⟨_, congrArg Host.Outcome.next (twiRead_reply ht h), ?_⟩
  dsimp only
  split
  next hn => exact ⟨rfl, by rw [if_neg (by omega)]; exact h, (Frame.refl (m := []) s).emit.zones⟩
  next hn =>
    rw [State.waitCheck_of_none (by exact hw)]
    exact ⟨rfl, by rw [if_pos (by omega)]; simp, (Frame.refl (m := []) s).emit.modPort.zones⟩

/-! ### Recovery of the transport (R41) -/

theorem recoverTwi_spec (ht : s.takes .twi = true) :
    (s.recoverTwi.port .twi).expected = none ∧ (s.recoverTwi.port .twi).recovered = (s.port .twi).recovered + 1 ∧
    (s.recoverTwi.port .twi).replies = (s.port .twi).replies ∧ Frame [.commands] [] s s.recoverTwi := by
  have hport : s.recoverTwi.port .twi = { s.port .twi with expected := none, recovered := (s.port .twi).recovered + 1 } := by
    simp only [State.recoverTwi, ht, Bool.not_true, Bool.false_eq_true, if_false]
    rw [State.port_of_cmd (State.raise_cmd ..), State.port_modPort]
  rw [hport]
  refine ⟨rfl, rfl, rfl, ?_⟩
  unfold State.recoverTwi
  exact (Frame.refl s).ite (Frame.refl s).modPort.raise

theorem expose_suspect (s : State) {g : Nat} (hg : g < 16) : (s.expose g).tick.suspect.getLsbD g = true := by
  show (s.tick.suspect ||| BitVec.ofNat 16 (2 ^ g)).getLsbD g = true
  rw [BitVec.getLsbD_or, BitVec.getLsbD_ofNat, Nat.testBit_two_pow_self, decide_eq_true hg, Bool.true_and, Bool.or_true]

theorem completes_busRecovery (ht : s.takes .twi = true) :
    Completes .twiBusRecovery s fun t =>
      (t.port .twi).expected = none ∧ (t.port .twi).recovered = (s.port .twi).recovered + 1 ∧
      (t.port .twi).replies = (s.port .twi).replies ∧ t.tick.suspect.getLsbD 9 = true ∧ SameBut [.commands, .tick] s t := by
  obtain ⟨hexp, hrec, hrep, hframe⟩ := recoverTwi_spec ht
  have hwide : Frame [.commands, .tick] [] s s.recoverTwi := hframe.mono (by simp) (by simp)
  refine ⟨s.recoverTwi.expose 9, congrArg Host.Outcome.next (if_pos ht), ?_⟩
  dsimp only
  rw [State.port_of_cmd (State.expose_cmd ..)]
  exact ⟨hexp, hrec, hrep, expose_suspect _ (by decide), hwide.expose.zones⟩

theorem completes_writeAbandoned (ht : s.takes .twi = true) :
    Completes .twiWriteAbandoned s fun t =>
      (t.port .twi).expected = none ∧ (t.port .twi).recovered = (s.port .twi).recovered + 1 ∧
      (t.port .twi).replies = (s.port .twi).replies ∧ SameBut [.commands] s t := by
  obtain ⟨hexp, hrec, hrep, hframe⟩ := recoverTwi_spec ht
  exact ⟨s.recoverTwi, rfl, hexp, hrec, hrep, hframe.zones⟩

/-! ### Interim replies and chains (R53, R64) -/

theorem replyFlags_interim (s : State) (t : Transport) (f : Byte) : (s.replyFlags t f true).getLsbD 4 = true := by
  by_cases h : s.backlog t = [] <;> simp [State.replyFlags, put, b2n, h]

theorem completes_interimReply {x : Running} {k : BitVec 16} (hr : (s.port .twi).running = [x]) (hk : x.pkt.r.seq = k)
    (ha : x.pkt.ackReq = true) (hp : x.pkt.posted = false) (hi : ∀ h ∈ (s.port .twi).history, h.seq = k → h.interim = false) :
    Completes (.interimReply .twi k) s fun t =>
      (∃ y : Reply, (t.port .twi).replies = (s.port .twi).replies ++ [y] ∧ y.op = x.pkt.op ∧ y.seq = k ∧ y.status = 0 ∧
        y.flags.getLsbD 4 = true) ∧ (t.port .twi).running = [x] ∧ SameBut [.commands] s t := by
  have hopen : s.openPkt .twi k = some x.pkt := by simp [State.openPkt, hr, hk]
  have hsent : ((s.port .twi).history.any fun h => h.seq = k && h.interim && h.reply.isNone) = false := by
    simp only [List.any_eq_false, Bool.and_eq_true, decide_eq_true_eq, not_and]
    intro h hh ⟨hs, hint⟩
    simp [hi h hh hs] at hint
  refine ⟨_, rfl, ?_⟩
  simp only [State.interim, hopen, hsent, ha, hp, Bool.not_true, Bool.or_self, Bool.false_eq_true, if_false, State.pushReply_twi,
    State.port_modPort]
  refine ⟨⟨_, rfl, rfl, hk, rfl, ?_⟩, hr, (Frame.refl (m := []) s).modPort.modPort.zones⟩
  exact replyFlags_interim s ..

theorem completes_chainTimeout {p : Pkt} (hc : (s.port .twi).chain = [p]) (ht : p.r.t = .twi) (hp : p.posted = false) :
    Completes (.chainTimeout .twi) s fun t =>
      (t.port .twi).chain = [] ∧ (∃ y : Reply, (t.port .twi).replies = (s.port .twi).replies ++ [y] ∧ y.op = p.op ∧
        y.seq = p.r.seq ∧ y.status = 6) ∧ SameBut [.commands] s t := by
  refine ⟨_, rfl, ?_⟩
  simp only [State.chainTimeout, hc, answerAll, State.answer, hp, ht, Bool.false_eq_true, if_false, State.pushReply_twi,
    State.port_modPort, true_and]
  exact ⟨⟨_, rfl, rfl, rfl, rfl⟩, (Frame.refl (m := []) s).modPort.modPort.modPort.zones⟩

/-! ### The statement -/

/-- Settles O47: a good packet is its command; every other clause is one update of the two-wire port. -/
theorem transports : Obligations.Transports := by
  intro s _ own
  refine ⟨fun r op i hi hl => ⟨fun ht hs => ?_, fun ht hs => ?_⟩, fun a l ha => ⟨s, ?_, rfl⟩, fun ht => ⟨fun hf l => ?_,
    fun hr => ⟨fun l hl => ?_, fun r op ht' hp => ?_, fun r op ht' hl hs => ?_⟩, fun n h => completes_twiRead_empty ht n h,
    fun n y rest h hw => completes_twiRead_reply ht n h hw, completes_busRecovery ht, completes_writeAbandoned ht⟩,
    fun x k hr hk ha hp hi => completes_interimReply hr hk ha hp hi, fun p hc ht hp => completes_chainTimeout hc ht hp⟩
  · exact ⟨_, congrArg Host.Outcome.next (twiWrite_cmdBytes ht hl hs), exec_row hi s⟩
  · exact ⟨_, congrArg Host.Outcome.next (mgmtFrame_cmdBytes ht hl hs), exec_row hi s⟩
  · exact congrArg Host.Outcome.next (twiWrite_other ha)
  · exact ⟨_, congrArg Host.Outcome.next (twiWrite_full ht hf), rfl, (Frame.refl (m := []) s).emit.zones⟩
  · refine ⟨_, congrArg Host.Outcome.next ((twiWrite_taken ht hr).trans (if_pos hl)), ?_, ?_, (Frame.refl (m := []) s).modPort.zones⟩
    · rw [State.port_modPort]
    · exact State.port_modPort_ne s _ (by decide)
  · have hlen : ¬ ((cmdBytes op r).set 19 ((cmdBytes op r).getD 19 0 ^^^ 1)).length < 20 := by
      simp [length_cmdBytes]
    refine ⟨_, congrArg Host.Outcome.next ((twiWrite_taken ht hr).trans
      ((if_neg hlen).trans (packet_badCrc (parsePacket_flipped ht' hp)))), ?_⟩
    obtain ⟨hbad, hexp, hrep, hframe, htick⟩ := badPacket_spec (s := s) (op := op) (r := { r with payload := [] }) ht'
    exact ⟨hbad, hexp, hrep, hframe, fun hs => by rw [htick, crossed_good hs]⟩
  · have hlen : ¬ (cmdBytes op r).length < 20 := by simp [length_cmdBytes]
    refine ⟨_, congrArg Host.Outcome.next ((twiWrite_taken ht hr).trans
      ((if_neg hlen).trans (packet_spoilt hs (ht' ▸ parsePacket_cmdBytes hl)))), ?_⟩
    obtain ⟨hbad, -, -, hframe, htick⟩ := badPacket_spec (s := s) (op := op) ht'
    exact ⟨hbad, by rw [htick, crossed_spoilt hs]; rfl, hframe⟩

end Sys2Proof.Machine
end

section
/-! Held commands (O51). A command on its own is decided at once; one that passes its checks and acts only at ticks, or names
a tick, is held, and nothing else changes but its transport's memory of it. -/

namespace Sys2Proof.Machine

/-! ### The order of the checks (Table CMD-3) -/

theorem statusRank_senior (a b : Nat) : statusRank (senior a b) = min (statusRank a) (statusRank b) := by
  unfold senior
  split <;> omega

theorem statusRank_foldl_le (l : List Nat) (a : Nat) :
    statusRank (l.foldl senior a) ≤ statusRank a ∧ ∀ b ∈ l, statusRank (l.foldl senior a) ≤ statusRank b := by
  induction l generalizing a with
  | nil => simp
  | cons b l ih =>
    obtain ⟨hhead, htail⟩ := ih (senior a b)
    rw [statusRank_senior, le_min_iff] at hhead
    simpa [hhead] using htail

/-- OK stands last in the order (rank 10), so a list of checks that answers OK holds no failed one. -/
theorem rank_of_seniorOf {l : List Nat} {b : Nat} (hb : b ∈ l) (h : 10 ≤ statusRank (seniorOf l)) : 10 ≤ statusRank b :=
  h.trans ((statusRank_foldl_le l 0).2 b hb)

theorem rank_of_seniorOf_eq {l : List Nat} {b : Nat} (h : seniorOf l = 0) (hb : b ∈ l) : 10 ≤ statusRank b :=
  rank_of_seniorOf hb (by rw [h]; decide)

variable {s : State} {op : Byte} {r : Req} {i : Instr} {m : Byte} {due : BitVec 64} {k : Bool}

/-- An at-tick command that passes at its acceptance names a tick at least two after the current one (R60, R61). -/
theorem target_of_opCheck {base s : State} {p : Pkt} {ahead : Nat} (h : opCheck base s true ahead p = 0) (hp : p.atTick = true) :
    base.tick.number.toNat + 2 ≤ p.target.toNat := by
  unfold opCheck at h
  split at h
  · exact absurd h (by decide)
  · have hall : 10 ≤ statusRank (base.tickCheck ahead p) := 
      rank_of_seniorOf_eq h (by simp)
    simp only [State.tickCheck, hp, Bool.not_true, Bool.false_eq_true, if_false] at hall
    have hlate := rank_of_seniorOf List.mem_cons_self hall
    by_contra hn
    rw [if_pos (by omega)] at hlate
    exact absurd hlate (by decide)

/-! ### Acceptance of a command on its own (R49, R64) -/

theorem flag_of_mask (h : r.flags &&& 0x0E = m) {j : Nat} (hj : (0x0E : Byte).getLsbD j = true) :
    r.flags.getLsbD j = m.getLsbD j := by rw [← h, BitVec.getLsbD_and, hj, Bool.and_true]

theorem Lone.posted (h : Lone s r m) : r.flags.getLsbD 1 = m.getLsbD 1 := flag_of_mask h.flags (by decide)
theorem Lone.chained (h : Lone s r m) : r.flags.getLsbD 2 = m.getLsbD 2 := flag_of_mask h.flags (by decide)
theorem Lone.atTick (h : Lone s r m) : r.flags.getLsbD 3 = m.getLsbD 3 := flag_of_mask h.flags (by decide)

/-- What a port remembers of a command on its own, when it is accepted (R50). -/
def acceptedPast (r : Req) : Past := { seq := r.seq, posted := false, interim := false, reply := none }

theorem port_accepted (s : State) (r : Req) : (s.accepted r).port r.t =
    { s.port r.t with
      expected := some (r.seq + 1)
      history := ((s.port r.t).history ++ [acceptedPast r]).drop (((s.port r.t).history ++ [acceptedPast r]).length - 32) } :=
  State.port_modPort ..

theorem lastReply_accepted (s : State) (r : Req) : (s.accepted r).lastReply r.t = none := by
  have hlast : ((s.accepted r).port r.t).history.getLast? = some (acceptedPast r) := by
    rw [port_accepted, List.getLast?_drop, if_neg (by simp), List.getLast?_concat]
  rw [State.lastReply, hlast]
  rfl

theorem submit_eq_take (h : Lone s r m) : s.submit op r = s.take { op, r } := by
  have htakes := h.takes
  have hroom := h.room
  unfold State.submit
  split <;> rename_i ht <;> rw [ht] at htakes hroom
  · simp [htakes, h.ready, hroom]
  · simp [htakes]

theorem take_lone (h : Lone s r m) (hm : m.getLsbD 1 = false ∧ m.getLsbD 2 = false) :
    s.take { op, r } = ((s.accepted r).decideChain [{ op, r }]).waitCheck.finish := by
  have hposted : Pkt.posted { op, r } = false := h.posted.trans hm.1
  have hchained : Pkt.chained { op, r } = false := h.chained.trans hm.2
  have hroom : ¬ (r.t = .alanov && decide (s.inExecution r.t ≥ 32)) = true := by
    have := h.room
    simp
    omega
  have hchain : ((s.accepted r).port r.t).chain = [] := by rw [port_accepted]; exact h.noChain
  have hrefused : ((s.accepted r).port r.t).chainRefused = false := by rw [port_accepted]; exact h.notRefused
  have haccept : s.take { op, r } = ((s.accepted r).enchain { op, r }).waitCheck.finish := by
    unfold State.take
    dsimp only
    obtain he | he := h.seq <;> rw [he, if_neg (by simp), if_neg hroom, hposted] <;> rfl
  rw [haccept, State.enchain]
  simp [hchain, hrefused, hchained]

/-- A command on its own, as its row runs it. -/
theorem exec_lone (hl : Lone s r m) (hm : m.getLsbD 1 = false ∧ m.getLsbD 2 = false) (hi : rowOf op.toNat r = some i) :
    exec i s = .next ((s.accepted r).decideChain [{ op, r }]).waitCheck.finish := by
  rw [exec_row hi, submit_eq_take hl, take_lone hl hm]

/-! ### Holding -/

theorem tickBound_not_activate {n : Nat} (h : tickBound n = true) : n ≠ 0x53 := by rintro rfl; exact absurd h (by decide)

/-- One command that passes: it is held where it names a tick, or acts only at ticks. -/
theorem decideChain_held (hp : s.passes op r) :
    (Pkt.atTick { op, r } = true →
      (s.accepted r).decideChain [{ op, r }] = (s.accepted r).hold [{ op, r }] (Pkt.target { op, r }) true) ∧
    (Pkt.atTick { op, r } = false → tickBound op.toNat = true →
      (s.accepted r).decideChain [{ op, r }] = (s.accepted r).hold [{ op, r }] (s.tick.number + 2) false) := by
  have hcheck : opCheck (s.accepted r) (s.accepted r) true 0 { op, r } = 0 := hp
  constructor
  · intro ha
    simp [State.decideChain, chainCheck, hcheck, ha]
  · intro ha hb
    have hcode : ¬ Pkt.code { op, r } = 0x53 := tickBound_not_activate hb
    have hbound : tickBound (Pkt.code { op, r }) = true := hb
    simp [State.decideChain, chainCheck, hcheck, ha, hbound, State.holdHandover, hcode]
    rfl

/-- A command held for a tick: it stands last among those held, it is not answered, and nothing else has changed. -/
def HeldFor (s : State) (r : Req) (op : Byte) (due : BitVec 64) (k : Bool) (t : State) : Prop :=
  t.cmd.held = s.cmd.held ++ [{ pkts := [{ op, r }], due, atTick := k, verdict := none }] ∧ t.lastReply r.t = none ∧
    SameBut [.commands] s t

theorem heldFor_hold (hl : Lone s r m) :
    HeldFor s r op due k ((s.accepted r).hold [{ op, r }] due k).waitCheck.finish := by
  have hwait : ((s.accepted r).hold [{ op, r }] due k).cmd.wait = none := hl.noWait
  rw [State.waitCheck_of_none hwait]
  refine ⟨by rw [State.finish_cmd]; rfl, ?_, ?_⟩
  · rw [← lastReply_accepted s r, State.lastReply, State.port_of_cmd (State.finish_cmd _)]
    rfl
  · refine SameBut.finish fun p hp => ?_
    cases p <;> simp_all [Zone.same, State.hold, State.accepted]
    exact fun _ _ => rfl

/-- A command that acts only at ticks waits for the second tick after its acceptance (R63). -/
theorem completes_tickBound (hl : Lone s r 0) (hi : rowOf op.toNat r = some i) (hb : tickBound op.toNat = true)
    (hp : s.passes op r) : Completes i s (HeldFor s r op (s.tick.number + 2) false) := by
  refine ⟨_, exec_lone hl (by decide) hi, ?_⟩
  rw [(decideChain_held hp).2 (hl.atTick.trans (by decide)) hb]
  exact heldFor_hold hl

theorem target_toNat (p : Pkt) : p.target.toNat = leNat (p.r.payload.take 8) := by
  have hlt := leNat_lt (p.r.payload.take 8)
  have hlen : (p.r.payload.take 8).length ≤ 8 := List.length_take_le ..
  have hpow : 256 ^ (p.r.payload.take 8).length ≤ 2 ^ 64 := (Nat.pow_le_pow_right (by decide) hlen).trans (by decide)
  rw [Pkt.target, BitVec.toNat_ofNat, Nat.mod_eq_of_lt (by omega)]

/-- An at-tick command waits for the tick that it names (R60, R61). -/
theorem completes_atTick (hl : Lone s r 8) (hi : rowOf op.toNat r = some i) (hp : s.passes op r) :
    Completes i s (HeldFor s r op (Pkt.target { op, r }) true) ∧ s.tick.number.toNat + 2 ≤ leNat (r.payload.take 8) := by
  have ha : Pkt.atTick { op, r } = true := hl.atTick.trans (by decide)
  refine ⟨⟨_, exec_lone hl (by decide) hi, ?_⟩, ?_⟩
  · rw [(decideChain_held hp).1 ha]
    exact heldFor_hold hl
  · exact (target_of_opCheck (base := s.accepted r) hp ha).trans_eq (target_toNat _)

/-- Settles O51: the seven opcodes that act only at ticks, and then any command that names a tick. -/
theorem heldCommands : Obligations.HeldCommands := by
  intro s r _
  refine ⟨fun hl => ⟨?_, ?_, ?_, ?_, ?_, ?_, ?_⟩, fun hl op i hi hp => completes_atTick hl hi hp⟩
  all_goals exact completes_tickBound hl rfl (by decide)

end Sys2Proof.Machine
end

section
/-! Records while the mirror's domain is off (O9). The mirror stands in DRAM, and the model writes it with PD_DRAM on only
(log 28). The statement gives the mirror the record wherever the ring runs, which needs no more than PD_MGMT. -/

namespace Sys2Proof.Machine

/-- Ready in native mode, with every domain on but PD_DRAM. -/
def dramOff : State :=
  { State.reset with
    phase := .ready
    power := { PowerSt.reset with doms := ((List.range 13).erase 8).map fun d => (d, { Dom.off with st := .on, votes := 3 }) } }

theorem dramOff_canonical : dramOff.canonical := State.canonical_of (by decide +kernel)

theorem dramOff_runs : dramOff.ticks = true ∧ dramOff.ringRuns = true ∧ dramOff.ev.ring.length < 8191 := by decide +kernel

/-- The ring has the record of the disturbed crossing, and the mirror has nothing. -/
theorem dramOff_disturbed : (dramOff.crossingDisturbed 0 0 128).ev.ring.map (·.code) = [0x0F20] ∧
    (dramOff.crossingDisturbed 0 0 128).ev.mirror = [] := by decide +kernel

/-- Refutes O9: in `dramOff` a disturbed crossing leaves the mirror empty, and the record that the statement reads there
has the code of the event. -/
theorem not_eventRecords : ¬ Obligations.EventRecords := by
  intro h
  obtain ⟨hticks, hring, hroom⟩ := dramOff_runs
  obtain ⟨t, ht, x, hcode, -, -, -, hrecord, -⟩ := h.1 dramOff 0 0 128 dramOff_canonical hticks hring (by decide)
  obtain rfl : dramOff.crossingDisturbed 0 0 128 = t := Host.Outcome.next.inj ht
  obtain ⟨hmirror, -⟩ := hrecord hroom
  rw [dramOff_disturbed.2] at hmirror
  rw [← hmirror] at hcode
  exact absurd hcode (by decide)

end Sys2Proof.Machine
end

section
/-! A reply that a FIFO fault has spoilt (O48, O49, O50, O52, O54). A reply over the Alanov Link crosses by the link's stream of
sent frames. Where a FIFO fault has spoilt the next frame of that stream, the reply is the one that is lost, and the
fault goes with it (R25, log 162): the crossings, a part of the tick, change. The frames of these five statements leave the tick out, so each
fails at a command of the link that is answered there. -/

namespace Sys2Proof.Machine

/-! ### The state -/

/-- Ready in native mode with every domain on, the link ACTIVE with credit for replies, and its next frame sent spoilt. -/
def spoiltLink : State :=
  { State.reset with
    phase := .ready
    power := { PowerSt.reset with doms := (List.range 13).map fun d => (d, { Dom.off with st := .on, votes := 3 }) }
    tick := { TickSt.reset with started := true, number := 100000, transit := [(4, 1)] }
    alink := { AlinkSt.reset with state := .active, credits := [(640, some ⟨100, 0, 0, 0, 0, 0⟩)] } }

/-- A command over the link, alone and immediate. -/
def linkReq (addr param : BitVec 32) (payload : List Byte) : Req :=
  { t := .alanov, seq := 7, flags := 0, addr, param, payload }

theorem spoiltLink_canonical : spoiltLink.canonical := State.canonical_of (by decide +kernel)

theorem spoiltLink_lone (addr param : BitVec 32) (payload : List Byte) : Lone spoiltLink (linkReq addr param payload) 0 where
  takes := (by decide +kernel : spoiltLink.takes .alanov = true)
  room := (by decide +kernel : spoiltLink.inExecution .alanov < 32)
  seq := .inl rfl
  noChain := rfl
  notRefused := rfl
  flags := (by decide : (0 : Byte) &&& 0x0E = 0)
  ready := rfl
  noWait := rfl
  noOpen := by simp [State.port, spoiltLink, State.reset, CmdSt.reset, PortSt.reset, PerT.get, linkReq]

/-- A command whose frame leaves out the tick clears no fault of a crossing. -/
theorem false_of_unspoils {i : Instr} {s u : State} {q : State → Prop} {l : List Zone} (h : Completes i s q)
    (hu : u.tick.transit = []) (hq : ∀ t, q t → SameBut l s t) (hx : exec i s = .next u := by rfl) (hl : .tick ∉ l := by decide)
    (hs : s.tick.transit ≠ [] := by decide) : False := by
  obtain ⟨t, ht, hqt⟩ := h
  obtain rfl : u = t := Host.Outcome.next.inj (hx.symm.trans ht)
  exact hs ((congrArg TickSt.transit (hq u hqt .tick hl)).symm.trans hu)

/-! ### Commands of the link, each answered at once -/

theorem subscribe_unspoils : (spoiltLink.submit 0x30 (linkReq 0 0 [])).tick.transit = [] := by decide +kernel

/-- Refutes O48: the answer to a SUBSCRIBE over the link of `spoiltLink` is the frame that is lost, and its fault is gone. -/
theorem not_hostReads : ¬ Obligations.HostReads := by
  intro h
  obtain ⟨-, -, hsubscribe, -⟩ :=
    h spoiltLink (linkReq 0 0 []) spoiltLink_canonical (spoiltLink_lone ..) rfl
  exact false_of_unspoils hsubscribe subscribe_unspoils fun _ ⟨_, _, hframe⟩ => hframe

/-- A WRITE of 0 to FAULT_SUB[0]. -/
def writeReq : Req := linkReq (BitVec.ofNat 32 (subAddr 0)) 1 (wordBytes 0)

theorem plainWord_subscription : PlainWord writeReq.addr.toNat ⟨.fltSub, 0, [0], 1, 0xFFFE, 0⟩ :=
  ⟨by decide +kernel, fun _ => rfl, rfl, fun _ _ _ => rfl⟩

theorem write_passes : spoiltLink.passes 0x02 writeReq :=
  of_decide_eq_true (p := opCheck (spoiltLink.accepted writeReq) (spoiltLink.accepted writeReq) true 0 ⟨0x02, writeReq⟩ = 0)
    (by decide +kernel)

theorem write_unspoils : (spoiltLink.submit 0x02 writeReq).tick.transit = [] := by decide +kernel

/-- Refutes O49: the answer to a WRITE over the link of `spoiltLink` is the frame that is lost, and its fault is gone. -/
theorem not_hostWrites : ¬ Obligations.HostWrites := by
  intro h
  obtain ⟨hlone, -⟩ := h spoiltLink writeReq _ 0 0 spoiltLink_canonical plainWord_subscription
  have hwrite := ((hlone (spoiltLink_lone ..)).1 rfl rfl).1 write_passes
  exact false_of_unspoils hwrite write_unspoils fun _ ⟨_, _, _, hframe⟩ => hframe

/-- An ACK of a record that the ring has never held is refused. -/
theorem ack_refused : ¬ spoiltLink.passes 0x32 (linkReq 5 0 []) :=
  of_decide_eq_true (p := ¬ opCheck (spoiltLink.accepted (linkReq 5 0 [])) (spoiltLink.accepted (linkReq 5 0 [])) true 0
    ⟨0x32, linkReq 5 0 []⟩ = 0) (by decide +kernel)

theorem ack_unspoils : (spoiltLink.submit 0x32 (linkReq 5 0 [])).tick.transit = [] := by decide +kernel

/-- Refutes O50: the refusal of an ACK over the link of `spoiltLink` is the frame that is lost, and its fault is gone. -/
theorem not_hostRefusals : ¬ Obligations.HostRefusals := by
  intro h
  have hack := h spoiltLink (linkReq 5 0 []) 0x32 (.ack (linkReq 5 0 [])) spoiltLink_canonical (spoiltLink_lone ..) rfl ack_refused
  exact false_of_unspoils hack ack_unspoils fun _ ⟨_, hframe⟩ => hframe

/-! ### Commands of the link that are answered later -/

/-- A VOTE for PD_ALINK at tick 100000. -/
def heldVote : Pkt := { op := 0x40, r := { linkReq 9 0 (leBytes 8 100000) with flags := 8 } }

def voteHeld : State :=
  { spoiltLink with
    cmd := { CmdSt.reset with held := [{ pkts := [heldVote], due := 100000, atTick := true, verdict := none }] } }

theorem voteHeld_canonical : voteHeld.canonical := State.canonical_of (by decide +kernel)

/-- Its second check passes, with nothing held and both chains empty. -/
theorem voteHeld_passes : opCheck spoiltLink spoiltLink false 0 heldVote = 0 := by decide +kernel

theorem voteHeld_unspoils : ((effects voteHeld.heldDue voteHeld).stampDue voteHeld.heldDue).finish.tick.transit = [] := by
  decide +kernel

/-- Refutes O52: at its tick the VOTE that `voteHeld` holds is answered over the link, where the spoilt frame is next. -/
theorem not_heldEffects : ¬ Obligations.HeldEffects := by
  intro h
  obtain ⟨-, -, -, -, -, -, -, hvote⟩ := h voteHeld heldVote 100000 true none .atTickEffect voteHeld_canonical (.inl rfl) (.inl rfl)
    rfl (by decide) voteHeld_passes (by simp [voteHeld, spoiltLink, TickSt.reset])
  exact false_of_unspoils (hvote rfl) voteHeld_unspoils fun _ ⟨_, _, hframe⟩ => hframe

/-- An IMAGE_VERIFY of bank 1, in execution. -/
def verifying : Running := { pkt := { op := 0x52, r := linkReq 1 0 [] }, work := .imageVerify true }

def verifyRuns : State :=
  { spoiltLink with cmd := { CmdSt.reset with port := ⟨.reset, { PortSt.reset with running := [verifying] }⟩ } }

theorem verifyRuns_canonical : verifyRuns.canonical := State.canonical_of (by decide +kernel)

theorem verifyRuns_unspoils : (verifyRuns.complete .alanov 7).finish.tick.transit = [] := by decide +kernel

/-- Refutes O54: the IMAGE_VERIFY that `verifyRuns` completes is answered over the link, where the spoilt frame is next. -/
theorem not_completions : ¬ Obligations.Completions := by
  intro h
  obtain ⟨-, hverify, -⟩ := h verifyRuns .alanov 7 verifying verifyRuns_canonical rfl rfl
  have hdone := hverify true rfl (by decide +kernel)
  exact false_of_unspoils hdone verifyRuns_unspoils fun _ ⟨_, _, _, _, hframe⟩ => hframe

end Sys2Proof.Machine
end

section
/-! What a command of an optical channel leaves alone (O10 to O14). Most commands of a channel change that channel's part and
leave the other channel's as it is; `OnlyCh` says both at once, and each operation has one lemma. What becomes of the
channel itself is said apart, an equation for each operation. -/

namespace Sys2Proof.Machine
set_option Elab.async false

/-- A command's outcome, where the state that its row answers is equal to another. -/
theorem Completes.of_eq {i : Instr} {s t u : State} {p : State → Prop} (he : t = u) (h : p u)
    (hx : exec i s = .next t := by rfl) : Completes i s p := ⟨u, he ▸ hx, h⟩

/-! ### Reading a channel -/

section
variable (s : State) (c d : Chan)

theorem State.setCh_self : s.setCh c (s.ch c) = s := by rw [State.setCh, State.ch, Two.set_get]

@[simp] theorem State.modCh_ch_same (f : ChanSt → ChanSt) : (s.modCh c f).ch c = f (s.ch c) := by simp [State.ch]
@[simp] theorem State.modCh_ch_other (f : ChanSt → ChanSt) : (s.modCh c f).ch (otherCh c) = s.ch (otherCh c) := by
  simp [State.ch]
@[simp] theorem State.raise_ch (code p : Nat) : (s.raise code p).ch d = s.ch d := by simp [State.ch]
@[simp] theorem State.raiseIf_ch (b : Bool) (code p : Nat) : (s.raiseIf b code p).ch d = s.ch d := by simp [State.ch]
@[simp] theorem State.bumpCh_ch (i n : Nat) : (s.bumpCh c i n).ch d = s.ch d := rfl
@[simp] theorem State.finish_ch : s.finish.ch d = s.ch d := by simp [State.ch]
@[simp] theorem State.expose_ch (g : Nat) : (s.expose g).ch d = s.ch d := rfl
@[simp] theorem State.leaveSync_ch (k : Nat) (off : Bool) : (s.leaveSync c k off).ch c = leftSync (s.ch c) k off := by
  simp [State.ch, State.leaveSync_chans]
@[simp] theorem State.assertLos_ch : (s.assertLos c).ch c = leftSync { s.ch c with los := true } 2 false := by
  simp [State.ch, State.assertLos_chans]
@[simp] theorem State.assertLoss_ch (k : Nat) : (s.assertLoss c k).ch c = { s.ch c with chLoss := true } := by
  simp [State.ch, State.assertLoss_chans]

end

section
variable (x : ChanSt) (k : Nat) (off : Bool)

@[simp] theorem leftSync_relocking : (leftSync x k off).relocking = x.relocking := by
  unfold leftSync ChanSt.cutFrame ChanSt.dropWindow
  split_ifs <;> rfl
@[simp] theorem leftSync_chLoss : (leftSync x k off).chLoss = x.chLoss := by
  unfold leftSync ChanSt.cutFrame ChanSt.dropWindow
  split_ifs <;> rfl
@[simp] theorem leftSync_sfc64 : (leftSync x k off).sfc64 = x.sfc64 := by
  unfold leftSync ChanSt.cutFrame ChanSt.dropWindow
  split_ifs <;> rfl

theorem leftSync_hunt_ne : (leftSync x k off).hunt ≠ .sync := by
  rw [leftSync_hunt]
  split_ifs with _ h
  exacts [nofun, nofun, h]

end

/-! ### Adaptation -/

theorem adaptTaps_eq (reach : Nat) (xs : List (BitVec 16)) (s : State) :
    ∃ n, (adaptTaps reach xs s).2 = { s with freeCount := n } := by
  induction xs generalizing s with
  | nil => exact ⟨_, rfl⟩
  | cons x xs ih => exact ih s.fresh.2.fresh.2

/-- Adaptation moves the coefficients of its channel, by free values, and nothing else (R86). -/
theorem adapt_eq (s : State) (c : Chan) :
    ∃ n ts, s.adapt c = ({ s with freeCount := n } : State).modCh c fun x => { x with taps := ts } := by
  unfold State.adapt
  extract_lets x
  split
  · obtain ⟨n, hn⟩ := adaptTaps_eq (s.tapReach c) x.taps s
    exact ⟨n, _, congrArg (State.modCh · c _) hn⟩
  · exact ⟨s.freeCount, x.taps, (State.setCh_self s c).symm⟩

theorem adapt_ch (s : State) (c : Chan) : ∃ ts, (s.adapt c).ch c = { s.ch c with taps := ts } := by
  obtain ⟨n, ts, he⟩ := adapt_eq s c
  exact ⟨ts, by rw [he, State.modCh_ch_same]; rfl⟩

theorem cfg_adapt (s : State) (c : Chan) (a : Nat) : (s.adapt c).cfg a = s.cfg a := by
  obtain ⟨n, ts, he⟩ := adapt_eq s c
  rw [he]
  rfl

@[simp] theorem counters_adapt (s : State) (c : Chan) : (s.adapt c).counters = s.counters := by
  obtain ⟨n, ts, he⟩ := adapt_eq s c
  rw [he]
  rfl

/-! ### One channel only -/

/-- Every part but those of `l` is the same, and so is the other channel. -/
structure OnlyCh (l : List Zone) (c : Chan) (s t : State) : Prop where
  zones : SameBut l s t
  other : t.ch (otherCh c) = s.ch (otherCh c)

namespace OnlyCh
variable {l l' : List Zone} {c : Chan} {s t u : State}

theorem refl (s : State) : OnlyCh l c s s := ⟨.refl l s, rfl⟩

theorem trans (h : OnlyCh l c s t) (k : OnlyCh l c t u) : OnlyCh l c s u := ⟨h.zones.trans k.zones, k.other.trans h.other⟩

theorem mono (h : OnlyCh l' c s t) (hl : ∀ p ∈ l', p ∈ l) : OnlyCh l c s t := ⟨h.zones.mono hl, h.other⟩

/-- What an operation leaves alone, where it leaves both channels alone. -/
theorem beside (h : OnlyCh l c s t) (k : SameBut l' t u) (hl : ∀ p ∈ l', p ∈ l := by decide)
    (hc : .channels ∉ l' := by decide) : OnlyCh l c s u :=
  h.trans ⟨k.mono hl, by rw [State.ch, k .channels hc, State.ch]⟩

theorem ite {b : Prop} [Decidable b] (h : OnlyCh l c s t) (k : OnlyCh l c s u) : OnlyCh l c s (if b then t else u) := by
  split <;> assumption

theorem raise {code p} (h : OnlyCh l c s t) : OnlyCh l c s (t.raise code p) :=
  h.beside (sameBut_raise [] t code p) (by simp)

theorem raiseIf {b code p} (h : OnlyCh l c s t) : OnlyCh l c s (t.raiseIf b code p) :=
  h.beside (sameBut_raiseIf [] t b code p) (by simp)

theorem finish (h : OnlyCh l c s t) : OnlyCh l c s t.finish := h.beside (sameBut_finish [] t) (by simp)

theorem modCh {f} (h : OnlyCh l c s t) (hl : .channels ∈ l := by decide) : OnlyCh l c s (t.modCh c f) :=
  h.trans ⟨(sameBut_modCh t c f).mono (by simpa using hl), State.modCh_ch_other t c f⟩

theorem freeCount {n} (h : OnlyCh l c s t) : OnlyCh l c s { t with freeCount := n } :=
  h.beside (l' := []) (fun p _ => by cases p <;> simp [Zone.same]; exact fun _ _ => rfl) (by simp)

theorem adapt (h : OnlyCh l c s t) (hl : .channels ∈ l := by decide) : OnlyCh l c s (t.adapt c) := by
  obtain ⟨n, ts, he⟩ := adapt_eq t c
  rw [he]
  exact h.freeCount.modCh hl

theorem assertLoss {k} (h : OnlyCh l c s t) (hl : .channels ∈ l := by decide) : OnlyCh l c s (t.assertLoss c k) :=
  h.ite (h.modCh hl).raise

theorem tick {x} (h : OnlyCh l c s t) (hl : .tick ∈ l := by decide) : OnlyCh l c s { t with tick := x } :=
  h.beside (Frame.refl (l := [.tick]) (m := []) t).tick.zones (by simpa using hl)

theorem leaveSync {k off} (h : OnlyCh l c s t) (hl : .channels ∈ l := by decide) (ht : .tick ∈ l := by decide) :
    OnlyCh l c s (t.leaveSync c k off) :=
  (h.modCh hl).ite (((h.modCh hl).tick ht).ite (h.modCh hl)).raise

theorem assertLos (h : OnlyCh l c s t) (hl : .channels ∈ l := by decide) (ht : .tick ∈ l := by decide) :
    OnlyCh l c s (t.assertLos c) := (h.ite (h.modCh hl).raise).leaveSync hl ht

theorem restarted (h : OnlyCh l c s t) : OnlyCh l c s (t.restarted c) := h.raise

theorem setTx {x} (h : OnlyCh l c s t) (hl : .channels ∈ l := by decide) : OnlyCh l c s (t.setTx c x) :=
  h.ite (h.modCh hl).raise

theorem txReady (h : OnlyCh l c s t) (hl : .channels ∈ l := by decide) : OnlyCh l c s (t.txReady c) := (h.setTx hl).ite h

theorem txUpdate (h : OnlyCh l c s t) (hl : .channels ∈ l := by decide) : OnlyCh l c s (t.txUpdate c) := by
  unfold State.txUpdate
  extract_lets x busy
  split
  exacts [h.ite ((h.modCh hl).setTx hl |>.txReady hl), (h.setTx hl).ite (h.txReady hl),
    (h.ite (h.setTx hl)).ite (h.ite (h.setTx hl)), h, h]

end OnlyCh

end Sys2Proof.Machine
end

section
/-! Light and lock (O10). -/

namespace Sys2Proof.Machine
set_option Elab.async false
variable {s : State} {c : Chan}

theorem completes_losAssert (hr : (s.ch c).running = true) : Completes (.losAssert c) s fun t =>
    (t.ch c).los = true ∧ (t.ch c).hunt ≠ .sync ∧ ((s.ch c).hunt = .sync → (t.ch c).lof = true) ∧
    t.ch (otherCh c) = s.ch (otherCh c) ∧ SameBut [.channels, .tick] s t := by
  have he : s.lightLost c = s.assertLos c := if_pos hr
  have hs : OnlyCh [.channels, .tick] c s (s.assertLos c).finish := (OnlyCh.refl s).assertLos.finish
  refine .of_eq (congrArg State.finish he) ⟨?_, ?_, fun h => ?_, hs.other, hs.zones⟩ <;>
    rw [State.finish_ch, State.assertLos_ch]
  · simp
  · exact leftSync_hunt_ne _ _ _
  · exact leftSync_lof _ _ _ h

/-- The light has been back for a tick: LOS ends, and the hunt goes on as it was (R108). -/
theorem lightBack_of_los (hr : (s.ch c).running = true) (hc : (s.ch c).cdr = true)
    (hf : s.fault.clockGroups.getLsbD (1 + 2 * chanN c) = false) (hl : (s.ch c).los = true) :
    s.lightBack c = ((s.modCh c fun x => { x with los := false }).raise 0x0201 (pCh c + s.tickLow)).adapt c := by
  simp [State.lightBack, hr, hc, hf, hl]

theorem completes_losClear (hr : (s.ch c).running = true) (hc : (s.ch c).cdr = true)
    (hf : s.fault.clockGroups.getLsbD (1 + 2 * chanN c) = false) : Completes (.losClear c) s fun t =>
    (t.ch c).los = false ∧ (t.ch c).hunt = (s.ch c).hunt ∧ (t.ch c).lof = (s.ch c).lof ∧
    t.ch (otherCh c) = s.ch (otherCh c) ∧ SameBut [.channels] s t := by
  refine ⟨(s.lightBack c).finish, rfl, ?_⟩
  cases hl : (s.ch c).los with
  | true =>
    rw [lightBack_of_los hr hc hf hl]
    have hs : OnlyCh [.channels] c s (((s.modCh c fun x => { x with los := false }).raise 0x0201
      (pCh c + s.tickLow)).adapt c).finish := (OnlyCh.refl s).modCh.raise.adapt.finish
    obtain ⟨ts, hts⟩ := adapt_ch ((s.modCh c fun x => { x with los := false }).raise 0x0201 (pCh c + s.tickLow)) c
    refine ⟨?_, ?_, ?_, hs.other, hs.zones⟩ <;> simp [hts]
  | false =>
    have he : s.lightBack c = s := by simp [State.lightBack, hl]
    have hs : OnlyCh [.channels] c s s.finish := (OnlyCh.refl s).finish
    rw [he]
    refine ⟨?_, ?_, ?_, hs.other, hs.zones⟩ <;> simp [hl]

/-- The hunt begins with the CDR's lock, which completes a start or restart (R119 step 4). -/
theorem cdrLocked_ch (hr : (s.ch c).running = true) (hc : (s.ch c).cdr = false) : ∃ ts,
    (s.cdrLocked c).ch c =
      { s.ch c with cdr := true, relocking := false, restarting := false, hunt := .hunt, taps := ts } := by
  unfold State.cdrLocked
  extract_lets x s1
  rw [if_neg (by simp [x, hr, hc])]
  obtain ⟨ts, hts⟩ := adapt_ch (if x.restarting then s1.restarted c else s1) c
  refine ⟨ts, hts.trans ?_⟩
  split <;> simp [s1, x, State.restarted]

theorem completes_cdrLock (hr : (s.ch c).running = true) (hc : (s.ch c).cdr = false) : Completes (.cdrLock c) s fun t =>
    (t.ch c).cdr = true ∧ (t.ch c).relocking = false ∧ (t.ch c).restarting = false ∧ (t.ch c).hunt = .hunt ∧
    t.ch (otherCh c) = s.ch (otherCh c) ∧ SameBut [.channels] s t := by
  obtain ⟨ts, hts⟩ := cdrLocked_ch hr hc
  have hs : OnlyCh [.channels] c s (s.cdrLocked c).finish :=
    ((OnlyCh.refl s).ite ((OnlyCh.refl s).modCh.restarted.ite (OnlyCh.refl s).modCh).adapt).finish
  refine ⟨(s.cdrLocked c).finish, rfl, ?_, ?_, ?_, ?_, hs.other, hs.zones⟩ <;> simp [hts]

theorem completes_cdrLockLoss (hc : (s.ch c).cdr = true) : Completes (.cdrLockLoss c) s fun t =>
    (t.ch c).cdr = false ∧ (t.ch c).los = true ∧ (t.ch c).hunt = .off ∧
    t.ch (otherCh c) = s.ch (otherCh c) ∧ SameBut [.channels, .tick] s t := by
  have he : s.cdrLost c = (s.modCh c fun x => { x with cdr := false }).assertLos c := by simp [State.cdrLost, hc]
  have hs : OnlyCh [.channels, .tick] c s ((s.modCh c fun x => { x with cdr := false }).assertLos c).finish :=
    (OnlyCh.refl s).modCh.assertLos.finish
  refine .of_eq (congrArg State.finish he) ⟨?_, ?_, ?_, hs.other, hs.zones⟩ <;> simp

theorem completes_cdrRelockTimeout (hr : (s.ch c).relocking = true) : Completes (.cdrRelockTimeout c) s fun t =>
    (t.ch c).relocking = false ∧ (t.ch c).los = true ∧
    t.ch (otherCh c) = s.ch (otherCh c) ∧ SameBut [.channels, .tick] s t := by
  have he : s.cdrLate c = (s.modCh c fun x => { x with relocking := false }).assertLos c := by simp [State.cdrLate, hr]
  have hs : OnlyCh [.channels, .tick] c s ((s.modCh c fun x => { x with relocking := false }).assertLos c).finish :=
    (OnlyCh.refl s).modCh.assertLos.finish
  refine .of_eq (congrArg State.finish he) ⟨?_, ?_, hs.other, hs.zones⟩ <;> simp

theorem completes_channelLossTimeout (h : (s.ch c).los = true ∨ (s.ch c).lof = true) :
    Completes (.channelLossTimeout c) s fun t =>
    (t.ch c).chLoss = true ∧ (t.ch c).los = (s.ch c).los ∧ (t.ch c).lof = (s.ch c).lof ∧
    t.ch (otherCh c) = s.ch (otherCh c) ∧ SameBut [.channels] s t := by
  have he : s.lossPersists c = s.assertLoss c 0 := if_pos (by simpa using h)
  have hs : OnlyCh [.channels] c s (s.assertLoss c 0) := (OnlyCh.refl s).assertLoss
  refine .of_eq he ⟨?_, ?_, ?_, hs.other, hs.zones⟩ <;> simp

/-- Settles O10, a condition of the line at a time. -/
theorem lineConditions : Obligations.LineConditions := fun _ _ =>
  ⟨completes_losAssert, completes_losClear, completes_cdrLock, completes_cdrLockLoss, completes_cdrRelockTimeout,
    completes_channelLossTimeout⟩

end Sys2Proof.Machine
end

section
/-! The transmitter's own events and the receiver's samples (O11). -/

namespace Sys2Proof.Machine
set_option Elab.async false
variable {s : State} {c : Chan}

/-! ### The transmitter's changes of state (R113 to R116) -/

theorem setTx_ch (s : State) (c : Chan) (x : TxState) :
    ∃ w, (s.setTx c x).ch c = { s.ch c with tx := x, warmFromReady := w } := by
  by_cases h : (s.ch c).tx = x
  · exact ⟨(s.ch c).warmFromReady, by simp [State.setTx, ← h]⟩
  · exact ⟨_, by rw [State.ch, State.setTx_chans s c x h, Two.get_set_same]; rfl⟩

@[simp] theorem setTx_tx (s : State) (c : Chan) (x : TxState) : ((s.setTx c x).ch c).tx = x := by
  obtain ⟨w, hw⟩ := setTx_ch s c x
  rw [hw]

@[simp] theorem setTx_biasCal (s : State) (c : Chan) (x : TxState) :
    ((s.setTx c x).ch c).biasCal = (s.ch c).biasCal := by
  obtain ⟨w, hw⟩ := setTx_ch s c x
  rw [hw]

/-- What holds a transmitter OFF is none of its own conditions. -/
@[simp] theorem txHeld_tecLocked (s : State) (c : Chan) (v : Bool) :
    (s.modCh c fun x => { x with tecLocked := v }).txHeld c = s.txHeld c := by
  simp only [State.txHeld, State.modCh_ch_same]
  rfl

theorem txReady_of_warm (hx : (s.ch c).tx = .warmup) (ht : (s.ch c).tecLocked = true) (hb : (s.ch c).biasCal = true) :
    s.txReady c = s.setTx c .ready := by simp [State.txReady, hx, ht, hb]

theorem txUpdate_of_warmup (hx : (s.ch c).tx = .warmup) (hh : s.txHeld c = false) : s.txUpdate c = s.txReady c := by
  simp [State.txUpdate, hx, hh]

theorem txUpdate_of_unlocked (hx : (s.ch c).tx = .ready) (hh : s.txHeld c = false) (ht : (s.ch c).tecLocked = false) :
    s.txUpdate c = s.setTx c .warmup := by simp [State.txUpdate, hx, hh, ht]

/-! ### The TEC (R114, R115) -/

theorem tecLock_eq {v : Bool} (hd : s.domOn (txDom c) = true) (hx : (s.ch c).tx ≠ .fault) :
    s.tecLock c v = (s.modCh c fun x => { x with tecLocked := v }).txUpdate c := by simp [State.tecLock, hd, hx]

theorem tecLock_tecLocked {v : Bool} (hd : s.domOn (txDom c) = true) (hx : (s.ch c).tx ≠ .fault) :
    ((s.tecLock c v).ch c).tecLocked = v := by
  rw [tecLock_eq hd hx, txUpdate_view (g := ChanSt.tecLocked) (fun _ _ _ _ => rfl)]
  simp

theorem onlyCh_tecLock (s : State) (c : Chan) (v : Bool) : OnlyCh [.channels] c s (s.tecLock c v) :=
  (OnlyCh.refl s).ite (OnlyCh.refl s).modCh.txUpdate

theorem completes_tecLockChange {v : Bool} {x : TxState} (hd : s.domOn (txDom c) = true) (hf : (s.ch c).tx ≠ .fault)
    (hx : ((s.tecLock c v).ch c).tx = x) : Completes (.tecLockChange c v) s fun t =>
    (t.ch c).tecLocked = v ∧ (t.ch c).tx = x ∧ t.ch (otherCh c) = s.ch (otherCh c) ∧ SameBut [.channels] s t := by
  have hs : OnlyCh [.channels] c s (s.tecLock c v).finish := (onlyCh_tecLock s c v).finish
  refine ⟨_, rfl, ?_, ?_, hs.other, hs.zones⟩
  · rw [State.finish_ch, tecLock_tecLocked hd hf]
  · rw [State.finish_ch, hx]

/-- A TEC that locks with the bias calibrated ends WARMUP. -/
theorem tecLock_ready (hd : s.domOn (txDom c) = true) (hx : (s.ch c).tx = .warmup) (hh : s.txHeld c = false)
    (hb : (s.ch c).biasCal = true) : ((s.tecLock c true).ch c).tx = .ready := by
  rw [tecLock_eq hd (by simp [hx]), txUpdate_of_warmup (by simpa) (by simpa), txReady_of_warm (by simpa) (by simp) (by simpa)]
  simp

/-- A READY transmitter whose TEC loses lock warms up again. -/
theorem tecLock_warmup (hd : s.domOn (txDom c) = true) (hx : (s.ch c).tx = .ready) (hh : s.txHeld c = false) :
    ((s.tecLock c false).ch c).tx = .warmup := by
  rw [tecLock_eq hd (by simp [hx]), txUpdate_of_unlocked (by simpa) (by simpa) (by simp)]
  simp

theorem completes_tecFault {lost : Bool} (hx : (s.ch c).tx = .warmup) (ht : (s.ch c).tecLocked = false)
    (hl : lost = true → (s.ch c).warmFromReady = true ∧ s.inSync c = true) : Completes (.tecFault { c, lost }) s fun t =>
    (t.ch c).tx = .fault ∧ t.ch (otherCh c) = s.ch (otherCh c) ∧ SameBut [.channels] s t := by
  have he : s.tecFails c lost = ((s.modCh c fun x => { x with tecLocked := false }).setTx c .fault).raise 0x0209
      (pCh c + put 56 2 (b2n lost) + put 32 16 (s.ch c).mon.laserTemp.toNat + s.tickLow) := by
    have hguard : (lost && !((s.ch c).warmFromReady && s.inSync c)) = false := by
      cases lost <;> simp_all
    simp only [State.tecFails, hx, ht, hguard]
    simp [State.tickLow]
  have hs : OnlyCh [.channels] c s (s.tecFails c lost).finish := by
    rw [he]
    exact (OnlyCh.refl s).modCh.setTx.raise.finish
  refine ⟨(s.tecFails c lost).finish, rfl, ?_, hs.other, hs.zones⟩
  simp [he]

/-! ### Bias and monitors (R114, R118) -/

theorem completes_biasCalibrated (hx : (s.ch c).tx = .warmup) (ht : (s.ch c).tecLocked = true) :
    Completes (.biasCalibrated c) s fun t =>
    (t.ch c).biasCal = true ∧ (t.ch c).tx = .ready ∧ t.ch (otherCh c) = s.ch (otherCh c) ∧ SameBut [.channels] s t := by
  have he : s.biasDone c = (s.modCh c fun x => { x with biasCal := true }).setTx c .ready := by
    rw [State.biasDone, if_neg (by simp [hx]), txReady_of_warm (by simpa) (by simpa) (by simp)]
  have hs : OnlyCh [.channels] c s ((s.modCh c fun x => { x with biasCal := true }).setTx c .ready) :=
    (OnlyCh.refl s).modCh.setTx
  refine .of_eq he ⟨?_, ?_, hs.other, hs.zones⟩ <;> simp

/-- What a sample leaves in CH_MON. -/
theorem monSample_ch (m : MonSample) (hd : s.domOn (rxDom c) = true) :
    ((s.monSample c m).ch c).mon =
      { m with
        txPower := if (s.ch c).burstDone then m.txPower else BitVec.ofInt 16 (-4000)
        tecCurrent := if (s.ch c).tx = .fault || !s.domOn (txDom c) then 0 else m.tecCurrent } := by
  simp [State.monSample, hd]

theorem completes_monitorSample (m : MonSample) (hd : s.domOn (rxDom c) = true) : Completes (.monitorSample c m) s fun t =>
    (t.ch c).mon.rxPower = m.rxPower ∧ (t.ch c).mon.laserTemp = m.laserTemp ∧
    ((s.ch c).burstDone = true → (s.ch c).tx ≠ .fault → s.domOn (txDom c) = true → (t.ch c).mon = m) ∧
    ((s.ch c).tx = .fault → (t.ch c).mon.tecCurrent = 0) ∧
    ((s.ch c).burstDone = false → (t.ch c).mon.txPower = BitVec.ofInt 16 (-4000)) ∧
    t.ch (otherCh c) = s.ch (otherCh c) ∧ SameBut [.channels] s t := by
  have hs : OnlyCh [.channels] c s (s.monSample c m) := (OnlyCh.refl s).ite (OnlyCh.refl s).modCh
  refine ⟨s.monSample c m, rfl, ?_⟩
  beta_reduce
  rw [monSample_ch m hd]
  refine ⟨rfl, rfl, fun hb hf ht => ?_, fun hf => ?_, fun hb => ?_, hs.other, hs.zones⟩
  · simp [hb, hf, ht]
  · simp [hf]
  · simp [hb]

theorem completes_eqConvergedChange (v : Bool) (hd : s.domOn (rxDom c) = true) : Completes (.eqConvergedChange c v) s fun t =>
    (t.ch c).eqConverged = v ∧ t.ch (otherCh c) = s.ch (otherCh c) ∧ SameBut [.channels] s t := by
  have hs : OnlyCh [.channels] c s (s.modCh c fun x => { x with eqConverged := v }) := (OnlyCh.refl s).modCh
  exact .of_eq (if_pos hd) ⟨by simp, hs.other, hs.zones⟩

/-- Settles O11, an event at a time. -/
theorem transmitterEvents : Obligations.TransmitterEvents := fun _ _ =>
  ⟨fun hd hx hh hb => completes_tecLockChange hd (by simp [hx]) (tecLock_ready hd hx hh hb),
    fun hd hx hh => completes_tecLockChange hd (by simp [hx]) (tecLock_warmup hd hx hh),
    fun hx ht _ hl => completes_tecFault hx ht hl, completes_biasCalibrated, completes_monitorSample,
    completes_eqConvergedChange⟩

end Sys2Proof.Machine
end

section
/-! The registration hunt and the frames of SYNC (O12). The body of a frame changes much, but of its channel nothing that the
registration rests on: `FrameOnly` says what it leaves alone, by one lemma for each operation on the way. -/

namespace Sys2Proof.Machine
set_option Elab.async false
variable {s t u : State} {c : Chan}

namespace OnlyCh
variable {l : List Zone}

theorem bumpCh {i n} (h : OnlyCh l c s t) (hl : .counters ∈ l := by decide) : OnlyCh l c s (t.bumpCh c i n) :=
  h.beside (l' := [.counters]) ((Frame.refl (m := [.aborted]) t).bumpAny.zones) (by simpa using hl)

theorem sdSfEnd (h : OnlyCh l c s t) (hl : .channels ∈ l := by decide) : OnlyCh l c s (t.sdSfEnd c) :=
  h.ite (h.modCh hl).raiseIf.raiseIf

end OnlyCh

/-! ### The search (R94, R95) -/

theorem psyncTol_adapt (s : State) (c d : Chan) : (s.adapt c).psyncTol d = s.psyncTol d := by
  simp only [State.psyncTol, State.cfgF, cfg_adapt]

/-- A sighting at a position that no candidate holds: a new candidate where one of the 8 is free, else counted (R95). -/
theorem sighting_eq {pos errs : Nat} {v : BitVec 51} (hh : (s.ch c).hunt = .hunt ∨ (s.ch c).hunt = .candidate)
    (he : errs ≤ s.psyncTol c) (hp : ∀ k ∈ (s.ch c).cands, k.pos ≠ pos % s.frameBits c) :
    s.sighting c pos errs (some v) =
      if (s.ch c).cands.length < 8 then
        (s.adapt c).modCh c fun x =>
          { x with cands := x.cands ++ [{ pos := pos % s.frameBits c, sfc := v, advances := 0 }], hunt := .candidate }
      else (s.adapt c).bumpCh c 0x62 1 := by
  unfold State.sighting
  dsimp only
  rw [if_neg]
  have hany : (s.ch c).cands.any (fun k => k.pos = pos % s.frameBits c) = false := by simpa using hp
  obtain hh | hh := hh <;> simp [hh, psyncTol_adapt, he, hany]

theorem completes_psbdSighting {pos errs : Nat} {v : BitVec 51}
    (hh : (s.ch c).hunt = .hunt ∨ (s.ch c).hunt = .candidate) (he : errs ≤ s.psyncTol c)
    (hp : ∀ k ∈ (s.ch c).cands, k.pos ≠ pos % s.frameBits c) (hn : (s.ch c).cands.length < 8) :
    Completes (.psbdSighting c pos errs (some v)) s fun t =>
      (t.ch c).cands = (s.ch c).cands ++ [{ pos := pos % s.frameBits c, sfc := v, advances := 0 }] ∧
      (t.ch c).hunt = .candidate ∧ t.ch (otherCh c) = s.ch (otherCh c) ∧ SameBut [.channels] s t := by
  have hs : OnlyCh [.channels] c s ((s.adapt c).modCh c fun x =>
      { x with cands := x.cands ++ [{ pos := pos % s.frameBits c, sfc := v, advances := 0 }], hunt := .candidate }) :=
    (OnlyCh.refl s).adapt.modCh
  obtain ⟨ts, hts⟩ := adapt_ch s c
  refine .of_eq ((sighting_eq hh he hp).trans (if_pos hn)) ⟨?_, ?_, hs.other, hs.zones⟩ <;> simp [hts]

theorem completes_psbdSighting_full {pos errs : Nat} {v : BitVec 51}
    (hh : (s.ch c).hunt = .hunt ∨ (s.ch c).hunt = .candidate) (he : errs ≤ s.psyncTol c)
    (hp : ∀ k ∈ (s.ch c).cands, k.pos ≠ pos % s.frameBits c) (hn : 8 ≤ (s.ch c).cands.length) (hs : s.canonical) :
    Completes (.psbdSighting c pos errs (some v)) s fun t =>
      t.ctr (chAddr c 0x62) = s.ctr (chAddr c 0x62) + 1 ∧ (t.ch c).cands = (s.ch c).cands ∧
      t.ch (otherCh c) = s.ch (otherCh c) ∧ SameBut [.counters, .channels] s t := by
  have ht : OnlyCh [.counters, .channels] c s ((s.adapt c).bumpCh c 0x62 1) := (OnlyCh.refl s).adapt.bumpCh
  obtain ⟨ts, hts⟩ := adapt_ch s c
  refine .of_eq ((sighting_eq hh he hp).trans (if_neg (by omega))) ⟨?_, ?_, ht.other, ht.zones⟩
  · rw [State.bumpCh, State.ctr_bump (by simpa using hs.counters), ctr_of_counters (counters_adapt s c)]
    rfl
  · simp [hts]

/-! ### The window of SD and SF (R111) -/

theorem sdSfEnd_ch (h : 80 ≤ (s.ch c).winFrames) :
    let x := (s.sdSfEnd c).ch c
    x.winFrames = 0 ∧ x.winBits = 0 ∧ x.winUncorr = 0 ∧
    ((s.ch c).winBits > (s.cfg (chAddr c 6)).toNat → x.sd = true) ∧
    ((s.ch c).winBits > (s.cfg (chAddr c 5)).toNat ∨ 8 ≤ (s.ch c).winUncorr → x.sf = true) := by
  unfold State.sdSfEnd
  simp only [Nat.not_lt.2 h, if_false, State.raiseIf_ch, State.modCh_ch_same]
  refine ⟨trivial, trivial, trivial, fun hb => ?_, fun hb => ?_⟩
  · simp [degrade, hb]
  · simp [degrade, hb]

theorem completes_sdSfWindowEnd (h : 80 ≤ (s.ch c).winFrames) : Completes (.sdSfWindowEnd c) s fun t =>
    (t.ch c).winFrames = 0 ∧ (t.ch c).winBits = 0 ∧ (t.ch c).winUncorr = 0 ∧
    ((s.ch c).winBits > (s.cfg (chAddr c 6)).toNat → (t.ch c).sd = true) ∧
    ((s.ch c).winBits > (s.cfg (chAddr c 5)).toNat ∨ 8 ≤ (s.ch c).winUncorr → (t.ch c).sf = true) ∧
    t.ch (otherCh c) = s.ch (otherCh c) ∧ SameBut [.channels] s t := by
  obtain ⟨hf, hb, hu, hsd, hsf⟩ := sdSfEnd_ch h
  have hs : OnlyCh [.channels] c s (s.sdSfEnd c) := (OnlyCh.refl s).sdSfEnd
  exact ⟨_, rfl, hf, hb, hu, hsd, hsf, hs.other, hs.zones⟩

/-! ### The body of a frame -/

/-- What of a channel the registration rests on. -/
def ChanSt.registration (x : ChanSt) : Hunt × Bool × Bool × List Cand × BitVec 64 × BitVec 4 :=
  (x.hunt, x.lof, x.chLoss, x.cands, x.sfc64, x.badCount)

/-- The parts that the body of a frame may change. -/
def bodyZones : List Zone := [.counters, .channels, .bursts, .queues, .pools, .time, .keys]

/-- `t` differs from `s` by what the body of a frame may change, and not in the registration of the channel. -/
structure FrameOnly (c : Chan) (s t : State) : Prop where
  zones : SameBut bodyZones s t
  registration : (t.ch c).registration = (s.ch c).registration

namespace FrameOnly

theorem refl (s : State) : FrameOnly c s s := ⟨.refl _ s, rfl⟩

theorem trans (h : FrameOnly c s t) (k : FrameOnly c t u) : FrameOnly c s u :=
  ⟨h.zones.trans k.zones, k.registration.trans h.registration⟩

/-- What an operation leaves alone, where it leaves the channels alone. -/
theorem beside {l : List Zone} (h : FrameOnly c s t) (k : SameBut l t u) (hl : ∀ p ∈ l, p ∈ bodyZones := by decide)
    (hc : .channels ∉ l := by decide) : FrameOnly c s u :=
  h.trans ⟨k.mono hl, by rw [State.ch, k .channels hc, State.ch]⟩

theorem ite {b : Prop} [Decidable b] (h : FrameOnly c s t) (k : FrameOnly c s u) : FrameOnly c s (if b then t else u) := by
  split <;> assumption

theorem raiseIf {b code p} (h : FrameOnly c s t) : FrameOnly c s (t.raiseIf b code p) :=
  h.beside (sameBut_raiseIf [] t b code p)

theorem raise {code p} (h : FrameOnly c s t) : FrameOnly c s (t.raise code p) := h.beside (sameBut_raise [] t code p)

theorem bump {a n} (h : FrameOnly c s t) : FrameOnly c s (t.bump a n) :=
  h.beside (Frame.refl (l := [.counters]) (m := [.aborted]) t).bumpAny.zones

theorem bumpCh {i n} (h : FrameOnly c s t) : FrameOnly c s (t.bumpCh c i n) := h.bump
theorem bumpIf {b a n} (h : FrameOnly c s t) : FrameOnly c s (t.bumpIf b a n) := h.bump.ite h

theorem modCh {f} (h : FrameOnly c s t) (hf : ∀ x, (f x).registration = x.registration := by exact fun _ => rfl) :
    FrameOnly c s (t.modCh c f) :=
  h.trans ⟨(sameBut_modCh t c f).mono (by decide), by rw [State.modCh_ch_same, hf]⟩

theorem latch {sfc count} (h : FrameOnly c s t) : FrameOnly c s (t.latch c sfc count) :=
  h.ite (h.beside (Frame.refl (l := [.time]) (m := []) t).modTime.zones)

theorem keyBegin {slot n} (h : FrameOnly c s t) : FrameOnly c s (t.keyBegin slot n).2 :=
  h.beside (Frame.refl (l := [.counters, .keys]) (m := []) t).keyBegin.zones

theorem takeCell {p cls began} (h : FrameOnly c s t) : FrameOnly c s (t.takeCell p cls began).2 :=
  h.beside (Frame.refl (l := poolZones) (m := []) t).takeCell.zones

theorem sdSfEnd (h : FrameOnly c s t) : FrameOnly c s (t.sdSfEnd c) := h.ite h.modCh.raiseIf.raiseIf

theorem fecCount {f} (h : FrameOnly c s t) : FrameOnly c s (t.fecCount c f) := by
  unfold State.fecCount
  exact (h.bumpCh.bumpCh.bumpCh.bumpCh.ite h.bumpCh.bumpCh.bumpCh.bumpCh.bumpCh).sdSfEnd.modCh

theorem adapt (h : FrameOnly c s t) : FrameOnly c s (t.adapt c) := by
  obtain ⟨ts, hts⟩ := adapt_ch t c
  exact h.trans ⟨(OnlyCh.refl (l := [.channels]) (c := c) t).adapt.zones.mono (by decide), by rw [hts]; rfl⟩

theorem ploamCheck {m v} (h : FrameOnly c s t) : FrameOnly c s (t.ploamCheck c m v).2 := by
  have hk := h.keyBegin (slot := mgmtSlot v (chanN c)) (n := aesBlocks (Config.ploamBytes m c).length)
  unfold State.ploamCheck
  extract_lets data
  split
  next e => rwa [e] at hk
  next e =>
    rw [e] at hk
    split
    exacts [hk.bump, hk.bump.modCh (f := fun x => { x with micFails := x.micFails + 1 })]

theorem ploamChecks {m vs} (h : FrameOnly c s t) : FrameOnly c s (ploamChecks c m vs t).2 := by
  induction vs generalizing t with
  | nil => exact h
  | cons v vs ih => exact ih h.ploamCheck

theorem ploamIn {m} (h : FrameOnly c s t) : FrameOnly c s (t.ploamIn c m) := by
  refine h.bump.ite ?_
  dsimp only
  refine h.ploamChecks.ite ?_
  exact h.ploamChecks.takeCell.modCh

theorem ploamAll {ms} (h : FrameOnly c s t) : FrameOnly c s (ploamAll c ms t) := by
  induction ms generalizing t with
  | nil => exact h
  | cons m ms ih => exact ih h.ploamIn

theorem frameBody {f} (h : FrameOnly c s t) : FrameOnly c s (t.frameBody c f) :=
  (h.bumpCh.latch.modCh.fecCount.modCh.ploamAll.ite h.bumpCh.latch.modCh.fecCount.modCh.bumpCh).adapt

end FrameOnly

/-! ### Candidates (R95, R96) -/

/-- A channel with the candidates that are left to it. -/
def ChanSt.narrowed (x : ChanSt) (rest : List Cand) : ChanSt :=
  { x with cands := rest, hunt := if rest = [] then .hunt else .candidate }

theorem narrowed_hunt_ne (x : ChanSt) (rest : List Cand) : (x.narrowed rest).hunt ≠ .sync := by
  unfold ChanSt.narrowed
  split_ifs <;> nofun

/-- A candidate whose predicted PSBd is missing or out of order goes (R95). -/
theorem candidateAt_drop {pos : Nat} {f : DsFrame} {k : Cand} (hh : (s.ch c).hunt = .candidate)
    (hk : (s.ch c).cands.find? (fun x => x.pos = pos % s.frameBits c) = some k)
    (hf : f.psyncErrs > s.psyncTol c ∨ f.sfc ≠ some (k.sfc + 1)) :
    s.candidateAt c pos f = ((s.adapt c).modCh c
      (·.narrowed ((s.ch c).cands.filter fun o => o.pos ≠ pos % s.frameBits c))).bumpCh c 0x60 1 := by
  unfold State.candidateAt
  dsimp only
  rw [hk]
  dsimp only
  rw [if_neg (by simp [hh]), if_pos (by simpa [psyncTol_adapt] using hf)]
  rfl

/-- A candidate that has advanced before and advances again is promoted (R96). -/
theorem candidateAt_promote {pos : Nat} {f : DsFrame} {k : Cand} (hh : (s.ch c).hunt = .candidate)
    (hk : (s.ch c).cands.find? (fun x => x.pos = pos % s.frameBits c) = some k) (he : f.psyncErrs ≤ s.psyncTol c)
    (hf : f.sfc = some (k.sfc + 1)) (ha : 1 ≤ k.advances) :
    s.candidateAt c pos f = (s.adapt c).promote c { k with sfc := k.sfc + 1, advances := k.advances + 1 } f := by
  unfold State.candidateAt
  dsimp only
  rw [hk]
  dsimp only
  rw [if_neg (by simp [hh]), if_neg (by simp [psyncTol_adapt, he, hf]), if_neg (by omega)]

theorem completes_candidatePredictedPsbd_drop {pos : Nat} {f : DsFrame} {k : Cand} (hh : (s.ch c).hunt = .candidate)
    (hk : (s.ch c).cands.find? (fun x => x.pos = pos % s.frameBits c) = some k)
    (hf : f.psyncErrs > s.psyncTol c ∨ f.sfc ≠ some (k.sfc + 1)) : Completes (.candidatePredictedPsbd c pos f) s fun t =>
    SameBut bodyZones s t ∧
      (t.ch c).cands = (s.ch c).cands.filter (fun x => x.pos ≠ pos % s.frameBits c) ∧ (t.ch c).hunt ≠ .sync := by
  have hs : OnlyCh bodyZones c s (((s.adapt c).modCh c
      (·.narrowed ((s.ch c).cands.filter fun o => o.pos ≠ pos % s.frameBits c))).bumpCh c 0x60 1).finish :=
    (OnlyCh.refl s).adapt.modCh.bumpCh.finish
  refine .of_eq (congrArg State.finish (candidateAt_drop hh hk hf)) ⟨hs.zones, ?_, ?_⟩ <;>
    rw [State.finish_ch, State.bumpCh_ch, State.modCh_ch_same]
  · rfl
  · exact narrowed_hunt_ne _ _

/-- A channel whose candidate is promoted: SYNC, with every condition of its loss clear and SFC64 at the candidate's
superframe (R96, R99, R110). -/
def ChanSt.promoted (x : ChanSt) (k : Cand) : ChanSt :=
  { x with hunt := .sync, cands := [], promotedPos := k.pos, badCount := 0, mismatched := false, lof := false
           lossEdge := false, chLoss := false, sfc64 := x.sfc64.extractLsb' 51 13 ++ k.sfc, winFrames := 0, winBits := 0, winUncorr := 0 }

/-- After the promotion itself come reports, counts and the body of the frame. -/
theorem frameOnly_promote (s : State) (c : Chan) (k : Cand) (f : DsFrame) :
    FrameOnly c ((s.sdSfEnd c).modCh c fun x => x.promoted k) (s.promote c k f) := by
  unfold State.promote
  extract_lets x others advanced old bits s1 s2 s3 s4 s5 s6 s7 s8
  have h6 : FrameOnly c s2 s6 := (FrameOnly.refl s2).bumpCh.raiseIf.raiseIf.raise
  have h7 : FrameOnly c s2 s7 := by
    simp only [s7]
    generalize advanced = a
    cases a
    exacts [h6, h6.raise]
  exact h7.raiseIf.frameBody

theorem promote_spec (s : State) (c : Chan) (k : Cand) (f : DsFrame) :
    let t := s.promote c k f
    SameBut bodyZones s t ∧ (t.ch c).hunt = .sync ∧ (t.ch c).lof = false ∧ (t.ch c).chLoss = false ∧
      (t.ch c).cands = [] ∧ t.onlineSfc c = k.sfc := by
  have h0 : OnlyCh bodyZones c s ((s.sdSfEnd c).modCh c fun x => x.promoted k) := (OnlyCh.refl s).sdSfEnd.modCh
  have h1 := frameOnly_promote s c k f
  have hreg := h1.registration
  simp only [ChanSt.registration, State.modCh_ch_same, ChanSt.promoted, Prod.mk.injEq] at hreg
  obtain ⟨hh, hl, hc, hd, hsfc, -⟩ := hreg
  refine ⟨h0.zones.trans h1.zones, hh, hl, hc, hd, ?_⟩
  rw [State.onlineSfc, hsfc]
  exact BitVec.setWidth_append_eq_right

theorem completes_candidatePredictedPsbd_promote {pos : Nat} {f : DsFrame} {k : Cand} (hh : (s.ch c).hunt = .candidate)
    (hk : (s.ch c).cands.find? (fun x => x.pos = pos % s.frameBits c) = some k) (he : f.psyncErrs ≤ s.psyncTol c)
    (hf : f.sfc = some (k.sfc + 1)) (ha : 1 ≤ k.advances) : Completes (.candidatePredictedPsbd c pos f) s fun t =>
    SameBut bodyZones s t ∧ (t.ch c).hunt = .sync ∧ (t.ch c).lof = false ∧ (t.ch c).chLoss = false ∧
      (t.ch c).cands = [] ∧ t.onlineSfc c = k.sfc + 1 := by
  have h0 : OnlyCh bodyZones c s (s.adapt c) := (OnlyCh.refl s).adapt
  obtain ⟨hz, hspec⟩ := promote_spec (s.adapt c) c { k with sfc := k.sfc + 1, advances := k.advances + 1 } f
  refine .of_eq (congrArg State.finish (candidateAt_promote hh hk he hf ha)) ⟨(h0.zones.trans hz).finish, ?_⟩
  simpa only [State.onlineSfc, State.finish_ch] using hspec

/-! ### Frames in SYNC (R97, R98, R101) -/

/-- Only a frame after a mismatch can make two in succession (R98). -/
theorem sfcJudge_single {sfc : Option (BitVec 51)} (h : (s.ch c).mismatched = false) : (s.sfcJudge c sfc).1 = false := by
  unfold State.sfcJudge
  split
  · rfl
  · split
    exacts [rfl, h]

theorem FrameOnly.sfcJudge {sfc} (h : FrameOnly c s t) : FrameOnly c s (t.sfcJudge c sfc).2 := by
  unfold State.sfcJudge
  split
  · exact h.bumpCh
  · split
    exacts [h.modCh (f := fun x => { x with mismatched := false }),
      h.bumpCh.modCh (f := fun x => { x with mismatched := true })]

/-- The channel at a frame in SYNC: SFC64 moves on, and frames with a bad PSync in succession are counted (R97, R101). -/
def State.framed (s : State) (c : Chan) (f : DsFrame) : State :=
  s.modCh c fun x =>
    { x with sfc64 := x.sfc64 + 1, badCount := if f.psyncErrs > s.psyncTol c then x.badCount + 1 else 0 }

/-- A frame's SFC structure, as it is judged in SYNC. -/
def State.judgedAt (s : State) (c : Chan) (f : DsFrame) : Bool × State :=
  ((s.framed c f).bumpIf (f.psyncErrs > s.psyncTol c) (chAddr c 0x42) 1).sfcJudge c f.sfc

/-- What a frame in SYNC leaves before its limits are judged. -/
def State.frameDone (s : State) (c : Chan) (f : DsFrame) : State := (s.judgedAt c f).2.frameBody c f

/-- A frame in SYNC is processed, and then SYNC ends where a limit is reached. -/
theorem frameIn_eq {f : DsFrame} (hh : (s.ch c).hunt = .sync) :
    s.frameIn c f =
      if f.psyncErrs > s.psyncTol c && ((s.frameDone c f).ch c).badCount.toNat ≥ (s.frameDone c f).lossCount c then
        (s.frameDone c f).leaveSync c 0 false
      else if (s.judgedAt c f).1 then (s.frameDone c f).leaveSync c 1 false else s.frameDone c f := by
  unfold State.frameIn
  rw [if_neg (by simp [State.inSync, hh])]
  rfl

theorem frameOnly_frameDone (s : State) (c : Chan) (f : DsFrame) : FrameOnly c (s.framed c f) (s.frameDone c f) :=
  (FrameOnly.refl _).bumpIf.sfcJudge.frameBody

theorem frameDone_zones (s : State) (c : Chan) (f : DsFrame) : SameBut bodyZones s (s.frameDone c f) :=
  ((sameBut_modCh s c _).mono (by decide)).trans (frameOnly_frameDone s c f).zones

theorem frameDone_ch (s : State) (c : Chan) (f : DsFrame) :
    let x := (s.frameDone c f).ch c
    x.hunt = (s.ch c).hunt ∧ x.sfc64 = (s.ch c).sfc64 + 1 ∧
      x.badCount = if f.psyncErrs > s.psyncTol c then (s.ch c).badCount + 1 else 0 := by
  have hreg := (frameOnly_frameDone s c f).registration
  simp only [ChanSt.registration, State.framed, State.modCh_ch_same, Prod.mk.injEq] at hreg
  obtain ⟨hh, -, -, -, hsfc, hbad⟩ := hreg
  exact ⟨hh, hsfc, by simpa using hbad⟩

theorem frameIn_good {f : DsFrame} (hh : (s.ch c).hunt = .sync) (hf : f.psyncErrs ≤ s.psyncTol c)
    (hm : (s.ch c).mismatched = false) : s.frameIn c f = s.frameDone c f := by
  have htwice : (s.judgedAt c f).1 = false :=
    sfcJudge_single (by simpa [State.bumpIf, Nat.not_lt.2 hf, State.framed] using hm)
  simp [frameIn_eq hh, Nat.not_lt.2 hf, htwice]

theorem frameIn_lost {f : DsFrame} (hh : (s.ch c).hunt = .sync) (hf : f.psyncErrs > s.psyncTol c)
    (hl : s.lossCount c ≤ ((s.ch c).badCount + 1).toNat) : s.frameIn c f = (s.frameDone c f).leaveSync c 0 false := by
  have hwords : (s.frameDone c f).words = s.words := frameDone_zones s c f .words (by decide)
  have hloss : (s.frameDone c f).lossCount c = s.lossCount c := by
    simp only [State.lossCount, State.cfgF, State.cfg, hwords]
  obtain ⟨-, -, hbad⟩ := frameDone_ch s c f
  rw [if_pos hf] at hbad
  rw [frameIn_eq hh, hbad, hloss, if_pos (by simpa only [Bool.and_eq_true, decide_eq_true_eq] using ⟨hf, hl⟩)]

/-- The parts that a frame in SYNC may change. -/
def frameZones : List Zone := [.counters, .tick, .channels, .bursts, .queues, .pools, .time, .keys]

theorem completes_downstreamFrame_good {f : DsFrame} (hh : (s.ch c).hunt = .sync) (hf : f.psyncErrs ≤ s.psyncTol c)
    (hm : (s.ch c).mismatched = false) : Completes (.downstreamFrame c f) s fun t =>
    SameBut frameZones s t ∧
      (t.ch c).hunt = .sync ∧ (t.ch c).sfc64 = (s.ch c).sfc64 + 1 ∧ (t.ch c).badCount = 0 := by
  obtain ⟨hhunt, hsfc, hbad⟩ := frameDone_ch s c f
  rw [if_neg (by omega)] at hbad
  refine .of_eq (congrArg State.finish (frameIn_good hh hf hm)) ⟨?_, ?_, ?_, ?_⟩
  · exact ((frameDone_zones s c f).mono (by decide)).finish
  all_goals rw [State.finish_ch]
  exacts [hhunt.trans hh, hsfc, hbad]

theorem completes_downstreamFrame_lost {f : DsFrame} (hh : (s.ch c).hunt = .sync) (hf : f.psyncErrs > s.psyncTol c)
    (hl : s.lossCount c ≤ ((s.ch c).badCount + 1).toNat) : Completes (.downstreamFrame c f) s fun t =>
    SameBut frameZones s t ∧
      (t.ch c).hunt ≠ .sync ∧ (t.ch c).lof = true ∧ (t.ch c).sfc64 = (s.ch c).sfc64 + 1 := by
  obtain ⟨hhunt, hsfc, -⟩ := frameDone_ch s c f
  have hleave : OnlyCh frameZones c (s.frameDone c f) ((s.frameDone c f).leaveSync c 0 false).finish :=
    (OnlyCh.refl _).leaveSync.finish
  refine .of_eq (congrArg State.finish (frameIn_lost hh hf hl)) ⟨?_, ?_, ?_, ?_⟩
  · exact ((frameDone_zones s c f).mono (by decide)).trans hleave.zones
  all_goals rw [State.finish_ch, State.leaveSync_ch]
  · exact leftSync_hunt_ne _ _ _
  · exact leftSync_lof _ _ _ (hhunt.trans hh)
  · rw [leftSync_sfc64, hsfc]

/-- Settles O12: the search, candidates, frames in SYNC, and the window of SD and SF. -/
theorem huntAndFrames : Obligations.HuntAndFrames := by
  refine fun s c => ⟨fun pos errs v hh he hp => ⟨?_, ?_⟩, fun pos f k hh hk => ⟨?_, ?_⟩, fun f hh => ⟨?_, ?_⟩,
    completes_sdSfWindowEnd⟩
  · exact completes_psbdSighting hh he hp
  · exact completes_psbdSighting_full hh he hp
  · exact completes_candidatePredictedPsbd_drop hh hk
  · exact completes_candidatePredictedPsbd_promote hh hk
  · exact completes_downstreamFrame_good hh
  · exact completes_downstreamFrame_lost hh

end Sys2Proof.Machine
end

section
/-! Writes of the channels' words by their own rows (O14). A row that names one object writes some bits of one word over the
two-wire port; a write that passes its checks stores the word where it is stored, and has the effect that its block gives. -/

namespace Sys2Proof.Machine
set_option Elab.async false
variable {s t u : State} {c : Chan}

/-! ### A write of some bits of one word -/

theorem cfg_of_words (h : t.words = s.words) (a : Nat) : t.cfg a = s.cfg a := by rw [State.cfg, h, State.cfg]

theorem chEnabled_of_words (h : t.words = s.words) : t.chEnabled c = s.chEnabled c := by
  rw [State.chEnabled, State.cfgB, cfg_of_words h, State.chEnabled, State.cfgB]

/-- A write that the port takes and that passes its checks takes effect, and is answered OK (R57, R68). -/
theorem hostBits_eq {a : Nat} {val mask : Word} (hm : s.hostMay) (hc : s.writeCheck .twi [⟨a, val, mask⟩] = 0)
    (ha : a ≠ addrOf 0x7E 2) :
    s.hostBits a val mask = ((s.writeApply [⟨a, val, mask⟩]).emit (.writeStatus 0)).finish := by
  obtain ⟨htakes, hphase, hport⟩ := hm
  have hst : s.hostStatus .twi [⟨a, val, mask⟩] = 0 := by
    have h0 : s.cfgB (addrOf 0x01 0x10) (transN .twi) = true := hport
    simp only [State.hostStatus, h0, hc, List.any_cons, List.any_nil, ha]
    simp [seniorOf, senior]
  simp [State.hostBits, State.hostWrite, htakes, hphase, hst]

/-- The state in which a written word takes effect. -/
def State.wordStored (s : State) (a : Nat) (f : Found) (v : Word) : State :=
  if (computed s a f).isSome then s else s.putCfg a v

theorem writeApply_one {a : Nat} {val mask : Word} {f : Found} (hn : nameOf a = some (.word f)) (hm : f.mask ≠ 0)
    (hs : specialAt f = none) (hg : groupOf f = none) :
    s.writeApply [⟨a, val, mask⟩] =
      applyWord (s.wordStored a f (s.newWord ⟨a, val, mask⟩ f)) a f (s.cfg a) (s.newWord ⟨a, val, mask⟩ f) := by
  have hr : s.reached [(⟨a, val, mask⟩, .word f)] = [(⟨a, val, mask⟩, f, s.newWord ⟨a, val, mask⟩ f)] :=
    List.filterMap_cons_some (if_neg hm)
  have hg' : rewrites [(⟨a, val, mask⟩, f, s.newWord ⟨a, val, mask⟩ f)] = [] := by simp [rewrites, hg]
  simp only [State.writeApply, nameAll, hn, hr, specialOf, hs, hg', rewriteGroups, applyAll, storeAll, State.wordStored]

/-- The bits of a word that is stored: those written as given, and the others as before. -/
theorem bit_newWord {x : WordIn} {f : Found} (hc : computed s x.addr f = none) (i : Nat) :
    bit (s.newWord x f) i = if (f.mask &&& x.mask).getLsbD i then bit x.val i else bit (s.cfg x.addr) i := by
  simp only [State.newWord, hc, Option.isSome_none, Bool.false_eq_true, if_false, bit, BitVec.getLsbD_or, BitVec.getLsbD_and,
    BitVec.getLsbD_not]
  by_cases hi : i < 32
  · cases f.mask.getLsbD i <;> cases x.mask.getLsbD i <;> simp [hi]
  · simp [BitVec.getLsbD_of_ge _ _ (Nat.le_of_not_lt hi)]

/-! ### CH_CFG and CH_CTL -/

/-- What the addresses of CH_CFG and CH_CTL name (Table CH-5). -/
def chCfgFound (c : Chan) : Found :=
  ⟨.chCfg, 0, [], 1, match c with | .a => 0xF7F | .b => 0xF3F, match c with | .a => 0xC78 | .b => 0xC38⟩
def chCtlFound : Found := ⟨.chCtl, 0, [], 1, 3, 0⟩

theorem nameOf_chCfg (c : Chan) : nameOf (chAddr c 0) = some (.word (chCfgFound c)) := by cases c <;> decide +kernel
theorem nameOf_chCtl (c : Chan) : nameOf (chAddr c 1) = some (.word chCtlFound) := by cases c <;> decide +kernel

theorem computed_chCfg (s : State) (c : Chan) : computed s (chAddr c 0) (chCfgFound c) = none := by cases c <;> rfl
theorem computed_chCtl (s : State) (c : Chan) : computed s (chAddr c 1) chCtlFound = some 0 := by cases c <;> rfl

theorem applyWord_ch (s : State) (c : Chan) {i : Nat} (hi : i < 2) (f : Found) (old new : Word) :
    applyWord s (chAddr c i) f old new = applyCh s c f old new := by
  obtain rfl | rfl : i = 0 ∨ i = 1 := by omega
  all_goals cases c <;> rfl

/-- CH_CFG as a write of some of its bits leaves it. -/
def State.cfgWritten (s : State) (c : Chan) (val mask : Word) : Word := s.newWord ⟨chAddr c 0, val, mask⟩ (chCfgFound c)

/-- An accepted write of CH_CFG stores the word; ENABLE starts or stops the channel where it changes, and the transmitter
follows (Table CH-4, R120). -/
theorem hostBits_chCfg {val mask : Word} (hm : s.hostMay) (hc : s.writeCheck .twi [⟨chAddr c 0, val, mask⟩] = 0) :
    s.hostBits (chAddr c 0) val mask = ((applyCh (s.putCfg (chAddr c 0) (s.cfgWritten c val mask)) c (chCfgFound c)
      (s.cfg (chAddr c 0)) (s.cfgWritten c val mask)).emit (.writeStatus 0)).finish := by
  rw [hostBits_eq hm hc (by cases c <;> decide), writeApply_one (nameOf_chCfg c) (by cases c <;> decide) rfl rfl,
    applyWord_ch _ c (by decide), State.wordStored, computed_chCfg]
  rfl

/-- An accepted write of CH_CTL has the effect of the bits written. -/
theorem hostBits_chCtl {val mask : Word} (hm : s.hostMay) (hc : s.writeCheck .twi [⟨chAddr c 1, val, mask⟩] = 0) :
    s.hostBits (chAddr c 1) val mask =
      ((applyCh s c chCtlFound (s.cfg (chAddr c 1)) (val &&& (3 &&& mask))).emit (.writeStatus 0)).finish := by
  have hnew : s.newWord ⟨chAddr c 1, val, mask⟩ chCtlFound = val &&& (3 &&& mask) := by
    simp only [State.newWord, computed_chCtl]
    rfl
  rw [hostBits_eq hm hc (by cases c <;> decide), writeApply_one (nameOf_chCtl c) (by decide) rfl rfl,
    applyWord_ch _ c (by decide), State.wordStored, computed_chCtl, hnew]
  rfl

/-! ### What a write of CH_CFG does -/

theorem bit_cfgWritten (s : State) (c : Chan) (val mask : Word) (i : Nat) :
    bit (s.cfgWritten c val mask) i =
      if ((chCfgFound c).mask &&& mask).getLsbD i then bit val i else bit (s.cfg (chAddr c 0)) i :=
  bit_newWord (computed_chCfg s c) i

section
variable {f : Found} {old v : Word}

theorem applyCh_start (hf : f.obj = .chCfg) (hv : bit v 0 = true) (ho : bit old 0 = false) :
    applyCh s c f old v = (s.startCh c).txUpdate c := by
  simp only [applyCh, hf, hv, ho]
  rfl

theorem applyCh_stop (hf : f.obj = .chCfg) (hv : bit v 0 = false) (ho : bit old 0 = true) :
    applyCh s c f old v = (s.stopCh c 1).txUpdate c := by
  simp only [applyCh, hf, hv, ho]
  rfl

theorem applyCh_stay (hf : f.obj = .chCfg) (hv : bit v 0 = bit old 0) : applyCh s c f old v = s.txUpdate c := by
  simp only [applyCh, hf, hv]
  cases bit old 0 <;> rfl

end

namespace OnlyCh
variable {l : List Zone}

theorem putCfg {a v} (h : OnlyCh l c s t) (hl : .words ∈ l := by decide) : OnlyCh l c s (t.putCfg a v) :=
  h.beside (l' := [.words]) (fun p hp => by cases p <;> simp_all [Zone.same]) (by simpa using hl)

theorem emit {o} (h : OnlyCh l c s t) (hl : .contacts ∈ l := by decide) : OnlyCh l c s (t.emit o) :=
  h.beside (l' := [.contacts]) (Frame.refl (m := []) t).emit.zones (by simpa using hl)

theorem freeAll {cls cells} (h : OnlyCh l c s t) (hl : ∀ p ∈ poolZones, p ∈ l := by decide) :
    OnlyCh l c s (State.freeAll cls cells t) := h.beside (CellsOnly.refl t).freeAll.1 hl

theorem takeMode (h : OnlyCh l c s t) (hw : .words ∈ l := by decide) (hl : .channels ∈ l := by decide) :
    OnlyCh l c s (t.takeMode c) := by
  refine h.ite ?_
  cases c with
  | a => exact h.modCh hl
  | b => exact (((h.modCh hl).putCfg hw).putCfg hw).putCfg hw

theorem clearCh (h : OnlyCh l c s t) (hl : ∀ p ∈ startZones, p ∈ l := by decide) : OnlyCh l c s (t.clearCh c) :=
  ((h.freeAll fun p hp => hl p (List.mem_append_right _ hp)).modCh (hl _ (by decide))).takeMode (hl _ (by decide))
    (hl _ (by decide))

theorem startCh (h : OnlyCh l c s t) (hl : ∀ p ∈ startZones, p ∈ l := by decide) : OnlyCh l c s (t.startCh c) :=
  (h.clearCh hl).modCh (hl _ (by decide))

theorem stopCh {k} (h : OnlyCh l c s t) (hl : .channels ∈ l := by decide) (ht : .tick ∈ l := by decide) :
    OnlyCh l c s (t.stopCh c k) := (((h.leaveSync hl ht).assertLos hl ht).modCh hl).assertLoss hl

theorem expose {g} (h : OnlyCh l c s t) (hl : .tick ∈ l := by decide) : OnlyCh l c s (t.expose g) := h.tick hl

theorem restartCh (h : OnlyCh l c s t) (hl : ∀ p ∈ .tick :: startZones, p ∈ l := by decide) :
    OnlyCh l c s (t.restartCh c) := by
  have hc : .channels ∈ l := hl _ (by decide)
  have ht : .tick ∈ l := hl _ (by decide)
  have hz : ∀ p ∈ startZones, p ∈ l := fun p hp => hl p (List.mem_cons_of_mem _ hp)
  unfold State.restartCh
  extract_lets s1 s2 s3 s4 s5
  have h3 : OnlyCh l c s s3 := ((h.assertLoss hc).leaveSync hc ht).expose ht
  have h4 : OnlyCh l c s s4 := (h3.setTx hc).ite h3
  have h5 : OnlyCh l c s s5 := (h4.startCh hz).ite (h4.clearCh hz).restarted
  exact h5.txUpdate hc

end OnlyCh

/-! ### What becomes of the channel (R119, R120) -/

@[simp] theorem emit_ch (s : State) (o : Output) (d : Chan) : (s.emit o).ch d = s.ch d := rfl
@[simp] theorem putCfg_ch (s : State) (a : Nat) (v : Word) (d : Chan) : (s.putCfg a v).ch d = s.ch d := rfl

theorem takeMode_ch (s : State) (c : Chan) : ∃ m, (s.takeMode c).ch c = { s.ch c with modeActive := m } := by
  unfold State.takeMode
  extract_lets m s1
  split
  · exact ⟨_, rfl⟩
  · exact ⟨m, by cases c <;> rfl⟩

theorem clearCh_ch (s : State) (c : Chan) :
    ((s.clearCh c).ch c).hunt = .off ∧ ((s.clearCh c).ch c).chLoss = (s.ch c).chLoss := by
  unfold State.clearCh
  extract_lets keep s1 s2
  have h1 : s1.chans = s.chans := (CellsOnly.refl s).freeAll.1 .channels (by decide)
  obtain ⟨m, hm⟩ := takeMode_ch s2 c
  have hch : s1.ch c = s.ch c := by rw [State.ch, h1, State.ch]
  rw [hm, ← hch]
  simp [s2]

theorem startCh_ch (s : State) (c : Chan) :
    let x := (s.startCh c).ch c
    x.running = true ∧ x.relocking = true ∧ x.cdr = false ∧ x.hunt = .off ∧ x.chLoss = (s.ch c).chLoss := by
  obtain ⟨hh, hl⟩ := clearCh_ch s c
  simp [State.startCh, hh, hl]

theorem stopCh_ch (s : State) (c : Chan) (k : Nat) :
    let x := (s.stopCh c k).ch c
    x.running = false ∧ x.los = true ∧ x.chLoss = true ∧ x.hunt = .off := by simp [State.stopCh]

/-- An update of the transmitter is beside the receiver. -/
theorem txUpdate_rx (s : State) (c : Chan) :
    let x := (s.txUpdate c).ch c
    x.running = (s.ch c).running ∧ x.relocking = (s.ch c).relocking ∧ x.cdr = (s.ch c).cdr ∧ x.hunt = (s.ch c).hunt ∧
      x.los = (s.ch c).los ∧ x.chLoss = (s.ch c).chLoss :=
  ⟨txUpdate_view (g := ChanSt.running) (fun _ _ _ _ => rfl) s c c,
    txUpdate_view (g := ChanSt.relocking) (fun _ _ _ _ => rfl) s c c,
    txUpdate_view (g := ChanSt.cdr) (fun _ _ _ _ => rfl) s c c, txUpdate_view (g := ChanSt.hunt) (fun _ _ _ _ => rfl) s c c,
    txUpdate_view (g := ChanSt.los) (fun _ _ _ _ => rfl) s c c, txUpdate_view (g := ChanSt.chLoss) (fun _ _ _ _ => rfl) s c c⟩

theorem cfg_startCh (s : State) (c : Chan) : (s.startCh c).cfg (chAddr c 0) = s.cfg (chAddr c 0) :=
  (startCh_spec s c).2.2 c

/-! ### ENABLE and TX_PERMIT -/

/-- The parts that a start by the host may change. -/
def enableZones : List Zone := [.words, .counters, .tick, .channels, .bursts, .queues, .pools, .contacts]

/-- A write of CH_CFG leaves the word as written. -/
theorem onlyCh_cfgWrite (hw : SMap.wfBy resetWord s.words = true) (c : Chan) (v : Word) :
    OnlyCh [.words] c s (s.putCfg (chAddr c 0) v) ∧ (s.putCfg (chAddr c 0) v).cfg (chAddr c 0) = v :=
  ⟨(OnlyCh.refl s).putCfg, cfg_putCfg_same _ _ hw⟩

/-- What follows a stored CH_CFG leaves it as it is. -/
theorem cfg_answered {a : Nat} {o : Output} (h : t.cfg a = s.cfg a) :
    (((t.txUpdate c).emit o).finish).cfg a = s.cfg a := (cfg_of_words (by simp) a).trans h

theorem completes_chEnable (hs : s.canonical) (hm : s.hostMay) (hc : s.writeCheck .twi [⟨chAddr c 0, 1, 1⟩] = 0) :
    Completes (.chEnable c) s fun t =>
    SameBut enableZones s t ∧ t.chEnabled c = true ∧
    (s.chEnabled c = false → (t.ch c).running = true ∧ (t.ch c).relocking = true ∧ (t.ch c).cdr = false ∧
      (t.ch c).hunt = .off) ∧
    t.ch (otherCh c) = s.ch (otherCh c) := by
  refine .of_eq (hostBits_chCfg hm hc) ?_
  have hv : bit (s.cfgWritten c 1 1) 0 = true := by
    rw [bit_cfgWritten, if_pos (by cases c <;> decide)]
    rfl
  generalize s.cfgWritten c 1 1 = v at hv ⊢
  obtain ⟨hput, hcfg⟩ := onlyCh_cfgWrite hs.words c v
  have hch : (s.putCfg (chAddr c 0) v).ch c = s.ch c := rfl
  generalize s.putCfg (chAddr c 0) v = u at hput hcfg hch ⊢
  have hu : OnlyCh enableZones c s u := hput.mono (by decide)
  have hen : u.chEnabled c = true := by rw [State.chEnabled, State.cfgB, hcfg, hv]
  cases ho : bit (s.cfg (chAddr c 0)) 0 with
  | true =>
    rw [applyCh_stay rfl (hv.trans ho.symm)]
    have ht : OnlyCh enableZones c s ((u.txUpdate c).emit (.writeStatus 0)).finish := hu.txUpdate.emit.finish
    refine ⟨ht.zones, (chEnabled_of_words (by simp)).trans hen, fun hoff => ?_, ht.other⟩
    exact absurd (ho.symm.trans hoff) (by decide)
  | false =>
    rw [applyCh_start rfl hv ho]
    have ht : OnlyCh enableZones c s (((u.startCh c).txUpdate c).emit (.writeStatus 0)).finish :=
      (hu.startCh (by decide)).txUpdate.emit.finish
    obtain ⟨hrun, hlock, hcdr, hhunt, -⟩ := startCh_ch u c
    obtain ⟨hrun', hlock', hcdr', hhunt', -⟩ := txUpdate_rx (u.startCh c) c
    refine ⟨ht.zones, ?_, fun _ => ?_, ht.other⟩
    · rw [State.chEnabled, State.cfgB, cfg_answered (cfg_startCh u c), hcfg, hv]
    · rw [State.finish_ch, emit_ch]
      exact ⟨hrun'.trans hrun, hlock'.trans hlock, hcdr'.trans hcdr, hhunt'.trans hhunt⟩

theorem completes_chDisable (hs : s.canonical) (hm : s.hostMay) (hc : s.writeCheck .twi [⟨chAddr c 0, 0, 1⟩] = 0) :
    Completes (.chDisable c) s fun t =>
    t.chEnabled c = false ∧
    (s.chEnabled c = true → (t.ch c).running = false ∧ (t.ch c).los = true ∧ (t.ch c).chLoss = true ∧
      (t.ch c).hunt = .off) ∧
    t.ch (otherCh c) = s.ch (otherCh c) ∧ SameBut [.words, .channels, .tick, .contacts] s t := by
  refine .of_eq (hostBits_chCfg hm hc) ?_
  have hv : bit (s.cfgWritten c 0 1) 0 = false := by
    rw [bit_cfgWritten, if_pos (by cases c <;> decide)]
    rfl
  generalize s.cfgWritten c 0 1 = v at hv ⊢
  obtain ⟨hput, hcfg⟩ := onlyCh_cfgWrite hs.words c v
  generalize s.putCfg (chAddr c 0) v = u at hput hcfg ⊢
  have hu : OnlyCh [.words, .channels, .tick, .contacts] c s u := hput.mono (by decide)
  have hen : u.chEnabled c = false := by rw [State.chEnabled, State.cfgB, hcfg, hv]
  cases ho : bit (s.cfg (chAddr c 0)) 0 with
  | true =>
    rw [applyCh_stop rfl hv ho]
    have ht : OnlyCh _ c s (((u.stopCh c 1).txUpdate c).emit (.writeStatus 0)).finish := hu.stopCh.txUpdate.emit.finish
    have hwords : (u.stopCh c 1).words = u.words := ((OnlyCh.refl u).stopCh (l := [.channels, .tick])).zones .words (by decide)
    obtain ⟨hrun, hlos, hloss, hhunt⟩ := stopCh_ch u c 1
    obtain ⟨hrun', -, -, hhunt', hlos', hloss'⟩ := txUpdate_rx (u.stopCh c 1) c
    refine ⟨(chEnabled_of_words (by simp [hwords])).trans hen, fun _ => ?_, ht.other, ht.zones⟩
    rw [State.finish_ch, emit_ch]
    exact ⟨hrun'.trans hrun, hlos'.trans hlos, hloss'.trans hloss, hhunt'.trans hhunt⟩
  | false =>
    rw [applyCh_stay rfl (hv.trans ho.symm)]
    have ht : OnlyCh _ c s ((u.txUpdate c).emit (.writeStatus 0)).finish := hu.txUpdate.emit.finish
    refine ⟨(chEnabled_of_words (by simp)).trans hen, fun hon => ?_, ht.other, ht.zones⟩
    exact absurd (ho.symm.trans hon) (by decide)

/-- A READY transmitter of an enabled channel goes OFF when a condition holds it (R113). -/
theorem txUpdate_of_held (hx : (s.ch c).tx = .ready) (hh : s.txHeld c = true) (he : s.chEnabled c = true) :
    s.txUpdate c = s.setTx c .off := by simp [State.txUpdate, hx, hh, he]

theorem completes_txPermitWrite {v : Bool} (hs : s.canonical) (hm : s.hostMay)
    (hc : s.writeCheck .twi [⟨chAddr c 0, if v then 8 else 0, 8⟩] = 0) : Completes (.txPermitWrite c v) s fun t =>
    t.cfgB (chAddr c 0) 3 = v ∧ t.chEnabled c = s.chEnabled c ∧
    (v = false → s.chEnabled c = true → (s.ch c).tx = .ready → (t.ch c).tx = .off) ∧
    t.ch (otherCh c) = s.ch (otherCh c) ∧ SameBut [.words, .channels, .contacts] s t := by
  refine .of_eq (hostBits_chCfg hm hc) ?_
  have h3 : bit (s.cfgWritten c (if v then 8 else 0) 8) 3 = v := by
    rw [bit_cfgWritten, if_pos (by cases c <;> decide)]
    cases v <;> rfl
  have h0 : bit (s.cfgWritten c (if v then 8 else 0) 8) 0 = bit (s.cfg (chAddr c 0)) 0 := by
    rw [bit_cfgWritten, if_neg (by cases c <;> decide)]
  generalize s.cfgWritten c (if v then 8 else 0) 8 = w at h3 h0 ⊢
  obtain ⟨hput, hcfg⟩ := onlyCh_cfgWrite hs.words c w
  have hch : (s.putCfg (chAddr c 0) w).ch c = s.ch c := rfl
  rw [applyCh_stay rfl h0]
  generalize s.putCfg (chAddr c 0) w = u at hput hcfg hch ⊢
  have ht : OnlyCh [.words, .channels, .contacts] c s ((u.txUpdate c).emit (.writeStatus 0)).finish :=
    (hput.mono (by decide)).txUpdate.emit.finish
  have hen : u.chEnabled c = s.chEnabled c := by rw [State.chEnabled, State.cfgB, hcfg, h0]; rfl
  have hperm : u.cfgB (chAddr c 0) 3 = v := by rw [State.cfgB, hcfg, h3]
  refine ⟨?_, (chEnabled_of_words (by simp)).trans hen, fun hv hon hx => ?_, ht.other, ht.zones⟩
  · rw [State.cfgB, cfg_answered rfl, ← State.cfgB, hperm]
  · have hheld : u.txHeld c = true := by simp [State.txHeld, hperm, hv]
    rw [State.finish_ch, emit_ch, txUpdate_of_held (by rw [hch, hx]) hheld (hen.trans hon), setTx_tx]

/-! ### RESET_EQ and RESTART -/

/-- RESET_EQ puts the preset coefficients back (R87). -/
theorem applyCh_resetEq (s : State) (c : Chan) (old : Word) :
    applyCh s c chCtlFound old (2 &&& (3 &&& 2)) = s.modCh c fun x => { x with taps := presetTaps c } := rfl

theorem applyCh_restart (s : State) (c : Chan) (old : Word) :
    applyCh s c chCtlFound old (1 &&& (3 &&& 1)) = s.restartCh c := rfl

theorem completes_resetEq (hm : s.hostMay) (hc : s.writeCheck .twi [⟨chAddr c 1, 2, 2⟩] = 0) :
    Completes (.resetEq c) s fun t =>
    (t.ch c).taps = presetTaps c ∧ (t.ch c).hunt = (s.ch c).hunt ∧
    t.ch (otherCh c) = s.ch (otherCh c) ∧ SameBut [.channels, .contacts] s t := by
  refine .of_eq (hostBits_chCtl hm hc) ?_
  rw [applyCh_resetEq]
  have ht : OnlyCh [.channels, .contacts] c s
      ((s.modCh c fun x => { x with taps := presetTaps c }).emit (.writeStatus 0)).finish :=
    (OnlyCh.refl s).modCh.emit.finish
  refine ⟨?_, ?_, ht.other, ht.zones⟩ <;> simp

theorem domOn_of_power (h : t.power = s.power) (d : Nat) : t.domOn d = s.domOn d := by
  rw [State.domOn, State.dom, h, State.domOn, State.dom]

/-- A one-sided reset makes the counts of its group suspect (R26, R27). -/
theorem suspect_expose {g : Nat} (hg : g < 16) : (s.expose g).tick.suspect.getLsbD g = true := by
  have hbit : (s.expose g).tick.suspect = s.tick.suspect ||| BitVec.ofNat 16 (2 ^ g) := rfl
  rw [hbit, BitVec.getLsbD_or, BitVec.getLsbD_ofNat]
  simp [hg]

theorem expose_words (s : State) (g : Nat) : (s.expose g).words = s.words := rfl
theorem expose_power (s : State) (g : Nat) : (s.expose g).power = s.power := rfl

/-- What a restart keeps in hand until the channel starts again: CHANNEL_LOSS, the suspect counts of the receiver's group, and
whether the channel may run. -/
theorem restart_lost (s : State) (c : Chan) :
    let t := ((s.assertLoss c 2).leaveSync c 3 true).expose (2 * chanN c)
    (t.ch c).chLoss = true ∧ t.tick.suspect.getLsbD (2 * chanN c) = true ∧ t.words = s.words ∧ t.power = s.power := by
  exact ⟨by simp, suspect_expose (by cases c <;> decide), by rw [expose_words]; simp, by rw [expose_power]; simp⟩

theorem setTx_chLoss (s : State) (c : Chan) (x : TxState) : ((s.setTx c x).ch c).chLoss = (s.ch c).chLoss := by
  obtain ⟨w, hw⟩ := setTx_ch s c x
  rw [hw]

/-- A restart loses the channel and what it held, and relocks it where it may run (R119, R123). -/
theorem restartCh_spec (s : State) (c : Chan) :
    let t := s.restartCh c
    (t.ch c).chLoss = true ∧ (t.ch c).hunt = .off ∧ t.tick.suspect.getLsbD (2 * chanN c) = true ∧
    (s.chEnabled c = true → s.domOn (rxDom c) = true → (t.ch c).relocking = true ∧ (t.ch c).cdr = false) := by
  unfold State.restartCh
  extract_lets s1 s2 s3 s4 s5
  obtain ⟨hloss, hsus, hwords, hpower⟩ : (s3.ch c).chLoss = true ∧ s3.tick.suspect.getLsbD (2 * chanN c) = true ∧
    s3.words = s.words ∧ s3.power = s.power := restart_lost s c
  have h4 : (s4.ch c).chLoss = true ∧ s4.tick = s3.tick ∧ s4.words = s3.words ∧ s4.power = s3.power := by
    by_cases hf : (s3.ch c).tx = .fault <;> simp [s4, hf, hloss, setTx_chLoss]
  obtain ⟨hloss4, htick4, hwords4, hpower4⟩ := h4
  have hen : s4.chEnabled c = s.chEnabled c := chEnabled_of_words (hwords4.trans hwords)
  have hon : s4.domOn (rxDom c) = s.domOn (rxDom c) := domOn_of_power (hpower4.trans hpower) _
  have htick5 : s5.tick = s4.tick :=
    (((OnlyCh.refl s4).startCh (fun _ h => h)).ite ((OnlyCh.refl s4).clearCh (fun _ h => h)).restarted).zones .tick
      (by decide)
  obtain ⟨hh, hl⟩ := clearCh_ch s4 c
  obtain ⟨-, hlock, hcdr, hhunt, hlost⟩ := startCh_ch s4 c
  obtain ⟨-, hlock', hcdr', hhunt', -, hloss'⟩ := txUpdate_rx s5 c
  have h5 : (s5.ch c).chLoss = true ∧ (s5.ch c).hunt = .off := by
    unfold s5
    split
    · exact ⟨hlost.trans hloss4, hhunt⟩
    · simp [State.restarted, hh, hl, hloss4]
  refine ⟨hloss'.trans h5.1, hhunt'.trans h5.2, ?_, fun he hd => ?_⟩
  · rw [State.txUpdate_tick, htick5, htick4, hsus]
  · have hs5 : s5 = s4.startCh c := if_pos (by rw [hen, hon, he, hd]; rfl)
    rw [hlock', hcdr', hs5]
    exact ⟨hlock, hcdr⟩

theorem completes_chRestart (hm : s.hostMay) (hc : s.writeCheck .twi [⟨chAddr c 1, 1, 1⟩] = 0) :
    Completes (.chRestart c) s fun t =>
    SameBut enableZones s t ∧ (t.ch c).chLoss = true ∧ (t.ch c).hunt = .off ∧
    t.tick.suspect.getLsbD (2 * chanN c) = true ∧
    (s.chEnabled c = true → s.domOn (rxDom c) = true → (t.ch c).relocking = true ∧ (t.ch c).cdr = false) ∧
    t.ch (otherCh c) = s.ch (otherCh c) := by
  refine .of_eq (hostBits_chCtl hm hc) ?_
  rw [applyCh_restart]
  have ht : OnlyCh enableZones c s ((s.restartCh c).emit (.writeStatus 0)).finish :=
    ((OnlyCh.refl s).restartCh (by decide)).emit.finish
  obtain ⟨hloss, hhunt, hsus, hlock⟩ := restartCh_spec s c
  have htick : (((s.restartCh c).emit (.writeStatus 0)).finish).tick = (s.restartCh c).tick := by
    rw [State.finish_tick]
    rfl
  refine ⟨ht.zones, ?_, ?_, by rw [htick, hsus], fun he hd => ?_, ht.other⟩ <;> rw [State.finish_ch, emit_ch]
  exacts [hloss, hhunt, hlock he hd]

/-- Settles O14, a write at a time. -/
theorem channelControl : Obligations.ChannelControl := fun _ _ hs hm =>
  ⟨completes_chEnable hs hm, completes_chDisable hs hm, fun _ => completes_txPermitWrite hs hm, completes_resetEq hm,
    completes_chRestart hm⟩

end Sys2Proof.Machine
end

section
/-! XGEM frames of a channel in SYNC (O13): what becomes of a header, and the beginning and the end of a reassembly. -/

namespace Sys2Proof.Machine
set_option Elab.async false
variable {s t u : State} {c : Chan} {x : XgemRx}

/-! ### The header (R105) -/

theorem xgemIn_dropped (hd : (s.ch c).payloadDrop = true) : s.xgemIn c x = s := by simp [State.xgemIn, hd]

section
variable (hf : (s.ch c).fsOk = true) (hd : (s.ch c).payloadDrop = false) (hs : s.spoilt (2 * chanN c) 0 = false)
include hf hd hs

theorem xgemIn_bad (hb : x.hec = .bad) :
    s.xgemIn c x = (s.modCh c fun y => { y with payloadDrop := true }).bumpCh c 0x58 1 := by
  simp [State.xgemIn, hf, hd, hs, hb]

/-- A corrected header is counted, and is then a good one: what follows it reads the same fields. -/
theorem xgemIn_corrected (hx : x.hec = .corrected) (hm : x.hdrMarked = false) :
    s.xgemIn c x = (s.bumpCh c 0x56 1).xgemIn c { x with hec := .good } := by
  have hs' : (s.bumpCh c 0x56 1).spoilt (2 * chanN c) 0 = false := hs
  simp [State.xgemIn, hf, hd, hs, hs', hx, hm]
  rfl

theorem xgemIn_idle (hx : x.hec = .good) (hm : x.hdrMarked = false) (hi : x.idle = true) : s.xgemIn c x = s := by
  simp [State.xgemIn, hf, hd, hs, hx, hm, hi]

theorem xgemIn_unbound (hx : x.hec = .good) (hm : x.hdrMarked = false) (hi : x.idle = false) (hp : x.marked = false)
    (ht : s.xgemTargets c x.port.toNat = []) : s.xgemIn c x = s.bumpCh c 0x5C 1 := by
  simp [State.xgemIn, hf, hd, hs, hx, hm, hi, hp, ht]

/-- A frame with receivers is counted for each, may move upstream use to its key, and is reassembled. -/
theorem xgemIn_bound (hx : x.hec = .good) (hm : x.hdrMarked = false) (hi : x.idle = false) (hp : x.marked = false)
    (ht : s.xgemTargets c x.port.toNat ≠ []) :
    let ts := s.xgemTargets c x.port.toNat
    let s1 := s.bumpCh c 0x54 ts.length
    s.xgemIn c x = (if x.keyIndex = 1 || x.keyIndex = 2 then keyInUse c x.keyIndex ts s1 else s1).reassemble c x.port.toNat
      ts x := by
  simp [State.xgemIn, hf, hd, hs, hx, hm, hi, hp]

end

/-! ### The first fragment (R107) -/

theorem keyInUse_eq {k : BitVec 2} {ts : List XTarget} (s : State) :
    ∃ v, keyInUse c k ts s = { s with vonu := v } := by
  induction ts generalizing s with
  | nil => exact ⟨_, rfl⟩
  | cons x ts ih =>
    rw [keyInUse]
    split
    · exact ih s
    · exact ih _

theorem grantCell_of_serves {p : Nat} {k : BitVec 6} {b : Bool} (h7 : p ≠ 7) (hs : s.poolServes p = true)
    (hf : s.freeCells p ≠ 0) : ((s.grantCell p k b).1).isSome := by
  unfold State.grantCell
  simp [h7, hs, hf]

theorem takeCell_of_serves {p : Nat} {k : BitVec 6} {b : Bool} (h7 : p ≠ 7) (hs : s.poolServes p = true)
    (hf : s.freeCells p ≠ 0) (hc : (s.pool p).carried = []) : ((s.takeCell p k b).1).isSome := by
  have h : s.poolCatchUp p = s := by simp [State.poolCatchUp, hc, State.serveCarried]
  rw [State.takeCell, h]
  exact grantCell_of_serves h7 hs hf

theorem takeChain_of_serves {p n : Nat} {k : BitVec 6} (h7 : p ≠ 7) (hs : s.poolServes p = true) (hf : s.freeCells p ≠ 0)
    (hc : (s.pool p).carried = []) (hn : n ≤ 1) : ∃ cells v, State.takeChain p k n [] s = (some cells, v) := by
  obtain rfl | rfl : n = 0 ∨ n = 1 := by omega
  · exact ⟨_, _, rfl⟩
  · obtain ⟨i, hi⟩ := Option.isSome_iff_exists.1 (takeCell_of_serves (k := k) (b := false) h7 hs hf hc)
    refine ⟨[(p, i)], (s.takeCell p k false).2, ?_⟩
    rw [State.takeChain, show s.takeCell p k false = (some i, (s.takeCell p k false).2) from Prod.ext hi rfl]
    rfl

/-- What fits one cell of P9 gets its chain where P9 has a cell. -/
theorem reasmGrow_of_serves {n : Nat} (hs : s.poolServes 9 = true) (hf : s.freeCells 9 ≠ 0)
    (hc : (s.pool 9).carried = []) (hn : n ≤ 2048) :
    ∃ cells v, s.reasmGrow c [] n = (some cells, v) ∧ SameBut poolZones s v := by
  have hneed : (if n > 16000 then 9 else (n + 2047) / 2048) ≤ 1 := by
    rw [if_neg (by omega)]
    omega
  unfold State.reasmGrow
  generalize (if n > 16000 then 9 else (n + 2047) / 2048) = need at hneed ⊢
  have hmin : minN need 8 - ([] : List (Nat × Nat)).length ≤ 1 := by
    obtain rfl | rfl : need = 0 ∨ need = 1 := by omega
    all_goals decide
  obtain ⟨cells, v, hv⟩ := takeChain_of_serves (k := rxCls c) (by decide) hs hf hc hmin
  refine ⟨cells, v, ?_, ((Frame.refl (m := []) s).takeChain.snd hv).zones⟩
  simp only [State.buildChain, hv]
  rw [if_neg (by omega)]
  rfl

/-- A first fragment that is not the last, where its port has nothing in progress. -/
theorem reassemble_first {port : Nat} {ts : List XTarget} {cells : List (Nat × Nat)} (h1 : x.first = true)
    (h2 : x.last = false) (hp : s.partialAt c port = none) (hg : s.reasmGrow c [] x.data.length = (some cells, u)) :
    s.reassemble c port ts x = u.setPartial c port (some
      { pieces := [{ sfc := (s.ch c).sfc64, pos := x.offset, keyIndex := x.keyIndex, data := x.data }], cells
        first := s.timeAtUnit ((s.ch c).frameTime.toNat * stylusU + x.offset * s.eqdU c : Nat) }) := by
  have hdrop : s.reasmDrop c port = s := by simp [State.reasmDrop, hp]
  have hbytes (q : Piece) : pieceBytes ([] ++ [q]) = q.data.length := by simp [pieceBytes, sumN]
  unfold State.reassemble
  simp only [h1, if_true, hdrop, h2, Bool.false_and, Bool.false_eq_true, if_false, State.reasmAdd, hbytes, hg]
  rfl

theorem setPartial_partialAt {port : Nat} {p : Option Partial} (h : SMap.wf (none : Option Partial) (s.ch c).reasm = true) :
    (s.setPartial c port p).partialAt c port = p := by
  rw [State.setPartial, State.partialAt, State.modCh_ch_same]
  exact mget_mput_same _ _ _ _ (keys_sorted h)

theorem onlyCh_setPartial {l : List Zone} {port : Nat} (h : OnlyCh l c s t) (p : Option Partial)
    (hl : .channels ∈ l := by decide) : OnlyCh l c s (t.setPartial c port p) := h.modCh hl

theorem completes_firstFragment (hc : s.canonical) (hsync : s.inSync c = true) (hf : (s.ch c).fsOk = true)
    (hd : (s.ch c).payloadDrop = false) (hs : s.spoilt (2 * chanN c) 0 = false) (hx : x.hec = .good)
    (hm : x.hdrMarked = false) (hi : x.idle = false) (hp : x.marked = false) (ht : s.xgemTargets c x.port.toNat ≠ [])
    (h1 : x.first = true) (h2 : x.last = false) (hlen : x.data.length ≤ 2048) (hnone : s.partialAt c x.port.toNat = none)
    (hserves : s.poolServes 9 = true) (hfree : s.freeCells 9 ≠ 0) (hcar : (s.pool 9).carried = []) :
    Completes (.xgemFrameReceived c x) s fun t =>
    SameBut [.counters, .channels, .vonus, .bursts, .classifier, .queues, .pools, .time, .keys] s t ∧
      (∃ p, t.partialAt c x.port.toNat = some p ∧
        p.pieces = [{ sfc := (s.ch c).sfc64, pos := x.offset, keyIndex := x.keyIndex, data := x.data }]) ∧
      (t.ch c).hunt = .sync ∧ t.ch (otherCh c) = s.ch (otherCh c) := by
  refine .of_eq (xgemIn_bound hf hd hs hx hm hi hp ht) ?_
  generalize s.xgemTargets c x.port.toNat = ts
  generalize hu : (if x.keyIndex = 1 || x.keyIndex = 2 then keyInUse c x.keyIndex ts (s.bumpCh c 0x54 ts.length)
    else s.bumpCh c 0x54 ts.length) = u
  obtain ⟨v, hv⟩ : ∃ v, u = { s.bumpCh c 0x54 ts.length with vonu := v } := by
    rw [← hu]
    split
    exacts [keyInUse_eq _, ⟨s.vonu, rfl⟩]
  have hsu : OnlyCh [.counters, .channels, .vonus, .bursts, .classifier, .queues, .pools, .time, .keys] c s u := by
    rw [hv]
    exact (OnlyCh.refl s).bumpCh.beside (l' := [.vonus]) ((Frame.refl (m := []) _).vonu).zones
  obtain ⟨cells, w, hg, hw⟩ : ∃ cells w, u.reasmGrow c [] x.data.length = (some cells, w) ∧ SameBut poolZones u w :=
    reasmGrow_of_serves (by rw [hv]; exact hserves) (by rw [hv]; exact hfree) (by rw [hv]; exact hcar) hlen
  have hch : u.ch c = s.ch c := by rw [hv]; rfl
  have hchw : w.ch c = s.ch c := by rw [← hch, State.ch, hw .channels (by decide), State.ch]
  rw [reassemble_first h1 h2 (by rw [State.partialAt, hch]; exact hnone) hg, hch]
  have hst := onlyCh_setPartial (hsu.beside hw) (port := x.port.toNat)
  refine ⟨(hst _).zones, ⟨_, setPartial_partialAt ?_, rfl⟩, ?_, (hst _).other⟩
  · rw [hchw]
    exact hc.reasm c
  · rw [State.setPartial, State.modCh_ch_same, hchw]
    exact of_decide_eq_true hsync

/-! ### The end of a reassembly (R107) -/

/-- What an operation on the pools does to the counters of the blocks below theirs, those of the channels among them: it leaves
them as they are, and the counters in order. -/
structure CountsBelow (s t : State) : Prop where
  sorted : (s.counters.now.map (·.1)).Pairwise (· < ·) → (t.counters.now.map (·.1)).Pairwise (· < ·)
  ctr : ∀ a < addrOf 0x40 0, t.ctr a = s.ctr a

namespace CountsBelow

theorem same (h : CountsBelow s t) (he : u.counters = t.counters := by rfl) : CountsBelow s u :=
  ⟨fun hs => he ▸ h.sorted hs, fun a ha => (ctr_of_counters he a).trans (h.ctr a ha)⟩

theorem refl (s : State) : CountsBelow s s := ⟨id, fun _ _ => rfl⟩

theorem ite {b : Prop} [Decidable b] (h : CountsBelow s t) (k : CountsBelow s u) : CountsBelow s (if b then t else u) := by
  split <;> assumption

theorem bump {a n : Nat} (h : CountsBelow s t) (ha : addrOf 0x40 0 ≤ a) : CountsBelow s (t.bump a n) :=
  ⟨fun hs => pairwise_keys_mput (h.sorted hs),
    fun b hb => (State.ctr_bump_other t b a n (Nat.ne_of_lt (hb.trans_le ha))).trans (h.ctr b hb)⟩

theorem raise {code p : Nat} (h : CountsBelow s t) : CountsBelow s (t.raise code p) := by
  have hlog (r : EvRec) {v : State} (hv : CountsBelow s v) : CountsBelow s (v.logWrite r) :=
    hv.ite ((hv.same (by simp)).ite (hv.bump (by decide)))
  have hring : CountsBelow s ((t.ringWrite code p).noteFault code) := h.same (by simp)
  exact (hlog _ hring).ite hring

theorem raiseIf {b : Bool} {code p : Nat} (h : CountsBelow s t) : CountsBelow s (t.raiseIf b code p) := h.raise.ite h

theorem bumpPool {p k n : Nat} (h : CountsBelow s t) : CountsBelow s (t.bump (poolCtr p k) n) :=
  h.bump (by simp only [poolCtr, addrOf]; omega)

/-- An update of the pools or of what watches them. -/
theorem update {bpm : BpmSt} {qs : QSt} {burin : BurinSt} (h : CountsBelow s t) :
    CountsBelow s { t with bpm, qs, burin } := h.same

theorem setPool {p : Nat} {x : Pool} (h : CountsBelow s t) : CountsBelow s (t.setPool p x) := h.update

theorem poolGuards {p : Nat} (h : CountsBelow s t) : CountsBelow s (t.poolGuards p) := h.update.raiseIf.raiseIf

theorem poolChanged {p : Nat} (h : CountsBelow s t) : CountsBelow s (t.poolChanged p) :=
  (h.setPool.update.raiseIf.ite h.setPool).raiseIf.raiseIf.poolGuards

theorem releaseCell {p k : Nat} (h : CountsBelow s t) : CountsBelow s (t.releaseCell p k) := h.setPool.bumpPool.poolChanged

theorem dropRef {p k : Nat} (h : CountsBelow s t) : CountsBelow s (t.dropRef p k) := h.releaseCell.ite h.setPool

theorem refuseCell {cls : BitVec 6} {ptr : BitVec 40} {kind pool : Nat} {x : Cell} (h : CountsBelow s t) :
    CountsBelow s (t.refuseCell cls ptr kind pool x) := by
  unfold State.refuseCell
  extract_lets
  split
  case h_3 => exact (h.update.bump (by decide)).raise
  all_goals exact h.update.bumpPool.raise

theorem freeAt {cls : BitVec 6} {ptr : BitVec 40} {p k : Nat} (h : CountsBelow s t) :
    CountsBelow s (t.freeAt cls ptr p k) := h.refuseCell.ite (h.dropRef.ite (h.releaseCell.ite h.refuseCell))

theorem freeAll {cls : BitVec 6} {cells : List (Nat × Nat)} (h : CountsBelow s t) :
    CountsBelow s (State.freeAll cls cells t) := by
  induction cells generalizing t with
  | nil => exact h
  | cons x l ih => exact ih h.freeAt

end CountsBelow

/-- A reassembly that ends without its last fragment is counted, and its cells are free. -/
theorem reasmDrop_of_partial {port : Nat} {p : Partial} (h : s.partialAt c port = some p) :
    s.reasmDrop c port = ((s.setPartial c port none).freeAll (rxCls c) p.cells).bumpCh c 0x5E 1 := by
  simp [State.reasmDrop, h]

theorem completes_reassemblyTimeout {port : BitVec 16} {p : Partial} (hc : s.canonical)
    (h : s.partialAt c port.toNat = some p) : Completes (.xgemReassemblyTimeout c port) s fun t =>
    t.partialAt c port.toNat = none ∧ t.ctr (chAddr c 0x5E) = s.ctr (chAddr c 0x5E) + 1 ∧
    t.ch (otherCh c) = s.ch (otherCh c) ∧ SameBut [.channels, .counters, .pools, .queues, .bursts] s t := by
  refine .of_eq (reasmDrop_of_partial h) ?_
  have ht : OnlyCh [.channels, .counters, .pools, .queues, .bursts] c s
      (((s.setPartial c port.toNat none).freeAll (rxCls c) p.cells).bumpCh c 0x5E 1) :=
    (onlyCh_setPartial (OnlyCh.refl s) none).freeAll.bumpCh
  obtain ⟨hsorted, hctr⟩ : CountsBelow s ((s.setPartial c port.toNat none).freeAll (rxCls c) p.cells) :=
    ((CountsBelow.refl s).same).freeAll
  have hfree : CellsOnly (s.setPartial c port.toNat none) ((s.setPartial c port.toNat none).freeAll (rxCls c) p.cells) :=
    (CellsOnly.refl _).freeAll
  refine ⟨?_, ?_, ht.other, ht.zones⟩
  · rw [State.partialAt, State.bumpCh_ch, State.ch, hfree.1 .channels (by decide)]
    exact setPartial_partialAt (hc.reasm c)
  · rw [State.bumpCh, State.ctr_bump_same _ _ _ (hsorted (keys_sorted hc.counters)), hctr _ (by cases c <;> decide)]
    rfl

/-! ### The statement -/

theorem completes_badHeader (hc : s.canonical) (hs : s.spoilt (2 * chanN c) 0 = false) (hf : (s.ch c).fsOk = true)
    (hd : (s.ch c).payloadDrop = false) (hb : x.hec = .bad) : Completes (.xgemFrameReceived c x) s fun t =>
      (t.ch c).payloadDrop = true ∧ t.ctr (chAddr c 0x58) = s.ctr (chAddr c 0x58) + 1 ∧
      t.ch (otherCh c) = s.ch (otherCh c) ∧ SameBut [.channels, .counters] s t := by
  refine .of_eq (xgemIn_bad hf hd hs hb) ?_
  have ht : OnlyCh [.channels, .counters] c s ((s.modCh c fun y => { y with payloadDrop := true }).bumpCh c 0x58 1) :=
    (OnlyCh.refl s).modCh.bumpCh
  exact ⟨by simp, State.ctr_bump (s := s.modCh c _) hc.counters _ 1, ht.other, ht.zones⟩

/-- Settles O13: a header by what its check says of it, and a reassembly at its beginning and its end. -/
theorem xgemFrames : Obligations.XgemFrames := by
  intro s c hc hs
  refine ⟨fun x _ _ hd => ⟨_, rfl, xgemIn_dropped hd⟩, fun x hsync hf hd => ⟨?_, ?_, ?_, ?_, ?_⟩,
    fun _ _ => completes_reassemblyTimeout hc⟩
  · exact fun hx hm => congrArg next (xgemIn_corrected hf hd hs hx hm)
  · exact fun hx hm hi => ⟨_, rfl, xgemIn_idle hf hd hs hx hm hi⟩
  · exact completes_badHeader hc hs hf hd
  · exact fun hx hm hi hp ht => .of_eq (xgemIn_unbound hf hd hs hx hm hi hp ht)
      ⟨State.ctr_bump hc.counters _ 1, (OnlyCh.refl (c := c) s).bumpCh.zones⟩
  · exact completes_firstFragment hc hsync hf hd hs

end Sys2Proof.Machine
end

section
/-! Resets, sleep and waking (O45). What every reset leaves is said once, of `State.deviceReset` (`Wiped`); the commands differ
in the state that they reset. A SLEEP whose wait ends settles the domains with the votes of HOST and FW withdrawn
(`Unvoted`) and the key store erased. -/

namespace Sys2Proof.Machine
set_option Elab.async false
variable {s t u : State}

/-! ### What settling leaves of the power state -/

/-- The power state changes in the domains and in the requests to the power die only. -/
def DomsOnly (p q : PowerSt) : Prop := ∃ doms die, q = { p with doms, die }

namespace DomsOnly
variable {p : PowerSt} {d : Nat}

theorem refl (p : PowerSt) : DomsOnly p p := ⟨_, _, rfl⟩

theorem setDom {x : Dom} (h : DomsOnly p s.power) : DomsOnly p (s.setDom d x).power := by
  obtain ⟨doms, die, h⟩ := h
  exact ⟨_, die, by rw [State.setDom_power, h]⟩

theorem dieAsk {on : Bool} (h : DomsOnly p s.power) : DomsOnly p (s.dieAsk d on).power := by
  obtain ⟨doms, die, h⟩ := h
  exact ⟨doms, _, by rw [State.dieAsk, State.modPower_power, h]⟩

theorem raise {code n : Nat} (h : DomsOnly p s.power) : DomsOnly p (s.raise code n).power := by rwa [State.raise_power]

theorem bump {a n : Nat} (h : DomsOnly p s.power) : DomsOnly p (s.bump a n).power := h

theorem ite {b : Prop} [Decidable b] (h : DomsOnly p s.power) (k : DomsOnly p t.power) :
    DomsOnly p (if b then s else t).power := by split <;> assumption

theorem setDomSt {x : DomSt} (h : DomsOnly p s.power) : DomsOnly p (s.setDomSt d x).power := h.ite h.setDom.raise

theorem votesUpdate {l : List Nat} (h : DomsOnly p s.power) : DomsOnly p (votesUpdate l s).power := by
  induction l generalizing s with
  | nil => exact h
  | cons d r ih => exact (ih h).ite (ih (h.setDom.bump.setDom.ite h.setDom))

theorem domStep (h : DomsOnly p s.power) : DomsOnly p (s.domStep d).power := by
  unfold State.domStep
  extract_lets x need
  split
  exacts [h.setDom.setDomSt.dieAsk.ite h, h.ite h.setDom.setDomSt.bump, h.setDom.setDomSt.bump.raise.ite h, h]

theorem domSteps {l : List Nat} (h : DomsOnly p s.power) : DomsOnly p (l.foldl (fun s d => s.domStep d) s).power := by
  induction l generalizing s with
  | nil => exact h
  | cons d r ih => exact ih h.domStep

theorem settle (h : DomsOnly p s.power) : DomsOnly p s.settle.power := h.ite h.votesUpdate.domSteps

end DomsOnly

theorem State.finish_history (s : State) : s.finish.power.history = s.power.history := by
  obtain ⟨doms, die, h⟩ := (DomsOnly.refl s.power).settle
  rw [State.finish, State.guarantee_power, h]

/-! ### What a reset leaves -/

/-- What every reset with a cause leaves, in a phase: what its kind keeps of the state before it, and all else as at reset. -/
def Wiped (s : State) (cause : Nat) (ph : Phase) (t : State) : Prop :=
  t.pending = s.pending ∧ t.phase = ph ∧ t.pins = s.pins ∧ t.legacy = false ∧ t.part = s.part ∧ t.fuses = s.fuses ∧
  t.mram.kept = s.mram.kept ∧ (∀ v, (t.vonuAt v).life = .free) ∧ t.mram.estops = s.mram.estops ∧
  t.power.cause = BitVec.ofNat 3 cause ∧ t.crypto.slots = [] ∧ t.fw.digest = (if cause = 5 then s.fw.digest else none) ∧
  t.bpm = (if cause = 5 then { State.reset.bpm with trainedAt := s.bpm.trainedAt } else State.reset.bpm) ∧
  t.fw.banks.a.image = s.fw.banks.a.image ∧ t.fw.banks.b.image = s.fw.banks.b.image ∧
  (∀ a, t.ctr a = if a = fltCtr 9 then s.mram.safeStates else 0) ∧
  t.fault.outside = s.fault.outside ∧ t.fault.supplyOut = s.fault.supplyOut ∧
  SameBut [.queue, .phase, .straps, .device, .fuses, .words, .counters, .pools, .keys, .images, .contacts, .faults, .lasting]
    State.reset t

theorem sameBut_putCfg (s : State) (a : Nat) (v : Word) : SameBut [.words] s (s.putCfg a v) := fun p hp => by
  cases p <;> simp_all [Zone.same]

theorem deviceReset_ctr (s : State) (cause : Nat) (src : BitVec 3) (ph : Phase) (a : Nat) :
    (s.deviceReset cause src ph).ctr a = if a = fltCtr 9 then s.mram.safeStates else 0 := by
  show mget 0 (mput 0 [] (fltCtr 9) s.mram.safeStates) a = _
  split
  next h => exact h ▸ mget_mput_same 0 [] _ _ .nil
  next h => exact mget_mput_other 0 [] _ _ _ h

theorem deviceReset_bpm (s : State) (cause : Nat) (src : BitVec 3) (ph : Phase) : (s.deviceReset cause src ph).bpm =
    if cause = 5 then { State.reset.bpm with trainedAt := s.bpm.trainedAt } else State.reset.bpm := by
  show { State.reset.bpm with trainedAt := if cause = 5 then s.bpm.trainedAt else State.reset.bpm.trainedAt } = _
  split <;> rfl

theorem wiped_deviceReset (s : State) (cause : Nat) (src : BitVec 3) (ph : Phase) :
    Wiped s cause ph (s.deviceReset cause src ph) := by
  refine ⟨rfl, rfl, rfl, rfl, rfl, rfl, rfl, fun _ => rfl, rfl, rfl, rfl, rfl, deviceReset_bpm .., rfl, rfl,
    deviceReset_ctr s cause src ph, rfl, rfl, fun p hp => ?_⟩
  cases p <;> simp at hp <;> rfl

/-- The configuration of SLEEP lives through every reset but a power-on reset (R464). -/
theorem cfg_deviceReset (s : State) (cause : Nat) (src : BitVec 3) (ph : Phase) : (s.deviceReset cause src ph).cfg sleepCfgAddr =
    if cause = 0 then resetWord sleepCfgAddr else s.cfg sleepCfgAddr := by
  unfold State.deviceReset State.losFill
  rw [cfg_putCfg_other _ _ (by decide), cfg_putCfg_other _ _ (by decide)]
  by_cases h : cause = 0
  · simp [State.cfg, h]
  · simp [State.cfg, h, List.find?_filter]

/-- What a reset keeps of a state does not depend on the commands in hand or on what has left the contacts. -/
theorem Wiped.of_sameBut {cause : Nat} {ph : Phase} (hs : SameBut [.commands, .contacts] s u) (h : Wiped u cause ph t) :
    Wiped s cause ph t := by
  have hqueue : u.pending = s.pending := hs .queue (by simp)
  have hpins : u.pins = s.pins := (hs .straps (by simp)).2
  have hpart : u.part = s.part := hs .device (by simp)
  have hfuses : u.fuses = s.fuses := hs .fuses (by simp)
  have hkept : u.mram.kept = s.mram.kept := (hs .lasting (by simp)).1
  have hestops : u.mram.estops = s.mram.estops := congrArg (·.1) hkept
  have hsafe : u.mram.safeStates = s.mram.safeStates := congrArg (·.2.2.2.2) hkept
  have hfw : u.fw = s.fw := hs .images (by simp)
  have hbpm : u.bpm = s.bpm := hs .pools (by simp)
  have hfound : u.fault.found = s.fault.found := hs .faults (by simp)
  have hout : u.fault.outside = s.fault.outside := show u.fault.found.outside = s.fault.found.outside by rw [hfound]
  have hsupply : u.fault.supplyOut = s.fault.supplyOut := show u.fault.found.supplyOut = s.fault.found.supplyOut by rw [hfound]
  simpa only [Wiped, hqueue, hpins, hpart, hfuses, hkept, hestops, hsafe, hfw, hbpm, hout, hsupply] using h

/-! ### The resets -/

theorem completes_powerOnReset (s : State) : Completes .powerOnReset s fun t =>
    Wiped s 0 .inReset t ∧ t.power.history = 0 ∧ t.cfg sleepCfgAddr = resetWord sleepCfgAddr ∧ t.out = s.out :=
  ⟨_, rfl, wiped_deviceReset s 0 0 .inReset, rfl, cfg_deviceReset s 0 0 .inReset, rfl⟩

theorem completes_resetNAssert (h : s.phase ≠ .inReset) : Completes .resetNAssert s fun t =>
    Wiped s 1 .inReset t ∧ t.power.history = s.power.history ||| 2 ∧ t.cfg sleepCfgAddr = s.cfg sleepCfgAddr ∧
    t.out = s.out :=
  .of_eq (if_neg h) ⟨wiped_deviceReset s 1 0 .inReset, rfl, cfg_deviceReset s 1 0 .inReset, rfl⟩

theorem completes_safeStateReset (h : s.phase = .safe) : Completes .safeStateReset s fun t =>
    Wiped s 3 .internalReset t ∧ t.power.safeCause = s.power.safeCause ∧ t.out = s.out :=
  .of_eq (if_pos h) ⟨wiped_deviceReset s 3 0 .internalReset, rfl, rfl⟩

theorem mark_getLsbD (m : BitVec 2) (b : Bool) : (m ||| BitVec.ofNat 2 (2 ^ b2n b)).getLsbD (b2n b) = true := by
  rw [BitVec.getLsbD_or]
  cases b <;> simp [b2n]

/-- The state that the boot watchdog resets: the bank that started is marked (R467). -/
def State.bootMarked (s : State) : State :=
  { s with fw := { s.fw with failedMark := s.fw.failedMark ||| BitVec.ofNat 2 (2 ^ b2n s.fw.runningBank) } }

theorem completes_bootWatchdogExpiry (hp : s.phase = .booting)
    (hr : s.fw.banks.a.st = .running ∨ s.fw.banks.b.st = .running) : Completes .bootWatchdogExpiry s fun t =>
    Wiped s 4 .internalReset t ∧ t.fw.failedMark.getLsbD (b2n s.fw.runningBank) = true ∧ t.out = s.out :=
  .of_eq (t := s.bootFails) (u := s.bootMarked.deviceReset 4 0 .internalReset) (if_pos (by simpa [hp] using hr))
    ⟨wiped_deviceReset s.bootMarked 4 0 .internalReset, mark_getLsbD _ _, rfl⟩

/-! ### The command reset -/

/-- A write that the port takes and that passes its checks, and blows no fuse, is accepted (R57, R68). -/
theorem hostStatus_ok {ws : List WordIn} (hm : s.hostMay) (hc : s.writeCheck .twi ws = 0)
    (hf : ∀ x ∈ ws, x.addr ≠ addrOf 0x7E 2) : s.hostStatus .twi ws = 0 := by
  have hport : s.cfgB (addrOf 0x01 0x10) (transN .twi) = true := hm.2.2
  have hfuse : (ws.any fun x => decide (x.addr = addrOf 0x7E 2)) = false := by simpa using hf
  simp only [State.hostStatus, hport, hc, hfuse]
  simp [seniorOf, senior, b2n]

/-- An accepted write takes effect and is answered OK. -/
theorem hostWrite_eq {ws : List WordIn} (hm : s.hostMay) (hc : s.writeCheck .twi ws = 0)
    (hf : ∀ x ∈ ws, x.addr ≠ addrOf 0x7E 2) :
    s.hostWrite .twi ws = ((s.writeApply ws).emit (.writeStatus 0)).finish := by
  simp [State.hostWrite, hm.1, hm.2.1, hostStatus_ok hm hc hf]

/-- PWR_RESET_CTL holds nothing and does nothing of itself; the reset is the row's (log 29). -/
theorem execCommandReset_eq {val : Word} (hm : s.hostMay) (hc : s.writeCheck .twi [⟨addrOf 0x70 2, val, all32⟩] = 0) :
    execCommandReset val s = next ((s.emit (.writeStatus 0)).finish.deviceReset 2 0 .internalReset) := by
  have hf : ∀ x ∈ [(⟨addrOf 0x70 2, val, all32⟩ : WordIn)], x.addr ≠ addrOf 0x7E 2 := by simp
  have hn : nameOf (addrOf 0x70 2) = some (.word ⟨.pwrResetCtl, 0, [], 1, all32, 0⟩) := by decide +kernel
  have hw : s.hostWrite .twi (wordsIn (addrOf 0x70 2) [val]) = (s.emit (.writeStatus 0)).finish :=
    (hostWrite_eq hm hc hf).trans (by rw [writeApply_one hn (by decide) rfl rfl]; rfl)
  have ha : s.hostAccepts .twi (wordsIn (addrOf 0x70 2) [val]) = true := by
    simp only [State.hostAccepts, hm.1, hm.2.1, wordsIn, hostStatus_ok hm hc hf]
    rfl
  simp only [execCommandReset, hw, ha, if_true]

theorem completes_commandReset {val : Word} (hm : s.hostMay) (hc : s.writeCheck .twi [⟨addrOf 0x70 2, val, all32⟩] = 0) :
    Completes (.commandReset val) s fun t =>
    Wiped s 2 .internalReset t ∧ t.power.history = s.power.history ||| 4 ∧ t.out = s.out ++ [.writeStatus 0] := by
  have hs : SameBut [.commands, .contacts] s (s.emit (.writeStatus 0)).finish := (Frame.refl (m := []) s).emit.finish.zones
  refine ⟨_, execCommandReset_eq hm hc, (wiped_deviceReset _ 2 0 _).of_sameBut hs, ?_, ?_⟩
  · show (s.emit (.writeStatus 0)).finish.power.history ||| 4 = _
    rw [State.finish_history, State.emit_power]
  · show (s.emit (.writeStatus 0)).finish.out = _
    rw [State.finish_out, State.emit_out]

/-! ### Waking -/

/-- An armed source wakes a device that is asleep (R460). -/
theorem wake_asleep {k : Nat} (hp : s.phase = .asleep) (ha : s.power.wakeArmed = true) (hk : s.power.wakeMask.getLsbD k = true) :
    s.wake k = s.deviceReset 5 (BitVec.ofNat 3 (2 ^ k)) .internalReset := by
  simp [State.wake, hp, ha, hk]

/-- A source that fires while the internal reset of a wake lasts is named beside the first (R461). -/
theorem wake_waking {k : Nat} (hp : s.phase = .internalReset) (hc : s.power.cause = 5) (hk : s.power.wakeMask.getLsbD k = true) :
    s.wake k = s.modPower fun p => { p with wakeSrc := p.wakeSrc ||| BitVec.ofNat 3 (2 ^ k) } := by
  simp [State.wake, hp, hc, hk]

theorem wakeContact_of_not_sleeping (h : s.phase ≠ .sleeping) : s.wakeContact = s.wake 1 := if_neg h

theorem completes_wakeAddressMatch (hp : s.phase = .asleep) (ha : s.power.wakeArmed = true)
    (hk : s.power.wakeMask.getLsbD 0 = true) : Completes .wakeAddressMatch s fun t =>
    Wiped s 5 .internalReset t ∧ t.power.wakeSrc = 1 ∧ t.out = s.out ++ [.twiByteNack] := by
  refine .of_eq (u := (s.emit .twiByteNack).deviceReset 5 1 .internalReset) ?_
    ⟨wiped_deviceReset (s.emit .twiByteNack) 5 1 .internalReset, rfl, rfl⟩
  rw [if_pos hp, State.wakeAddress, ha, hk]
  exact wake_asleep (s := s.emit .twiByteNack) hp ha hk

theorem completes_wakeN (hp : s.phase = .asleep) (ha : s.power.wakeArmed = true) (hk : s.power.wakeMask.getLsbD 1 = true) :
    Completes .wakeN s fun t => Wiped s 5 .internalReset t ∧ t.power.wakeSrc = 2 ∧ t.out = s.out :=
  .of_eq ((wakeContact_of_not_sleeping (by simp [hp])).trans (wake_asleep hp ha hk))
    ⟨wiped_deviceReset s 5 2 .internalReset, rfl, rfl⟩

theorem completes_aonTimerWake (hp : s.phase = .asleep) (ha : s.power.wakeArmed = true) (hk : s.power.wakeMask.getLsbD 2 = true) :
    Completes .aonTimerWake s fun t => Wiped s 5 .internalReset t ∧ t.power.wakeSrc = 4 ∧ t.out = s.out :=
  .of_eq (wake_asleep hp ha hk) ⟨wiped_deviceReset s 5 4 .internalReset, rfl, rfl⟩

theorem wakeAddress_unarmed (ha : (s.power.wakeArmed && s.power.wakeMask.getLsbD 0) = false) :
    s.wakeAddress = s.emit .twiNack := by
  rw [State.wakeAddress, if_neg (by rw [ha]; decide)]

/-- The address is not acknowledged where its source is not armed (R42, R460). -/
theorem completes_wakeAddressMatch_unarmed (hp : s.phase = .asleep)
    (ha : (s.power.wakeArmed && s.power.wakeMask.getLsbD 0) = false) :
    Completes .wakeAddressMatch s fun t => t.out = s.out ++ [.twiNack] ∧ SameBut [.contacts] s t :=
  .of_eq ((if_pos hp).trans (wakeAddress_unarmed ha)) ⟨rfl, (Frame.refl (m := []) s).emit.zones⟩

theorem sameBut_modPower (s : State) {f : PowerSt → PowerSt} (hf : (f s.power).life = s.power.life) :
    SameBut [] s (s.modPower f) := fun p _ => by
  cases p <;> simp [Zone.same, hf]

theorem completes_wakeN_sleeping (hp : s.phase = .sleeping) :
    Completes .wakeN s fun t => t.power.wakeLow = true ∧ SameBut [] s t :=
  .of_eq (if_pos hp) ⟨rfl, sameBut_modPower s rfl⟩

theorem completes_wake_again {src : BitVec 2} (hsrc : src ≠ 3) (hp : s.phase = .internalReset) (hc : s.power.cause = 5)
    (hk : s.power.wakeMask.getLsbD src.toNat = true) :
    Completes (if src = 0 then .wakeAddressMatch else if src = 1 then .wakeN else .aonTimerWake) s fun t =>
    t.power.wakeSrc = s.power.wakeSrc ||| BitVec.ofNat 3 (2 ^ src.toNat) ∧ SameBut [] s t := by
  have h := wake_waking hp hc hk
  obtain rfl | rfl | rfl : src = 0 ∨ src = 1 ∨ src = 2 := by clear h hk; revert src; decide
  · exact .of_eq ((if_neg (c := s.phase = .asleep) (by simp [hp])).trans h) ⟨rfl, sameBut_modPower s rfl⟩
  · exact .of_eq ((wakeContact_of_not_sleeping (by simp [hp])).trans h) ⟨rfl, sameBut_modPower s rfl⟩
  · exact .of_eq h ⟨rfl, sameBut_modPower s rfl⟩

/-! ### The wait after SLEEP -/

/-- None of some domains holds a vote of HOST or FW. -/
structure Unvoted (l : List Nat) (s : State) : Prop where
  wf : SMap.wf Dom.off s.power.doms = true
  votes : ∀ d ∈ l, (s.dom d).votes &&& 3 = 0

namespace Unvoted
variable {l r : List Nat} {d : Nat}

theorem of_power (h : Unvoted l s) (hp : t.power.doms = s.power.doms) : Unvoted l t :=
  ⟨hp ▸ h.wf, fun d hd => by rw [State.dom, hp]; exact h.votes d hd⟩

theorem raise {code n : Nat} (h : Unvoted l s) : Unvoted l (s.raise code n) := h.of_power (by rw [State.raise_power])

theorem setDom {x : Dom} (h : Unvoted l s) (hx : d ∈ l → x.votes &&& 3 = 0) : Unvoted l (s.setDom d x) := by
  refine ⟨mput_wf d x h.wf, fun e he => ?_⟩
  by_cases hed : e = d
  · subst hed
    rw [State.dom, State.setDom_power, mget_mput_same _ _ _ _ (keys_sorted h.wf)]
    exact hx he
  · rw [State.dom, State.setDom_power, mget_mput_other _ _ _ _ _ hed]
    exact h.votes e he

/-- An update of a domain beside its votes. -/
theorem modDom {f : Dom → Dom} (h : Unvoted l s) (hf : ∀ x, (f x).votes = x.votes := by intro _; rfl) :
    Unvoted l (s.modDom d f) := h.setDom fun hd => by rw [hf]; exact h.votes d hd

theorem ite {b : Prop} [Decidable b] (h : Unvoted l s) (k : Unvoted l t) : Unvoted l (if b then s else t) := by
  split <;> assumption

theorem setDomSt {x : DomSt} (h : Unvoted l s) : Unvoted l (s.setDomSt d x) := h.ite h.modDom.raise

theorem domStep (h : Unvoted l s) : Unvoted l (s.domStep d) := by
  unfold State.domStep
  extract_lets x need
  split
  · refine .ite ?_ h
    exact (h.modDom.setDomSt (d := d) (x := .poweringUp)).of_power rfl
  · refine .ite h ?_
    exact (h.modDom.setDomSt (d := d) (x := .shuttingDown)).of_power rfl
  · exact ((h.modDom.setDomSt (d := d) (x := .on)).of_power (t := (State.setDomSt _ d .on).bump _ 1) rfl).raise.ite h
  · exact h

theorem domSteps (h : Unvoted l s) : Unvoted l (r.foldl (fun s d => s.domStep d) s) := by
  induction r generalizing s with
  | nil => exact h
  | cons d r ih => exact ih h.domStep

theorem clientVotes_mod (s : State) (d : Nat) : s.clientVotes d % 4 = 0 := by
  simp only [State.clientVotes, put]
  omega

theorem votes_and_three {v : BitVec 9} {n : Nat} (hn : n % 4 = 0) (hv : v &&& 3 = 0) :
    (v &&& 3 ||| BitVec.ofNat 9 n) &&& 3 = 0 := by
  rw [hv, show 0 ||| BitVec.ofNat 9 n = BitVec.ofNat 9 n from BitVec.zero_or]
  apply BitVec.eq_of_toNat_eq
  rw [BitVec.toNat_and, BitVec.toNat_ofNat]
  show n % 2 ^ 9 &&& 2 ^ 2 - 1 = 0
  rw [Nat.and_two_pow_sub_one_eq_mod]
  omega

theorem votesUpdate (h : Unvoted l s) : Unvoted l (votesUpdate r s) := by
  induction r generalizing s with
  | nil => exact h
  | cons d r ih =>
    have hd := h.setDom (d := d) (x := { s.dom d with votes := (s.dom d).votes &&& 3 ||| BitVec.ofNat 9 (s.clientVotes d) })
      fun hd => votes_and_three (clientVotes_mod s d) (h.votes d hd)
    exact (ih h).ite (ih ((hd.of_power (t := State.bump _ _ _) rfl).modDom.ite hd))

theorem settle (h : Unvoted l s) : Unvoted l s.settle := h.ite h.votesUpdate.domSteps

theorem eraseStore (h : Unvoted l s) : Unvoted l s.eraseStore := h.of_power rfl

/-- The votes of HOST and FW are withdrawn from one domain more. -/
theorem withdraw (h : Unvoted l s) : Unvoted (d :: l) (s.modDom d fun x => { x with votes := x.votes &&& ~~~3#9 }) := by
  have hd : ∀ v : BitVec 9, v &&& ~~~3#9 &&& 3 = 0 := by decide
  have hl := h.setDom (d := d) (x := { s.dom d with votes := (s.dom d).votes &&& ~~~3#9 }) fun _ => hd _
  refine ⟨hl.wf, fun e he => ?_⟩
  obtain rfl | he := List.mem_cons.1 he
  · rw [State.dom, State.modDom, State.setDom_power, mget_mput_same _ _ _ _ (keys_sorted h.wf)]
    exact hd _
  · exact hl.votes e he

end Unvoted

/-- The votes of HOST and FW are withdrawn from some domains (R459). -/
def State.withdrawVotes (s : State) (l : List Nat) : State :=
  l.foldl (fun s d => s.modDom d fun x => { x with votes := x.votes &&& ~~~3#9 }) s

theorem sameBut_withdrawVotes (s : State) (l : List Nat) : SameBut [] s (s.withdrawVotes l) := by
  induction l generalizing s with
  | nil => exact .refl _ s
  | cons d r ih =>
    refine SameBut.trans (t := s.modDom d fun x => { x with votes := x.votes &&& ~~~3#9 }) (fun p _ => ?_) (ih _)
    cases p <;> simp [Zone.same, State.modDom]

theorem unvoted_withdrawVotes {r : List Nat} (l : List Nat) (h : Unvoted r s) : Unvoted (l.reverse ++ r) (s.withdrawVotes l) := by
  induction l generalizing s r with
  | nil => exact h
  | cons d l ih =>
    rw [List.reverse_cons, List.append_assoc]
    exact ih h.withdraw

/-- The slots that an erasure leaves are empty, or hold the default set (R410, R411). -/
theorem eraseStore_slot (s : State) (i : Nat) : s.eraseStore.slot i = Slot.empty ∨ s.eraseStore.slot i = defaultSlot := by
  have key : ∀ (l : List (Nat × Vonu)) (m : SMap Slot), (∀ e ∈ m, e.2 = defaultSlot) →
      ∀ e ∈ l.foldl (fun m e =>
        mput Slot.empty (mput Slot.empty m (mgmtSlot e.1 0) defaultSlot) (mgmtSlot e.1 1) defaultSlot) m, e.2 = defaultSlot := by
    intro l
    induction l with
    | nil => exact fun _ h => h
    | cons v l ih =>
      refine fun m hm => ih _ fun e he => ?_
      obtain ⟨rfl, -⟩ | he := mem_mput he
      · rfl
      obtain ⟨rfl, -⟩ | he := mem_mput he
      · rfl
      · exact hm e he
  obtain h | ⟨e, he, h⟩ := mget_mem (d := Slot.empty) (m := s.eraseStore.crypto.slots) (i := i)
  · exact .inl h
  · exact .inr (h.trans (key _ [] (by simp) e he))

theorem sameBut_eraseStore (s : State) : SameBut [.keys] s s.eraseStore := fun p hp => by
  cases p <;> simp_all [Zone.same, State.eraseStore]
  exact fun _ _ => rfl

/-- The state in which a SLEEP begins to shut the domains down. -/
def State.fallingAsleep (s : State) : State :=
  { s with phase := .sleeping, cmd := { s.cmd with wait := none } }

theorem sameBut_fallingAsleep (s : State) : SameBut [.phase, .commands] s s.fallingAsleep := fun p hp => by
  cases p <;> simp_all [Zone.same, State.fallingAsleep]
  exact fun _ _ => rfl

theorem endWait_sleep {w : WaitSt} (hw : s.cmd.wait = some w) (hr : s.leg.restart = false) (hs : w.what = .sleep) :
    s.waitEnds = (s.fallingAsleep.withdrawVotes domOrder).eraseStore.settle := by
  simp only [State.waitEnds, hr, State.endWait, hw, hs]
  rfl

theorem endWait_reset {w : WaitSt} (hw : s.cmd.wait = some w) (hr : s.leg.restart = false) (hs : w.what = .reset) :
    s.waitEnds = State.deviceReset { s with cmd := { s.cmd with wait := none } } 2 0 .internalReset := by
  simp only [State.waitEnds, hr, State.endWait, hw, hs]
  rfl

theorem completes_sleepWaitEnd_reset {w : WaitSt} (hw : s.cmd.wait = some w) (hr : s.leg.restart = false) (hs : w.what = .reset) :
    Completes .sleepWaitEnd s fun t => Wiped s 2 .internalReset t ∧ t.out = s.out :=
  .of_eq (endWait_reset hw hr hs)
    ⟨wiped_deviceReset { s with cmd := { s.cmd with wait := none } } 2 0 .internalReset, rfl⟩

theorem completes_sleepWaitEnd_sleep {w : WaitSt} (hc : s.canonical) (hw : s.cmd.wait = some w) (hr : s.leg.restart = false)
    (hs : w.what = .sleep) : Completes .sleepWaitEnd s fun t =>
    t.phase = .sleeping ∧ t.cmd.wait = none ∧ (∀ d ∈ domOrder, (t.dom d).votes &&& 3 = 0) ∧
    (∀ i, t.slot i = Slot.empty ∨ t.slot i = defaultSlot) ∧ SameBut [.phase, .commands, .keys] s t := by
  refine .of_eq (endWait_sleep hw hr hs) ?_
  have hvotes : Unvoted (domOrder.reverse ++ []) (s.fallingAsleep.withdrawVotes domOrder) :=
    unvoted_withdrawVotes domOrder ⟨hc.doms, by simp⟩
  have h1 := sameBut_withdrawVotes s.fallingAsleep domOrder
  have hall : SameBut [.keys] s.fallingAsleep (s.fallingAsleep.withdrawVotes domOrder).eraseStore.settle :=
    ((h1.mono (by simp)).trans (sameBut_eraseStore _)).trans (sameBut_settle _ _)
  refine ⟨hall .phase (by simp), congrArg CmdSt.wait (hall .commands (by simp)), fun d hd => ?_, fun i => ?_,
    ((sameBut_fallingAsleep s).mono (by simp)).trans (hall.mono (by simp))⟩
  · exact hvotes.eraseStore.settle.votes d (by simpa using hd)
  · rw [State.slot, State.settle_crypto]
    exact eraseStore_slot _ i

/-- Settles O45: what every reset leaves is `wiped_deviceReset`, and each command is a reset, a wake or the start of a sleep. -/
theorem resetsAndSleep : Obligations.ResetsAndSleep := fun s hs =>
  ⟨completes_powerOnReset s, completes_resetNAssert, fun _ => completes_commandReset, completes_safeStateReset,
    completes_bootWatchdogExpiry,
    fun hp ha => ⟨completes_wakeAddressMatch hp ha, completes_wakeN hp ha, completes_aonTimerWake hp ha⟩,
    completes_wakeAddressMatch_unarmed, completes_wakeN_sleeping, fun _ => completes_wake_again,
    fun _ hw hr => ⟨completes_sleepWaitEnd_reset hw hr, completes_sleepWaitEnd_sleep hs hw hr⟩⟩

end Sys2Proof.Machine
end

section
/-! The records of the vONUs (O15 to O18). Most operations on the vONUs leave their records alone, and the power domains with
them: `Aside`. The others change one vONU's record on one channel: `Sets` says what it becomes. Each operation has one lemma,
proved by citing those of the operations that it calls. -/

namespace Sys2Proof.Machine
set_option Elab.async false
variable {l l' : List Zone} {s t u : State} {v : Nat} {c : Chan} {y : VCh}

/-! ### What an allocation and an emergency stop write -/

/-- A search that finds nothing has looked at every number of its range. -/
theorem of_firstFrom_none {p : Nat → Bool} {n i : Nat} (h : firstFrom p n i = none) {k : Nat} (hi : i ≤ k) (hk : k < i + n) :
    p k = false := by
  induction n generalizing i with
  | zero => omega
  | succ n ih =>
    rw [firstFrom] at h
    split at h
    · cases h
    next hp =>
      obtain rfl | hi := Nat.eq_or_lt_of_le hi
      · simpa using hp
      · exact ih h hi (by omega)

/-- An allocation fills one entry, and reports it where no map entry chose it; only where none is free it fills none (R243). -/
theorem allocBind_spec (s : State) (v : VId) (c : Chan) (id : BitVec 14) (d : Bool) :
    let e : AllocE := { allocId := id, vonu := v, chan := c }
    (∃ k, s.allocBind v c id d = s.setAlloc k (some e)) ∨
    (∃ k code n, s.allocBind v c id d = (s.setAlloc k (some e)).raise code n) ∨
    (s.allocBind v c id d = s ∧ ∀ k, k < 8192 → s.allocAt k ≠ none) := by
  intro e
  have key : ∀ b m,
      let t := match (firstFrom m 8192 0).orElse fun _ => firstFrom (fun k => (s.allocAt k).isNone) 8192 0 with
        | some k => (s.setAlloc k (some e)).raise 0x0604
            (pCh c + put 62 1 b + put 48 13 k + put 32 9 v.toNat + put 0 14 id.toNat)
        | none => s
      (∃ k, t = s.setAlloc k (some e)) ∨ (∃ k code n, t = (s.setAlloc k (some e)).raise code n) ∨
        (t = s ∧ ∀ k, k < 8192 → s.allocAt k ≠ none) := by
    intro b m
    dsimp only
    split
    next k _ => exact .inr (.inl ⟨k, _, _, rfl⟩)
    next hnone =>
      refine .inr (.inr ⟨rfl, fun k hk hfree => ?_⟩)
      have := of_firstFrom_none ((Option.orElse_eq_none _ _).1 hnone).2 (Nat.zero_le k) (by omega)
      simp [hfree] at this
  unfold State.allocBind
  cases s.mapFor v c id d with
  | none => exact key _ _
  | some k =>
    dsimp only
    cases (s.allocAt k).isNone with
    | true => exact .inl ⟨k, rfl⟩
    | false => exact key _ _

/-- A record of an emergency stop is the newest in the store; where the store was full, the oldest that no vONU holds has gone,
with a report (R138, R139). -/
theorem estopWrite_spec (s : State) (sn : BitVec 64) (c : Chan) :
    (∃ l, s.estopWrite sn c = State.cfgStoreWrite { s with mram := { s.mram with estops := l ++ [{ sn, chan := c }] } }) ∨
    (∃ l x code n, x.vonus = s.vonu.vonus ∧ s.estopWrite sn c =
      (State.cfgStoreWrite { s with mram := { s.mram with estops := l ++ [{ sn, chan := c }] }, vonu := x }).raise code n) := by
  unfold State.estopWrite
  extract_lets r put
  split
  · exact .inl ⟨without s.mram.estops r, rfl⟩
  · split
    next x _ =>
      exact .inr ⟨without (s.mram.estops.erase x) r, { s.vonu with lastEvicted := x.chan = .b }, 0x030D, x.sn.toNat, rfl, rfl⟩
    · exact .inl ⟨without s.mram.estops r, rfl⟩

/-! ### Beside the records -/

/-- Every part but those of `l` is the same, and so are the vONUs' records and the power domains. -/
structure Aside (l : List Zone) (s t : State) : Prop where
  zones : SameBut l s t
  records : t.vonu.vonus = s.vonu.vonus
  power : t.power = s.power

namespace Aside

theorem refl (s : State) : Aside l s s := ⟨.refl l s, rfl, rfl⟩

theorem trans (h : Aside l s t) (k : Aside l t u) : Aside l s u :=
  ⟨h.zones.trans k.zones, k.records.trans h.records, k.power.trans h.power⟩

theorem mono (h : Aside l' s t) (hl : ∀ p ∈ l', p ∈ l) : Aside l s t := ⟨h.zones.mono hl, h.records, h.power⟩

theorem ite {b : Prop} [Decidable b] (h : Aside l s t) (k : Aside l s u) : Aside l s (if b then t else u) := by
  split <;> assumption

theorem sndIte {α : Type} {p q : α × State} {b : Prop} [Decidable b] (h : Aside l s p.2) (k : Aside l s q.2) :
    Aside l s (if b then p else q).2 := by split <;> assumption

/-- An operation that leaves the vONUs alone. -/
theorem beside (h : Aside l s t) (k : SameBut l' t u) (hp : u.power = t.power) (hl : ∀ p ∈ l', p ∈ l)
    (hv : .vonus ∉ l' := by decide) : Aside l s u :=
  h.trans ⟨k.mono hl, congrArg VonuSt.vonus (k .vonus hv), hp⟩

theorem raise {code p} (h : Aside l s t) : Aside l s (t.raise code p) :=
  h.beside (sameBut_raise [] t code p) (State.raise_power ..) (by simp)

theorem raiseIf {b code p} (h : Aside l s t) : Aside l s (t.raiseIf b code p) := by
  unfold State.raiseIf
  split
  exacts [h.raise, h]

theorem bump {a n} (h : Aside l s t) (hl : .counters ∈ l := by decide) : Aside l s (t.bump a n) :=
  h.beside (l' := [.counters]) (fun p hp => by cases p <;> simp_all [Zone.same]) rfl (by simpa using hl)

theorem setSlot {i x} (h : Aside l s t) (hl : .keys ∈ l := by decide) : Aside l s (t.setSlot i x) :=
  h.beside (l' := [.keys]) (fun p hp => by cases p <;> simp_all [Zone.same]) rfl (by simpa using hl)

theorem setStage {i x} (h : Aside l s t) (hl : .bursts ∈ l := by decide) : Aside l s (t.setStage i x) :=
  h.beside (l' := [.bursts]) (fun p hp => by cases p <;> simp_all [Zone.same]) rfl (by simpa using hl)

theorem modB {c f} (h : Aside l s t) (hl : .bursts ∈ l := by decide) : Aside l s (t.modB c f) :=
  h.beside (l' := [.bursts]) (fun p hp => by cases p <;> simp_all [Zone.same]) rfl (by simpa using hl)

theorem freeCount {n} (h : Aside l s t) : Aside l s { t with freeCount := n } :=
  h.beside (l' := []) (fun p _ => by cases p <;> simp [Zone.same]; exact fun _ _ => rfl) rfl (by simp)

/-- An update of the vONUs' part beside their records. -/
theorem vonu {x : VonuSt} (h : Aside l s t) (hx : x.vonus = t.vonu.vonus := by rfl) (hl : .vonus ∈ l := by decide) :
    Aside l s { t with vonu := x } :=
  h.trans ⟨fun p hp => by cases p <;> simp_all [Zone.same]; exact fun _ _ => rfl, hx, rfl⟩

theorem freeAll {cls cells} (h : Aside l s t) (hl : ∀ p ∈ poolZones, p ∈ l := by decide) :
    Aside l s (State.freeAll cls cells t) := h.beside (CellsOnly.refl t).freeAll.1 (CellsOnly.refl t).freeAll.2 hl

/-! ### Keys -/

theorem eraseSlot {i} (h : Aside l s t) (hl : .keys ∈ l := by decide) : Aside l s (t.eraseSlot i) := h.setSlot hl

theorem useKey {i n} (h : Aside l s t) (hl : .keys ∈ l := by decide) : Aside l s (t.useKey i n) := h.ite (h.setSlot hl)

theorem keyBegin {slot n} (h : Aside l s t) (hk : .keys ∈ l := by decide) (hc : .counters ∈ l := by decide) :
    Aside l s (t.keyBegin slot n).2 := sndIte h (sndIte (h.bump hc) (h.useKey hk))

theorem drawKey {slot} (h : Aside l s t) (hk : .keys ∈ l := by decide) (hc : .counters ∈ l := by decide) :
    Aside l s (t.drawKey slot) := (h.freeCount.setSlot hk).bump hc

/-! ### Allocations -/

theorem setAlloc {i a} (h : Aside l s t) (hl : .vonus ∈ l := by decide) : Aside l s (t.setAlloc i a) := h.vonu rfl hl

/-- The parts that an entry's release may change: those of its staged cells, and the entries. -/
theorem allocRelease {i} (h : Aside l s t) (hl : ∀ p ∈ Frame.releaseZones, p ∈ l := by decide) :
    Aside l s (t.allocRelease i) := by
  unfold State.allocRelease State.stageFlush
  split
  · exact (((h.bump (hl _ (by decide))).setStage (hl _ (by decide))).freeAll
      fun p hp => hl p (List.mem_cons_of_mem _ hp)).setAlloc (hl _ (by decide))
  · exact h

theorem allocReleaseAll {v c} (h : Aside l s t) (hl : ∀ p ∈ Frame.releaseZones, p ∈ l := by decide) :
    Aside l s (t.allocReleaseAll v c) := by
  unfold State.allocReleaseAll
  extract_lets mine
  induction mine generalizing t with
  | nil => exact h
  | cons e r ih => exact ih (h.allocRelease hl)

theorem allocReleaseDefault {v c} (h : Aside l s t) (hl : ∀ p ∈ Frame.releaseZones, p ∈ l := by decide) :
    Aside l s (t.allocReleaseDefault v c) := by
  unfold State.allocReleaseDefault
  split
  · split
    exacts [(h.allocRelease hl).ite h, h]
  · exact h

theorem allocBind {v c id d} (h : Aside l s t) (hl : .vonus ∈ l := by decide) : Aside l s (t.allocBind v c id d) := by
  obtain ⟨k, he⟩ | ⟨k, code, n, he⟩ | ⟨he, -⟩ := allocBind_spec t v c id d
  all_goals rw [he]
  exacts [h.setAlloc hl, (h.setAlloc hl).raise, h]

theorem allocTry {v c id d} (h : Aside l s t) (hl : .vonus ∈ l := by decide) : Aside l s (t.allocTry v c id d).2 := by
  unfold State.allocTry
  extract_lets pv
  generalize (if t.legacy then 16 else 64) = n
  split
  · split_ifs <;> dsimp only
    exacts [h, h.raise]
  · split_ifs <;> dsimp only
    exacts [h.raise, h.raise, h.allocBind hl]

/-! ### Reports, tables and emergency stops -/

theorem reportMoves {c before cause} (h : Aside l s t) (hl : .vonus ∈ l := by decide) :
    Aside l s (t.reportMoves c before cause) := h.vonu rfl hl

theorem stampVonu {c v} (h : Aside l s t) (hl : .bursts ∈ l := by decide) : Aside l s (t.stampVonu c v) := by
  unfold State.stampVonu
  exact h.modB hl

theorem tuningDone {c ok v} (h : Aside l s t) : Aside l s (t.tuningDone c ok v) := h.raise

theorem eqdCheck {v c} (h : Aside l s t) : Aside l s (t.eqdCheck v c) := by
  unfold State.eqdCheck
  split
  · split
    exacts [h.raiseIf, h]
  · exact h

/-- An update of what MRAM keeps. -/
theorem mram {x} (h : Aside l s t) (hl : .lasting ∈ l := by decide) : Aside l s { t with mram := x } :=
  h.beside (l' := [.lasting]) (fun p hp => by cases p <;> simp_all [Zone.same]; exact fun _ _ => rfl) rfl (by simpa using hl)

theorem cfgStoreWrite (h : Aside l s t) : Aside l s t.cfgStoreWrite :=
  h.freeCount.beside (l' := []) (u := t.cfgStoreWrite) (fun p _ => by
    cases p <;> simp [Zone.same, State.cfgStoreWrite, State.fresh]
    exact fun a _ => (State.mramWrite_ctr _ _ _).trans rfl) (State.mramWrite_power ..) (by simp)

theorem estopWrite {sn c} (h : Aside l s t) (hl : .lasting ∈ l := by decide) (hv : .vonus ∈ l := by decide) :
    Aside l s (t.estopWrite sn c) := by
  obtain ⟨m, he⟩ | ⟨m, x, code, n, hx, he⟩ := estopWrite_spec t sn c
  · rw [he]
    exact (h.mram hl).cfgStoreWrite
  · rw [he]
    have hm : Aside l s { t with mram := { t.mram with estops := m ++ [{ sn, chan := c }] } } := h.mram hl
    exact (hm.vonu hx hv).cfgStoreWrite.raise

theorem estopErase {sn c} (h : Aside l s t) (hl : .lasting ∈ l := by decide) : Aside l s (t.estopErase sn c) := by
  unfold State.estopErase
  exact (h.mram hl).cfgStoreWrite.ite h

end Aside

/-! ### One record -/

/-- From `s` to `t` the record of vONU `v` on channel `c` becomes `y`. Every part but those of `l` is the same, and so are the
rest of the vONU's record and the power domains. -/
structure Sets (l : List Zone) (v : Nat) (c : Chan) (s t : State) (y : VCh) : Prop where
  zones : SameBut l s t
  power : t.power = s.power
  wf : SMap.wf Vonu.none t.vonu.vonus = true
  record : t.vonuAt v = { s.vonuAt v with ch := (s.vonuAt v).ch.set c y }

theorem vonuAt_setVonu (h : SMap.wf Vonu.none s.vonu.vonus = true) (v : Nat) (x : Vonu) : (s.setVonu v x).vonuAt v = x :=
  mget_mput_same _ _ _ _ (keys_sorted h)

theorem vonuAt_modVch (h : SMap.wf Vonu.none s.vonu.vonus = true) (v : Nat) (c : Chan) (f : VCh → VCh) :
    (s.modVch v c f).vonuAt v = { s.vonuAt v with ch := (s.vonuAt v).ch.set c (f (s.vch v c)) } := vonuAt_setVonu h v _

namespace Sets

theorem refl (h : SMap.wf Vonu.none s.vonu.vonus = true) : Sets l v c s s (s.vch v c) := by
  refine ⟨.refl l s, rfl, h, ?_⟩
  rw [State.vch, Two.set_get]

theorem vch (h : Sets l v c s t y) : t.vch v c = y := by simp [State.vch, h.record]

theorem vch_other (h : Sets l v c s t y) : t.vch v (otherCh c) = s.vch v (otherCh c) := by simp [State.vch, h.record]

theorem mono (h : Sets l' v c s t y) (hl : ∀ p ∈ l', p ∈ l) : Sets l v c s t y := ⟨h.zones.mono hl, h.power, h.wf, h.record⟩

/-- An operation beside the records. -/
theorem beside (h : Sets l v c s t y) (k : Aside l t u) : Sets l v c s u y :=
  ⟨h.zones.trans k.zones, k.power.trans h.power, k.records ▸ h.wf, by rw [State.vonuAt, k.records]; exact h.record⟩

theorem modVch {f : VCh → VCh} (h : Sets l v c s t y) (hl : .vonus ∈ l := by decide) :
    Sets l v c s (t.modVch v c f) (f y) := by
  refine ⟨h.zones.trans fun p hp => ?_, h.power, mput_wf _ _ h.wf, ?_⟩
  · cases p <;> simp_all [Zone.same]
  · rw [vonuAt_modVch h.wf, h.vch, h.record, Two.set_set]

theorem ite {b : Prop} [Decidable b] (h : Sets l v c s t y) (k : Sets l v c s u y) :
    Sets l v c s (if b then t else u) y := by split <;> assumption

end Sets

/-! ### Entry to O1 and IDLE (R136) -/

/-- What is left of a record on entry to O1 or IDLE. -/
def VCh.discarded (x : VCh) : VCh :=
  { x with onuId := Option.none, eqd := Option.none, expiry := Option.none, upQ := [], tuneAt := Option.none, upKey := 0
           profiles := x.profiles.map fun p => if p.fromHost then p else noProfile }

namespace Sets

theorem discardCh (h : Sets l v c s t y) (hl : ∀ p ∈ Frame.actZones, p ∈ l := by decide) :
    Sets l v c s (t.discardCh v c) y.discarded := by
  have hk : .keys ∈ l := hl _ (by decide)
  have hr : Aside l t (t.allocReleaseAll (BitVec.ofNat 9 v) c) :=
    (Aside.refl t).allocReleaseAll fun p hp => hl p (List.mem_cons_of_mem _ hp)
  unfold State.discardCh
  exact (h.beside ((hr.eraseSlot hk).eraseSlot hk)).modVch (f := VCh.discarded) (hl _ (by decide))

theorem enter {a : Act} (ha : a = .o1 ∨ a = .idle) (h : Sets l v c s t y)
    (hl : ∀ p ∈ Frame.actZones, p ∈ l := by decide) : Sets l v c s (t.setAct v c a) { y.discarded with act := a } := by
  have hd := (h.discardCh hl).modVch (f := fun x => { x with act := a }) (hl _ (by decide))
  obtain rfl | rfl := ha <;> exact hd

/-- A vONU in O1 may pass on to O2-3. -/
theorem tryO23 (h : Sets l v c s t y) (hl : .vonus ∈ l := by decide) :
    ∃ a, (a = y.act ∨ y.act = .o1 ∧ a = .o23) ∧ Sets l v c s (t.tryO23 v c) { y with act := a } := by
  unfold State.tryO23
  extract_lets x
  split
  next hx =>
    rw [Bool.and_eq_true, Bool.and_eq_true, decide_eq_true_iff] at hx
    exact ⟨.o23, .inr ⟨h.vch ▸ hx.1.1, rfl⟩, h.modVch hl⟩
  · exact ⟨y.act, .inl rfl, h⟩

theorem enterO1 (h : Sets l v c s t y) (hl : ∀ p ∈ Frame.actZones, p ∈ l := by decide) :
    ∃ a, (a = .o1 ∨ a = .o23) ∧ Sets l v c s ((t.setAct v c .o1).tryO23 v c) { y.discarded with act := a } := by
  obtain ⟨a, ha, h'⟩ := (h.enter (.inl rfl) hl).tryO23 (hl _ (by decide))
  exact ⟨a, ha.imp_right And.right, h'⟩

end Sets

/-! ### Upstream messages (R153, R402, R406) -/

theorem keyBegin_ok {slot n : Nat} (he : s.engineOn = true) (hk : s.keyUse slot = .ok) :
    s.keyBegin slot n = (true, s.useKey slot n) := by simp [State.keyBegin, he, hk]

theorem keyBegin_retired {slot n : Nat} (he : s.engineOn = true) (hk : s.keyUse slot = .retired) :
    s.keyBegin slot n = (false, s.bump (cryCtr 1) 1) := by simp [State.keyBegin, he, hk]

/-- The MIC of an upstream PLOAM message. -/
def State.upMac (s : State) (v : Nat) (c : Chan) (m : UpMsg) : BitVec 64 :=
  Config.cmac (s.mgmtKey v c 0) (Config.upPloamBytes m (s.vch v c).onuId)

/-- A record with one more message in its upstream queue. -/
def VCh.queued (x : VCh) (m : UpMsg) (mic : BitVec 64) : VCh :=
  { x with upQ := x.upQ ++ [{ msg := m, mic, seq := x.upSeq }], upSeq := x.upSeq + 1 }

namespace Sets

/-- A message is queued where the queue has room and an operation can begin under the key. -/
theorem upPloam {m : UpMsg} {a : BitVec 64} (h : Sets l v c s t y) (hq : y.upQ.length < 4) (he : t.engineOn = true)
    (hk : t.keyUse (mgmtSlot v (chanN c)) = .ok) (hl : ∀ p ∈ [.counters, .vonus, .keys], p ∈ l := by decide) :
    Sets l v c s (t.upPloam v c m a) (y.queued m (t.upMac v c m)) := by
  have hc : .counters ∈ l := hl _ (by simp)
  unfold State.upPloam State.upMic
  rw [if_neg (by rw [h.vch]; omega)]
  simp only [keyBegin_ok he hk]
  have hkey := (Aside.refl (l := l) t).useKey (i := mgmtSlot v (chanN c))
    (n := aesBlocks (Config.upPloamBytes m (t.vch v c).onuId).length) (hl _ (by simp))
  have hu := (h.beside hkey).modVch (f := fun x => x.queued m (t.upMac v c m)) (hl _ (by simp))
  exact ite (hu.beside ((Aside.refl _).bump hc)) hu

/-- Whether or not it is queued, a message changes no more of the record than its queue. -/
theorem upPloam_any {m : UpMsg} {a : BitVec 64} (h : Sets l v c s t y)
    (hl : ∀ p ∈ [.counters, .vonus, .keys], p ∈ l := by decide) :
    ∃ q n, Sets l v c s (t.upPloam v c m a) { y with upQ := q, upSeq := n } := by
  have hc : .counters ∈ l := hl _ (by simp)
  have hkb := (Aside.refl (l := l) t).keyBegin (slot := mgmtSlot v (chanN c))
    (n := aesBlocks (Config.upPloamBytes m (t.vch v c).onuId).length) (hl _ (by simp)) hc
  unfold State.upPloam State.upMic
  dsimp only
  split
  · exact ⟨_, _, h.beside ((Aside.refl t).bump hc)⟩
  · generalize t.keyBegin _ _ = r at hkb ⊢
    obtain ⟨_ | _, u⟩ := r
    · exact ⟨_, _, h.beside hkb⟩
    · have hu := (h.beside hkb).modVch (f := fun x => x.queued m (t.upMac v c m)) (hl _ (by simp))
      exact ⟨_, _, ite (hu.beside ((Aside.refl _).bump hc)) hu⟩

end Sets

/-! ### The end of a command -/

/-- What a command's record and parts are when its moves have been noted and the domains are settled. -/
theorem Sets.finish (h : Sets l v c s t y) : SameBut l s t.finish ∧ t.finish.vch v c = y :=
  ⟨SameBut.finish h.zones, by rw [State.vch, State.vonuAt, State.finish_vonu]; exact h.vch⟩

end Sys2Proof.Machine
end

section
/-! PLOAM messages that move a vONU or give it what it needs to move (O15). A message is served in the state in which it has left
its queue (`Unqueued`); what its service makes of the vONU's record is said by `Sets`. -/

namespace Sys2Proof.Machine
set_option Elab.async false
variable {s t u : State} {c : Chan} {v : BitVec 9} {w : PloamWait} {rest : List PloamWait}

/-! ### Counters that freeing cells leaves alone -/

section
variable {a : Nat}

theorem poolGuards_ctr (ha : sideCount a = false) (p : Nat) : (s.poolGuards p).ctr a = s.ctr a := by
  unfold State.poolGuards
  dsimp only
  rw [State.raiseIf_ctr _ ha, State.raiseIf_ctr _ ha]
  exact ctr_of_counters rfl a

theorem poolChanged_ctr (ha : sideCount a = false) (p : Nat) : (s.poolChanged p).ctr a = s.ctr a := by
  unfold State.poolChanged
  extract_lets x free cells thresh empty low s1 b s2 s3 s4
  have h2 : s2.ctr a = s1.ctr a := by
    unfold s2
    split
    exacts [(State.raiseIf_ctr _ ha ..).trans (ctr_of_counters rfl a), rfl]
  calc
    (s4.poolGuards p).ctr a = s4.ctr a := poolGuards_ctr ha p
    _ = s3.ctr a := State.raiseIf_ctr _ ha ..
    _ = s2.ctr a := State.raiseIf_ctr _ ha ..
    _ = s.ctr a := h2.trans (ctr_of_counters rfl a)

theorem releaseCell_ctr {p : Nat} (ha : sideCount a = false) (hp : ∀ j < 11, a ≠ poolCtr p j) (k : Nat) :
    (s.releaseCell p k).ctr a = s.ctr a := by
  rw [State.releaseCell, poolChanged_ctr ha, State.ctr_bump_other _ _ _ _ (hp 4 (by decide))]
  exact ctr_of_counters rfl a

theorem refuseCell_ctr {p : Nat} (ha : sideCount a = false) (hb : a ≠ bpmCtr 0) (hp : ∀ j < 11, a ≠ poolCtr p j)
    (cls : BitVec 6) (ptr : BitVec 40) (kind : Nat) (x : Cell) : (s.refuseCell cls ptr kind p x).ctr a = s.ctr a := by
  have hcount {u : State} {b code q : Nat} (hu : u.counters = s.counters) (h : a ≠ b) :
      ((u.bump b 1).raise code q).ctr a = s.ctr a := by
    rw [State.raise_ctr _ ha, State.ctr_bump_other _ _ _ _ h, ctr_of_counters hu]
  unfold State.refuseCell
  extract_lets
  split
  exacts [hcount rfl (hp 5 (by decide)), hcount rfl (hp 6 (by decide)), hcount rfl hb, hcount rfl (hp 7 (by decide)),
    hcount rfl (hp 10 (by decide))]

theorem freeAt_ctr {p : Nat} (ha : sideCount a = false) (hb : a ≠ bpmCtr 0) (hp : ∀ j < 11, a ≠ poolCtr p j) (cls : BitVec 6)
    (ptr : BitVec 40) (k : Nat) : (s.freeAt cls ptr p k).ctr a = s.ctr a := by
  have href := fun kind x => refuseCell_ctr (s := s) ha hb hp cls ptr kind x
  have hrel := releaseCell_ctr (s := s) ha hp k
  unfold State.freeAt State.dropRef
  dsimp only
  split_ifs
  exacts [href .., hrel, ctr_of_counters rfl a, hrel, href ..]

theorem freeAll_ctr {cells : List (Nat × Nat)} (ha : sideCount a = false) (hb : a ≠ bpmCtr 0)
    (hp : ∀ e ∈ cells, ∀ j < 11, a ≠ poolCtr e.1 j) (cls : BitVec 6) : (State.freeAll cls cells s).ctr a = s.ctr a := by
  induction cells generalizing s with
  | nil => rfl
  | cons e r ih =>
    rw [State.freeAll, ih fun e he => hp e (List.mem_cons_of_mem _ he), freeAt_ctr ha hb (hp e List.mem_cons_self)]

end

/-! ### The head of the queue -/

/-- A message has left its channel's queue, and the cell that held it is free. -/
structure Unqueued (s : State) (c : Chan) (rest : List PloamWait) (u : State) : Prop where
  zones : SameBut (.channels :: poolZones) s u
  power : u.power = s.power
  queue : (u.ch c).ploamQ = rest
  sorted : (s.counters.now.map (·.1)).Pairwise (· < ·) → (u.counters.now.map (·.1)).Pairwise (· < ·)
  counts : ∀ a, sideCount a = false → a / 2 ^ 24 ≠ 0x40 → u.ctr a = s.ctr a

/-- The state in which the message at the head of a channel's queue is served. -/
def State.unqueued (s : State) (c : Chan) (w : PloamWait) (rest : List PloamWait) : State :=
  (s.modCh c fun x => { x with ploamQ := rest }).freeAll 0x0D (w.cell.toList.map fun k => (10, k))

theorem unqueued_spec (s : State) (c : Chan) (w : PloamWait) (rest : List PloamWait) :
    Unqueued s c rest (s.unqueued c w rest) := by
  have h : CellsOnly (s.modCh c fun x => { x with ploamQ := rest }) (s.unqueued c w rest) := (CellsOnly.refl _).freeAll
  have hch : (s.unqueued c w rest).chans = (s.modCh c fun x => { x with ploamQ := rest }).chans := h.1 .channels (by decide)
  refine ⟨((sameBut_modCh s c _).mono (by simp)).trans (h.1.mono fun _ => List.mem_cons_of_mem _), h.2, ?_,
    ((CountsBelow.refl s).same.freeAll).sorted, fun a ha hb => freeAll_ctr ha ?_ ?_ _⟩
  · rw [State.ch, hch, ← State.ch, State.modCh_ch_same]
  · rintro rfl
    exact hb (by decide)
  · rintro e he j hj rfl
    obtain ⟨k, -, rfl⟩ := List.mem_map.1 he
    exact hb (by simp only [poolCtr, addrOf]; omega)

theorem served_of_head {k : State → PloamWait → Option State} {g : State} (hq : (s.ch c).ploamQ = w :: rest)
    (hk : k (s.unqueued c w rest) w = some g) : s.served c k = g.finish := by
  unfold State.unqueued at hk
  simp only [State.served, hq, hk]

namespace Unqueued

theorem vonu (h : Unqueued s c rest u) : u.vonu = s.vonu := h.zones .vonus (by decide)
theorem crypto (h : Unqueued s c rest u) : u.crypto = s.crypto := h.zones .keys (by decide)
theorem tick (h : Unqueued s c rest u) : u.tick = s.tick := h.zones .tick (by decide)
theorem words (h : Unqueued s c rest u) : u.words = s.words := h.zones .words (by decide)
theorem legacy (h : Unqueued s c rest u) : u.legacy = s.legacy := (h.zones .straps (by decide)).1

theorem vonuAt (h : Unqueued s c rest u) (n : Nat) : u.vonuAt n = s.vonuAt n := by rw [State.vonuAt, h.vonu, State.vonuAt]
theorem vch (h : Unqueued s c rest u) (n : Nat) (d : Chan) : u.vch n d = s.vch n d := by rw [State.vch, h.vonuAt, State.vch]
theorem cfgF (h : Unqueued s c rest u) (a lo n : Nat) : u.cfgF a lo n = s.cfgF a lo n := by
  rw [State.cfgF, cfg_of_words h.words, State.cfgF]
theorem profileAt (h : Unqueued s c rest u) (n : Nat) (d : Chan) (p : Nat) : u.profileAt n d p = s.profileAt n d p := by
  rw [State.profileAt, h.vch, State.profileAt]
theorem timerDue (h : Unqueued s c rest u) (n : Nat) (a : Act) : u.timerDue c n a = s.timerDue c n a := by
  rw [State.timerDue, h.vch, h.tick, State.timerDue]

/-- The record of a vONU before a service changes it. -/
theorem sets {l : List Zone} {n : Nat} {d : Chan} (h : Unqueued s c rest u) (hs : s.canonical) :
    Sets l n d u u (s.vch n d) := h.vch n d ▸ Sets.refl (h.vonu ▸ hs.vonus)

end Unqueued

/-! ### Service -/

theorem expireDue_of_not_due {n : Nat} (h : ∀ a, s.timerDue c n a = false) : s.expireDue c n = s := by
  simp only [State.expireDue, State.timerExpiry, State.tuningExpiry, h]
  cases (s.vch n c).act <;> rfl

theorem Unqueued.expireFirst (h : Unqueued s c rest u) (hw : Waits s c v w rest) : u.expireFirst c w = u := by
  obtain ⟨-, htargets, htimers⟩ := hw
  rw [State.expireFirst, htargets]
  exact expireDue_of_not_due fun a => (h.timerDue _ a).trans (htimers a)

/-- The service of a message for the one vONU that it reaches, in a state that Table VONU-5 lists. -/
theorem Unqueued.serveAll {listed : Act → Bool} {f : State → Nat → State} (h : Unqueued s c rest u) (hw : Waits s c v w rest)
    (hl : listed (s.vch v.toNat c).act = true) :
    u.serveAll c w listed f = (f u v.toNat).reportMoves c (u.actsOf c [v.toNat]) 0 := by
  rw [State.serveAll, h.expireFirst hw]
  simp [hw.2.1, eachTarget, h.vch, hl]

theorem completes_served {i : Instr} {q : State → Prop} {k : State → PloamWait → Option State} {g : State → State}
    (hw : Waits s c v w rest) (hk : ∀ u, k u w = some (g u)) (hq : ∀ u, Unqueued s c rest u → q (g u).finish)
    (hx : exec i s = next (s.served c k) := by rfl) : Completes i s q :=
  ⟨_, hx.trans (congrArg next (served_of_head hw.1 (hk _))), hq _ (unqueued_spec s c w rest)⟩

/-- A message whose service is the same for each vONU that it reaches. -/
theorem completes_service {i : Instr} {q : State → Prop} {k : State → PloamWait → Option State} {listed : Act → Bool}
    {f : State → Nat → State} (hw : Waits s c v w rest) (hk : ∀ u, k u w = some (u.serveAll c w listed f))
    (hl : listed (s.vch v.toNat c).act = true)
    (hq : ∀ u, Unqueued s c rest u → q ((f u v.toNat).reportMoves c (u.actsOf c [v.toNat]) 0).finish)
    (hx : exec i s = next (s.served c k) := by rfl) : Completes i s q :=
  completes_served hw hk (fun u hu => hu.serveAll (f := f) hw hl ▸ hq u hu) hx

/-- The record, the queue and the frame that a service leaves. -/
theorem Sets.answered {l m : List Zone} {n : Nat} {y : VCh} (h : Sets l n c u t y) (hu : Unqueued s c rest u)
    (hm : ∀ p ∈ .channels :: poolZones ++ l, p ∈ m := by decide) (hl : .channels ∉ l := by decide) :
    t.finish.vch n c = y ∧ (t.finish.ch c).ploamQ = rest ∧ SameBut m s t.finish := by
  obtain ⟨hz, hy⟩ := h.finish
  refine ⟨hy, ?_, (hu.zones.mono fun p hp => hm p (List.mem_append_left _ hp)).trans
    (hz.mono fun p hp => hm p (List.mem_append_right _ hp))⟩
  have hchans : t.finish.chans = u.chans := hz .channels hl
  rw [State.ch, hchans]
  exact hu.queue

/-- The same, with the moves noted. -/
theorem Sets.reported {l m : List Zone} {n k : Nat} {b : List (Nat × Act)} {y : VCh} (h : Sets l n c u t y)
    (hu : Unqueued s c rest u) (hm : ∀ p ∈ .channels :: poolZones ++ l, p ∈ m := by decide)
    (hl : .channels ∉ l := by decide) (hv : .vonus ∈ l := by decide) :
    (t.reportMoves c b k).finish.vch n c = y ∧ ((t.reportMoves c b k).finish.ch c).ploamQ = rest ∧
      SameBut m s (t.reportMoves c b k).finish := (h.beside ((Aside.refl t).reportMoves hv)).answered hu hm hl

/-! ### Profiles, ONU-IDs and ranging (R144, R147, R149) -/

/-- The parts that serving a message may change, besides those of its queue. -/
def serveZones : List Zone := [.counters, .channels, .vonus, .bursts, .queues, .pools]

theorem completes_burstProfile {idx : BitVec 2} {p : Profile} (hs : s.canonical) (hw : Waits s c v w rest)
    (hlen : (s.vch v.toNat c).profiles.length = 4) (hb : w.msg.body = .burstProfile idx p)
    (hl : inO1toO6or89 (s.vch v.toNat c).act = true)
    (hnew : ¬((s.profileAt v.toNat c idx.toNat).valid = true ∧ (s.profileAt v.toNat c idx.toNat).version = p.version)) :
    Completes (.burstProfile c) s fun t =>
    t.profileAt v.toNat c idx.toNat = { p with valid := true, fromHost := false } ∧ (t.ch c).ploamQ = rest ∧
    SameBut serveZones s t := by
  refine completes_service (listed := inO1toO6or89) (f := fun s v => s.putProfile c idx p v) hw ?_ hl fun u hu => ?_
  · exact fun u => by simp only [hb]
  have hput : u.putProfile c idx p v.toNat = (u.modVch v.toNat c fun x =>
      { x with profiles := x.profiles.set idx.toNat { p with valid := true, fromHost := false } }).tryO23 v.toNat c :=
    if_neg (by simpa [hu.profileAt] using hnew)
  obtain ⟨a, -, h⟩ := ((hu.sets hs (l := [.vonus]) (d := c)).modVch (f := fun x =>
    { x with profiles := x.profiles.set idx.toNat { p with valid := true, fromHost := false } })).tryO23
  obtain ⟨hvch, hq, hsame⟩ := h.reported hu (m := serveZones) (b := u.actsOf c [v.toNat]) (k := 0)
  rw [hput]
  refine ⟨?_, hq, hsame⟩
  rw [State.profileAt, hvch]
  simp [hlen, idx.isLt]

theorem completes_assignOnuId {sn : BitVec 64} {id : BitVec 10} (hs : s.canonical) (hw : Waits s c v w rest)
    (hb : w.msg.body = .assignOnuId sn id) (hl : (s.vch v.toNat c).act = .o23) : Completes (.assignOnuId c) s fun t =>
    (t.vch v.toNat c).act = .o4 ∧ (t.vch v.toNat c).onuId = some id ∧
    (t.vch v.toNat c).expiry = some (s.tick.number + BitVec.ofNat 64 (8000 * s.cfgF (addrOf 0x20 (chanN c)) 4 8)) ∧
    (t.ch c).ploamQ = rest ∧ SameBut serveZones s t := by
  refine completes_service (listed := (· = .o23)) (f := fun s v => s.assignId c id v) hw ?_ (by simpa using hl) fun u hu => ?_
  · exact fun u => by simp only [hb]
  have h : Sets [.vonus] v.toNat c u (u.assignId c id v.toNat) _ :=
    ((hu.sets hs).modVch (f := fun x => { x with act := .o4, onuId := some id, expiry := some _ })).beside (Aside.refl _).allocTry
  obtain ⟨hvch, hq, hsame⟩ := h.reported hu (m := serveZones) (b := u.actsOf c [v.toNat]) (k := 0)
  rw [hvch, hu.tick, hu.cfgF]
  exact ⟨rfl, rfl, rfl, hq, hsame⟩

theorem Sets.assignEqd {l : List Zone} {n : Nat} {y : VCh} {value : BitVec 32} {relative ack : Bool} {arrived : BitVec 64}
    (h : Sets l n c s t y) (hl : ∀ p ∈ [.counters, .vonus, .keys], p ∈ l := by decide) :
    ∃ o q k, Sets l n c s (t.assignEqd c value relative ack arrived n)
      { y with eqd := some (if relative then y.eqd.getD 0 + value else value)
               eqdOrder := o, act := .o5, expiry := none, upQ := q, upSeq := k } := by
  have hv : .vonus ∈ l := hl _ (by simp)
  have hy : (t.vch n c).eqd = y.eqd := by rw [h.vch]
  unfold State.assignEqd
  extract_lets x eqd seq z s1 s2 s3 s4
  have h2 : Sets l n c s s2 { y with eqd := some eqd, eqdOrder := seq, act := .o5, expiry := none } :=
    (h.beside ((Aside.refl t).vonu (x := s1.vonu) rfl hv)).modVch hv
  have h3 : Sets l n c s s3 _ := h2.beside (Aside.refl s2).eqdCheck
  have h4 : Sets l n c s s4 _ := (h3.beside (Aside.refl s3).tuningDone).ite h3
  obtain ⟨q, k, h5⟩ := h4.upPloam_any (m := .acknowledge .ok) (a := arrived) hl
  rw [← hy]
  split
  · exact ⟨seq, q, k, h5⟩
  · exact ⟨seq, _, _, h4⟩

theorem completes_rangingTime {value : BitVec 32} {relative ack : Bool} (hs : s.canonical) (hw : Waits s c v w rest)
    (hb : w.msg.body = .rangingTime value relative ack) (hl : inRanging (s.vch v.toNat c).act = true) :
    Completes (.rangingTime c) s fun t =>
    (t.vch v.toNat c).act = .o5 ∧ (t.vch v.toNat c).expiry = none ∧
    (t.vch v.toNat c).eqd = some (if relative then (s.vch v.toNat c).eqd.getD 0 + value else value) ∧
    (t.ch c).ploamQ = rest ∧ SameBut (serveZones ++ [.keys]) s t := by
  refine completes_service (listed := inRanging) (f := fun s v => s.assignEqd c value relative ack w.arrived v) hw ?_ hl
    fun u hu => ?_
  · exact fun u => by simp only [hb]
  obtain ⟨o, q, n, h⟩ := (hu.sets hs (l := [.counters, .vonus, .keys])).assignEqd
  obtain ⟨hvch, hq, hsame⟩ := h.reported hu (m := serveZones ++ [.keys])
  rw [hvch]
  exact ⟨rfl, rfl, rfl, hq, hsame⟩

/-! ### Leaving the ranged states (R138, Table VONU-3) -/

theorem completes_deactivateOnuId (hs : s.canonical) (hw : Waits s c v w rest) (hb : w.msg.body = .deactivateOnuId)
    (hl : inO23toO6or89 (s.vch v.toNat c).act = true) : Completes (.deactivateOnuId c) s fun t =>
    SameBut (serveZones ++ [.keys]) s t ∧
    (t.vch v.toNat c).onuId = none ∧ (t.vch v.toNat c).eqd = none ∧
    ((t.vch v.toNat c).act = .o1 ∨ (t.vch v.toNat c).act = .o23) ∧ (t.ch c).ploamQ = rest := by
  refine completes_service (listed := inO23toO6or89) (f := fun s v => s.deactivate c v) hw ?_ hl fun u hu => ?_
  · exact fun u => by simp only [hb]
  obtain ⟨a, ha, h⟩ := (hu.sets hs (l := Frame.actZones)).enterO1
  obtain ⟨hvch, hq, hsame⟩ := Sets.reported (t := u.deactivate c v.toNat) h hu (m := serveZones ++ [.keys])
  rw [hvch]
  exact ⟨hsame, rfl, rfl, ha, hq⟩

/-! ### Emergency stops (R138) -/

theorem hasEstop_of_kept (h : t.mram.kept = s.mram.kept) (sn : BitVec 64) (c : Chan) : t.hasEstop sn c = s.hasEstop sn c := by
  have he : t.mram.estops = s.mram.estops := congrArg (·.1) h
  rw [State.hasEstop, he, State.hasEstop]

theorem cfgStoreWrite_kept (s : State) : s.cfgStoreWrite.mram.kept = s.mram.kept := State.mramWrite_kept _ _ _

theorem hasEstop_estopWrite (s : State) (sn : BitVec 64) (c : Chan) : (s.estopWrite sn c).hasEstop sn c = true := by
  obtain ⟨l, he⟩ | ⟨l, x, code, n, -, he⟩ := estopWrite_spec s sn c
  · rw [he, hasEstop_of_kept (cfgStoreWrite_kept _)]
    simp [State.hasEstop]
  · rw [he, hasEstop_of_kept ((State.raise_kept ..).trans (cfgStoreWrite_kept _))]
    simp [State.hasEstop]

theorem hasEstop_estopErase (s : State) (sn : BitVec 64) (c : Chan) : (s.estopErase sn c).hasEstop sn c = false := by
  unfold State.estopErase
  split
  · rw [hasEstop_of_kept (cfgStoreWrite_kept _)]
    simp only [State.hasEstop, without, List.any_eq_false, List.mem_filter]
    rintro ⟨sn', c'⟩ ⟨-, hr⟩ he
    simp_all
  next h => simpa using h

/-- The service of Disable_Serial_Number for one vONU that is not IDLE, with the report that follows it (R167). -/
theorem Unqueued.serialService {sn : Option (BitVec 64)} {d : Bool} (hu : Unqueued s c rest u) (hw : Waits s c v w rest)
    (hl : notIdle (s.vch v.toNat c).act = true) : ∃ b p, u.serialService c w sn d =
    ((if d then u.stopSerial c v.toNat else u.startSerial c v.toNat).reportMoves c (u.actsOf c [v.toNat]) 0).raiseIf b 0x0307 p := by
  simp only [State.serialService, hu.expireFirst hw, hu.serveAll hw hl]
  exact ⟨_, _, rfl⟩

/-- The end of a service of Disable_Serial_Number: its report changes neither the record nor the store. -/
theorem Unqueued.serialServed {l m : List Zone} {y : VCh} {b : Bool} {k p code : Nat} {bs : List (Nat × Act)}
    (hu : Unqueued s c rest u) (h : Sets l v.toNat c u t y) (sn : BitVec 64)
    (hm : ∀ p ∈ .channels :: poolZones ++ l, p ∈ m := by decide) (hl : .channels ∉ l := by decide)
    (hv : .vonus ∈ l := by decide) :
    let x := ((t.reportMoves c bs k).raiseIf b code p).finish
    x.vch v.toNat c = y ∧ (x.ch c).ploamQ = rest ∧ SameBut m s x ∧ x.hasEstop sn c = t.hasEstop sn c := by
  obtain ⟨hvch, hq, hsame⟩ := (h.beside ((Aside.refl t).reportMoves hv).raiseIf).answered hu (m := m) hm hl
  exact ⟨hvch, hq, hsame, hasEstop_of_kept (by simp [State.reportMoves]) sn c⟩

theorem stopSerial_of_ne {n : Nat} (h : (u.vch n c).act ≠ .o7) : u.stopSerial c n =
    (u.modVch n c fun x => { x with act := .o7, expiry := none, tuneAt := none }).estopWrite (u.vonuAt n).sn c := if_neg h

theorem startSerial_of_eq {n : Nat} (h : (u.vch n c).act = .o7) :
    u.startSerial c n = ((u.estopErase (u.vonuAt n).sn c).setAct n c .o1).tryO23 n c := if_neg (by simp [h])

theorem completes_disableSerialNumber {sn : Option (BitVec 64)} (hs : s.canonical) (hw : Waits s c v w rest)
    (hb : w.msg.body = .disableSerialNumber sn true) (hidle : (s.vch v.toNat c).act ≠ .idle) (h7 : (s.vch v.toNat c).act ≠ .o7) :
    Completes (.disableSerialNumber c) s fun t =>
    (t.vch v.toNat c).act = .o7 ∧ (t.vch v.toNat c).expiry = none ∧ t.hasEstop (s.vonuAt v.toNat).sn c = true ∧
    (t.ch c).ploamQ = rest ∧ SameBut (serveZones ++ [.lasting]) s t := by
  refine completes_served (g := fun u => u.serialService c w sn true) hw ?_ fun u hu => ?_
  · exact fun u => by simp only [hb]
  obtain ⟨b, p, he⟩ := hu.serialService (sn := sn) (d := true) hw (by simpa [notIdle] using hidle)
  have h : Sets [.vonus, .lasting] v.toNat c u ((u.modVch v.toNat c fun x =>
      { x with act := .o7, expiry := none, tuneAt := none }).estopWrite (u.vonuAt v.toNat).sn c) _ :=
    (hu.sets hs).modVch.beside (Aside.refl _).estopWrite
  obtain ⟨hvch, hq, hsame, hstop⟩ := hu.serialServed h (u.vonuAt v.toNat).sn (m := serveZones ++ [.lasting]) (b := b) (p := p)
    (code := 0x0307) (k := 0) (bs := u.actsOf c [v.toNat])
  rw [he, if_pos rfl, stopSerial_of_ne (by rwa [hu.vch]), ← hu.vonuAt]
  exact ⟨by rw [hvch], by rw [hvch], hstop.trans (hasEstop_estopWrite ..), hq, hsame⟩

theorem completes_enableSerialNumber {sn : Option (BitVec 64)} (hs : s.canonical) (hw : Waits s c v w rest)
    (hb : w.msg.body = .disableSerialNumber sn false) (h7 : (s.vch v.toNat c).act = .o7) :
    Completes (.disableSerialNumber c) s fun t =>
    SameBut (serveZones ++ [.keys, .lasting]) s t ∧
    ((t.vch v.toNat c).act = .o1 ∨ (t.vch v.toNat c).act = .o23) ∧ t.hasEstop (s.vonuAt v.toNat).sn c = false ∧
    (t.ch c).ploamQ = rest := by
  refine completes_served (g := fun u => u.serialService c w sn false) hw ?_ fun u hu => ?_
  · exact fun u => by simp only [hb]
  obtain ⟨b, p, he⟩ := hu.serialService (sn := sn) (d := false) hw (by rw [h7]; rfl)
  have herase := (Aside.refl (l := .lasting :: Frame.actZones) u).estopErase (sn := (u.vonuAt v.toNat).sn) (c := c)
  have hx := (hu.sets hs (n := v.toNat) (d := c)).beside herase
  obtain ⟨a, ha, h⟩ := hx.enterO1
  obtain ⟨_, -, hact⟩ := (Sets.refl (l := Frame.actZones) (v := v.toNat) (c := c) hx.wf).enterO1
  obtain ⟨hvch, hq, hsame, hstop⟩ := hu.serialServed h (u.vonuAt v.toNat).sn (m := serveZones ++ [.keys, .lasting]) (b := b)
    (p := p) (code := 0x0307) (k := 0) (bs := u.actsOf c [v.toNat])
  rw [he, if_neg (by decide), startSerial_of_eq (by rwa [hu.vch]), ← hu.vonuAt]
  exact ⟨hsame, by rwa [hvch], hstop.trans ((hasEstop_of_kept (hact.zones .lasting (by decide)).1 ..).trans
    (hasEstop_estopErase ..)), hq⟩

/-- Settles O15, a message at a time. -/
theorem ploamActivation : Obligations.PloamActivation := fun _ _ _ _ _ hs hw hlen =>
  ⟨fun _ _ hb hl hnew => completes_burstProfile hs hw hlen hb hl hnew, fun _ _ => completes_assignOnuId hs hw,
    fun _ _ _ => completes_rangingTime hs hw, completes_deactivateOnuId hs hw,
    fun _ => completes_disableSerialNumber hs hw, fun _ => completes_enableSerialNumber hs hw⟩

end Sys2Proof.Machine
end

section
/-! PLOAM messages that answer or record (O16). An answer is queued under the management key of the vONU: `Ready` says that an
operation can begin under it, `Sets.replied` what the queued answer leaves. -/

namespace Sys2Proof.Machine
set_option Elab.async false
variable {l : List Zone} {s t u : State} {c : Chan} {v : BitVec 9} {w : PloamWait} {rest : List PloamWait} {m : UpMsg} {y : VCh}

/-! ### Slots and the keys in them -/

theorem engineOn_of_power (h : t.power = s.power) : t.engineOn = s.engineOn := by
  rw [State.engineOn, State.domOn, State.dom, h]
  rfl

theorem slot_of_crypto (h : t.crypto = s.crypto) (i : Nat) : t.slot i = s.slot i := by rw [State.slot, h, State.slot]

theorem keyUse_congr {i : Nat} (hw : t.words = s.words) (hi : t.slot i = s.slot i) : t.keyUse i = s.keyUse i := by
  unfold State.keyUse State.cfgF
  rw [hi, cfg_of_words hw]

/-- The management keys of a vONU come from its slot and its serial number (R400). -/
theorem mgmtKey_congr {n : Nat} (hk : (t.slot (mgmtSlot n (chanN c))).key = (s.slot (mgmtSlot n (chanN c))).key)
    (hd : (t.slot (mgmtSlot n (chanN c))).isDefault = (s.slot (mgmtSlot n (chanN c))).isDefault)
    (hsn : (t.vonuAt n).sn = (s.vonuAt n).sn) (label : Nat) : t.mgmtKey n c label = s.mgmtKey n c label := by
  cases c <;> simp_all [State.mgmtKey, chanN]

theorem slot_setSlot_same (h : SMap.wf Slot.empty s.crypto.slots = true) (i : Nat) (x : Slot) : (s.setSlot i x).slot i = x :=
  mget_mput_same _ _ _ _ (keys_sorted h)

theorem slot_setSlot_other {i j : Nat} (h : j ≠ i) (x : Slot) : (s.setSlot i x).slot j = s.slot j :=
  mget_mput_other _ _ _ _ _ h

theorem slot_useKey_other {i j : Nat} (h : j ≠ i) (n : Nat) : (s.useKey i n).slot j = s.slot j := by
  unfold State.useKey
  dsimp only
  split
  exacts [rfl, slot_setSlot_other h _]

/-- A use of a slot that holds a key is counted on it. -/
theorem slot_useKey_same (h : SMap.wf Slot.empty s.crypto.slots = true) (i n : Nat) : (s.useKey i n).slot i =
    if (s.slot i).state = 0 then s.slot i else { s.slot i with usage := (s.slot i).usage + BitVec.ofNat 64 n } := by
  unfold State.useKey
  dsimp only
  split
  exacts [rfl, slot_setSlot_same h ..]

/-- The uses of a vONU's management slot do not change its keys. -/
theorem mgmtKey_useKey (h : SMap.wf Slot.empty s.crypto.slots = true) (n : Nat) (c : Chan) (k label : Nat) :
    (s.useKey (mgmtSlot n (chanN c)) k).mgmtKey n c label = s.mgmtKey n c label := by
  have hside := (Aside.refl (l := [.keys]) s).useKey (i := mgmtSlot n (chanN c)) (n := k)
  have hslot := slot_useKey_same h (mgmtSlot n (chanN c)) k
  refine mgmtKey_congr ?_ ?_ ?_ label
  · rw [hslot]; split <;> rfl
  · rw [hslot]; split <;> rfl
  · rw [State.vonuAt, hside.records, State.vonuAt]

theorem slot_keyBegin_other {i j : Nat} (h : j ≠ i) (n : Nat) : (s.keyBegin i n).2.slot j = s.slot j := by
  unfold State.keyBegin
  split_ifs
  exacts [rfl, rfl, slot_useKey_other h n]

theorem slot_drawKey_same (h : SMap.wf Slot.empty s.crypto.slots = true) (i : Nat) : ((s.drawKey i).slot i).state = 1 :=
  congrArg Slot.state (slot_setSlot_same (s := { s with freeCount := s.freeCount + 1 }) h i _)

theorem slot_drawKey_other {i j : Nat} (h : j ≠ i) : (s.drawKey i).slot j = s.slot j := slot_setSlot_other h _

theorem slots_drawKey_wf (h : SMap.wf Slot.empty s.crypto.slots = true) (i : Nat) :
    SMap.wf Slot.empty (s.drawKey i).crypto.slots = true := mput_wf _ _ h

/-- No management slot is a unicast slot (Table CRYPTO-2). -/
theorem mgmtSlot_ne_uniSlot (v : BitVec 9) (c : Chan) (k : Nat) : mgmtSlot v.toNat (chanN c) ≠ uniSlot v.toNat (chanN c) k := by
  have := v.isLt
  cases c <;> simp only [mgmtSlot, uniSlot, chanN] <;> omega

/-! ### What a queued answer leaves alone -/

/-- Queueing a message begins an operation under the management key; then it changes the record, and counts. -/
theorem upPloam_cases (s : State) (n : Nat) (c : Chan) (m : UpMsg) (a : BitVec 64) : ∃ k f,
    let x := (s.keyBegin (mgmtSlot n (chanN c)) k).2
    s.upPloam n c m a = s.bump (vonuBlkCtr 5) 1 ∨ s.upPloam n c m a = x ∨ s.upPloam n c m a = x.modVch n c f ∨
      s.upPloam n c m a = (x.modVch n c f).bumpVonu n 3 := by
  refine ⟨aesBlocks (Config.upPloamBytes m (s.vch n c).onuId).length, fun x => x.queued m (s.upMac n c m), ?_⟩
  unfold State.upPloam State.upMic
  dsimp only
  split_ifs with hq
  · exact .inl rfl
  generalize s.keyBegin _ _ = r
  obtain ⟨_ | _, x⟩ := r
  · exact .inr (.inl rfl)
  · dsimp only
    split
    exacts [.inr (.inr (.inr rfl)), .inr (.inr (.inl rfl))]

theorem keyBegin_vonu (s : State) (i n : Nat) : (s.keyBegin i n).2.vonu = s.vonu :=
  ((Aside.refl (l := [.counters, .keys]) s).keyBegin).zones .vonus (by decide)

theorem upPloam_alloc (s : State) (n : Nat) (c : Chan) (m : UpMsg) (a : BitVec 64) :
    (s.upPloam n c m a).vonu.alloc = s.vonu.alloc := by
  obtain ⟨k, f, h⟩ := upPloam_cases s n c m a
  have hx := congrArg VonuSt.alloc (keyBegin_vonu s (mgmtSlot n (chanN c)) k)
  obtain h | h | h | h := h <;> rw [h]
  exacts [rfl, hx, hx, hx]

theorem upPloam_slot {j : Nat} (s : State) (n : Nat) (c : Chan) (m : UpMsg) (a : BitVec 64) (hj : j ≠ mgmtSlot n (chanN c)) :
    (s.upPloam n c m a).slot j = s.slot j := by
  obtain ⟨k, f, h⟩ := upPloam_cases s n c m a
  have hx := slot_keyBegin_other (s := s) hj k
  obtain h | h | h | h := h <;> rw [h]
  exacts [rfl, hx, hx, hx]

/-- The other slots at the end of a command whose last act was to queue an answer. -/
theorem slot_replied {a : BitVec 64} {k n j : Nat} {b : List (Nat × Act)} (hj : j ≠ mgmtSlot n (chanN c)) :
    ((t.upPloam n c m a).reportMoves c b k).finish.slot j = t.slot j := by
  rw [slot_of_crypto (State.finish_crypto _)]
  exact upPloam_slot t n c m a hj

/-! ### An answer -/

/-- An operation can begin in `t` under the management key of a vONU, and that key is the one of `s`. -/
structure Ready (s : State) (n : Nat) (c : Chan) (t : State) : Prop where
  engine : t.engineOn = true
  use : t.keyUse (mgmtSlot n (chanN c)) = .ok
  key : t.mgmtKey n c 0 = s.mgmtKey n c 0

/-- What a message finds that is answered: it waits at the head of its channel's queue for one vONU, whose own queue has room,
and an operation can begin under the management key. -/
structure Answering (s : State) (c : Chan) (v : BitVec 9) (w : PloamWait) (rest : List PloamWait) : Prop where
  canonical : s.canonical
  waits : Waits s c v w rest
  room : (s.vch v.toNat c).upQ.length < 4
  engine : s.engineOn = true
  key : s.keyUse (mgmtSlot v.toNat (chanN c)) = .ok

/-- The vONU has one more message in its queue and is in the state that it was in; the message answered has left its own. -/
def Answered (s : State) (c : Chan) (v : BitVec 9) (rest : List PloamWait) (m : UpMsg) (t : State) : Prop :=
  (∃ n, (t.vch v.toNat c).upQ = (s.vch v.toNat c).upQ ++ [{ msg := m, seq := n, mic := s.upMac v.toNat c m }]) ∧
  (t.vch v.toNat c).act = (s.vch v.toNat c).act ∧ (t.ch c).ploamQ = rest

/-- The parts that serving a message with an answer may change, and those among them that its service may change. -/
def answerZones : List Zone := serveZones ++ [.keys]
def replyZones : List Zone := [.counters, .vonus, .bursts, .queues, .pools, .keys]

/-- A service that leaves the management key alone leaves the vONU ready to answer. -/
theorem Answering.ready_of_slot (h : Answering s c v w rest) (hu : Unqueued s c rest u) (ht : Sets l v.toNat c u t y)
    (hk : t.slot (mgmtSlot v.toNat (chanN c)) = s.slot (mgmtSlot v.toNat (chanN c))) (hw : .words ∉ l := by decide) :
    Ready s v.toNat c t := by
  refine ⟨?_, ?_, mgmtKey_congr (by rw [hk]) (by rw [hk]) (by rw [ht.record, hu.vonuAt]) 0⟩
  · rw [engineOn_of_power (ht.power.trans hu.power), h.engine]
  · rw [keyUse_congr ((ht.zones .words hw).trans hu.words) hk, h.key]

theorem Answering.ready (h : Answering s c v w rest) (hu : Unqueued s c rest u) (ht : Sets l v.toNat c u t y)
    (hk : .keys ∉ l := by decide) (hw : .words ∉ l := by decide) : Ready s v.toNat c t :=
  h.ready_of_slot hu ht (slot_of_crypto ((ht.zones .keys hk).trans hu.crypto) _) hw

/-- An answer queued, and what it is found to be at the end of the command. -/
theorem Answering.replied {a : BitVec 64} {k : Nat} {b : List (Nat × Act)} (h : Answering s c v w rest) (hu : Unqueued s c rest u)
    (ht : Sets l v.toNat c u t y) (hr : Ready s v.toNat c t)
    (hy : y.upQ = (s.vch v.toNat c).upQ ∧ y.act = (s.vch v.toNat c).act ∧ y.onuId = (s.vch v.toNat c).onuId := by
      exact ⟨rfl, rfl, rfl⟩)
    (hl : ∀ p ∈ l, p ∈ replyZones := by decide) :
    let x := ((t.upPloam v.toNat c m a).reportMoves c b k).finish
    Answered s c v rest m x ∧ SameBut answerZones s x ∧ ∃ mic, x.vch v.toNat c = y.queued m mic := by
  obtain ⟨hq, hact, hid⟩ := hy
  have hmic : t.upMac v.toNat c m = s.upMac v.toNat c m := by rw [State.upMac, hr.key, ht.vch, hid, State.upMac]
  have hup := (ht.mono hl).upPloam (m := m) (a := a) (by rw [hq]; exact h.room) hr.engine hr.use
  obtain ⟨hvch, hqueue, hsame⟩ := hup.reported hu (m := answerZones) (b := b) (k := k)
  refine ⟨⟨⟨y.upSeq, ?_⟩, by rw [hvch]; exact hact, hqueue⟩, hsame, _, hvch⟩
  rw [hvch, ← hmic, ← hq]
  rfl

/-- The record of the vONU before its service changes it. -/
theorem Answering.sets (h : Answering s c v w rest) (hu : Unqueued s c rest u) : Sets [.vonus] v.toNat c u u (s.vch v.toNat c) :=
  hu.sets h.canonical

/-- A message whose service is its answer. -/
theorem Answering.completes {i : Instr} {k : State → PloamWait → Option State} {listed : Act → Bool} {f : State → Nat → UpMsg}
    {a : BitVec 64} (h : Answering s c v w rest)
    (hk : ∀ u, k u w = some (u.serveAll c w listed fun s n => s.upPloam n c (f s n) a))
    (hl : listed (s.vch v.toNat c).act = true) (hf : ∀ u, Unqueued s c rest u → f u v.toNat = m)
    (hx : exec i s = next (s.served c k) := by rfl) :
    Completes i s fun t => Answered s c v rest m t ∧ SameBut answerZones s t := by
  refine completes_service (f := fun s n => s.upPloam n c (f s n) a) h.waits hk hl (fun u hu => ?_) hx
  obtain ⟨hup, hsame, -⟩ := h.replied (m := f u v.toNat) (a := a) (b := u.actsOf c [v.toNat]) (k := 0) hu (h.sets hu)
    (h.ready hu (h.sets hu))
  exact ⟨hf u hu ▸ hup, hsame⟩

/-! ### Messages that are answered as they come (Table VONU-5) -/

theorem completes_requestRegistration (h : Answering s c v w rest) (hb : w.msg.body = .requestRegistration)
    (hl : inRegistered (s.vch v.toNat c).act = true) : Completes (.requestRegistration c) s fun t =>
    Answered s c v rest (.registration (s.vonuAt v.toNat).regId) t ∧ SameBut answerZones s t := by
  refine h.completes (listed := inRegistered) (f := fun s n => .registration (s.vonuAt n).regId) (a := w.arrived)
    ?_ hl fun u hu => ?_
  · exact fun u => by simp only [hb]
  · rw [hu.vonuAt]

theorem completes_unknownPloamType {type : Byte} (h : Answering s c v w rest) (hb : w.msg.body = .unknown type) :
    Completes (.unknownPloamType c) s fun t => Answered s c v rest (.acknowledge .unknownType) t ∧ SameBut answerZones s t := by
  refine h.completes (listed := fun _ => true) (f := fun _ _ => .acknowledge .unknownType) (a := w.arrived) ?_ rfl fun _ _ => rfl
  exact fun u => by simp only [hb]

/-- A message that would change the shared laser is answered with a parameter error. -/
theorem Answering.completes_noLaserChange {i : Instr} {body : PloamBody} (h : Answering s c v w rest)
    (h5 : (s.vch v.toNat c).act = .o5) (hb : w.msg.body = body)
    (hx : exec i s = next (s.served c fun s w => if w.msg.body = body then some (s.noLaserChange c w) else none) := by rfl) :
    Completes i s fun t => SameBut answerZones s t ∧ Answered s c v rest (.acknowledge .parameterError) t := by
  obtain ⟨t, ht, hboth⟩ := h.completes (listed := isO5) (f := fun _ _ => .acknowledge .parameterError) (a := w.arrived)
    (fun _ => if_pos hb) (by simp [isO5, h5]) (fun _ _ => rfl) hx
  exact ⟨t, ht, hboth.symm⟩

/-! ### Sleep and tuning (R164) -/

theorem completes_sleepAllow {value : Byte} {ack : Bool} (h : Answering s c v w rest) (h5 : (s.vch v.toNat c).act = .o5)
    (hb : w.msg.body = .sleepAllow value ack) : Completes (.sleepAllow c) s fun t =>
    (t.vch v.toNat c).sleepAllow = value ∧ (ack = true → Answered s c v rest (.acknowledge .ok) t) ∧ (t.ch c).ploamQ = rest ∧
    SameBut answerZones s t := by
  refine completes_service (listed := isO5) (f := fun s n => s.sleepAllowIn c value ack w.arrived n) h.waits ?_
    (by simp [isO5, h5]) fun u hu => ?_
  · exact fun u => by simp only [hb]
  have ht := (h.sets hu).modVch (f := fun x => { x with sleepAllow := value })
  cases ack with
  | true =>
    obtain ⟨hup, hsame, mic, hvch⟩ := h.replied (m := .acknowledge .ok) (a := w.arrived) (b := u.actsOf c [v.toNat]) (k := 0)
      hu ht (h.ready hu ht)
    exact ⟨congrArg VCh.sleepAllow hvch, fun _ => hup, hup.2.2, hsame⟩
  | false =>
    obtain ⟨hvch, hq, hsame⟩ := ht.reported hu (m := answerZones) (b := u.actsOf c [v.toNat]) (k := 0)
    exact ⟨congrArg VCh.sleepAllow hvch, nofun, hq, hsame⟩

theorem completes_tuningControl {id : Byte} {sfc : BitVec 51} (h : Answering s c v w rest) (h5 : (s.vch v.toNat c).act = .o5)
    (hb : w.msg.body = .tuningControl id sfc)
    (hpair : mget Pair.other (s.vonu.chProfile.get c) id.toNat = .ofChan (otherCh c))
    (hby : (s.vonuAt v.toNat).standby.get (otherCh c) = true) (hen : s.chEnabled (otherCh c) = true) :
    Completes (.tuningControl c) s fun t =>
    (t.vch v.toNat c).tuneAt = some sfc ∧ Answered s c v rest (.tuningResponse true) t ∧ SameBut answerZones s t := by
  refine completes_service (listed := isO5) (f := fun s n => s.tuningIn c id sfc w.arrived n) h.waits ?_
    (by simp [isO5, h5]) fun u hu => ?_
  · exact fun u => by simp only [hb]
  have hen' : u.chEnabled (otherCh c) = true := (congrArg (bit · 0) (cfg_of_words hu.words _)).trans hen
  have he : u.tuningIn c id sfc w.arrived v.toNat =
      (u.modVch v.toNat c fun x => { x with tuneAt := some sfc }).upPloam v.toNat c (.tuningResponse true) w.arrived := by
    simp [State.tuningIn, hu.vonu, hu.vonuAt, hpair, hby, hen']
  have ht := (h.sets hu).modVch (f := fun x => { x with tuneAt := some sfc })
  obtain ⟨hup, hsame, mic, hvch⟩ := h.replied (m := .tuningResponse true) (a := w.arrived) (b := u.actsOf c [v.toNat]) (k := 0)
    hu ht (h.ready hu ht)
  rw [he]
  exact ⟨congrArg VCh.tuneAt hvch, hup, hsame⟩

/-! ### Alloc-IDs (R155) -/

theorem allocAt_setAlloc (hs : SMap.wf (none : Option AllocE) s.vonu.alloc = true) (i : Nat) (a : Option AllocE) :
    (s.setAlloc i a).allocAt i = a := mget_mput_same _ _ _ _ (keys_sorted hs)

theorem allocAt_of_alloc (h : t.vonu.alloc = s.vonu.alloc) (i : Nat) : t.allocAt i = s.allocAt i := by
  rw [State.allocAt, h, State.allocAt]

/-- The entries at the end of a command whose last act was to queue an answer. -/
theorem allocAt_replied {a : BitVec 64} {k n : Nat} {b : List (Nat × Act)} (i : Nat) :
    ((t.upPloam n c m a).reportMoves c b k).finish.allocAt i = t.allocAt i :=
  allocAt_of_alloc (by rw [State.finish_vonu]; exact upPloam_alloc ..) i

/-- Where an entry is free, an allocation is found in one afterwards. -/
theorem allocBind_allocAt {id : BitVec 14} {d : Bool} {x : VId} (hs : SMap.wf (none : Option AllocE) s.vonu.alloc = true)
    (hfree : ∃ k, k < 8192 ∧ s.allocAt k = none) :
    ∃ k, (s.allocBind x c id d).allocAt k = some { allocId := id, vonu := x, chan := c } := by
  obtain ⟨k, he⟩ | ⟨k, code, n, he⟩ | ⟨-, hall⟩ := allocBind_spec s x c id d
  · exact ⟨k, he ▸ allocAt_setAlloc hs ..⟩
  · exact ⟨k, he ▸ (allocAt_of_alloc (congrArg VonuSt.alloc (State.raise_vonu ..)) k).trans (allocAt_setAlloc hs ..)⟩
  · obtain ⟨k, hk, hnone⟩ := hfree
    exact absurd hnone (hall k hk)

/-- The entry released is free. -/
theorem allocRelease_allocAt (hs : SMap.wf (none : Option AllocE) s.vonu.alloc = true) (i : Nat) :
    (s.allocRelease i).allocAt i = none := by
  unfold State.allocRelease
  split
  next a _ =>
    have hv : (s.stageFlush i a.chan).vonu = s.vonu :=
      ((((Aside.refl (l := poolZones) s).bump).setStage).freeAll).zones .vonus (by decide)
    exact allocAt_setAlloc (hv ▸ hs) i none
  next h => exact h

/-- An Alloc-ID that none holds is bound where the vONU and the entries have room. -/
theorem allocTry_of_room {id : BitVec 14} {d : Bool} {x : VId} (hnew : s.allocFind c id = none)
    (hroom : s.allocsOf x < if s.legacy then 16 else 64) (hlen : s.vonu.alloc.length < 8192) :
    s.allocTry x c id d = (true, s.allocBind x c id d) := by
  simp only [State.allocTry, hnew, if_neg (Nat.not_le.2 hroom), if_neg (Nat.not_le.2 hlen)]

theorem completes_assignAllocId {id : BitVec 14} (h : Answering s c v w rest) (h5 : (s.vch v.toNat c).act = .o5)
    (hb : w.msg.body = .assignAllocId id false) (hnew : s.allocFind c id = none)
    (hroom : s.allocsOf v < (if s.legacy then 16 else 64)) (hlen : s.vonu.alloc.length < 8192) :
    Completes (.assignAllocId c) s fun t => Answered s c v rest (.acknowledge .ok) t ∧
    ((∃ k, k < 8192 ∧ s.allocAt k = none) → ∃ k, t.allocAt k = some { allocId := id, vonu := v, chan := c }) ∧
    SameBut answerZones s t := by
  refine completes_service (listed := isO5) (f := fun s n => s.assignAlloc c id false w.arrived n) h.waits ?_
    (by simp [isO5, h5]) fun u hu => ?_
  · exact fun u => by simp only [hb]
  have htry : u.allocTry v c id false = (true, u.allocBind v c id false) := allocTry_of_room
    (by rw [State.allocFind, hu.vonu]; exact hnew) (by rw [State.allocsOf, hu.vonu, hu.legacy]; exact hroom) (hu.vonu ▸ hlen)
  have he : u.assignAlloc c id false w.arrived v.toNat =
      (u.allocBind v c id false).upPloam v.toNat c (.acknowledge .ok) w.arrived := by
    simp [State.assignAlloc, htry]
  have ht := (h.sets hu).beside ((Aside.refl u).allocBind (v := v) (c := c) (id := id) (d := false))
  obtain ⟨hup, hsame, -⟩ := h.replied (m := .acknowledge .ok) (a := w.arrived) (b := u.actsOf c [v.toNat]) (k := 0) hu ht
    (h.ready hu ht)
  rw [he]
  refine ⟨hup, fun ⟨k, hk, hfree⟩ => ?_, hsame⟩
  simp only [allocAt_replied]
  exact allocBind_allocAt (hu.vonu ▸ h.canonical.alloc) ⟨k, hk, (allocAt_of_alloc (by rw [hu.vonu]) k).trans hfree⟩

theorem completes_releaseAllocId {id : BitVec 14} {i : Nat} {a : AllocE} (h : Answering s c v w rest)
    (h5 : (s.vch v.toNat c).act = .o5) (hb : w.msg.body = .assignAllocId id true) (hfind : s.allocFind c id = some (i, a))
    (ha : a.vonu = v) : Completes (.assignAllocId c) s fun t =>
    SameBut answerZones s t ∧ Answered s c v rest (.acknowledge .ok) t ∧ t.allocAt i = none := by
  refine completes_service (listed := isO5) (f := fun s n => s.assignAlloc c id true w.arrived n) h.waits ?_
    (by simp [isO5, h5]) fun u hu => ?_
  · exact fun u => by simp only [hb]
  have hfind' : u.allocFind c id = some (i, a) := by rw [State.allocFind, hu.vonu]; exact hfind
  have he : u.assignAlloc c id true w.arrived v.toNat = (u.allocRelease i).upPloam v.toNat c (.acknowledge .ok) w.arrived := by
    simp [State.assignAlloc, hfind', ha]
  have ht := ((h.sets hu).mono (l := Frame.releaseZones) (by decide)).beside ((Aside.refl u).allocRelease (i := i))
  obtain ⟨hup, hsame, -⟩ := h.replied (m := .acknowledge .ok) (a := w.arrived) (b := u.actsOf c [v.toNat]) (k := 0) hu ht
    (h.ready hu ht)
  rw [he]
  exact ⟨hsame, hup, (allocAt_replied i).trans (allocRelease_allocAt (hu.vonu ▸ h.canonical.alloc) i)⟩

/-! ### Key_Control (R403, R406) -/

/-- A wrap under the management key is one more use of it: where the key bears that use, the vONU is ready to answer still. -/
theorem Answering.ready_useKey (h : Answering s c v w rest) (hu : Unqueued s c rest u) (ht : Sets l v.toNat c u t y)
    (hs : SMap.wf Slot.empty t.crypto.slots = true)
    (hk : t.slot (mgmtSlot v.toNat (chanN c)) = s.slot (mgmtSlot v.toNat (chanN c)))
    (h2 : (s.useKey (mgmtSlot v.toNat (chanN c)) 1).keyUse (mgmtSlot v.toNat (chanN c)) = .ok) (hw : .words ∉ l := by decide) :
    Ready s v.toNat c (t.useKey (mgmtSlot v.toNat (chanN c)) 1) := by
  have hside {x : State} : Aside [.keys] x (x.useKey (mgmtSlot v.toNat (chanN c)) 1) := (Aside.refl x).useKey
  have hwords := (hside.zones .words (by decide)).trans (((ht.zones .words hw).trans hu.words).trans
    (hside (x := s).zones .words (by decide)).symm)
  have hsame : (t.useKey (mgmtSlot v.toNat (chanN c)) 1).slot (mgmtSlot v.toNat (chanN c)) =
      (s.useKey (mgmtSlot v.toNat (chanN c)) 1).slot (mgmtSlot v.toNat (chanN c)) := by
    rw [slot_useKey_same hs, slot_useKey_same h.canonical.slots, hk]
  have hr := h.ready_of_slot hu ht hk hw
  refine ⟨?_, ?_, (mgmtKey_useKey hs v.toNat c 1 0).trans hr.key⟩
  · rw [engineOn_of_power hside.power, hr.engine]
  · rw [keyUse_congr hwords hsame, h2]

/-- The key that a Key_Report tells, wrapped: that of the slot of its index, if it holds one. -/
def State.wrappedKey (s : State) (n : Nat) (c : Chan) (k : BitVec 2) : Option (List Byte) :=
  if (k = 1 || k = 2) && (s.slot (uniSlot n (chanN c) k.toNat)).state ≠ 0 then
    some (Config.keyWrap (s.mgmtKey n c 2) (s.slot (uniSlot n (chanN c) k.toNat)).key)
  else none

/-- A wrapped key is one use of the management key (R406). -/
def State.wrapUse (s : State) (n : Nat) (c : Chan) (k : BitVec 2) : State :=
  if (s.wrappedKey n c k).isSome then s.useKey (mgmtSlot n (chanN c)) 1 else s

theorem keyReport_eq {n : Nat} {k : BitVec 2} {a : BitVec 64} (he : s.engineOn = true)
    (hk : s.keyUse (mgmtSlot n (chanN c)) = .ok) :
    s.keyReport c k a n = (s.wrapUse n c k).upPloam n c (.keyReport k (s.wrappedKey n c k)) a := by
  unfold State.keyReport State.wrapUse State.wrappedKey
  dsimp only
  split_ifs <;> simp_all [keyBegin_ok he hk]

/-- What a Key_Control leaves that has its key reported. -/
theorem Answering.keyReported {k : BitVec 2} {a : BitVec 64} {j : Nat} {b : List (Nat × Act)} (h : Answering s c v w rest)
    (hu : Unqueued s c rest u) (ht : Sets l v.toNat c u t (s.vch v.toNat c)) (hs : SMap.wf Slot.empty t.crypto.slots = true)
    (hk : t.slot (mgmtSlot v.toNat (chanN c)) = s.slot (mgmtSlot v.toNat (chanN c)))
    (h2 : (s.useKey (mgmtSlot v.toNat (chanN c)) 1).keyUse (mgmtSlot v.toNat (chanN c)) = .ok)
    (hl : ∀ p ∈ l, p ∈ replyZones := by decide) :
    let x := ((t.keyReport c k a v.toNat).reportMoves c b j).finish
    Answered s c v rest (.keyReport k (t.wrappedKey v.toNat c k)) x ∧ SameBut answerZones s x ∧
    ∀ i, i ≠ mgmtSlot v.toNat (chanN c) → x.slot i = t.slot i := by
  have hw : .words ∉ l := fun hw => absurd (hl _ hw) (by decide)
  have hr := h.ready_of_slot hu ht hk hw
  have hz : Sets replyZones v.toNat c u (t.wrapUse v.toNat c k) (s.vch v.toNat c) :=
    ((ht.mono hl).beside (Aside.refl t).useKey).ite (ht.mono hl)
  have hr' : Ready s v.toNat c (t.wrapUse v.toNat c k) := by
    unfold State.wrapUse
    split
    exacts [h.ready_useKey hu ht hs hk h2 hw, hr]
  obtain ⟨hup, hsame, -⟩ := h.replied (m := .keyReport k (t.wrappedKey v.toNat c k)) (a := a) (b := b) (k := j) hu hz hr'
  rw [keyReport_eq hr.engine hr.use]
  refine ⟨hup, hsame, fun i hi => (slot_replied hi).trans ?_⟩
  unfold State.wrapUse
  split
  exacts [slot_useKey_other hi 1, rfl]

/-- Nothing is reported while the generator has failed (R403, R408). -/
theorem completes_keyControl_noRng {k : BitVec 2} (h : Answering s c v w rest) (h5 : (s.vch v.toNat c).act = .o5)
    (hb : w.msg.body = .keyControl k false) (hrng : s.crypto.rngOk = false) : Completes (.keyControl c) s fun t =>
    (t.vch v.toNat c).upQ = (s.vch v.toNat c).upQ ∧ (t.ch c).ploamQ = rest ∧ SameBut serveZones s t := by
  refine completes_service (listed := isO5) (f := fun s n => s.keyControlIn c k false w.arrived n) h.waits ?_
    (by simp [isO5, h5]) fun u hu => ?_
  · exact fun u => by simp only [hb]
  have he : u.keyControlIn c k false w.arrived v.toNat = u := by simp [State.keyControlIn, hu.crypto, hrng]
  obtain ⟨hvch, hq, hsame⟩ := (h.sets hu).reported hu (m := serveZones) (b := u.actsOf c [v.toNat]) (k := 0)
  rw [he]
  exact ⟨congrArg VCh.upQ hvch, hq, hsame⟩

theorem completes_keyControl_report {k : BitVec 2} (h : Answering s c v w rest) (h5 : (s.vch v.toNat c).act = .o5)
    (hb : w.msg.body = .keyControl k false) (hrng : s.crypto.rngOk = true)
    (h2 : (s.useKey (mgmtSlot v.toNat (chanN c)) 1).keyUse (mgmtSlot v.toNat (chanN c)) = .ok) :
    Completes (.keyControl c) s fun t =>
    (∃ x, Answered s c v rest (.keyReport k x) t) ∧ SameBut answerZones s t := by
  refine completes_service (listed := isO5) (f := fun s n => s.keyControlIn c k false w.arrived n) h.waits ?_
    (by simp [isO5, h5]) fun u hu => ?_
  · exact fun u => by simp only [hb]
  have heng : u.engineOn = true := (engineOn_of_power hu.power).trans h.engine
  have he : u.keyControlIn c k false w.arrived v.toNat = u.keyReport c k w.arrived v.toNat := by
    simp [State.keyControlIn, hu.crypto, hrng, heng]
  obtain ⟨hup, hsame, -⟩ := h.keyReported (k := k) (a := w.arrived) (b := u.actsOf c [v.toNat]) (j := 0) hu (h.sets hu)
    (hu.crypto ▸ h.canonical.slots) (slot_of_crypto hu.crypto _) h2
  rw [he]
  exact ⟨⟨_, hup⟩, hsame⟩

/-- A key is drawn into its slot and reported. -/
theorem completes_keyControl_draw {k : BitVec 2} (h : Answering s c v w rest) (h5 : (s.vch v.toNat c).act = .o5)
    (hb : w.msg.body = .keyControl k true) (hk : k = 1 ∨ k = 2) (hup : (s.vch v.toNat c).upKey ≠ k)
    (hrng : s.crypto.rngOk = true) (halarm : s.crypto.alarmActive = 0) (hlock : s.crypto.lockedOut = false)
    (h2 : (s.useKey (mgmtSlot v.toNat (chanN c)) 1).keyUse (mgmtSlot v.toNat (chanN c)) = .ok) :
    Completes (.keyControl c) s fun t =>
    (∃ x, Answered s c v rest (.keyReport k (some x)) t) ∧ (t.slot (uniSlot v.toNat (chanN c) k.toNat)).state = 1 ∧
    SameBut answerZones s t := by
  refine completes_service (listed := isO5) (f := fun s n => s.keyControlIn c k true w.arrived n) h.waits ?_
    (by simp [isO5, h5]) fun u hu => ?_
  · exact fun u => by simp only [hb]
  have heng : u.engineOn = true := (engineOn_of_power hu.power).trans h.engine
  have hidx : (k = 1 || k = 2) = true := by simpa using hk
  have he : u.keyControlIn c k true w.arrived v.toNat =
      (u.drawKey (uniSlot v.toNat (chanN c) k.toNat)).keyReport c k w.arrived v.toNat := by
    rw [State.keyControlIn, if_neg (by simp [heng, hu.crypto, hrng]), if_neg (by rw [hu.vch, hidx, decide_eq_true hup]; decide),
      if_neg (by simp [hu.crypto, halarm, hlock])]
  have hslots : SMap.wf Slot.empty u.crypto.slots = true := hu.crypto ▸ h.canonical.slots
  have hne := mgmtSlot_ne_uniSlot v c k.toNat
  have hdrawn := slot_drawKey_same hslots (uniSlot v.toNat (chanN c) k.toNat)
  have ht : Sets [.vonus, .keys, .counters] v.toNat c u (u.drawKey (uniSlot v.toNat (chanN c) k.toNat)) (s.vch v.toNat c) :=
    ((h.sets hu).mono (by decide)).beside (Aside.refl u).drawKey
  obtain ⟨hup, hsame, hslot⟩ := h.keyReported (k := k) (a := w.arrived) (b := u.actsOf c [v.toNat]) (j := 0) hu ht
    (slots_drawKey_wf hslots _) ((slot_drawKey_other hne).trans (slot_of_crypto hu.crypto _)) h2
  have hsome : (u.drawKey (uniSlot v.toNat (chanN c) k.toNat)).wrappedKey v.toNat c k = some (Config.keyWrap _ _) :=
    if_pos (by rw [hidx, hdrawn]; rfl)
  rw [hsome] at hup
  rw [he]
  exact ⟨⟨_, hup⟩, by rw [hslot _ hne.symm]; exact hdrawn, hsame⟩

/-! ### A retired management key (R406) -/

/-- Under a retired key no operation begins: the message is discarded, and counted. -/
theorem upPloam_retired {n : Nat} {a : BitVec 64} (hq : (s.vch n c).upQ.length < 4) (he : s.engineOn = true)
    (hk : s.keyUse (mgmtSlot n (chanN c)) = .retired) : s.upPloam n c m a = s.bump (cryCtr 1) 1 := by
  unfold State.upPloam State.upMic
  rw [if_neg (by omega)]
  simp only [keyBegin_retired he hk]

theorem completes_requestRegistration_retired (hs : s.canonical) (hw : Waits s c v w rest) (hq : (s.vch v.toNat c).upQ.length < 4)
    (he : s.engineOn = true) (hb : w.msg.body = .requestRegistration) (hl : inRegistered (s.vch v.toNat c).act = true)
    (hk : s.keyUse (mgmtSlot v.toNat (chanN c)) = .retired) : Completes (.requestRegistration c) s fun t =>
    (t.vch v.toNat c).upQ = (s.vch v.toNat c).upQ ∧ t.ctr (cryCtr 1) = s.ctr (cryCtr 1) + 1 ∧ (t.ch c).ploamQ = rest ∧
    SameBut answerZones s t := by
  refine completes_service (listed := inRegistered) (f := fun s n => s.upPloam n c (.registration (s.vonuAt n).regId) w.arrived)
    hw ?_ hl fun u hu => ?_
  · exact fun u => by simp only [hb]
  have hk' : u.keyUse (mgmtSlot v.toNat (chanN c)) = .retired := (keyUse_congr hu.words (slot_of_crypto hu.crypto _)).trans hk
  have ht : Sets [.vonus, .counters] v.toNat c u (u.bump (cryCtr 1) 1) (s.vch v.toNat c) :=
    (hu.sets hs).beside (Aside.refl u).bump
  obtain ⟨hvch, hqueue, hsame⟩ := ht.reported hu (m := answerZones) (b := u.actsOf c [v.toNat]) (k := 0)
  have hbump := State.ctr_bump_same u (cryCtr 1) 1 (hu.sorted (keys_sorted hs.counters))
  rw [upPloam_retired (by rw [hu.vch]; exact hq) ((engineOn_of_power hu.power).trans he) hk']
  rw [hu.counts _ (by decide) (by decide)] at hbump
  exact ⟨congrArg VCh.upQ hvch, (State.finish_ctr _ (by decide)).trans hbump, hqueue, hsame⟩

/-! ### Messages that are recorded (Table VONU-5) -/

/-- A service that leaves the vONUs' records alone. -/
theorem completes_recorded {i : Instr} {q : State → Prop} {k : State → PloamWait → Option State} {f : State → State}
    (hs : s.canonical) (hw : Waits s c v w rest) (hk : ∀ u, k u w = some (u.serveAll c w notIdle fun s _ => f s))
    (hl : (s.vch v.toNat c).act ≠ .idle) (hf : ∀ u, Aside [.vonus] u (f u))
    (hq : ∀ u, Unqueued s c rest u → q ((f u).reportMoves c (u.actsOf c [v.toNat]) 0).finish)
    (hx : exec i s = next (s.served c k) := by rfl) :
    Completes i s fun t => q t ∧ (t.ch c).ploamQ = rest ∧ SameBut serveZones s t := by
  refine completes_service (f := fun s _ => f s) hw hk (by simpa [notIdle] using hl) (fun u hu => ?_) hx
  obtain ⟨-, hqueue, hsame⟩ := (Sets.beside (hu.sets hs (n := v.toNat) (d := c)) (hf u)).reported hu (m := serveZones)
    (b := u.actsOf c [v.toNat]) (k := 0)
  exact ⟨hq u hu, hqueue, hsame⟩

theorem completes_systemProfile {content : List Byte} (hs : s.canonical) (hw : Waits s c v w rest)
    (hb : w.msg.body = .systemProfile content) (hl : (s.vch v.toNat c).act ≠ .idle) : Completes (.systemProfile c) s fun t =>
    t.vonu.sysProfile.get c = content ∧ (t.ch c).ploamQ = rest ∧ SameBut serveZones s t := by
  refine completes_recorded hs hw
    (f := fun s => { s with vonu := { s.vonu with sysProfile := s.vonu.sysProfile.set c content } })
    ?_ hl (fun u => (Aside.refl u).vonu) fun u _ => ?_
  · exact fun u => by simp only [hb]
  · simp [State.reportMoves]

theorem completes_channelProfile {id : Byte} {pair : Pair} (hs : s.canonical) (hw : Waits s c v w rest)
    (hb : w.msg.body = .channelProfile id pair) (hl : (s.vch v.toNat c).act ≠ .idle) : Completes (.channelProfile c) s fun t =>
    mget Pair.other (t.vonu.chProfile.get c) id.toNat = pair ∧ (t.ch c).ploamQ = rest ∧ SameBut serveZones s t := by
  refine completes_recorded hs hw (f := fun s => { s with vonu := { s.vonu with
    chProfile := s.vonu.chProfile.set c (mput Pair.other (s.vonu.chProfile.get c) id.toNat pair) } }) ?_ hl
    (fun u => (Aside.refl u).vonu) fun u hu => ?_
  · exact fun u => by simp only [hb]
  · simp only [State.reportMoves, State.finish_vonu, Two.get_set_same]
    exact mget_mput_same _ _ _ _ (keys_sorted (hu.vonu ▸ hs.chProfile c))

/-! ### The statement -/

/-- Settles O16, a message at a time. -/
theorem ploamService : Obligations.PloamService := by
  intro s c v w rest hs hw hq he mgmt up
  refine ⟨fun hb hl hk => completes_requestRegistration_retired hs hw hq he hb hl hk, fun hk => ?_⟩
  have h : Answering s c v w rest := ⟨hs, hw, hq, he, hk⟩
  refine ⟨completes_requestRegistration h, fun h5 => ⟨?_, ?_, ?_, ?_, ?_, ?_, ?_, ?_, ?_, ?_, ?_⟩, ?_, ?_, ?_⟩
  · exact fun _ => completes_assignAllocId h h5
  · exact fun _ _ _ => completes_releaseAllocId h h5
  · exact fun _ => completes_keyControl_noRng h h5
  · exact fun _ => completes_keyControl_report h h5
  · exact fun _ => completes_keyControl_draw h h5
  · exact fun _ _ => completes_sleepAllow h h5
  · exact fun _ _ => completes_tuningControl h h5
  · exact h.completes_noLaserChange h5
  · exact h.completes_noLaserChange h5
  · exact h.completes_noLaserChange h5
  · exact fun hb => (h.completes_noLaserChange h5 hb).imp fun _ ⟨hx, hboth⟩ => ⟨hx, hboth.symm⟩
  · exact fun _ => completes_systemProfile hs hw
  · exact fun _ _ => completes_channelProfile hs hw
  · exact fun _ => completes_unknownPloamType h

end Sys2Proof.Machine
end

section
/-! Activation timers, tuning and the end of a retirement (O17). What an expiry leaves is said by `Sets` for the channel that it
is on; a tuning moves the vONU's record to the other channel, a step at a time. -/

namespace Sys2Proof.Machine
set_option Elab.async false
variable {l : List Zone} {s t u : State} {c : Chan} {n : Nat} {y : VCh}

/-! ### Expiries (R134, Table VONU-3) -/

/-- The parts that an expiry may change. -/
def expiryZones : List Zone := [.counters, .vonus, .bursts, .queues, .pools, .keys]

theorem timerDue_iff {a : Act} : s.timerDue c n a = true ↔
    (s.vch n c).act = a ∧ ∃ t, (s.vch n c).expiry = some t ∧ t.toNat ≤ s.tick.number.toNat := by
  simp [State.timerDue, Option.any_eq_true]

/-- TO1: back to O2-3 without the ONU-ID. -/
theorem expireOne_o4 (h : s.timerDue c n .o4 = true) : s.expireOne c n =
    (s.allocReleaseDefault (BitVec.ofNat 9 n) c).modVch n c fun x => { x with act := .o23, onuId := none, expiry := none } := by
  obtain ⟨hact, t, ht, hdue⟩ := timerDue_iff.1 h
  simp [State.expireOne, hact, ht, hdue]

/-- TO2: to O1, and on from there. -/
theorem expireOne_o6 (h : s.timerDue c n .o6 = true) : s.expireOne c n = (s.setAct n c .o1).tryO23 n c := by
  obtain ⟨hact, t, ht, hdue⟩ := timerDue_iff.1 h
  simp [State.expireOne, hact, ht, hdue]

/-- What is left at the end of TO1 or TO2. -/
theorem timerExpired {a : Act} (h : s.timerDue c n a = true) (ht : Sets expiryZones n c s (s.expireOne c n) y) :
    SameBut expiryZones s (s.timerExpiry c n a) ∧ (s.timerExpiry c n a).vch n c = y := by
  have hx := ht.beside (((Aside.refl _).reportMoves (c := c) (before := s.actsOf c [n]) (cause := 1)).stampVonu (c := c) (v := n))
  rw [State.timerExpiry, h]
  exact ⟨hx.zones, hx.vch⟩

theorem to1Expired (hs : s.canonical) (h : s.timerDue c n .o4 = true) :
    SameBut expiryZones s (s.timerExpiry c n .o4) ∧ ((s.timerExpiry c n .o4).vch n c).act = .o23 ∧
    ((s.timerExpiry c n .o4).vch n c).onuId = none ∧ ((s.timerExpiry c n .o4).vch n c).expiry = none := by
  have ht : Sets expiryZones n c s (s.expireOne c n) _ :=
    expireOne_o4 h ▸ ((Sets.refl hs.vonus).beside (Aside.refl s).allocReleaseDefault).modVch
  obtain ⟨hsame, hvch⟩ := timerExpired h ht
  rw [hvch]
  exact ⟨hsame, rfl, rfl, rfl⟩

theorem to2Expired (hs : s.canonical) (h : s.timerDue c n .o6 = true) :
    SameBut expiryZones s (s.timerExpiry c n .o6) ∧
    (((s.timerExpiry c n .o6).vch n c).act = .o1 ∨ ((s.timerExpiry c n .o6).vch n c).act = .o23) ∧
    ((s.timerExpiry c n .o6).vch n c).onuId = none := by
  obtain ⟨a, ha, ht⟩ := (Sets.refl (l := expiryZones) (v := n) (c := c) hs.vonus).enterO1
  obtain ⟨hsame, hvch⟩ := timerExpired h (expireOne_o6 h ▸ ht)
  rw [hvch]
  exact ⟨hsame, ha, rfl⟩

/-- TO4 and TO5: to O1 on the target channel, with the masks as they are (R164). -/
theorem tuningExpired {a : Act} (hs : s.canonical) (h : s.timerDue c n a = true) :
    SameBut expiryZones s (s.tuningExpiry c n a) ∧
    (((s.tuningExpiry c n a).vch n c).act = .o1 ∨ ((s.tuningExpiry c n a).vch n c).act = .o23) ∧
    ((s.tuningExpiry c n a).vonuAt n).enable = (s.vonuAt n).enable := by
  obtain ⟨a', ha, ht⟩ := (Sets.refl (l := expiryZones) (v := n) (c := c) hs.vonus).enterO1
  have hx := ht.beside ((((Aside.refl _).reportMoves (c := c) (before := s.actsOf c [n]) (cause := 1)).tuningDone (c := c)
    (ok := false) (v := n)).stampVonu (c := c) (v := n))
  have he : s.tuningExpiry c n a = _ := if_neg (by simp [h])
  rw [he]
  exact ⟨hx.zones, by rwa [hx.vch], by rw [hx.record]⟩

/-! ### Tuning (R164) -/

namespace Aside

theorem putCfg {a : Nat} {x : Word} (h : Aside l s t) (hl : .words ∈ l := by decide) : Aside l s (t.putCfg a x) :=
  h.beside (sameBut_putCfg t a x) rfl (by simpa using hl)

theorem moveAllocs {o : Chan} {es : List (Nat × Option AllocE)} (h : Aside l s t) (hl : .vonus ∈ l := by decide) :
    Aside l s (moveAllocs o es t) := by
  induction es generalizing t with
  | nil => exact h
  | cons e r ih =>
    obtain ⟨i, _ | a⟩ := e
    exacts [ih h, ih (h.setAlloc hl)]

theorem moveBindings {o : Chan} {es : List (Nat × Word)} (h : Aside l s t) (hl : .words ∈ l := by decide) :
    Aside l s (moveBindings n o es t) := by
  induction es generalizing t with
  | nil => exact h
  | cons e r ih => exact ih (h.ite (h.putCfg hl))

theorem moveKey {d o : Chan} {k : Nat} (h : Aside l s t) (hl : .keys ∈ l := by decide) : Aside l s (t.moveKey n d o k) :=
  (h.setSlot hl).eraseSlot hl

theorem unbindAll {es : List (Nat × Word)} (h : Aside l s t) (hl : .words ∈ l := by decide) : Aside l s (unbindAll es t) := by
  induction es generalizing t with
  | nil => exact h
  | cons e r ih => exact ih (h.putCfg hl)

end Aside

/-- The parts that a move to the other channel may change. -/
def tuneZones : List Zone := .words :: expiryZones

theorem sameBut_setVonu (s : State) (n : Nat) (x : Vonu) : SameBut [.vonus] s (s.setVonu n x) := fun p hp => by
  cases p <;> simp_all [Zone.same]

/-- The move to the other channel: IDLE on the one, O8 on the other with the ONU-ID that the vONU had. -/
theorem tuneNow_spec (hs : s.canonical) : SameBut tuneZones s (s.tuneNow n c) ∧
    ((s.tuneNow n c).vch n c).act = .idle ∧ ((s.tuneNow n c).vch n (otherCh c)).act = .o8 ∧
    ((s.tuneNow n c).vch n (otherCh c)).onuId = (s.vch n c).onuId ∧ ((s.tuneNow n c).vch n (otherCh c)).eqd = none ∧
    ((s.tuneNow n c).vonuAt n).enable = ⟨(s.vonuAt n).enable.b, (s.vonuAt n).enable.a⟩ := by
  unfold State.tuneNow
  extract_lets o x before beforeO swap z s1 mine s2 s3 s4 due s5 s6
  have h1 : s1.vonuAt n = { z with enable := swap z.enable, standby := swap z.standby } := vonuAt_setVonu hs.vonus n _
  have hz1 : SameBut tuneZones s s1 := (sameBut_setVonu s n _).mono (by decide)
  have hoo : otherCh o = c := by cases c <;> rfl
  have hmoved : Aside tuneZones s1 s4 := ((((Aside.refl s1).moveAllocs).moveBindings).moveKey).moveKey
  have h5 : Sets tuneZones n c s1 s5 _ := ((Sets.refl (mput_wf _ _ hs.vonus)).beside hmoved).enter (.inr rfl)
  have h6 : Sets tuneZones n o s5 s6 _ := (Sets.refl h5.wf).modVch
  have h := h6.beside (((Aside.refl s6).reportMoves (c := c) (before := before) (cause := 4)).reportMoves (c := o)
    (before := beforeO) (cause := 4))
  have hother := h.vch_other
  rw [hoo, show s5.vch n c = _ from h5.vch] at hother
  have honuId := congrArg VCh.onuId h.vch
  refine ⟨hz1.trans (h5.zones.trans h.zones), congrArg VCh.act hother, congrArg VCh.act h.vch, honuId, congrArg VCh.eqd h.vch, ?_⟩
  rw [h.record, h5.record, h1]

/-- A step that the target channel's SYNC makes on one channel (R164). -/
theorem tuneSynced_sets (hs : SMap.wf Vonu.none s.vonu.vonus = true) (n : Nat) (c : Chan) :
    ∃ y, Sets [.vonus] n c s (s.tuneSynced n c) y ∧ ((s.vch n c).act = .o8 → s.syncSeen c = true → y.act = .o9) := by
  unfold State.tuneSynced
  split
  · exact ⟨_, (Sets.refl hs).modVch.beside (Aside.refl _).reportMoves, fun _ _ => rfl⟩
  next hnot => exact ⟨_, .refl hs, fun h8 hsync => absurd (by simp [h8, hsync]) hnot⟩

/-- On its target channel, a vONU in O8 passes on to O9. -/
theorem tuneSynced_both (hs : s.canonical) (h8 : (s.vch n c).act = .o8) (hsync : s.syncSeen c = true) :
    (((s.tuneSynced n .a).tuneSynced n .b).vch n c).act = .o9 ∧ SameBut [.vonus] s ((s.tuneSynced n .a).tuneSynced n .b) := by
  obtain ⟨y, ha, hya⟩ := tuneSynced_sets hs.vonus n .a
  obtain ⟨z, hb, hzb⟩ := tuneSynced_sets ha.wf n .b
  refine ⟨?_, ha.zones.trans hb.zones⟩
  cases c with
  | a => exact (congrArg VCh.act (hb.vch_other.trans ha.vch)).trans (hya h8 hsync)
  | b =>
    have hch : (s.tuneSynced n .a).syncSeen .b = s.syncSeen .b := by
      rw [State.syncSeen, State.ch, ha.zones .channels (by decide)]
      rfl
    rw [hb.vch, hzb ((congrArg VCh.act ha.vch_other).trans h8) (hch.trans hsync)]

/-! ### The end of a retirement (R131) -/

theorem freeVonu_spec (hs : s.canonical) :
    SameBut [.words, .vonus, .keys] s (s.freeVonu n) ∧ (s.freeVonu n).vonuAt n = Vonu.none := by
  unfold State.freeVonu
  extract_lets s1 s2
  have h2 : Aside [.words, .keys] s s2 :=
    (Aside.refl s).unbindAll.eraseSlot.eraseSlot.eraseSlot.eraseSlot.eraseSlot.eraseSlot
  have hwf : SMap.wf Vonu.none s2.vonu.vonus = true := h2.records ▸ hs.vonus
  refine ⟨((h2.zones.mono (by decide)).trans ((sameBut_setVonu s2 n _).mono (by decide))).trans (sameBut_raise _ _ _ _), ?_⟩
  exact (congrArg (fun x : VonuSt => mget Vonu.none x.vonus n) (State.raise_vonu ..)).trans (vonuAt_setVonu hwf n _)

/-! ### The statement -/

/-- Settles O17: each expiry, the two steps of a tuning, and the end of a retirement. -/
theorem vonuTimers : Obligations.VonuTimers := by
  refine fun s c v hs => ⟨fun h => ⟨_, rfl, to1Expired hs h⟩, fun h => ⟨_, rfl, to2Expired hs h⟩,
    fun h => ⟨_, rfl, tuningExpired hs h⟩, fun h => ⟨_, rfl, tuningExpired hs h⟩, fun f hf hnear => ?_,
    fun h8 hsync => ⟨_, rfl, tuneSynced_both hs h8 hsync⟩, fun hlife => ?_⟩
  · have he : s.tuningSuperframeIn v.toNat = s.tuneNow v.toNat c := by
      simp only [State.tuningSuperframeIn, hf, if_pos hnear]
    obtain ⟨hsame, h⟩ := tuneNow_spec (n := v.toNat) (c := c) hs
    refine .of_eq (congrArg State.finish he) ⟨hsame.finish, ?_⟩
    simpa [State.vch, State.vonuAt] using h
  · obtain ⟨hsame, h⟩ := freeVonu_spec (n := v.toNat) hs
    refine .of_eq (if_pos hlife) ⟨hsame.finish, ?_⟩
    rw [State.vonuAt, State.finish_vonu]
    exact h

end Sys2Proof.Machine
end

section
/-! OMCI in both directions and flow bindings (O18). A message from the line passes through a cell to the receive ring; what the
host writes is a word that is stored, or the words of VONU_OMCI_TX together. -/

namespace Sys2Proof.Machine
set_option Elab.async false
variable {s t u : State} {c : Chan} {v : BitVec 9} {n : Nat} {msg : List Byte}

/-! ### A cell taken -/

namespace CellsOnly

theorem fresh (h : CellsOnly s t) : CellsOnly s t.fresh.2 :=
  h.trans ⟨fun p _ => by cases p <;> simp [Zone.same, State.ctr], rfl⟩

theorem sndIte {α : Type} {p q : α × State} {b : Prop} [Decidable b] (h : CellsOnly s p.2) (k : CellsOnly s q.2) :
    CellsOnly s (if b then p else q).2 := by split <;> assumption

theorem grantCell {p : Nat} {cls : BitVec 6} {began : Bool} (h : CellsOnly s t) : CellsOnly s (t.grantCell p cls began).2 :=
  sndIte h.bump (sndIte h.bump (sndIte h.bump h.fresh.setCell.bump.poolChanged))

theorem servePool {p k : Nat} {began : Bool} {r : List PoolReq} (h : CellsOnly s t) : CellsOnly s (servePool p began k r t) := by
  induction r generalizing t k with
  | nil => cases k <;> exact h
  | cons x r ih =>
    cases k with
    | zero => exact h.setPool
    | succ k => exact ih h.grantCell

theorem serveCarried {p k : Nat} (h : CellsOnly s t) : CellsOnly s (State.serveCarried p k t) := by
  induction k generalizing t with
  | zero => exact h
  | succ k ih => exact h.ite (ih h.setPool.servePool)

theorem takeCell {p : Nat} {cls : BitVec 6} {began : Bool} (h : CellsOnly s t) : CellsOnly s (t.takeCell p cls began).2 :=
  h.serveCarried.grantCell

end CellsOnly

/-! ### The receive ring (R157, R158) -/

/-- An OMCI message as the receive ring holds it. -/
def State.omciRecord (s : State) (v : BitVec 9) (c : Chan) (msg : List Byte) : OmciMsg :=
  { vonu := v, chan := c, tick := BitVec.ofNat 32 s.tickLow, data := msg }

/-- A state whose receive ring has one more message than that of `s`. -/
structure Relayed (s : State) (m : OmciMsg) (t : State) : Prop where
  zones : SameBut (.vonus :: .keys :: poolZones) s t
  count : t.vonu.omciProd = s.vonu.omciProd + 1
  slot : mget none t.vonu.omciRing (s.vonu.omciProd.toNat % 1024) = some m

/-- A message goes to the ring where an operation can begin under the key, its MIC holds and the ring has room. -/
theorem omciIn_relayed {mic : BitVec 32} (hslots : SMap.wf Slot.empty s.crypto.slots = true)
    (hring : SMap.wf (none : Option OmciMsg) s.vonu.omciRing = true) (he : s.engineOn = true)
    (hk : s.keyUse (mgmtSlot v.toNat (chanN c)) = .ok)
    (hmic : mic = (Config.cmac (s.mgmtKey v.toNat c 1) msg).setWidth 32) (hroom : s.omciBacklog < 1024) :
    Relayed s (s.omciRecord v c msg) (s.omciIn v.toNat c msg mic) := by
  have hside := (Aside.refl (l := [.keys]) s).useKey (i := mgmtSlot v.toNat (chanN c)) (n := aesBlocks msg.length)
  have hkey := mgmtKey_useKey hslots v.toNat c (aesBlocks msg.length) 1
  unfold State.omciIn
  simp only [keyBegin_ok he hk]
  generalize s.useKey (mgmtSlot v.toNat (chanN c)) (aesBlocks msg.length) = x at hside hkey
  have hx : x.vonu = s.vonu := hside.zones .vonus (by decide)
  have hback : x.omciBacklog = s.omciBacklog := by
    rw [State.omciBacklog, hx, cfg_of_words (hside.zones .words (by decide)), State.omciBacklog]
  have htick : x.tickLow = s.tickLow := by rw [State.tickLow, hside.zones .tick (by decide), State.tickLow]
  have hv : BitVec.ofNat 9 v.toNat = v := by simp
  rw [hkey, if_neg (not_not.2 hmic), if_neg (by omega), hx, htick, hv]
  have hstore := ((hside.mono (l := .vonus :: .keys :: poolZones) (by decide)).vonu (x := { s.vonu with
    omciRing := mput none s.vonu.omciRing (s.vonu.omciProd.toNat % 1024) (some (s.omciRecord v c msg))
    omciProd := s.vonu.omciProd + 1, omciWrote := true }) (by rw [hx])).bump (a := vonuCtr v.toNat 4) (n := 1)
  exact ⟨hstore.zones, rfl, mget_mput_same _ _ _ _ (keys_sorted hring)⟩

/-- A cell taken before the message and freed after it changes nothing of this. -/
theorem omciRelay_relayed {mic : BitVec 32} (hs : s.canonical) (he : s.engineOn = true)
    (hk : s.keyUse (mgmtSlot v.toNat (chanN c)) = .ok)
    (hmic : mic = (Config.cmac (s.mgmtKey v.toNat c 1) msg).setWidth 32) (hroom : s.omciBacklog < 1024) :
    Relayed s (s.omciRecord v c msg) (s.omciRelay v.toNat c msg mic) := by
  have hcell : CellsOnly s (s.takeCell 10 0x0D false).2 := (CellsOnly.refl s).takeCell
  unfold State.omciRelay
  generalize s.takeCell 10 0x0D false = r at hcell
  obtain ⟨cell, x⟩ := r
  obtain ⟨hz, hp⟩ := hcell
  dsimp only at hz hp ⊢
  have hv : x.vonu = s.vonu := hz .vonus (by decide)
  have hc : x.crypto = s.crypto := hz .keys (by decide)
  have hw : x.words = s.words := hz .words (by decide)
  have hkey : x.mgmtKey v.toNat c 1 = s.mgmtKey v.toNat c 1 :=
    mgmtKey_congr (by rw [slot_of_crypto hc]) (by rw [slot_of_crypto hc]) (by rw [State.vonuAt, hv, State.vonuAt]) 1
  have htick : x.omciRecord v c msg = s.omciRecord v c msg := by
    rw [State.omciRecord, State.tickLow, hz .tick (by decide)]; rfl
  have hin : Relayed x (x.omciRecord v c msg) (x.omciIn v.toNat c msg mic) := omciIn_relayed (hc ▸ hs.slots) (hv ▸ hs.omciRing)
    ((engineOn_of_power hp).trans he) ((keyUse_congr hw (slot_of_crypto hc _)).trans hk) (hkey ▸ hmic)
    (by rw [State.omciBacklog, hv, cfg_of_words hw]; exact hroom)
  have hfree := (Aside.refl (l := poolZones) (x.omciIn v.toNat c msg mic)).freeAll (cls := 0x0D)
    (cells := cell.toList.map fun k => (10, k))
  have hlast := hfree.zones .vonus (by decide)
  refine ⟨((hz.mono (by decide)).trans hin.zones).trans (hfree.zones.mono (by decide)), ?_, ?_⟩
  · rw [hlast, hin.count, hv]
  · rw [hlast, ← hv, hin.slot, htick]

theorem completes_omciDownstreamMessage {mic : BitVec 32} (hs : s.canonical) (hsync : s.inSync c = true)
    (hen : (s.vonuAt v.toNat).enable.get c = true) (hid : (s.vch v.toNat c).onuId.isSome = true) (he : s.engineOn = true)
    (hk : s.keyUse (mgmtSlot v.toNat (chanN c)) = .ok)
    (hmic : mic = (Config.cmac (s.mgmtKey v.toNat c 1) msg).setWidth 32) (hroom : s.omciBacklog < 1024) :
    Completes (.omciDownstreamMessage c v msg mic) s fun t =>
    t.vonu.omciProd = s.vonu.omciProd + 1 ∧
    mget none t.vonu.omciRing (s.vonu.omciProd.toNat % 1024) = some (s.omciRecord v c msg) ∧
    SameBut [.counters, .vonus, .bursts, .queues, .pools, .keys] s t := by
  obtain ⟨hz, hcount, hslot⟩ := omciRelay_relayed hs he hk hmic hroom
  have hserved : (s.inSync c && (s.vonuAt v.toNat).enable.get c && (s.vch v.toNat c).onuId.isSome) = true := by
    simp [hsync, hen, hid]
  exact .of_eq (if_pos hserved) ⟨hcount, hslot, hz.mono (by decide)⟩

/-! ### Words of the VONU block that are stored (R158, R163) -/

/-- An accepted write of one whole word that only holds what is written. -/
theorem hostBits_vonuWord {a : Nat} {val : Word} {f : Found} (hm : s.hostMay) (hc : s.writeCheck .twi [⟨a, val, all32⟩] = 0)
    (ha : a / 2 ^ 24 = 0x20) (hn : nameOf a = some (.word f)) (hmask : f.mask ≠ 0) (hspecial : specialAt f = none)
    (hgroup : groupOf f = none) (hcomp : computed s a f = none) :
    s.hostBits a val all32 = ((s.putCfg a (s.newWord ⟨a, val, all32⟩ f)).emit (.writeStatus 0)).finish := by
  have hfuse : a ≠ addrOf 0x7E 2 := by
    rintro rfl
    exact absurd ha (by decide)
  have hplain (x : State) (old new : Word) : applyWord x a f old new = x := by
    rw [applyWord, ha]
    rfl
  rw [hostBits_eq hm hc hfuse, writeApply_one hn hmask hspecial hgroup, hplain, State.wordStored, hcomp]
  rfl

/-- What such a write leaves: the word, and all else but the answer. -/
theorem vonuWord_stored (hs : s.canonical) (a : Nat) (x : Word) :
    let t := ((s.putCfg a x).emit (.writeStatus 0)).finish
    t.cfg a = x ∧ SameBut [.words, .contacts] s t := by
  refine ⟨?_, ((sameBut_putCfg s a x).mono (by decide)).trans (Frame.refl (m := []) _).emit.finish.zones⟩
  rw [cfg_of_words (State.finish_words _)]
  exact cfg_putCfg_same a x hs.words

theorem completes_omciRxConsumerWrite {val : Word} (hs : s.canonical) (hm : s.hostMay)
    (hc : s.writeCheck .twi [⟨addrOf 0x20 0x11, val, all32⟩] = 0) : Completes (.omciRxConsumerWrite val) s fun t =>
    t.cfg (addrOf 0x20 0x11) = val ∧ SameBut [.words, .contacts] s t := by
  have hn : nameOf (addrOf 0x20 0x11) = some (.word ⟨.vonuOmciCons, 0, [], 1, all32, 0⟩) := by decide +kernel
  have hnew : s.newWord ⟨addrOf 0x20 0x11, val, all32⟩ ⟨.vonuOmciCons, 0, [], 1, all32, 0⟩ = val := by
    have hall : all32 = BitVec.allOnes 32 := by decide
    simp only [State.newWord, hall, BitVec.and_allOnes, BitVec.not_allOnes]
    simp [computed, readVonu]
  refine .of_eq (hostBits_vonuWord hm hc (by decide) hn (by decide) rfl rfl rfl) ?_
  rw [hnew]
  exact vonuWord_stored hs _ val

/-! ### Flow bindings (R163) -/

/-- A row of a block ends before an index of the block. -/
def ObjRow.endsBy (r : ObjRow) (b : Nat) : Bool :=
  match r.dims with
  | [] => r.base < b
  | (n, st) :: _ => 0 < st && r.base + n * st ≤ b

theorem ObjRow.find_of_endsBy {r : ObjRow} {b i : Nat} (h : r.endsBy b = true) (hi : b ≤ i) : r.find i = none := by
  obtain ⟨obj, w, base, dims, dom, mask, reset⟩ := r
  match dims with
  | [] =>
    have hb : base < b := by simpa [ObjRow.endsBy] using h
    simp [ObjRow.find, strideIx, show ¬ i < base by omega, show ¬ i - base = 0 by omega]
  | (n, st) :: ds =>
    obtain ⟨hst, hb⟩ : 0 < st ∧ base + n * st ≤ b := by simpa [ObjRow.endsBy] using h
    have hout : ¬ (i - base) / st < n := by
      rw [Nat.div_lt_iff_lt_mul hst]
      omega
    simp [ObjRow.find, strideIx, show ¬ i < base by omega, hout]

/-- What the address of a flow binding names (Table VONU-6). -/
def flowFound (f : Nat) : Found := ⟨.vonuFlowBind, 0, [f], 1, 0x07FFFFFF, 0⟩

theorem nameOf_flowAddr (f : BitVec 18) : nameOf (flowAddr f.toNat) = some (.word (flowFound f.toNat)) := by
  have hf := f.isLt
  have hblock : flowAddr f.toNat / 2 ^ 24 = 0x20 := by simp only [flowAddr, addrOf]; omega
  have hoff : flowAddr f.toNat % 2 ^ 24 = 0x80000 + f.toNat := by simp only [flowAddr, addrOf]; omega
  have hfirst : (rowsVonu.take 23).findSome? (·.find (0x80000 + f.toNat)) = none := by
    have hends : ∀ r ∈ rowsVonu.take 23, r.endsBy 0x80000 = true := by decide +kernel
    exact List.findSome?_eq_none_iff.2 fun r hr => ObjRow.find_of_endsBy (hends r hr) (by omega)
  have hrow : ObjRow.find ⟨.vonuFlowBind, 0, 0x80000, [(262144, 1)], 1, 0x07FFFFFF, 0⟩ (0x80000 + f.toNat) =
      some (flowFound f.toNat) := by
    simp [ObjRow.find, strideIx, flowFound, hf, Nat.mod_one]
  have hfind : findObj (flowAddr f.toNat) = some (flowFound f.toNat) := by
    rw [findObj, hblock, hoff, show blockRows 0x20 = rowsVonu.take 23 ++ rowsVonu.drop 23 from rfl, List.findSome?_append, hfirst]
    rw [show rowsVonu.drop 23 = ⟨.vonuFlowBind, 0, 0x80000, [(262144, 1)], 1, 0x07FFFFFF, 0⟩ :: rowsVonu.drop 24 from rfl,
      List.findSome?_cons, hrow]
    rfl
  rw [nameOf, hfind]

/-- A field of a word is made of its bits. -/
theorem fld_congr {w w' : Word} {lo n : Nat} (h : ∀ i, lo ≤ i → i < lo + n → w.getLsbD i = w'.getLsbD i) :
    fld w lo n = fld w' lo n := by
  refine Nat.eq_of_testBit_eq fun i => ?_
  simp only [Nat.testBit_mod_two_pow, Nat.testBit_shiftRight, BitVec.testBit_toNat]
  by_cases hi : i < n
  · rw [h (lo + i) (by omega) (by omega)]
  · simp [hi]

theorem completes_vonuFlowBind {f : BitVec 18} {val : Word} (hs : s.canonical) (hm : s.hostMay)
    (hc : s.writeCheck .twi [⟨flowAddr f.toNat, val, all32⟩] = 0) : Completes (.vonuFlowBind f val) s fun t =>
    flowPort (t.cfg (flowAddr f.toNat)) = flowPort val ∧ flowVonu (t.cfg (flowAddr f.toNat)) = flowVonu val ∧
    flowChan (t.cfg (flowAddr f.toNat)) = flowChan val ∧ bit (t.cfg (flowAddr f.toNat)) 26 = bit val 26 ∧
    SameBut [.words, .contacts] s t := by
  have hf := f.isLt
  have hblock : flowAddr f.toNat / 2 ^ 24 = 0x20 := by simp only [flowAddr, addrOf]; omega
  have hcomp : computed s (flowAddr f.toNat) (flowFound f.toNat) = none := by
    simp only [computed, flowFound, hblock]
    rfl
  refine .of_eq (hostBits_vonuWord hm hc hblock (nameOf_flowAddr f) (by simp [flowFound]) rfl rfl hcomp) ?_
  obtain ⟨hcfg, hsame⟩ := vonuWord_stored hs (flowAddr f.toNat) (s.newWord ⟨flowAddr f.toNat, val, all32⟩ (flowFound f.toNat))
  have hbit (i : Nat) (hi : i < 27) :
      (s.newWord ⟨flowAddr f.toNat, val, all32⟩ (flowFound f.toNat)).getLsbD i = val.getLsbD i := by
    have hmask : ∀ i < 27, ((0x07FFFFFF : Word) &&& all32).getLsbD i = true := by decide
    exact (bit_newWord (x := ⟨flowAddr f.toNat, val, all32⟩) hcomp i).trans (if_pos (hmask i hi))
  rw [hcfg]
  refine ⟨fld_congr fun i _ hi => hbit i (by omega), fld_congr fun i _ hi => hbit i (by omega),
    congrArg chanOf (fld_congr fun i _ hi => hbit i (by omega)), hbit 26 (by decide), hsame⟩

/-! ### VONU_OMCI_TX (R159) -/

theorem mem_wordsIn {a : Nat} {ws : List Word} {x : WordIn} (h : x ∈ wordsIn a ws) : a ≤ x.addr ∧ x.addr < a + ws.length := by
  induction ws generalizing a with
  | nil => cases h
  | cons w r ih =>
    obtain rfl | h := List.mem_cons.1 h
    · simp
    · have := ih h
      simp only [List.length_cons]
      omega

/-- Every word of a write that may take effect names something. -/
theorem nameAll_named {a : Nat} {ws : List Word} (h : (nameAll (wordsIn a ws)).isSome = true) {i : Nat} (hi : i < ws.length) :
    (nameOf (a + i)).isSome = true := by
  induction ws generalizing a i with
  | nil => cases hi
  | cons w r ih =>
    simp only [wordsIn, nameAll] at h
    split at h
    next n l hn hl =>
      cases i with
      | zero => simp [hn]
      | succ i =>
        rw [show a + (i + 1) = a + 1 + i by omega]
        exact ih (by simp [hl]) (by simpa using hi)
    next => cases h

theorem nameAll_of_writeCheck {tr : Transport} {ws : List WordIn} (h : s.writeCheck tr ws = 0) : ∃ l, nameAll ws = some l := by
  unfold State.writeCheck at h
  split at h
  · cases h
  next l hl => exact ⟨l, hl⟩

/-- An accepted write of VONU_OMCI_TX reaches no fuse: its words end where the object does. -/
theorem omciTx_addr {ws : List Word} (hc : s.writeCheck .twi (wordsIn (omciTxAddr 0) ws) = 0) :
    ∀ x ∈ wordsIn (omciTxAddr 0) ws, x.addr ≠ addrOf 0x7E 2 := by
  intro x hx hfuse
  obtain ⟨l, hl⟩ := nameAll_of_writeCheck hc
  have hlt := (mem_wordsIn hx).2
  rw [hfuse] at hlt
  have hnamed := nameAll_named (i := 512) (by rw [hl]; rfl) (by simp only [omciTxAddr, addrOf] at hlt; omega)
  have hnone : nameOf (omciTxAddr 0 + 512) = none := by decide +kernel
  rw [hnone] at hnamed
  cases hnamed

/-- What word 0 of VONU_OMCI_TX is (Table VONU-6). -/
def omciTxFound : Found := ⟨.vonuOmciTx, 0, [], 1, 0x1FFFFF, 0⟩

theorem nameOf_omciTx : nameOf (omciTxAddr 0) = some (.word omciTxFound) := by decide +kernel

/-- The words of VONU_OMCI_TX take effect together. -/
theorem writeApply_omciTx {w0 : Word} {r : List Word} (hc : s.writeCheck .twi (wordsIn (omciTxAddr 0) (w0 :: r)) = 0) :
    ∃ r', s.writeApply (wordsIn (omciTxAddr 0) (w0 :: r)) = s.omciTxApply ((w0 &&& 0x1FFFFF) :: r') := by
  obtain ⟨l, hl⟩ := nameAll_of_writeCheck hc
  have hnew : s.newWord ⟨omciTxAddr 0, w0, all32⟩ omciTxFound = w0 &&& 0x1FFFFF := by
    have hall : omciTxFound.mask &&& all32 = 0x1FFFFF := by decide
    have hcomp : computed s (omciTxAddr 0) omciTxFound = some 0 := rfl
    rw [State.newWord, hcomp, hall]
    rfl
  rw [wordsIn, nameAll, nameOf_omciTx] at hl
  split at hl
  next n l' hn hr =>
    obtain rfl : Named.word omciTxFound = n := Option.some.inj hn
    have hreach : s.reached ((⟨omciTxAddr 0, w0, all32⟩, .word omciTxFound) :: l') =
        (⟨omciTxAddr 0, w0, all32⟩, omciTxFound, w0 &&& 0x1FFFFF) :: s.reached l' :=
      List.filterMap_cons_some (by rw [← hnew]; exact if_neg (by decide))
    refine ⟨(s.reached l').map (·.2.2), ?_⟩
    simp only [State.writeApply, wordsIn, nameAll, nameOf_omciTx, hr, hreach]
    rfl
  next => cases hl

/-- A record with one more OMCI message in its upstream queue. -/
def VCh.told (x : VCh) (data : List Byte) : VCh :=
  { x with omciQ := x.omciQ ++ [{ data, seq := x.upSeq }], upSeq := x.upSeq + 1 }

/-- A message whose MIC can be computed is queued with it. -/
theorem omciTxApply_eq {w : Word} {r : List Word} (he : s.engineOn = true)
    (hk : s.keyUse (mgmtSlot (fld w 0 9) (fld w 9 1)) = .ok) : ∃ data, s.omciTxApply (w :: r) =
    (s.useKey (mgmtSlot (fld w 0 9) (fld w 9 1)) (aesBlocks (fld w 10 11))).modVch (fld w 0 9) (chanOf (fld w 9 1))
      (·.told data) := by
  have hc : chanN (chanOf (fld w 9 1)) = fld w 9 1 := by
    obtain h | h : fld w 9 1 = 0 ∨ fld w 9 1 = 1 := by unfold fld; omega
    all_goals rw [h]; rfl
  unfold State.omciTxApply
  dsimp only
  rw [hc, keyBegin_ok he hk]
  exact ⟨_, rfl⟩

theorem omciTxApply_spec {w : Word} {r : List Word} (hs : s.canonical) (he : s.engineOn = true)
    (hk : s.keyUse (mgmtSlot (fld w 0 9) (fld w 9 1)) = .ok) :
    SameBut [.vonus, .keys] s (s.omciTxApply (w :: r)) ∧
    ((s.omciTxApply (w :: r)).vch (fld w 0 9) (chanOf (fld w 9 1))).omciQ.length =
      (s.vch (fld w 0 9) (chanOf (fld w 9 1))).omciQ.length + 1 := by
  obtain ⟨data, heq⟩ := omciTxApply_eq (r := r) he hk
  have h : Sets [.vonus, .keys] (fld w 0 9) (chanOf (fld w 9 1)) s (s.omciTxApply (w :: r)) _ :=
    heq ▸ ((Sets.refl hs.vonus).beside (Aside.refl s).useKey).modVch
  exact ⟨h.zones, by rw [h.vch]; simp [VCh.told]⟩

theorem completes_vonuOmciTx {w0 : Word} {r : List Word} (hs : s.canonical) (hm : s.hostMay)
    (hc : s.writeCheck .twi (wordsIn (omciTxAddr 0) (w0 :: r)) = 0) (he : s.engineOn = true)
    (hk : s.keyUse (mgmtSlot (fld w0 0 9) (fld w0 9 1)) = .ok) : Completes (.vonuOmciTx (w0 :: r)) s fun t =>
    SameBut [.vonus, .keys, .contacts] s t ∧
    (t.vch (fld w0 0 9) (chanOf (fld w0 9 1))).omciQ.length = (s.vch (fld w0 0 9) (chanOf (fld w0 9 1))).omciQ.length + 1 := by
  obtain ⟨r', happly⟩ := writeApply_omciTx hc
  have hbit (i : Nat) (hi : i < 21) : (w0 &&& 0x1FFFFF).getLsbD i = w0.getLsbD i := by
    have hmask : ∀ i < 21, (0x1FFFFF : Word).getLsbD i = true := by decide
    rw [BitVec.getLsbD_and, hmask i hi, Bool.and_true]
  have hv : fld (w0 &&& 0x1FFFFF) 0 9 = fld w0 0 9 := fld_congr fun i _ hi => hbit i (by omega)
  have hch : fld (w0 &&& 0x1FFFFF) 9 1 = fld w0 9 1 := fld_congr fun i _ hi => hbit i (by omega)
  obtain ⟨hsame, hlen⟩ := omciTxApply_spec (w := w0 &&& 0x1FFFFF) (r := r') hs he (by rw [hv, hch]; exact hk)
  rw [hv, hch] at hlen
  refine .of_eq ((hostWrite_eq hm hc (omciTx_addr hc)).trans (by rw [happly])) ⟨?_, ?_⟩
  · exact (hsame.mono (by decide)).trans (Frame.refl (m := []) _).emit.finish.zones
  · rw [State.vch, State.vonuAt, State.finish_vonu]
    exact hlen

/-! ### The statement -/

/-- Settles O18: a message from the line, and each write of the host. -/
theorem omciAndFlows : Obligations.OmciAndFlows := fun _ _ _ hs =>
  ⟨fun _ _ => completes_omciDownstreamMessage hs, fun _ => completes_omciRxConsumerWrite hs,
    fun _ _ => completes_vonuOmciTx hs, fun _ _ => completes_vonuFlowBind hs⟩

end Sys2Proof.Machine
end

section
/-! From a partition's grants to admitted bursts (O21). A partition of one grant is followed through its two phases: the decode
gives one draft, admission keeps it, and the burst joins those that wait. -/

namespace Sys2Proof.Machine
set_option Elab.async false
variable {s t u : State} {c : Chan} {g : AllocStruct} {i n : Nat} {a : AllocE} {d : Draft}

/-! ### Decode (R168) -/

theorem once_false (s : State) (c : Chan) (code p : Nat) : s.once c code false p = s := rfl

theorem Frame.once {l m code b p} (h : Frame l m s t) (hl : .bursts ∈ l := by decide) (hm : .chan c ∈ m := by simp) :
    Frame l m s (t.once c code b p) := (h.modGuard (hl := hl) (hm := hm)).raise.ite h

theorem Frame.bumpB {l m k n} (h : Frame l m s t) (hl : .counters ∈ l := by decide) (hm : .aborted ∈ m := by simp) :
    Frame l m s (t.bumpB c k n) := h.bumpAny hl hm

/-- A structure in marked bits is none of the device's (R91). -/
theorem decodeStructs_marked (own : Nat) (s : State) (h : g.marked = true) : decodeStructs c [g] own [] s = ([], own, s) := by
  simp [decodeStructs, h]

/-- What a grant of `size` bytes adds to its entry's peaks (R183). -/
def State.peaked (s : State) (i size : Nat) : State :=
  s.setStage i { s.stage i with peaks := (s.stage i).peaks ++ [(s.tick.number, (size + 255) / 256)] }

theorem decodeStructs_own (own : Nat) (s : State) (hm : g.marked = false) (hs : g.snGrant = false)
    (hf : (s.bch c).own.find g.allocId = some (i, a)) :
    decodeStructs c [g] own [] s = ([s.draftOf c (s.bch c).own i a g own], own + 1, s.peaked i g.size) := by
  simp only [decodeStructs, hm, hs, hf]
  cases g.cont <;> rfl

/-- What a partition of one structure leaves of its decode: `own` of the device's allocations, `all` in the tick so far. -/
def BCh.withDecode (x : BCh) (own all n : Nat) : BCh :=
  { x with structsLast := 1, ownLast := own, decodeLast := n, partOwn := all }

def State.decoded (v : State) (c : Chan) (own all n : Nat) : State :=
  (v.bumpB c 2 own).modB c fun x => x.withDecode own all n

/-- A partition of one structure has been counted. -/
def State.counted (s : State) (c : Chan) : State := (s.bumpB c 0 1).bumpB c 1 0

namespace Frame
variable {l : List Zone} {m : List Core}

theorem counted (h : Frame l m s t) (hl : .counters ∈ l := by decide) (hm : .aborted ∈ m := by simp) :
    Frame l m s (t.counted c) := (h.bumpB hl hm).bumpB hl hm

theorem peaked {size : Nat} (h : Frame l m s t) (hl : .bursts ∈ l := by decide) (hm : .staged ∈ m := by simp) :
    Frame l m s (t.peaked i size) := h.setStage hl hm

theorem decoded {own all : Nat} (h : Frame l m s t) (hb : .bursts ∈ l := by decide) (hc : .counters ∈ l := by decide)
    (ha : .aborted ∈ m := by simp) (hm : .chan c ∈ m := by simp) : Frame l m s (t.decoded c own all n) :=
  (h.bumpB hc ha).modGuard (hl := hb) (hm := hm)

end Frame

/-- More than 1,024 of the device's allocations in a tick are told of. -/
def State.manyTold (v : State) (c : Chan) (all : Nat) : State :=
  v.once c 0x0402 (all > 1024) (pCh c + put 32 13 (sat 4096 all) + v.tickLow)

/-- The second phase of a partition of one structure, by what the first has answered. -/
def State.afterDecode (c : Chan) (own n : Nat) (q : List Draft × Nat × State) : State :=
  ((q.2.2.decoded c (q.2.1 - own) q.2.1 n).manyTold c q.2.1).phaseTwo c q.1.reverse

theorem counted_bch (s : State) (c d : Chan) : (s.counted c).bch d = s.bch d := rfl

theorem partition_single (hf : (s.ch c).fsOk = true) :
    s.partition c [g] true n =
      State.afterDecode c (s.bch c).partOwn n (decodeStructs c [g] (s.bch c).partOwn [] (s.counted c)) := by
  unfold State.partition
  rw [if_neg (by simp [hf])]
  extract_lets len over_ s1 s2 before
  have hs2 : s2 = s.counted c := rfl
  have hbefore : before = (s.bch c).partOwn := rfl
  clear_value s2 before
  subst hs2 hbefore
  rw [show [g].take 4096 = [g] from rfl]
  generalize decodeStructs c [g] (s.bch c).partOwn [] (s.counted c) = q
  obtain ⟨ds, all, v⟩ := q
  rfl

/-! ### Admission (R173 to R180) -/

theorem phaseTwo_nil (s : State) (c : Chan) : s.phaseTwo c [] = s := rfl

/-- A draft that passes every check is kept. -/
theorem admitBursts_single {x : Admit} (he : d.excess = false)
    (ha : stateAllows ((s.bch c).own.vonu d.burst.vonu.toNat).act d.burst.kind = true) (hv : d.burst.profile.valid = true)
    (hr : s.rateOffered c d.burst.profile = true) (hm : s.burstMarked c d = false)
    (ho : ((s.bch c).current.toList ++ (s.bch c).bursts ++ x.kept).find? (overlaps d.burst) = none) :
    admitBursts c [d] x s = ({ x with kept := x.kept ++ [d.burst] }, s.bumpB c 19 d.mixed) := by
  simp only [admitBursts, he, ha, hv, hr, hm, ho, Bool.not_true, Bool.or_false, Bool.false_eq_true, if_false]

def BCh.withBurst (x : BCh) (b : Burst) : BCh := { x with bursts := insertKept b x.bursts }

/-- An admitted burst waits, with its urgent refill work (R184). -/
def State.awaits (s : State) (c : Chan) (b : Burst) : State :=
  let u := s.modB c fun x => x.withBurst b
  { u with burin := { u.burin with urgent := u.urgentLeft ++ u.urgentOf b } }

theorem awaits_bch (s : State) (c : Chan) (b : Burst) : (s.awaits c b).bch c = (s.bch c).withBurst b :=
  State.modB_bch_same s c fun x => x.withBurst b

theorem Frame.awaits {l m} {b : Burst} (h : Frame l m s t) (hl : .bursts ∈ l := by decide)
    (hm : ∀ q ∈ [Core.chan c, .line c], q ∈ m := by simp) : Frame l m s (t.awaits c b) := (h.modB hl hm).burin rfl rfl hl

theorem phaseTwo_single (he : d.excess = false)
    (ha : stateAllows ((s.bch c).own.vonu d.burst.vonu.toNat).act d.burst.kind = true) (hv : d.burst.profile.valid = true)
    (hr : s.rateOffered c d.burst.profile = true) (hm : (s.bch c).marks = []) (hc : (s.bch c).current = none)
    (hb : (s.bch c).bursts = []) :
    s.phaseTwo c [d] = (s.bumpB c 19 d.mixed).awaits c (s.withStop c d.burst) := by
  have hadmit := admitBursts_single (s := s) (c := c) (d := { d with burst := s.withStop c d.burst }) (x := ⟨[], 0, 0, 0, 0⟩)
    he ha hv hr (by simp [State.burstMarked, hm]) (by simp [hc, hb])
  unfold State.phaseTwo
  rw [show s.ordered c [d] = [{ d with burst := s.withStop c d.burst }] from rfl, hadmit]
  rfl

/-! ### A partition in marked bits -/

theorem manyTold_bch (v : State) (c : Chan) (all : Nat) :
    ((v.manyTold c all).bch c).structsLast = (v.bch c).structsLast ∧
      ((v.manyTold c all).bch c).ownLast = (v.bch c).ownLast := by
  unfold State.manyTold State.once
  split <;> simp [State.bch]

theorem completes_bwmapPartition_marked (hf : (s.ch c).fsOk = true) (hm : g.marked = true) :
    Completes (.bwmapPartition c [g] true n) s fun t =>
    (t.bch c).bursts = (s.bch c).bursts ∧ (t.bch c).structsLast = 1 ∧ (t.bch c).ownLast = 0 ∧
    t.bch (otherCh c) = s.bch (otherCh c) ∧ SameBut [.bursts, .counters] s t := by
  refine ⟨s.partition c [g] true n, rfl, ?_⟩
  rw [partition_single hf, decodeStructs_marked _ _ hm]
  simp only [State.afterDecode, Nat.sub_self, List.reverse_nil, phaseTwo_nil]
  have ht : Frame [.bursts, .counters] [.aborted, .chan c] s
      (((s.counted c).decoded c 0 (s.bch c).partOwn n).manyTold c (s.bch c).partOwn) := (Frame.refl s).counted.decoded.once
  obtain ⟨hstructs, hown⟩ := manyTold_bch ((s.counted c).decoded c 0 (s.bch c).partOwn n) c (s.bch c).partOwn
  exact ⟨(ht.cores (.line c) (by simp)).1, hstructs.trans (by simp [State.decoded, BCh.withDecode]),
    hown.trans (by simp [State.decoded, BCh.withDecode]), ht.otherBch, ht.zones⟩

/-! ### A grant of the device's -/

/-- The burst that a grant of `g` to entry `i` becomes, by the Burin's own tables. -/
structure Granted (s : State) (c : Chan) (g : AllocStruct) (i : Nat) (a : AllocE) (b : Burst) : Prop where
  vonu : b.vonu = a.vonu
  kind : b.kind = .data
  tick : b.tick = s.tick.number
  ploamu : b.ploamu = g.ploamu
  frame : b.frame = (s.ch c).sfc64
  start : b.start = s.ideal c (((s.bch c).own.vonu a.vonu.toNat).eqd.getD 0).toNat g.start
  onuId : b.onuId = ((s.bch c).own.vonu a.vonu.toNat).onuId
  allocs : b.allocs = [{ entry := i, size := g.size, dbru := g.dbru }]

theorem granted_draftOf (h : ((s.bch c).own.vonu a.vonu.toNat).act = .o5) (own : Nat) :
    Granted s c g i a ((s.counted c).draftOf c (s.bch c).own i a g own).burst where
  vonu := BitVec.ofNat_toNat ..
  kind := by simp [State.draftOf, mkBurst, h]
  tick := rfl
  ploamu := rfl
  frame := rfl
  start := rfl
  onuId := rfl
  allocs := rfl

theorem Granted.withStop {b : Burst} (h : Granted s c g i a b) (u : State) : Granted s c g i a (u.withStop c b) :=
  ⟨h.vonu, h.kind, h.tick, h.ploamu, h.frame, h.start, h.onuId, h.allocs⟩

/-- A grant's partition after its decode. -/
def State.granted (s : State) (c : Chan) (g : AllocStruct) (i n : Nat) : State :=
  ((s.counted c).peaked i g.size).decoded c 1 ((s.bch c).partOwn + 1) n

theorem granted_bch (s : State) (c : Chan) (g : AllocStruct) (i n : Nat) :
    (s.granted c g i n).bch c = (s.bch c).withDecode 1 ((s.bch c).partOwn + 1) n :=
  State.modB_bch_same _ c fun x => x.withDecode 1 ((s.bch c).partOwn + 1) n

theorem granted_frame (s : State) (c : Chan) (g : AllocStruct) (i n : Nat) :
    Frame [.bursts, .counters] [.aborted, .chan c, .staged] s (s.granted c g i n) :=
  (Frame.refl s).counted.peaked.decoded

theorem rateOffered_of_same {l : List Zone} (h : SameBut l s t) (hw : .words ∉ l := by decide)
    (hc : .channels ∉ l := by decide) (c : Chan) (p : Profile) : t.rateOffered c p = s.rateOffered c p := by
  have hwords : t.words = s.words := h .words hw
  have hchans : t.chans = s.chans := h .channels hc
  have hbit : ∀ a i, t.cfgB a i = s.cfgB a i := fun a i => by simp only [State.cfgB, State.cfg, hwords]
  have hxgs : t.inXgs c = s.inXgs c := by unfold State.inXgs State.ch; rw [hchans]
  unfold State.rateOffered
  rw [hxgs, hbit]

theorem completes_bwmapPartition_own (hf : (s.ch c).fsOk = true) (hs : g.snGrant = false) (hm : g.marked = false)
    (hown : (s.bch c).own.find g.allocId = some (i, a)) (hact : ((s.bch c).own.vonu a.vonu.toNat).act = .o5)
    (hvalid : ((s.bch c).own.profile a.vonu.toNat g.profile).valid = true)
    (hrate : s.rateOffered c ((s.bch c).own.profile a.vonu.toNat g.profile) = true) (hmarks : (s.bch c).marks = [])
    (hbursts : (s.bch c).bursts = []) (hcur : (s.bch c).current = none) (hlim : (s.bch c).partOwn < 1024) :
    Completes (.bwmapPartition c [g] true n) s fun t =>
    (∃ b, (t.bch c).bursts = [b] ∧ Granted s c g i a b) ∧
    (t.bch c).structsLast = 1 ∧ (t.bch c).ownLast = 1 ∧ t.bch (otherCh c) = s.bch (otherCh c) ∧
    SameBut [.bursts, .counters] s t := by
  refine ⟨s.partition c [g] true n, rfl, ?_⟩
  have hfind : ((s.counted c).bch c).own.find g.allocId = some (i, a) := by rw [counted_bch s c c, hown]
  rw [partition_single hf, decodeStructs_own _ (s.counted c) hm hs hfind, counted_bch s c c]
  have hno : decide ((s.bch c).partOwn + 1 > 1024) = false := by simpa using hlim
  simp only [State.afterDecode, State.manyTold, hno, once_false, Nat.add_sub_cancel_left, List.reverse_singleton]
  rw [← State.granted]
  generalize hd : (s.counted c).draftOf c _ i a g (s.bch c).partOwn = d
  have hburst : Granted s c g i a d.burst := hd ▸ granted_draftOf hact _
  have hprofile : d.burst.profile = (s.bch c).own.profile a.vonu.toNat g.profile := hd ▸ rfl
  have hexcess : d.excess = false := hd ▸ decide_eq_false (Nat.not_le.2 hlim)
  have hbch := granted_bch s c g i n
  have hoffered : (s.granted c g i n).rateOffered c d.burst.profile = true := by
    rw [rateOffered_of_same (granted_frame s c g i n).zones, hprofile, hrate]
  rw [phaseTwo_single hexcess (by rw [hbch, hburst.vonu, hburst.kind]; exact decide_eq_true hact) (hprofile ▸ hvalid)
    hoffered (by rw [hbch]; exact hmarks) (by rw [hbch]; exact hcur) (by rw [hbch]; exact hbursts)]
  generalize hb : (s.granted c g i n).withStop c d.burst = b
  have hframe : Frame [.bursts, .counters] [.aborted, .chan c, .line c, .staged] s
      (((s.granted c g i n).bumpB c 19 d.mixed).awaits c b) :=
    ((granted_frame s c g i n).mono (fun _ => id) (by simp)).bumpB.awaits
  have ht : (((s.granted c g i n).bumpB c 19 d.mixed).awaits c b).bch c =
      ((s.bch c).withDecode 1 ((s.bch c).partOwn + 1) n).withBurst b := (awaits_bch ..).trans (congrArg (·.withBurst b) hbch)
  refine ⟨⟨b, ?_, hb ▸ hburst.withStop _⟩, by rw [ht]; rfl, by rw [ht]; rfl, hframe.otherBch, hframe.zones⟩
  rw [ht]
  exact congrArg (insertKept b) hbursts

/-! ### The shadow decoder (R192) -/

/-- The shadow decoder's list of a partition heads those kept. -/
theorem shadowPartition_eq {structs : List AllocStruct} (hf : (s.ch c).fsOk = true) (hd : s.domOn (txDom c) = true) :
    ∃ kept serials own, s.shadowPartition c structs true = s.modB c fun x =>
      { x with shadow := (s.tick.number, (s.ch c).sfc64, some (s.shadowWins c structs).1) :: kept
               serials, shadowOwn := own } := by
  have hguard : ¬ ((!(s.ch c).fsOk || !s.domOn (txDom c)) = true) := by simp [hf, hd]
  unfold State.shadowPartition
  rw [if_neg hguard]
  exact ⟨_, _, _, rfl⟩

theorem completes_shadowPartitionDecode {structs : List AllocStruct} (hf : (s.ch c).fsOk = true)
    (hd : s.domOn (txDom c) = true) : Completes (.shadowPartitionDecode c structs true) s fun t =>
    (t.bch c).shadow.head? = some (s.tick.number, (s.ch c).sfc64, some (s.shadowWins c structs).1) ∧
    (∀ b : Burst, b.tick = s.tick.number → b.frame = (s.ch c).sfc64 → t.shadowPresent c b = true) ∧
    (t.bch c).bursts = (s.bch c).bursts ∧ t.bch (otherCh c) = s.bch (otherCh c) ∧ SameBut [.bursts] s t := by
  refine ⟨s.shadowPartition c structs true, rfl, ?_⟩
  obtain ⟨kept, serials, own, heq⟩ := shadowPartition_eq (structs := structs) hf hd
  have ht : Frame [.bursts] [.chan c] s (s.shadowPartition c structs true) := heq ▸ (Frame.refl s).modGuard
  have hshadow : ((s.shadowPartition c structs true).bch c).shadow =
      (s.tick.number, (s.ch c).sfc64, some (s.shadowWins c structs).1) :: kept := by rw [heq, State.modB_bch_same]
  exact ⟨by rw [hshadow]; rfl, fun b hb hframe => by simp [State.shadowPresent, hshadow, hb, hframe],
    (ht.cores (.line c) (by simp)).1, ht.otherBch, ht.zones⟩

/-! ### Snapshots (R188) -/

/-- What an entry has staged, with its latest snapshot in use where it has one. -/
def Stage.adopted (x : Stage) : Stage :=
  match x.taken with
  | some q => { x with snapshot := q, removed := x.takenRemoved, snapOk := true, taken := .none, takenRemoved := 0 }
  | .none => x

theorem Stage.adopted_some {x : Stage} {q : Nat} (h : x.taken = some q) :
    x.adopted = { x with snapshot := q, removed := x.takenRemoved, snapOk := true, taken := .none, takenRemoved := 0 } := by
  simp only [Stage.adopted, h]

theorem Stage.adopted_none {x : Stage} (h : x.taken = .none) : x.adopted = x := by simp only [Stage.adopted, h]

theorem Stage.adopted_adopted (x : Stage) : x.adopted.adopted = x.adopted := by
  refine Stage.adopted_none ?_
  cases h : x.taken with
  | none => rw [adopted_none h, h]
  | some q => rw [adopted_some h]

/-- The snapshot of one entry completes. -/
def State.adoptAt (s : State) (i : Nat) : State :=
  match (s.stage i).taken with
  | some q => s.setStage i { s.stage i with snapshot := q, removed := (s.stage i).takenRemoved, snapOk := true
                                            taken := none, takenRemoved := 0 }
  | none => s

theorem adoptAt_some {q : Nat} (h : (s.stage i).taken = some q) : s.adoptAt i = s.setStage i (s.stage i).adopted := by
  simp only [State.adoptAt, Stage.adopted, h]

theorem adoptAt_none (h : (s.stage i).taken = none) : s.adoptAt i = s := by simp only [State.adoptAt, h]

theorem adoptSnapshots_eq (s : State) : s.adoptSnapshots = (s.vonu.alloc.map (·.1)).foldl State.adoptAt s := by
  rw [List.foldl_map]
  rfl

theorem Frame.adoptAt {l m} (h : Frame l m s t) (hl : .bursts ∈ l := by decide) (hm : .staged ∈ m := by simp) :
    Frame l m s (t.adoptAt i) := by
  unfold State.adoptAt
  split
  exacts [h.setStage hl hm, h]

theorem adoptAt_wf (h : SMap.wf Stage.none s.burin.stage = true) : SMap.wf Stage.none (s.adoptAt i).burin.stage = true := by
  unfold State.adoptAt
  split
  exacts [mput_wf i _ h, h]

theorem adoptAt_stage (h : SMap.wf Stage.none s.burin.stage = true) (i j : Nat) :
    (s.adoptAt i).stage j = if j = i then (s.stage j).adopted else s.stage j := by
  cases ht : (s.stage i).taken with
  | none =>
    rw [adoptAt_none ht]
    split
    next e => rw [e, Stage.adopted_none ht]
    next => rfl
  | some q =>
    rw [adoptAt_some ht]
    split
    next e =>
      subst e
      exact mget_mput_same _ _ _ _ (keys_sorted h)
    next e => exact mget_mput_other _ _ _ _ _ e

/-- Each entry is adopted once, however often the list names it. -/
theorem foldl_adoptAt_stage (l : List Nat) (h : SMap.wf Stage.none s.burin.stage = true) (j : Nat) :
    (l.foldl State.adoptAt s).stage j = if j ∈ l then (s.stage j).adopted else s.stage j := by
  induction l generalizing s with
  | nil => rfl
  | cons i l ih =>
    rw [List.foldl_cons, ih (adoptAt_wf h), adoptAt_stage h]
    by_cases hi : j = i <;> by_cases hl : j ∈ l <;> simp [hi, hl, Stage.adopted_adopted]

theorem completes_snapshotComplete (hs : s.canonical) : Completes .snapshotComplete s fun t =>
    (∀ (i q : Nat), s.allocAt i ≠ none → (s.stage i).taken = some q →
      (t.stage i).snapshot = q ∧ (t.stage i).snapOk = true ∧ (t.stage i).removed = (s.stage i).takenRemoved ∧
      (t.stage i).frames = (s.stage i).frames) ∧
    t.burin.ch = s.burin.ch ∧ SameBut [.bursts] s t := by
  refine ⟨s.adoptSnapshots, rfl, ?_⟩
  rw [adoptSnapshots_eq]
  have hf : Frame [.bursts] [.staged] s ((s.vonu.alloc.map (·.1)).foldl State.adoptAt s) :=
    (Frame.refl s).foldl fun _ _ h => h.adoptAt
  refine ⟨fun i q ha hq => ?_, ?_, hf.zones⟩
  · rw [foldl_adoptAt_stage _ hs.stage, if_pos (mem_keys_of_mget ha), Stage.adopted_some hq]
    exact ⟨rfl, rfl, rfl, rfl⟩
  · have ha : ∀ c, ((s.vonu.alloc.map (·.1)).foldl State.adoptAt s).bch c = s.bch c := fun c => hf.cores (.chan c) (by simp)
    exact congrArg₂ Two.mk (ha .a) (ha .b)

/-- Settles O21: the partition of a grant and of marked bits, the shadow decoder's list, and the snapshots. -/
theorem grantsAndWindows : Obligations.GrantsAndWindows := by
  unfold Obligations.GrantsAndWindows
  refine fun s c hs => ⟨?_, ?_, ?_, completes_snapshotComplete hs⟩
  · intro g i a n hf hsn hm own hown hact hvalid hrate hmarks hbursts hcur hlim
    obtain ⟨t, ht, ⟨b, hb, hg⟩, hrest⟩ :=
      completes_bwmapPartition_own (n := n) hf hsn hm hown hact hvalid hrate hmarks hbursts hcur hlim
    exact ⟨t, ht, ⟨b, hb, hg.vonu, hg.kind, hg.tick, hg.ploamu, hg.frame, hg.start, hg.onuId, hg.allocs⟩, hrest⟩
  · exact fun g n hf hm => completes_bwmapPartition_marked hf hm
  · exact fun structs hf hd => completes_shadowPartitionDecode hf hd

end Sys2Proof.Machine
end

section
/-! The laser guard (O23). A burst that is cut off while it is sent has already sent some of its bytes, and a PTP event message
whose time-stamp point has passed by then is time-stamped (R364, R365): its descriptor joins the queue, a part of the time.
The frame that the statement gives a disagreement of the guard leaves the time out. How much of the burst is still to be
sent is a free value; the state below holds a burst longer than that value by the length of its one frame. -/

namespace Sys2Proof.Machine
set_option Elab.async false
variable {s : State} {c : Chan} {b : Burst}

/-! ### Time-stamps -/

/-- A descriptor changes the time: it joins the queue, or begins a run of drops. -/
theorem tsQueue_time_ne (hd : s.time.tsDropRun = false) (d : List Byte) : (s.tsQueue d).time ≠ s.time := by
  unfold State.tsQueue
  extract_lets full first
  split
  · intro h
    have hrun : true = s.time.tsDropRun := by simpa using congrArg TimeSt.tsDropRun h
    rw [hd] at hrun
    exact absurd hrun (by decide)
  · intro h
    have hlen := congrArg (fun t : TimeSt => t.tsQueue.length) h
    simp at hlen

theorem stamp_time_ne {k : Nat} (ht : s.timeOn = true) (hp : s.ptpEn k = true) (hd : s.time.tsDropRun = false) (rx : Bool)
    (p : Ptp) (raw : BitVec 96) (port vonu : Nat) : (s.stamp k rx p raw port vonu).time ≠ s.time := by
  unfold State.stamp
  rw [if_neg (by simp [ht, hp])]
  exact tsQueue_time_ne (s := s.bump _ 1) hd _

/-! ### A burst cut off -/

/-- The bytes that a burst has still to send when it is cut off. -/
def State.unsent (s : State) (b : Burst) : Nat := s.fresh.1 % (burstBytes b + 1)

/-- The laser is dark, and the bytes not sent are counted. -/
def State.cutShort (s : State) (c : Chan) (b : Burst) : State :=
  (s.fresh.2.modB c fun x => { x with current := none, lit := false }).bumpB c 17 (s.unsent b)

theorem cutShort_inSync (s : State) (c d : Chan) (b : Burst) : (s.cutShort c b).inSync d = s.inSync d := rfl

theorem cutShort_timeOn (s : State) (c : Chan) (b : Burst) : (s.cutShort c b).timeOn = s.timeOn := rfl

theorem cutShort_ptpEn (s : State) (c : Chan) (b : Burst) (k : Nat) : (s.cutShort c b).ptpEn k = s.ptpEn k := rfl

theorem cutShort_time (s : State) (c : Chan) (b : Burst) : (s.cutShort c b).time = s.time := rfl

theorem cutOff_midway (k : Nat) (hb : (s.bch c).current = some b) :
    s.cutOff c k false =
      (((((s.cutShort c b).burstStamps c b (burstBytes b - s.unsent b)).freeAll 0x09 (burstCells b)).trip c k b.vonu.toNat
        b.tick).leaveDisabled b.vonu.toNat c).txUpdate c := by
  simp [State.cutOff, hb, State.abandon, State.cutShort, State.unsent]

/-- Nothing after the time-stamps changes the time. -/
theorem cutOff_midway_time (k : Nat) (hb : (s.bch c).current = some b) :
    (s.cutOff c k false).finish.time = ((s.cutShort c b).burstStamps c b (burstBytes b - s.unsent b)).time := by
  rw [cutOff_midway k hb]
  have h : Frame cutZones [.chan c, .staged] ((s.cutShort c b).burstStamps c b (burstBytes b - s.unsent b)) _ :=
    ((Frame.refl _).freeAll (cls := 0x09) (cells := burstCells b)
      |>.trip (c := c) (cause := k) (v := b.vonu.toNat) (tick := b.tick)
      |>.leaveDisabled (v := b.vonu.toNat) (c := c)).txUpdate (c := c) |>.finish
  exact h.zones .time (by decide)

/-! ### The state -/

/-- A PTP Sync message in an Ethernet frame of 60 bytes. -/
def syncFrame : List Byte := List.replicate 12 0x11 ++ [0x88, 0xF7, 0x00, 0x02] ++ List.replicate 44 0

def syncPtp : Ptp := { msgType := 0, domain := 0, sequence := 0, portNumber := 0 }

theorem ptpOf_syncFrame : ptpOf syncFrame = some syncPtp := by decide +kernel

/-- A burst whose one allocation holds that frame and `idle` idle bytes. -/
def stampedBurst (idle : Nat) : Burst :=
  { mkBurst 0 .data 40 77 388800000000000 noProfile false [{ entry := 1, size := 68 + idle, dbru := false }] 100000 with
    committed := true
    judged := true
    content := [{ entry := 1, omci := [], idle, dbru := none
                  xgems := [{ vonu := 0, flow := none, port := 77, keyIndex := 0, first := true, last := true, plain := syncFrame
                              sent := syncFrame, ptp := some syncPtp, cells := [], seq := 0, off := 0 }] }] }

/-- Ready with every domain on, channel A in SYNC with time-stamps enabled on its port, and in the midst of such a burst. -/
def stampedCut : State :=
  { State.reset with
    phase := .ready
    power := { PowerSt.reset with doms := (List.range 13).map fun d => (d, { Dom.off with st := .on, votes := 3 }) }
    words := [(portAddr 4 0, 1)]
    chans := ⟨{ ChanSt.reset .a with hunt := .sync }, ChanSt.reset .b⟩
    burin :=
      { BurinSt.reset with
        ch := ⟨{ BCh.reset with current := some (stampedBurst (Config.freeValue 0)), lit := true }, .reset⟩ } }

theorem stampedCut_canonical : stampedCut.canonical := State.canonical_of (by decide +kernel)

theorem stampedCut_domOn : stampedCut.domOn (txDom .a) = true := by decide +kernel

theorem stampedCut_current : (stampedCut.bch .a).current = some (stampedBurst (Config.freeValue 0)) := rfl

theorem stampedCut_inSync : stampedCut.inSync .a = true := by decide +kernel

theorem stampedCut_timeOn : stampedCut.timeOn = true := by decide +kernel

theorem stampedCut_ptpEn : stampedCut.ptpEn 4 = true := by decide +kernel

theorem stampedBurst_bytes (idle : Nat) : burstBytes (stampedBurst idle) = 68 + idle := by
  simp [burstBytes, stampedBurst, mkBurst, sumN]

/-- The frame is time-stamped once a byte of the payload has left. -/
theorem stampedBurst_stamps {u : State} (hu : u.inSync .a = true) (idle : Nat) {sent : Nat} (h : 0 < sent) :
    ∃ raw, u.burstStamps .a (stampedBurst idle) sent = u.stamp 4 false syncPtp raw 77 0 := by
  have hspots : burstSpots 0 0 ((stampedBurst idle).allocs.zip (stampedBurst idle).content) =
      ((stampedBurst idle).content.flatMap (·.xgems)).map fun x => (0, 0, x) := rfl
  unfold State.burstStamps
  rw [if_pos hu, hspots]
  simp only [stampedBurst, List.flatMap_cons, List.flatMap_nil, List.append_nil, List.map_cons, List.map_nil, List.filter_cons,
    h, decide_true, if_true, List.filter_nil, stampPieces]
  exact ⟨_, rfl⟩

/-- Of a burst longer by 68 bytes than the free value, 68 bytes have left. -/
theorem stampedCut_sent : let b := stampedBurst (Config.freeValue 0)
    burstBytes b - stampedCut.unsent b = 68 := by
  have hfresh : stampedCut.fresh.1 = Config.freeValue 0 := rfl
  simp only [State.unsent, hfresh, stampedBurst_bytes]
  rw [Nat.mod_eq_of_lt (by omega), Nat.add_sub_cancel]

/-- Refutes O23: a disagreement of the guard in the midst of the burst of `stampedCut` time-stamps the frame that has left, and
the time, which the statement's frame does not allow to change, holds its descriptor. -/
theorem not_laserGuard : ¬ Obligations.LaserGuard := by
  intro h
  obtain ⟨t, ht, hframe, -⟩ := (h stampedCut .a stampedCut_canonical).1 false stampedCut_domOn
  obtain rfl : (stampedCut.disagree .a false).finish = t := Host.Outcome.next.inj ht
  have htime : (stampedCut.disagree .a false).finish.time = stampedCut.time := hframe .time (by decide)
  have hcut : stampedCut.disagree .a false = stampedCut.cutOff .a 0 false := if_neg (by simp [stampedCut_domOn])
  rw [hcut, cutOff_midway_time 0 stampedCut_current, stampedCut_sent] at htime
  have hsync := (cutShort_inSync stampedCut .a .a (stampedBurst (Config.freeValue 0))).trans stampedCut_inSync
  obtain ⟨raw, hstamp⟩ := stampedBurst_stamps hsync (Config.freeValue 0) (sent := 68) (by decide)
  rw [hstamp, ← cutShort_time stampedCut .a (stampedBurst (Config.freeValue 0))] at htime
  exact stamp_time_ne ((cutShort_timeOn ..).trans stampedCut_timeOn) ((cutShort_ptpEn ..).trans stampedCut_ptpEn)
    (congrArg TimeSt.tsDropRun (cutShort_time ..)) _ _ _ _ _ htime

end Sys2Proof.Machine
end

section
/-! Packets through the classifier's passes (O24). A pass counts, frees cells, keeps fragments and sends the packet on; what
waits for a pass stays as it is (`Passed`). What comes before a pass, the change of owner or the SecY's check, leaves the
classifier alone. -/

namespace Sys2Proof.Machine
set_option Elab.async false
variable {s t u : State} {l : List Zone} {m : List Core}

/-! ### What a pass leaves alone -/

theorem sameBut_modCls (s : State) (f : ClassSt → ClassSt) : SameBut [.classifier] s (s.modCls f) := fun p hp => by
  cases p <;> simp_all [Zone.same, State.modCls]
  exact fun _ _ => rfl

/-- What waits for a first and for a second pass, and the active plate. -/
def ClassSt.awaiting (c : ClassSt) : List Packet × List InFlight × Bool := (c.ingress, c.second, c.active)

/-- The parts that a pass may change. -/
def passZones : List Zone := [.counters, .bursts, .classifier, .queues, .pools]

/-- `t` differs from `s` by what a pass may change, and what waits for a pass is the same. -/
structure Passed (s t : State) : Prop where
  zones : SameBut passZones s t
  awaiting : t.cls.awaiting = s.cls.awaiting

namespace Passed

theorem refl (s : State) : Passed s s := ⟨.refl _ s, rfl⟩

theorem ite {c : Prop} [Decidable c] (h : Passed s t) (k : Passed s u) : Passed s (if c then t else u) := by split <;> assumption

/-- What leaves the classifier alone. -/
theorem beside (h : Passed s t) (k : SameBut poolZones t u) : Passed s u :=
  ⟨h.zones.trans (k.mono (by decide)), by rw [show u.cls = t.cls from k .classifier (by decide), h.awaiting]⟩

theorem snd {α : Type} {p : α × State} {a : α} (h : Passed s p.2) (e : p = (a, t)) : Passed s t := by
  rw [e] at h
  exact h

theorem modCls {f} (h : Passed s t) (hf : ∀ c : ClassSt, (f c).awaiting = c.awaiting := by intro _; rfl) :
    Passed s (t.modCls f) :=
  ⟨h.zones.trans ((sameBut_modCls t f).mono (by decide)), (hf t.cls).trans h.awaiting⟩

theorem raise {code p} (h : Passed s t) : Passed s (t.raise code p) := h.beside (sameBut_raise _ t code p)

theorem raiseIf {b code p} (h : Passed s t) : Passed s (t.raiseIf b code p) := h.beside (sameBut_raiseIf _ t b code p)

theorem bump {a n} (h : Passed s t) : Passed s (t.bump a n) := h.beside (Frame.refl (m := [.aborted]) t).bumpAny.zones

theorem bumpIf {b a n} (h : Passed s t) : Passed s (t.bumpIf b a n) := h.bump.ite h

theorem freeAll {cls cells} (h : Passed s t) : Passed s (State.freeAll cls cells t) :=
  h.beside (Frame.refl (m := []) t).freeAll.zones

theorem markRule {plate e how} (h : Passed s t) : Passed s (t.markRule plate e how) := h.ite h.modCls.raise

theorem lookAction {plate key g unmatched} (h : Passed s t) : Passed s (t.lookAction plate key g unmatched).2 := by
  unfold State.lookAction
  split
  · split
    exacts [h.bump.markRule, h.bump]
  · split <;> exact h.bump

theorem fragStore {k a plate} (h : Passed s t) : Passed s (t.fragStore k a plate) :=
  h.bump.bump.modCls.raiseIf.ite h.bump.modCls

theorem fragUse {k} (h : Passed s t) : Passed s (t.fragUse k) :=
  h.bump.modCls (f := fun c => { c with frags := c.frags.map _ })

theorem dropPkt {p counter} (h : Passed s t) : Passed s (t.dropPkt p counter) := h.bump.freeAll

theorem countAction {set_ bytes} (h : Passed s t) : Passed s (t.countAction set_ bytes) := by
  unfold State.countAction
  split
  exacts [h.bump.bump, h]

theorem dispose {x p second} (h : Passed s t) : Passed s (t.dispose x p second) := by
  unfold State.dispose
  split
  · split
    exacts [h.dropPkt, h.modCls]
  · exact h.dropPkt
  · refine h.dropPkt.ite ((h.modCls.ite h.dropPkt).ite ?_)
    split
    exacts [h.modCls, h.dropPkt]

theorem classify {k plate start first} (h : Passed s t) : Passed s (t.classify k plate start first) := by
  unfold State.classify
  extract_lets s1 p i s2 key bytes done
  have h2 : Passed s s2 := h.bump.bumpIf.bumpIf
  have hdone : ∀ v a set_, Passed s v → Passed s (done v a set_) := fun _ _ _ h => h.countAction.dispose
  split
  · exact hdone _ _ _ h2.fragUse
  · split
    next e => exact (h2.bumpIf.lookAction.snd e).freeAll
    next e =>
      have h4 := h2.bumpIf.lookAction.snd e
      exact hdone _ _ _ (h4.fragStore.ite h4)

theorem retireIfClear (h : Passed s t) : Passed s t.retireIfClear := h.modCls.raise.ite h

theorem waits (h : Passed s t) :
    t.cls.ingress = s.cls.ingress ∧ t.cls.second = s.cls.second ∧ t.cls.active = s.cls.active := by
  simpa [ClassSt.awaiting] using h.awaiting

end Passed

theorem retireIfClear_toDecrypt (s : State) : s.retireIfClear.cls.toDecrypt = s.cls.toDecrypt := by
  unfold State.retireIfClear
  split
  · rw [State.raise_cls]
    rfl
  · rfl

/-! ### Before a pass -/

namespace Frame

theorem modLink {f} (h : Frame l m s t) (hl : .link ∈ l := by decide) : Frame l m s (t.modLink f) :=
  h.beside fun p hp => by cases p <;> simp_all [Zone.same]

theorem modEth {e f} (h : Frame l m s t) (hl : .ethernet ∈ l := by decide) : Frame l m s (t.modEth e f) :=
  h.beside fun p hp => by cases p <;> simp_all [Zone.same]

theorem putCfg {a v} (h : Frame l m s t) (hl : .words ∈ l := by decide) : Frame l m s (t.putCfg a v) :=
  h.beside ((sameBut_putCfg t a v).mono (by simpa using hl))

theorem bumpEth {e k n} (h : Frame l m s t) (hl : .counters ∈ l := by decide) (hm : .aborted ∈ m := by simp) :
    Frame l m s (t.bumpEth e k n) := (h.bumpAny hl hm).bumpAny hl hm

theorem creditRelease {ch n} (h : Frame l m s t) (hl : .link ∈ l := by decide) : Frame l m s (t.creditRelease ch n) :=
  h.modLink (f := fun a => { a with credits := mput none a.credits ch _ }) hl

/-- The parts that a change of owner may change. -/
def entryZones : List Zone := .link :: .ethernet :: .contacts :: poolZones

theorem txDone {e} (h : Frame entryZones [.aborted] s t) : Frame entryZones [.aborted] s (t.txDone e) := by
  unfold State.txDone
  split
  exacts [h, h.modEth.bumpEth.bumpEth.emit]

theorem sendPause {e quanta} (h : Frame entryZones [.aborted] s t) : Frame entryZones [.aborted] s (t.sendPause e quanta) :=
  h.txDone.modEth.bumpEth.emit

theorem fcCheck {e} (h : Frame entryZones [.aborted] s t) : Frame entryZones [.aborted] s (t.fcCheck e) :=
  have h1 := h.ite h.modEth
  h1.ite (h1.modEth.sendPause.ite (h1.modEth.sendPause.ite h1))

theorem takeOwnership {k} (h : Frame entryZones [.aborted] s t) : Frame entryZones [.aborted] s (t.takeOwnership k) := by
  unfold State.takeOwnership
  extract_lets s1 s2
  have h2 : Frame entryZones [.aborted] s s2 := by
    unfold s2
    split
    exacts [h.passAll.creditRelease, h.passAll]
  exact h2.fcCheck.ite h2

theorem secRx {e b} (h : Frame l m s t) (hk : .keys ∈ l := by decide) (hw : .words ∈ l := by decide) :
    Frame l m s (t.secRx e b).2 := by
  refine h.sndIte ?_
  extract_lets
  split
  · exact h
  · refine h.sndIte (h.sndIte (h.sndIte (h.sndIte (h.sndIte ?_))))
    extract_lets
    split
    exacts [h.useKey hk, ((h.useKey hk).putCfg hw).putCfg hw]

end Frame

/-! ### The passes -/

/-- The parts that a first pass may change. -/
def firstPassZones : List Zone := [.counters, .bursts, .classifier, .queues, .pools, .link, .ethernet, .contacts]

theorem completes_classifierFirstPass {kind : BitVec 2} {index : BitVec 9} {k : Packet} {rest : List Packet}
    (hr : s.passesRun = true) (hs : s.cls.second = [])
    (hk : pluck (fun x : Packet => x.kind = kind && x.index = index) s.cls.ingress = some (k, rest)) :
    Completes (.classifierFirstPass kind index) s fun t =>
    SameBut firstPassZones s t ∧ t.cls.ingress = rest ∧ t.cls.second = [] ∧ t.cls.active = s.cls.active ∧
      t.vonu = s.vonu ∧ t.chans = s.chans := by
  refine ⟨s.firstPass kind index, rfl, ?_⟩
  have hguard : ¬ ((!s.passesRun || decide (s.cls.second ≠ [])) = true) := by simp [hr, hs]
  unfold State.firstPass
  rw [if_neg hguard]
  simp only [hk]
  generalize hu : s.modCls (fun c => { c with ingress := rest }) = u
  have h1 : SameBut [.classifier] s u := hu ▸ sameBut_modCls s _
  have h2 : SameBut Frame.entryZones u (u.takeOwnership k) := (Frame.refl u).takeOwnership.zones
  have hcls : (u.takeOwnership k).cls = { s.cls with ingress := rest } := (h2 .classifier (by decide)).trans (by rw [← hu]; rfl)
  have h3 := (Passed.refl (u.takeOwnership k)).classify (k := { k with creditCh := none })
    (plate := (u.takeOwnership k).cls.active) (start := .ethernet) (first := none)
  have hz := ((h1.mono (by decide)).trans (h2.mono (by decide))).trans (h3.zones.mono (m := firstPassZones) (by decide))
  obtain ⟨hin, hsec, hact⟩ := h3.waits
  exact ⟨hz, hin.trans (congrArg (·.ingress) hcls), (hsec.trans (congrArg (·.second) hcls)).trans hs,
    hact.trans (congrArg (·.active) hcls), hz .vonus (by decide), hz .channels (by decide)⟩

theorem completes_decap {x : InFlight} {r : List InFlight} (hr : s.passesRun = true) (hx : s.cls.toDecap = x :: r) :
    Completes .decap s fun t =>
    t.cls.toDecap = r ∧ t.cls.second = s.cls.second ++ [{ x with pkt := { x.pkt with bytes := x.pkt.bytes.drop x.cut } }] ∧
    SameBut [.classifier] s t := by
  refine ⟨s.decapNext, rfl, ?_⟩
  unfold State.decapNext
  simp only [hx, hr, Bool.not_true]
  exact ⟨rfl, rfl, sameBut_modCls s _⟩

theorem completes_classifierSecondPass {x : InFlight} {r : List InFlight} (hr : s.passesRun = true)
    (hx : s.cls.second = x :: r) : Completes .classifierSecondPass s fun t =>
    SameBut passZones s t ∧ t.cls.second = r ∧ t.cls.ingress = s.cls.ingress ∧ t.cls.active = s.cls.active := by
  refine ⟨s.secondPass, rfl, ?_⟩
  unfold State.secondPass
  simp only [hx, hr, Bool.not_true]
  have h := ((Passed.refl (s.modCls fun c => { c with second := r })).classify (k := x.pkt) (plate := x.plate)
    (start := x.start) (first := some x.act)).retireIfClear
  obtain ⟨hin, hsec, hact⟩ := h.waits
  exact ⟨((sameBut_modCls s _).mono (by decide)).trans h.zones, hsec, hin, hact⟩

/-! ### The check of the SecY -/

/-- The parts that the SecY's check of a frame may change. -/
def verifyZones : List Zone := [.words, .counters, .bursts, .classifier, .queues, .pools, .keys]

/-- A frame that waits for the SecY has been taken from its list. -/
def State.verifying (s : State) (r : List InFlight) : State := s.modCls fun c => { c with toDecrypt := r }

/-- A frame that the SecY has checked, with the check's outcome not yet acted on. -/
structure Verified (s : State) (r : List InFlight) (v : State) : Prop where
  zones : SameBut verifyZones s v
  cls : v.cls = { s.cls with toDecrypt := r }

namespace Verified
variable {r : List InFlight} {v : State}

theorem secRx (s : State) (r : List InFlight) (e : Nat) (b : List Byte) : Verified s r ((s.verifying r).secRx e b).2 := by
  have h : SameBut [.words, .keys] (s.verifying r) ((s.verifying r).secRx e b).2 := (Frame.refl (m := []) _).secRx.zones
  exact ⟨((sameBut_modCls s _).mono (by decide)).trans (h.mono (by decide)), h .classifier (by decide)⟩

theorem beside {w : State} (h : Verified s r v) (k : SameBut poolZones v w) : Verified s r w :=
  ⟨h.zones.trans (k.mono (by decide)), (k .classifier (by decide)).trans h.cls⟩

theorem bump {a n} (h : Verified s r v) : Verified s r (v.bump a n) := h.beside (Frame.refl (m := [.aborted]) v).bumpAny.zones

theorem freeAll {cls cells} (h : Verified s r v) : Verified s r (State.freeAll cls cells v) :=
  h.beside (Frame.refl (m := []) v).freeAll.zones

/-- A frame that does not go on may have been the last of an old plate. -/
theorem gone (h : Verified s r v) :
    SameBut verifyZones s v.retireIfClear ∧ v.retireIfClear.cls.toDecrypt = r ∧
      v.retireIfClear.cls.second = s.cls.second := by
  have hret : Passed v v.retireIfClear := (Passed.refl v).retireIfClear
  obtain ⟨-, hsec, -⟩ := hret.waits
  refine ⟨h.zones.trans (hret.zones.mono (by decide)), ?_, ?_⟩
  · rw [retireIfClear_toDecrypt, h.cls]
  · rw [hsec, h.cls]

/-- A frame that goes on joins those that wait for a second pass. -/
theorem goesOn (h : Verified s r v) (y : InFlight) :
    let t := v.modCls fun c => { c with second := c.second ++ [y] }
    SameBut verifyZones s t ∧ t.cls.toDecrypt = r ∧ t.cls.second = s.cls.second ++ [y] := by
  refine ⟨h.zones.trans ((sameBut_modCls v _).mono (by decide)), ?_, ?_⟩ <;> simp [State.modCls, h.cls]

end Verified

theorem completes_macsecVerify {e : BitVec 2} {x : InFlight} {r : List InFlight} (hr : s.passesRun = true)
    (hx : pluck (fun y : InFlight => y.pkt.index.toNat = e.toNat) s.cls.toDecrypt = some (x, r)) :
    Completes (.macsecVerify e) s fun t =>
    SameBut verifyZones s t ∧ t.cls.toDecrypt = r ∧
      match ((s.verifying r).secRx e.toNat x.pkt.bytes).1 with
      | .ok b => t.cls.second = s.cls.second ++ [{ x with pkt := { x.pkt with bytes := b }, start := .ethernet }]
      | _ => t.cls.second = s.cls.second := by
  refine ⟨s.macsecNext e, rfl, ?_⟩
  unfold State.macsecNext
  simp only [hx, hr, Bool.not_true, Bool.false_eq_true, if_false]
  rw [← State.verifying]
  have h : Verified s r ((s.verifying r).secRx e.toNat x.pkt.bytes).2 := .secRx s r _ _
  generalize (s.verifying r).secRx e.toNat x.pkt.bytes = out at h ⊢
  obtain ⟨res, v⟩ := out
  cases res with
  | ok b => exact h.bump.bump.goesOn _
  | drop k => exact h.bump.bump.freeAll.gone
  | retired => exact h.bump.freeAll.gone
  | noEngine => exact h.bump.freeAll.gone

/-- Settles O24, a pass or check at a time. -/
theorem classifierPasses : Obligations.ClassifierPasses := by
  unfold Obligations.ClassifierPasses
  intro s hr
  refine ⟨?_, ?_, ?_, ?_⟩
  · exact fun _ _ _ _ hs hk => completes_classifierFirstPass hr hs hk
  · exact fun _ _ hx => completes_decap hr hx
  · exact fun _ _ _ hx => completes_macsecVerify hr hx
  · exact fun _ _ hx => completes_classifierSecondPass hr hx

end Sys2Proof.Machine
end

section
/-! A swap of the plates that is answered by a spoilt reply (O25). A COMMIT_PLATE stays in execution until its swap, which
answers it (R228, log 130). Over the Alanov Link the answer is a frame of the link's stream of sent frames; where a FIFO fault
has spoilt the next frame of that stream, the answer is the one that is lost, and the crossings, a part of the tick, change
(R25, log 127). The frame that the statement gives the swap leaves the tick out. -/

namespace Sys2Proof.Machine

/-- A COMMIT_PLATE of plate 1 over the link, which acted at tick 100000 and waits for its swap. -/
def committing : Running :=
  { pkt := { op := 0x10, r := linkReq 0 1 [] }, work := .plateSwap 100000 }

/-- `spoiltLink` with the swap to plate 1 due, and its command in execution over the link. -/
def swapRuns : State :=
  { spoiltLink with
    cls := { ClassSt.reset with swapDue := some true }
    cmd := { CmdSt.reset with port := ⟨.reset, { PortSt.reset with running := [committing] }⟩ } }

theorem swapRuns_canonical : swapRuns.canonical := State.canonical_of (by decide +kernel)

theorem swapRuns_domOn : swapRuns.domOn 6 = true := by decide +kernel

/-- The answer to the command takes the fault of the crossing with it. -/
theorem swapRuns_unspoils : swapRuns.plateSwap.tick.transit = [] := by decide +kernel

/-- Refutes O25: the swap of `swapRuns` answers its COMMIT_PLATE over the link, where the spoilt frame is next. -/
theorem not_platesAndFragments : ¬ Obligations.PlatesAndFragments := by
  intro h
  obtain ⟨hswap, -⟩ := h swapRuns swapRuns_canonical
  exact false_of_unspoils (hswap true rfl swapRuns_domOn) swapRuns_unspoils fun _ ⟨_, _, _, _, _, _, hframe⟩ => hframe

end Sys2Proof.Machine
end

section
/-! Admission to the queue of a T-CONT (O26). A packet that joins such a queue is bound to one of the flows that the vONU of the
node's allocation has on its channel, with the XGEM port that the binding then names (R163, log 59). What joins the tail is
the packet so bound, where the statement has the packet as it came from its last pass. -/

namespace Sys2Proof.Machine
variable {s : State} {n q : Nat} {p : Packet}

/-- A T-CONT node has no credit-based shaper. -/
theorem creditsHere_tcont (hn : n < 8192) : s.creditsHere n = s := by
  simp only [State.creditsHere, nodeKind, if_pos hn]

/-- A packet without a flow is bound to the allocation's one binding. -/
theorem bindPacket_flow {a : AllocE} {f : Nat} {w : Word} (hn : n < 8192) (ha : s.allocAt n = some a) (hp : p.flow = none)
    (hf : ((s.flowsOf a.vonu.toNat).filter fun e => flowChan e.2 = a.chan) = [(f, w)]) :
    (s.bindPacket n p).1.flow = some f := by
  simp [State.bindPacket, State.upFlow, ha, hp, hf, Nat.not_le.2 hn, maxN, Nat.mod_one]

/-- A green packet within the limit of a T-CONT's queue that is not empty joins the tail as its binding leaves it. -/
theorem admitTo_tcont_pkts (hs : SMap.wf Queue.none s.qs.queues = true) (hn : s.qNode q < 8192) (hb : s.qBound q = true)
    (he : s.cfgB (qAddr q 0) 30 = true) (hc : p.colour = 0)
    (hd : s.depth q + p.bytes.length ≤ (s.cfg (qAddr q 1)).toNat) (hq : (s.queue q).pkts ≠ []) :
    ((s.admitTo q p).queue q).pkts =
      (s.queue q).pkts ++ [((State.passAll 0x06 0x07 p.cells s).bindPacket (s.qNode q) p).1] := by
  have hadmitted : ¬ ((!s.qBound q || !s.cfgB (qAddr q 0) 30) = true) := by simp [hb, he]
  have hlimit : ¬ s.depth q + p.bytes.length > (s.cfg (qAddr q (1 + minN 2 p.colour.toNat))).toNat := by
    rw [hc]
    exact Nat.not_lt.2 hd
  have hunguarded : ¬ ((decide (p.colour ≠ 0) && s.poolGuarded p p.colour) = true) := by simp [hc]
  unfold State.admitTo
  simp only [if_neg hadmitted, if_neg hlimit, if_neg hunguarded, if_neg hq, creditsHere_tcont hn]
  generalize hu : State.passAll 0x06 0x07 p.cells s = u
  have hframe : Frame poolZones [] s (u.bindPacket (s.qNode q) p).2 := (hu ▸ (Frame.refl s).passAll).bindPacket
  have hqueues : (u.bindPacket (s.qNode q) p).2.qs.queues = s.qs.queues := hframe.cores .packets (by simp)
  simp only [State.queue, State.bump_qs, State.setQueue_qs, hqueues]
  rw [mget_mput_same _ _ _ _ (List.pairwise_map.2 (SMap.wf_iff.1 hs).2)]

/-- Such a packet without a flow joins the tail with the allocation's one binding. -/
theorem admitTo_tcont_flow {a : AllocE} {f : Nat} {w : Word} (hs : SMap.wf Queue.none s.qs.queues = true) (hn : s.qNode q < 8192)
    (hb : s.qBound q = true) (he : s.cfgB (qAddr q 0) 30 = true) (hc : p.colour = 0)
    (hd : s.depth q + p.bytes.length ≤ (s.cfg (qAddr q 1)).toNat) (hq : (s.queue q).pkts ≠ []) (hp : p.flow = none)
    (ha : s.allocAt (s.qNode q) = some a)
    (hf : ((s.flowsOf a.vonu.toNat).filter fun e => flowChan e.2 = a.chan) = [(f, w)]) :
    ∃ b : Packet, b.flow = some f ∧ ((s.admitTo q p).queue q).pkts = (s.queue q).pkts ++ [b] := by
  have hframe : SameBut poolZones s (State.passAll 0x06 0x07 p.cells s) := (Frame.refl (m := []) s).passAll.zones
  have hvonu : (State.passAll 0x06 0x07 p.cells s).vonu = s.vonu := hframe .vonus (by decide)
  have hwords : (State.passAll 0x06 0x07 p.cells s).words = s.words := hframe .words (by decide)
  refine ⟨_, bindPacket_flow (a := a) (w := w) hn ?_ hp ?_, admitTo_tcont_pkts hs hn hb he hc hd hq⟩
  · rwa [State.allocAt, hvonu]
  · simpa only [State.flowsOf, State.flows, hwords] using hf

/-- A packet that no meter marks is presented to its queue as it came. -/
theorem admitNext_unmetered {x : InFlight} {r : List InFlight} {k : BitVec 16} (hx : s.cls.toAdmit = x :: r)
    (hd : s.domOn 6 = true) (hr : s.cls.restoring = false) (hc : s.spoilt 15 0 = false) (hm : x.act.meter = none)
    (hk : x.act.queue = some k) :
    s.admitNext = (s.modCls fun c => { c with toAdmit := r }).admitTo k.toNat x.pkt := by
  have hclean (f : ClassSt → ClassSt) : ¬ (s.modCls f).spoilt 15 0 = true := by simpa [State.spoilt] using hc
  unfold State.admitNext
  simp [hx, hd, hr, hm, hk, State.meterPacket, hclean]

/-! ### A queue of a T-CONT with one binding -/

/-- A packet of port 3 of the link, in cell k of pool P1. -/
def linkPacket (k : Nat) : Packet :=
  { kind := 1, index := 3, xgemPort := 0, colour := 0, bytes := List.replicate 60 0x11, cells := [(1, k)]
    creditCh := none, flow := none }

/-- The packet in cell 7, classified to queue 6. -/
def tcontArrival : InFlight :=
  { pkt := linkPacket 7, plate := false, counted := 60, cut := 14, start := .ethernet
    act := { cls := 0, colour := 0, queue := some 6, meter := none, counter := none, dispose := 1, recircKind := 0, decapLayer := 1
             metaTag := 0 } }

/-- Ready, with every domain on. Queue 6 of T-CONT 0 is enabled, with a limit of 20,000 bytes, and holds a packet. The node's
allocation is vONU 0's on channel A, where flow 5 binds XGEM port 77 to the vONU. The next packet to be admitted is queue 6's. -/
def tcontAdmits : State :=
  { State.reset with
    phase := .ready
    power := { PowerSt.reset with doms := (List.range 13).map fun d => (d, { Dom.off with st := .on, votes := 3 }) }
    words := [(flowAddr 5, BitVec.ofNat 32 (77 + 2 ^ 26)),
      (qAddr 6 0, BitVec.ofNat 32 (2 ^ 17 + 2 ^ 30 + 2 ^ 31)), (qAddr 6 1, 20000)]
    vonu := { State.reset.vonu with alloc := [(0, some { allocId := 1024, vonu := 0, chan := .a })] }
    cls := { ClassSt.reset with restoring := false, toAdmit := [tcontArrival] }
    qs := { QSt.reset with queues := [(6, { Queue.none with pkts := [{ linkPacket 8 with flow := some 5, xgemPort := 77 }] })] }
    bpm := { BpmSt.reset with pools := [(1, { Pool.fresh 1 with cells := [(7, ⟨1, 6, 0⟩), (8, ⟨1, 7, 0⟩)] })] } }

theorem tcontAdmits_canonical : tcontAdmits.canonical := State.canonical_of (by decide +kernel)

theorem tcontAdmits_runs : tcontAdmits.domOn 6 = true ∧ tcontAdmits.spoilt 15 0 = false := by decide +kernel

/-- `tcontAdmits` with its packet taken from those that wait to be admitted. -/
def tcontTaken : State := tcontAdmits.modCls fun c => { c with toAdmit := [] }

/-- Queue 6 takes a green packet of 60 bytes, in both states. -/
theorem tcont_takes : ∀ s ∈ [tcontAdmits, tcontTaken], s.qBound 6 = true ∧ s.cfgB (qAddr 6 0) 30 = true ∧
    s.depth 6 + (linkPacket 7).bytes.length ≤ (s.cfg (qAddr 6 1)).toNat ∧ (s.queue 6).pkts ≠ [] := by decide +kernel

/-- The queue is T-CONT 0's, and vONU 0 has one binding on channel A. -/
theorem tcontTaken_binds : SMap.wf Queue.none tcontTaken.qs.queues = true ∧ tcontTaken.qNode 6 = 0 ∧
    tcontTaken.allocAt 0 = some { allocId := 1024, vonu := 0, chan := .a } ∧
    ((tcontTaken.flowsOf 0).filter fun e => flowChan e.2 = .a) = [(5, BitVec.ofNat 32 (77 + 2 ^ 26))] := by decide +kernel

/-- The packet that joins the tail has flow 5. -/
theorem tcontAdmits_pkts : ∃ b : Packet, b.flow = some 5 ∧
    (tcontAdmits.admitNext.queue 6).pkts = (tcontAdmits.queue 6).pkts ++ [b] := by
  obtain ⟨hdom, hclean⟩ := tcontAdmits_runs
  obtain ⟨hbound, hen, hlimit, hne⟩ := tcont_takes tcontTaken (by simp)
  obtain ⟨hwf, hnode, halloc, hflow⟩ := tcontTaken_binds
  rw [admitNext_unmetered (k := 6) rfl hdom rfl hclean rfl rfl]
  exact admitTo_tcont_flow hwf (hnode.trans_lt (by decide)) hbound hen rfl hlimit hne rfl (hnode ▸ halloc) hflow

/-- Refutes O26: in `tcontAdmits` a packet without a flow is admitted to a T-CONT's queue, and the packet at the queue's tail
is bound to flow 5. -/
theorem not_queueFlow : ¬ Obligations.QueueFlow := by
  intro h
  obtain ⟨hadmit, -⟩ := h tcontAdmits tcontAdmits_canonical
  obtain ⟨hdom, hclean⟩ := tcontAdmits_runs
  obtain ⟨hbound, hen, hlimit, hne⟩ := tcont_takes tcontAdmits (by simp)
  obtain ⟨hjoins, -⟩ := hadmit tcontArrival [] 6 rfl hdom rfl hclean rfl rfl
  obtain ⟨t, ht, -, -, hpkts, -⟩ := hjoins hbound hen rfl hlimit hne
  obtain rfl : tcontAdmits.admitNext = t := Host.Outcome.next.inj ht
  obtain ⟨b, hflow, hb⟩ := tcontAdmits_pkts
  obtain rfl : b = tcontArrival.pkt := by simpa using List.append_cancel_left (hb.symm.trans hpkts)
  exact absurd hflow (by decide)

end Sys2Proof.Machine
end

section
/-! The buffer pools (O28). An operation on an owned or a shared cell is one update of its state byte; one that frees the cell is
counted, and the pool is judged again, which leaves every cell as it is. A cycle of the allocator serves each pool in turn:
what it does to the other pools spares the pool of the request (`Spares`), and there the request takes a cell that was free. -/

namespace Sys2Proof.Machine
variable {s t u : State} {p q k : Nat} {cls : BitVec 6} {ptr : BitVec 40}

/-! ### A pool that is stored -/

theorem pool_of_bpm (h : t.bpm = s.bpm) (p : Nat) : t.pool p = s.pool p := by rw [State.pool, h, State.pool]

theorem pool_setPool_same (hs : SMap.wf Pool.none s.bpm.pools = true) (p : Nat) (x : Pool) : (s.setPool p x).pool p = x :=
  mget_mput_same _ _ _ _ (keys_sorted hs)

theorem pool_setPool_other (h : q ≠ p) (x : Pool) : (s.setPool p x).pool q = s.pool q := mget_mput_other _ _ _ _ _ h

theorem setPool_self (hs : SMap.wf Pool.none s.bpm.pools = true) (p : Nat) : s.setPool p (s.pool p) = s := by
  rw [State.setPool, State.pool, mput_mget p hs]

theorem freeCells_of_pool (h : t.pool p = s.pool p) : t.freeCells p = s.freeCells p := by rw [State.freeCells, h, State.freeCells]

theorem poolServes_congr (hpower : t.power = s.power) (h : t.pool p = s.pool p) : t.poolServes p = s.poolServes p := by
  simp only [State.poolServes, h, domOn_of_power hpower]

theorem sameBut_setPool (s : State) (p : Nat) (x : Pool) : SameBut [.pools] s (s.setPool p x) :=
  (Frame.refl (m := []) s).setPool.zones

theorem setCell_cells (hs : SMap.wf Pool.none s.bpm.pools = true) (p k : Nat) (c : Cell) :
    ((s.setCell p k c).pool p).cells = mput Cell.free (s.pool p).cells k c := by
  rw [State.setCell, pool_setPool_same hs]

/-- A cell reads as it was set. -/
theorem cell_setCell (hs : s.canonical) (p k : Nat) (c : Cell) : (s.setCell p k c).cell p k = c := by
  rw [State.cell, setCell_cells hs.pools]
  exact mget_mput_same _ _ _ _ (keys_sorted (hs.cells p))

/-! ### A pool judged after its free count has changed -/

theorem poolGuards_bpm (s : State) (p : Nat) : (s.poolGuards p).bpm = s.bpm := by simp [State.poolGuards]

theorem ite_bpm {b : Prop} [Decidable b] (h : t.bpm = s.bpm) (k : u.bpm = s.bpm) : (if b then t else u).bpm = s.bpm := by
  split <;> assumption

/-- The pool's low water and its runs are noted, and no pool changes otherwise. -/
theorem poolChanged_bpm (s : State) (p : Nat) : ∃ water empty low, (s.poolChanged p).bpm =
    (s.setPool p { s.pool p with lowWater := water, emptyRun := empty, lowRun := low }).bpm :=
  ⟨_, _, _, (poolGuards_bpm _ p).trans <| (State.raiseIf_bpm ..).trans <| (State.raiseIf_bpm ..).trans <|
    ite_bpm (State.raiseIf_bpm ..) rfl⟩

theorem poolChanged_pool_other (h : q ≠ p) : (s.poolChanged p).pool q = s.pool q := by
  obtain ⟨w, e, l, hb⟩ := poolChanged_bpm s p
  rw [pool_of_bpm hb, pool_setPool_other h]

theorem poolChanged_cells (hs : SMap.wf Pool.none s.bpm.pools = true) (p : Nat) :
    ((s.poolChanged p).pool p).cells = (s.pool p).cells := by
  obtain ⟨w, e, l, hb⟩ := poolChanged_bpm s p
  rw [pool_of_bpm hb, pool_setPool_same hs]

theorem poolChanged_freeCells (hs : SMap.wf Pool.none s.bpm.pools = true) (p : Nat) :
    (s.poolChanged p).freeCells p = s.freeCells p := by rw [State.freeCells, poolChanged_cells hs, State.freeCells]

theorem poolChanged_wf (hs : SMap.wf Pool.none s.bpm.pools = true) (p : Nat) :
    SMap.wf Pool.none (s.poolChanged p).bpm.pools = true := by
  obtain ⟨w, e, l, hb⟩ := poolChanged_bpm s p
  rw [hb]
  exact mput_wf _ _ hs

/-! ### The pools' counters -/

theorem sideCount_poolCtr (hp : p ≤ 11) (hk : k ≤ 15) : sideCount (poolCtr p k) = false := by
  have hblock : ¬ poolCtr p k / 2 ^ 24 = 0x70 := by
    simp only [poolCtr, addrOf]
    omega
  have hlost : ¬ poolCtr p k = addrOf 0x40 0x108 := by
    simp only [poolCtr, addrOf]
    omega
  rw [sideCount, decide_eq_false hblock, decide_eq_false hlost, Bool.or_false]

/-! ### A cell freed (R283, R284) -/

theorem releaseCell_frees (hs : s.canonical) (hp : p ≤ 11) (k : Nat) :
    (s.releaseCell p k).cell p k = Cell.free ∧ (s.releaseCell p k).ctr (poolCtr p 4) = s.ctr (poolCtr p 4) + 1 ∧
    SameBut [.pools, .queues, .bursts, .counters] s (s.releaseCell p k) := by
  refine ⟨?_, ?_, (CellsOnly.refl s).releaseCell.1.mono (by decide)⟩
  · have hwf : SMap.wf Pool.none ((s.setCell p k Cell.free).bump (poolCtr p 4) 1).bpm.pools = true := mput_wf _ _ hs.pools
    rw [State.releaseCell, State.cell, poolChanged_cells hwf]
    exact cell_setCell hs p k Cell.free
  · rw [State.releaseCell, poolChanged_ctr (sideCount_poolCtr hp (by decide))]
    exact State.ctr_bump (s := s.setCell p k Cell.free) hs.counters _ 1

theorem setCell_sets (hs : s.canonical) (p k : Nat) (c : Cell) :
    (s.setCell p k c).cell p k = c ∧ SameBut [.pools] s (s.setCell p k c) :=
  ⟨cell_setCell hs p k c, sameBut_setPool s p _⟩

/-! ### What a pointer names -/

/-- A pointer that names a cell names one of a pool that exists. -/
theorem le_of_atPtr (h : atPtr cls ptr = .cell p k) : p ≤ 11 := by
  unfold atPtr at h
  split at h
  · split at h <;> cases h
  next q hq =>
    have hmem : q ∈ poolList := List.mem_of_find?_eq_some hq
    have hle : ∀ q ∈ poolList, q ≤ 11 := by decide
    dsimp only at h
    split at h <;> cases h
    exact hle _ hmem

theorem cellFree_at (h : atPtr cls ptr = .cell p k) : s.cellFree cls ptr = s.freeAt cls ptr p k := by
  rw [State.cellFree, h]

theorem freeAt_owned (h : (s.cell p k).state = 1) (ho : (s.cell p k).owner = cls) :
    s.freeAt cls ptr p k = s.releaseCell p k := by simp [State.freeAt, h, ho]

theorem freeAt_shared (h : (s.cell p k).state = 2) : s.freeAt cls ptr p k = s.dropRef p k := by simp [State.freeAt, h]

theorem cellTransfer_owned (ha : atPtr cls ptr = .cell p k) (h : (s.cell p k).state = 1) (ho : (s.cell p k).owner = cls)
    (new : BitVec 6) : s.cellTransfer cls ptr new = s.setCell p k { s.cell p k with owner := new } := by
  simp [State.cellTransfer, ha, State.passAt, h, ho]

theorem cellShare_owned {n : Nat} (ha : atPtr cls ptr = .cell p k) (h : (s.cell p k).state = 1)
    (ho : (s.cell p k).owner = cls) (h2 : 2 ≤ n) (hn : n ≤ 1023) :
    s.cellShare cls ptr n = s.setCell p k { state := 2, owner := cls, refs := BitVec.ofNat 10 n } := by
  simp [State.cellShare, ha, h, ho, Nat.not_lt.2 h2, Nat.not_lt.2 hn]

theorem cellShare_shared {n : Nat} (ha : atPtr cls ptr = .cell p k) (h : (s.cell p k).state = 2)
    (hn : (s.cell p k).refs.toNat + n ≤ 1023) :
    s.cellShare cls ptr n = s.setCell p k { s.cell p k with refs := (s.cell p k).refs + BitVec.ofNat 10 n } := by
  simp [State.cellShare, ha, h, Nat.not_lt.2 hn]

/-! ### The operations on a cell complete (R282 to R284) -/

theorem completes_free (hs : s.canonical) (ha : atPtr cls ptr = .cell p k) (h : (s.cell p k).state = 1)
    (ho : (s.cell p k).owner = cls) : Completes (.free cls ptr) s fun t =>
    t.cell p k = Cell.free ∧ t.ctr (poolCtr p 4) = s.ctr (poolCtr p 4) + 1 ∧ SameBut [.pools, .queues, .bursts, .counters] s t :=
  .of_eq ((cellFree_at ha).trans (freeAt_owned h ho)) (releaseCell_frees hs (le_of_atPtr ha) k)

theorem completes_transfer (hs : s.canonical) (ha : atPtr cls ptr = .cell p k) (h : (s.cell p k).state = 1)
    (ho : (s.cell p k).owner = cls) (new : BitVec 6) : Completes (.transfer cls ptr new) s fun t =>
    t.cell p k = { s.cell p k with owner := new } ∧ SameBut [.pools] s t :=
  .of_eq (cellTransfer_owned ha h ho new) (setCell_sets hs p k _)

theorem completes_share_owned {n : Nat} (hs : s.canonical) (ha : atPtr cls ptr = .cell p k) (h : (s.cell p k).state = 1)
    (ho : (s.cell p k).owner = cls) (h2 : 2 ≤ n) (hn : n ≤ 1023) : Completes (.share cls ptr n) s fun t =>
    t.cell p k = { state := 2, owner := cls, refs := BitVec.ofNat 10 n } ∧ SameBut [.pools] s t :=
  .of_eq ((if_neg (show ¬ n = 0 by omega)).trans (cellShare_owned ha h ho h2 hn)) (setCell_sets hs p k _)

theorem completes_share_shared {n : Nat} (hs : s.canonical) (ha : atPtr cls ptr = .cell p k) (h : (s.cell p k).state = 2)
    (h1 : 1 ≤ n) (hn : (s.cell p k).refs.toNat + n ≤ 1023) : Completes (.share cls ptr n) s fun t =>
    t.cell p k = { s.cell p k with refs := (s.cell p k).refs + BitVec.ofNat 10 n } ∧ SameBut [.pools] s t :=
  .of_eq ((if_neg (show ¬ n = 0 by omega)).trans (cellShare_shared ha h hn)) (setCell_sets hs p k _)

theorem completes_release_many (hs : s.canonical) (ha : atPtr cls ptr = .cell p k) (h : (s.cell p k).state = 2)
    (hr : (s.cell p k).refs > 1) : Completes (.release cls ptr) s fun t =>
    t.cell p k = { s.cell p k with refs := (s.cell p k).refs - 1 } ∧ SameBut [.pools] s t :=
  .of_eq ((cellFree_at ha).trans ((freeAt_shared h).trans (if_neg (BitVec.not_le.2 hr)))) (setCell_sets hs p k _)

theorem completes_release_last (hs : s.canonical) (ha : atPtr cls ptr = .cell p k) (h : (s.cell p k).state = 2)
    (hr : (s.cell p k).refs ≤ 1) : Completes (.release cls ptr) s fun t =>
    t.cell p k = Cell.free ∧ t.ctr (poolCtr p 4) = s.ctr (poolCtr p 4) + 1 ∧ SameBut [.pools, .queues, .bursts, .counters] s t :=
  .of_eq ((cellFree_at ha).trans ((freeAt_shared h).trans (if_pos hr))) (releaseCell_frees hs (le_of_atPtr ha) k)

/-! ### A pool that a cycle's service of the others spares -/

/-- `t` comes of `s` by operations on other pools than `p`: the pool and its count of cells granted are the same, the power
domains too, and the maps are still in order. -/
structure Spares (p : Nat) (s t : State) : Prop where
  power : t.power = s.power
  pool : t.pool p = s.pool p
  granted : t.ctr (poolCtr p 0) = s.ctr (poolCtr p 0)
  pools : SMap.wf Pool.none s.bpm.pools = true → SMap.wf Pool.none t.bpm.pools = true
  counters : (s.counters.now.map (·.1)).Pairwise (· < ·) → (t.counters.now.map (·.1)).Pairwise (· < ·)

theorem poolCtr_ne_granted {j : Nat} (hj : j < 16) (h : q ≠ p ∨ j ≠ 0) : poolCtr p 0 ≠ poolCtr q j := by
  simp only [poolCtr, addrOf]
  omega

theorem poolCtr_ne_bpmCtr (p : Nat) : poolCtr p 0 ≠ bpmCtr 1 := by
  simp only [poolCtr, bpmCtr, addrOf]
  omega

namespace Spares
variable {a n : Nat} {x : Pool} {began : Bool} {r : List PoolReq}

theorem refl (s : State) : Spares p s s := ⟨rfl, rfl, rfl, id, id⟩

theorem trans (h : Spares p s t) (k : Spares p t u) : Spares p s u :=
  ⟨k.power.trans h.power, k.pool.trans h.pool, k.granted.trans h.granted, k.pools ∘ h.pools, k.counters ∘ h.counters⟩

theorem ite {b : Prop} [Decidable b] (h : Spares p s t) (k : Spares p s u) : Spares p s (if b then t else u) := by
  split <;> assumption

theorem sndIte {α : Type} {x y : α × State} {b : Prop} [Decidable b] (h : Spares p s x.2) (k : Spares p s y.2) :
    Spares p s (if b then x else y).2 := by split <;> assumption

theorem fresh (h : Spares p s t) : Spares p s t.fresh.2 := h.trans ⟨rfl, rfl, rfl, id, id⟩

theorem bump (h : Spares p s t) (ha : poolCtr p 0 ≠ a) : Spares p s (t.bump a n) :=
  h.trans ⟨rfl, rfl, State.ctr_bump_other t _ a n ha, id, pairwise_keys_mput⟩

theorem setPool (h : Spares p s t) (hq : p ≠ q) : Spares p s (t.setPool q x) :=
  h.trans ⟨rfl, pool_setPool_other hq x, rfl, mput_wf q x, id⟩

theorem poolChanged (h : Spares p s t) (hp : p ≤ 11) (hq : p ≠ q) : Spares p s (t.poolChanged q) :=
  h.trans ⟨(CellsOnly.refl t).poolChanged.2, poolChanged_pool_other hq, poolChanged_ctr (sideCount_poolCtr hp (by decide)) q,
    fun hw => poolChanged_wf hw q, (CountsBelow.refl t).poolChanged.sorted⟩

theorem grantCell (h : Spares p s t) (hp : p ≤ 11) (hq : p ≠ q) : Spares p s (t.grantCell q cls began).2 := by
  have hne {j : Nat} (hj : j < 16) : poolCtr p 0 ≠ poolCtr q j := poolCtr_ne_granted hj (.inl hq.symm)
  have hfail : poolCtr p 0 ≠ poolCtr q (if began then 2 else 1) := by split <;> exact hne (by decide)
  exact (h.bump (poolCtr_ne_granted (by decide) (.inr (by decide)))).sndIte <| (h.bump (hne (by decide))).sndIte <|
    (h.bump hfail).sndIte <| ((h.fresh.setPool hq).bump (hne (by decide))).poolChanged hp hq

theorem servePool (h : Spares p s t) (hp : p ≤ 11) (hq : p ≠ q) : Spares p s (servePool q began n r t) := by
  induction r generalizing t n with
  | nil => cases n <;> exact h
  | cons x r ih =>
    cases n with
    | zero => exact h.setPool hq
    | succ n => exact ih (h.grantCell hp hq)

theorem poolCycle (h : Spares p s t) (hp : p ≤ 11) (hq : p ≠ q) : Spares p s (t.poolCycle r q) :=
  h.ite ((h.ite (h.setPool hq)).servePool hp hq)

theorem poolCycles {l : List Nat} (h : Spares p s t) (hp : p ≤ 11) (hl : p ∉ l) :
    Spares p s (l.foldl (fun s q => s.poolCycle r q) t) := by
  induction l generalizing t with
  | nil => exact h
  | cons q l ih => exact ih (h.poolCycle hp (List.ne_of_not_mem_cons hl)) (mt (List.mem_cons_of_mem q) hl)

end Spares

/-! ### A free cell taken (R278) -/

theorem le_gapFrom (h : Nat) (l : List Nat) : h ≤ gapFrom h l := by
  induction l generalizing h with
  | nil => exact Nat.le_refl h
  | cons k r ih =>
    rw [gapFrom]
    split
    · exact ih h
    · split
      exacts [Nat.le_of_succ_le (ih (h + 1)), Nat.le_refl h]

/-- The gap that is found in a rising list is one. -/
theorem gapFrom_notMem {l : List Nat} (hl : l.Pairwise (· < ·)) (h : Nat) : gapFrom h l ∉ l := by
  induction l generalizing h with
  | nil => exact List.not_mem_nil
  | cons k r ih =>
    obtain ⟨hk, hr⟩ := List.pairwise_cons.1 hl
    have hge := le_gapFrom h r
    have hge' := le_gapFrom (h + 1) r
    rw [gapFrom]
    split
    next hlt => exact List.not_mem_cons_of_ne_of_not_mem (by omega) (ih hr h)
    next hlt =>
      split
      next heq => exact List.not_mem_cons_of_ne_of_not_mem (by omega) (ih hr (h + 1))
      next hne => exact List.not_mem_cons_of_ne_of_not_mem (by omega) fun hmem => hlt (hk h hmem)

theorem pickCell_notMem (hs : SMap.wf Cell.free (s.pool p).cells = true) :
    (s.pickCell p).1 ∉ (s.pool p).cells.map (·.1) := by
  have hgap := gapFrom_notMem (keys_sorted hs)
  show (if _ < poolCells p then _ else _) ∉ _
  split
  exacts [hgap _, hgap _]

theorem length_mput_new {α : Type} [DecidableEq α] {d v : α} {m : SMap α} {i : Nat} (hi : i ∉ m.map (·.1)) (hv : v ≠ d) :
    (mput d m i v).length = m.length + 1 := by
  induction m with
  | nil => simp [mput, hv]
  | cons e r ih =>
    obtain ⟨k, w⟩ := e
    have hne : ¬ k = i := (List.ne_of_not_mem_cons hi).symm
    have hr : i ∉ r.map (·.1) := mt (List.mem_cons_of_mem k) hi
    simp only [mput, hv, if_false, hne]
    split
    · simp [ih hr]
    · rfl

/-- A free cell of the pool, which of them is the allocator's choice, has gone to an owner class. -/
def State.cellTaken (s : State) (p : Nat) (cls : BitVec 6) : State :=
  s.fresh.2.setCell p (s.pickCell p).1 { state := 1, owner := cls, refs := 0 }

theorem cellTaken_freeCells (hpools : SMap.wf Pool.none s.bpm.pools = true)
    (hcells : SMap.wf Cell.free (s.pool p).cells = true) (hf : s.freeCells p ≠ 0) : (s.cellTaken p cls).freeCells p + 1 = s.freeCells p := by
  have htaken : ((s.cellTaken p cls).pool p).cells =
      mput Cell.free (s.pool p).cells (s.pickCell p).1 { state := 1, owner := cls, refs := 0 } :=
    setCell_cells (s := s.fresh.2) hpools p _ _
  rw [State.freeCells] at hf ⊢
  rw [htaken, length_mput_new (pickCell_notMem hcells) (by simp [Cell.free]), State.freeCells]
  omega

/-- A pool that serves and has a free cell grants one, counts it and is judged again. -/
theorem grantCell_eq {b : Bool} (h7 : p ≠ 7) (hs : s.poolServes p = true) (hf : s.freeCells p ≠ 0) :
    (s.grantCell p cls b).2 = ((s.cellTaken p cls).bump (poolCtr p 0) 1).poolChanged p := by
  simp [State.grantCell, h7, hs, hf, State.pickCell, State.cellTaken]

theorem grantCell_takes {b : Bool} (hpools : SMap.wf Pool.none s.bpm.pools = true)
    (hcounts : (s.counters.now.map (·.1)).Pairwise (· < ·)) (hcells : SMap.wf Cell.free (s.pool p).cells = true) (hp : p ≤ 11)
    (h7 : p ≠ 7) (hs : s.poolServes p = true) (hf : s.freeCells p ≠ 0) :
    (s.grantCell p cls b).2.freeCells p + 1 = s.freeCells p ∧
    (s.grantCell p cls b).2.ctr (poolCtr p 0) = s.ctr (poolCtr p 0) + 1 := by
  rw [grantCell_eq h7 hs hf]
  constructor
  · rw [poolChanged_freeCells (mput_wf _ _ hpools)]
    exact cellTaken_freeCells hpools hcells hf
  · rw [poolChanged_ctr (sideCount_poolCtr hp (by decide))]
    exact State.ctr_bump_same (s.cellTaken p cls) _ 1 hcounts

/-! ### A cycle of one request (R277 to R279) -/

theorem poolCycle_one {r : PoolReq} (hpools : SMap.wf Pool.none s.bpm.pools = true) (h7 : p ≠ 7) (hr : wantPool r.want = some p)
    (hc : (s.pool p).carried = []) : s.poolCycle [r] p = (s.grantCell p r.cls (s.freeCells p ≠ 0)).2 := by
  have hself : s.setPool p { s.pool p with carried := [] } = s := by
    conv_rhs => rw [← setPool_self hpools p]
    rw [← hc]
  simp [State.poolCycle, hr, hc, sortReqs, insertReq, h7, hself, servePool]

theorem allocCycle_one {r : PoolReq} (ha : asks r = true) (hr : wantPool r.want = some p) :
    s.allocCycle [r] = [0, 1, 2, 3, 4, 5, 6, 7, 8, 9, 10, 11].foldl (fun s q => s.poolCycle [r] q) (s.bump (bpmCtr 1) 0) := by
  simp [State.allocCycle, ha, hr]

theorem Frame.allocCycle {r : List PoolReq} (h : Frame poolZones [] s t) : Frame poolZones [] s (t.allocCycle r) :=
  (h.bump (aborted_ne_bpmCtr _)).foldl fun _ _ h => h.ite ((h.ite h.setPool).servePool)

/-- The request finds its pool as the cycle found it, takes a cell, and the pools after it leave it so. -/
theorem allocCycle_takes {r : PoolReq} (hs : s.canonical) (ha : asks r = true) (hr : wantPool r.want = some p) (hp : p ≤ 11)
    (h7 : p ≠ 7) (hserves : s.poolServes p = true) (hf : s.freeCells p ≠ 0) (hc : (s.pool p).carried = []) :
    (s.allocCycle [r]).freeCells p + 1 = s.freeCells p ∧
    (s.allocCycle [r]).ctr (poolCtr p 0) = s.ctr (poolCtr p 0) + 1 := by
  have hmem : p ∈ [0, 1, 2, 3, 4, 5, 6, 7, 8, 9, 10, 11] := List.mem_range (n := 12).2 (by omega)
  obtain ⟨before, after, hl⟩ := List.append_of_mem hmem
  have hnodup : (before ++ p :: after).Nodup := hl ▸ by decide
  obtain ⟨hbefore, hafter⟩ := not_or.1 (mt List.mem_append.2 (List.nodup_cons.1 (List.nodup_middle.1 hnodup)).1)
  rw [allocCycle_one ha hr, hl, List.foldl_append, List.foldl_cons]
  have hu := ((Spares.refl s).bump (n := 0) (poolCtr_ne_bpmCtr p)).poolCycles (r := [r]) hp hbefore
  generalize before.foldl _ _ = u at hu ⊢
  have hv := (Spares.refl (u.poolCycle [r] p)).poolCycles (r := [r]) hp hafter
  rw [freeCells_of_pool hv.pool, hv.granted, poolCycle_one (hu.pools hs.pools) h7 hr (hu.pool ▸ hc),
    ← freeCells_of_pool hu.pool, ← hu.granted]
  exact grantCell_takes (hu.pools hs.pools) (hu.counters (keys_sorted hs.counters)) (hu.pool ▸ hs.cells p) hp h7
    ((poolServes_congr hu.power hu.pool).trans hserves) (freeCells_of_pool hu.pool ▸ hf)

theorem completes_allocRequest {r : PoolReq} (hs : s.canonical) (ha : asks r = true) (hr : wantPool r.want = some p)
    (hp : p ≤ 11) (h7 : p ≠ 7) (hserves : s.poolServes p = true) (hf : s.freeCells p ≠ 0) (hc : (s.pool p).carried = []) :
    Completes (.allocRequest [r]) s fun t => SameBut [.counters, .bursts, .queues, .pools] s t ∧
    t.freeCells p + 1 = s.freeCells p ∧ t.ctr (poolCtr p 0) = s.ctr (poolCtr p 0) + 1 :=
  ⟨_, rfl, (Frame.refl s).allocCycle.zones, allocCycle_takes hs ha hr hp h7 hserves hf hc⟩

/-! ### The DRAM interfaces (R289, R290) -/

section
variable {i : BitVec 2} {temp : BitVec 16}

/-- An interface's temperature is noted, and what follows from the highest of all (R289). -/
def State.dramNoted (s : State) (i : Nat) (temp : BitVec 16) : State :=
  let top := hottest (s.bpm.temps.set i temp)
  { s with bpm := { s.bpm with temps := s.bpm.temps.set i temp, dramTemp := top, refresh2x := decide (170 < top.toInt) } }

theorem dramReading_far {i : Nat} (h : 20 ≤ (temp.toInt - (s.bpm.trainedAt.getD i 0).toInt).natAbs) :
    s.dramReading i temp = (s.dramNoted i temp).dramTrain i := if_pos h

theorem dramReading_near {i : Nat} (h : (temp.toInt - (s.bpm.trainedAt.getD i 0).toInt).natAbs < 20) :
    s.dramReading i temp = s.dramNoted i temp := if_neg (Nat.not_le.2 h)

theorem dramTrain_trained (s : State) (i : BitVec 2) : (s.dramTrain i.toNat).bpm.trained.getLsbD i.toNat = true := by
  show (s.bpm.trained ||| BitVec.ofNat 4 (2 ^ i.toNat)).getLsbD i.toNat = true
  have hi : i.toNat < 4 := i.isLt
  simp only [BitVec.getLsbD_or, BitVec.getLsbD_ofNat, hi, Nat.testBit_two_pow_self, decide_true, Bool.and_self, Bool.or_true]

/-- An interface is trained at the temperature that was noted for it. -/
theorem dramTrain_trainedAt {i : Nat} (h : i < s.bpm.temps.length) :
    ((s.dramNoted i temp).dramTrain i).bpm.trainedAt = s.bpm.trainedAt.set i temp := by
  show s.bpm.trainedAt.set i ((s.bpm.temps.set i temp).getD i 0) = _
  simp [h]

theorem completes_dramRetrain (hd : s.domOn 8 = true) (hlen : s.bpm.temps.length = 4)
    (h : 20 ≤ (temp.toInt - (s.bpm.trainedAt.getD i.toNat 0).toInt).natAbs) : Completes (.dramRetrain i temp) s fun t =>
    let top := hottest (s.bpm.temps.set i.toNat temp)
    t.bpm.trained.getLsbD i.toNat = true ∧ t.bpm.trainedAt = s.bpm.trainedAt.set i.toNat temp ∧ t.bpm.dramTemp = top ∧
    t.bpm.refresh2x = decide (170 < top.toInt) ∧ t.tick.suspect.getLsbD 6 = true ∧
    t.bpm.pools = s.bpm.pools ∧ SameBut [.pools, .tick] s t :=
  .of_eq ((if_pos hd).trans (dramReading_far h)) ⟨dramTrain_trained _ i, dramTrain_trainedAt (hlen ▸ i.isLt), rfl, rfl,
    suspect_expose (by decide), rfl, ((Frame.refl (m := []) s).pools.pools).expose.zones⟩

theorem completes_refreshRateChange (hd : s.domOn 8 = true)
    (h : (temp.toInt - (s.bpm.trainedAt.getD i.toNat 0).toInt).natAbs < 20) : Completes (.refreshRateChange i temp) s fun t =>
    let top := hottest (s.bpm.temps.set i.toNat temp)
    t.bpm.temps = s.bpm.temps.set i.toNat temp ∧ t.bpm.dramTemp = top ∧ t.bpm.refresh2x = decide (170 < top.toInt) ∧
    t.bpm.trained = s.bpm.trained ∧ t.bpm.trainedAt = s.bpm.trainedAt ∧ t.bpm.pools = s.bpm.pools ∧ SameBut [.pools] s t :=
  .of_eq ((if_pos hd).trans (dramReading_near h)) ⟨rfl, rfl, rfl, rfl, rfl, rfl, (Frame.refl (m := []) s).pools.zones⟩

end

/-! ### The statement -/

theorem completes_poolReinitComplete (hs : s.canonical) (h : (s.pool p).reinit = true) :
    Completes (.poolReinitComplete p) s fun t => t.pool p = { s.pool p with reinit := false } ∧ SameBut [.pools] s t :=
  .of_eq (if_pos h) ⟨pool_setPool_same hs.pools p _, sameBut_setPool s p _⟩

/-- Settles O28: a request takes a free cell in the cycle's turn of its pool, an operation on a cell is one update of its state
byte, a reading of a DRAM temperature trains the interface or not, and a re-initialisation ends. -/
theorem bufferPools : Obligations.BufferPools := fun _ hs =>
  ⟨fun _ _ => completes_allocRequest hs,
    fun _ _ _ _ ha =>
      ⟨fun h ho => ⟨completes_free hs ha h ho, completes_transfer hs ha h ho, fun _ => completes_share_owned hs ha h ho⟩,
        fun h => ⟨fun _ => completes_share_shared hs ha h, completes_release_many hs ha h, completes_release_last hs ha h⟩⟩,
    fun _ _ hd hlen => ⟨completes_dramRetrain hd hlen, completes_refreshRateChange hd⟩,
    fun _ => completes_poolReinitComplete hs⟩

end Sys2Proof.Machine
end

section
/-! A reply that a FIFO fault has spoilt, once more (O55). The frames of PRBS_CTL, SERVO_MODE, TIME_STEP and TIME_RATE leave the
tick out, as those of O48 do, and each of the four may come over the link. -/

namespace Sys2Proof.Machine

/-- A SERVO_MODE over the link that gives the Stylus to the host. -/
def servoReq : Req := linkReq 0 1 []

theorem servo_passes : spoiltLink.passes 0x70 servoReq :=
  of_decide_eq_true (p := opCheck (spoiltLink.accepted servoReq) (spoiltLink.accepted servoReq) true 0 ⟨0x70, servoReq⟩ = 0)
    (by decide +kernel)

theorem servo_unspoils : (spoiltLink.submit 0x70 servoReq).tick.transit = [] := by decide +kernel

/-- Refutes O55: the answer to a SERVO_MODE over the link of `spoiltLink` is the frame that is lost, and its fault is gone
(R25, log 162), which the statement's frame of a SERVO_MODE leaves out. -/
theorem not_hostLoopsAndTime : ¬ Obligations.HostLoopsAndTime := by
  intro h
  obtain ⟨-, -, hservo, -⟩ := h spoiltLink servoReq spoiltLink_canonical (spoiltLink_lone ..)
  exact false_of_unspoils (hservo servo_passes) servo_unspoils fun _ ⟨_, _, _, _, _, hframe⟩ => hframe

end Sys2Proof.Machine
end

section
/-! The states of the Alanov Link (O30). What an entry to a state makes of the link's part is said once (`AlinkSt.entered`), and
so is what it may change beside the link (`linkZones`); each row of Table ALINK-3 is such an entry, after which the device's
ALIGN blocks follow the state. -/

namespace Sys2Proof.Machine
set_option Elab.async false
variable {s t : State} {x : LinkState} {cause : Nat} {l : List Zone} {m : List Core}

/-! ### ALIGN blocks -/

theorem alignSend_alink (l : List Nat) (s : State) : ∃ b, (alignSend l s).alink = { s.alink with sentAlign := b } := by
  induction l generalizing s with
  | nil => exact ⟨_, rfl⟩
  | cons n r ih =>
    unfold alignSend
    extract_lets x u
    clear_value x
    split
    · exact ih s
    · cases x <;> exact ih _

theorem aligned_alink (s : State) : ∃ b, s.aligned.alink = { s.alink with sentAlign := b } := by
  obtain ⟨b, hb⟩ := alignSend_alink _ _
  obtain ⟨b', hb'⟩ := alignSend_alink _ _
  exact ⟨b, hb.trans (by rw [hb'])⟩

@[simp] theorem State.aligned_state (s : State) : s.aligned.alink.state = s.alink.state := by
  obtain ⟨b, hb⟩ := aligned_alink s
  rw [hb]

theorem Frame.alignSend {k : List Nat} (h : Frame [.link, .contacts] m s t) :
    Frame [.link, .contacts] m s (alignSend k t) := by
  induction k generalizing t with
  | nil => exact h
  | cons n r ih =>
    unfold Machine.alignSend
    extract_lets x u
    clear_value x
    split
    · exact ih h
    · cases x
      exacts [ih h.modLink, ih h.modLink.emit]

theorem sameBut_aligned (s : State) : SameBut [.link, .contacts] s s.aligned :=
  (Frame.refl (m := []) s).alignSend.alignSend.zones

/-! ### Entry to a state -/

/-- The link's part as entry to a state leaves it (R310, R312, Table ALINK-3). -/
def AlinkSt.entered (a : AlinkSt) (x : LinkState) : AlinkSt :=
  match x with
  | .clock | .down => homeLanes { a with state := x }
  | .lock => noRequest (clearFailed { a with state := x })
  | .failed => noRequest { a with state := x }
  | .active | .loop => freshCredit { a with state := x }
  | _ => { a with state := x }

@[simp] theorem AlinkSt.entered_state (a : AlinkSt) (x : LinkState) : (a.entered x).state = x := by cases x <;> rfl

/-- An entry to a state, before it is reported. -/
def State.entered (s : State) (x : LinkState) : State :=
  let t := (if s.alink.state = .active then s.abortFrame else s).modLink (·.entered x)
  let u := if x = .active || x = .loop then t.creditForget else t
  let v := if s.alink.state = .active && x = .lock then u.bump (linkCtr 10) 1 else u
  if x = .lock && (s.alink.state = .active || s.alink.state = .failed) then v.expose 4 else v

theorem setLink_eq (h : s.alink.state ≠ x) (cause : Nat) :
    ∃ p b q, s.setLink x cause = ((s.entered x).raise 0x0801 p).raiseIf b 0x0802 q := by
  unfold State.setLink
  dsimp only
  rw [if_neg h]
  cases x <;> exact ⟨_, _, _, by simp only [State.entered]; rfl⟩

theorem abortFrame_alink (s : State) : ∃ b, s.abortFrame.alink = { s.alink with sending := b } := by
  unfold State.abortFrame
  split
  · exact ⟨_, rfl⟩
  · dsimp only
    split <;> exact ⟨false, rfl⟩

theorem entered_alink (s : State) (x : LinkState) :
    ∃ b, (s.entered x).alink = { s.alink with sending := b }.entered x := by
  have hleft : ∃ b, (if s.alink.state = .active then s.abortFrame else s).alink = { s.alink with sending := b } := by
    split
    exacts [abortFrame_alink s, ⟨_, rfl⟩]
  obtain ⟨b, hb⟩ := hleft
  refine ⟨b, ?_⟩
  rw [← hb]
  unfold State.entered
  simp only [apply_ite State.alink, State.expose_alink, State.bump_alink, State.creditForget_alink, State.modLink_alink,
    ite_self]

theorem setLink_alink (h : s.alink.state ≠ x) (cause : Nat) :
    ∃ b, (s.setLink x cause).alink = { s.alink with sending := b }.entered x := by
  obtain ⟨p, b, q, he⟩ := setLink_eq h cause
  obtain ⟨a, ha⟩ := entered_alink s x
  exact ⟨a, by rw [he, State.raiseIf_alink, State.raise_alink, ha]⟩

@[simp] theorem State.setLink_state (s : State) (x : LinkState) (cause : Nat) : (s.setLink x cause).alink.state = x := by
  by_cases h : s.alink.state = x
  · unfold State.setLink
    rw [if_pos h, h]
  · obtain ⟨b, hb⟩ := setLink_alink h cause
    rw [hb, AlinkSt.entered_state]

theorem linkTo_alink (h : s.alink.state ≠ x) (cause : Nat) :
    ∃ b k, (s.linkTo x cause).alink = { { s.alink with sending := b }.entered x with loopKind := k } := by
  obtain ⟨b, hb⟩ := setLink_alink h cause
  unfold State.linkTo
  dsimp only
  split
  · exact ⟨b, 0, by rw [State.expose_alink, State.raise_alink, State.modLink_alink, hb]⟩
  · exact ⟨b, _, hb⟩

@[simp] theorem State.linkTo_state (s : State) (x : LinkState) (cause : Nat) : (s.linkTo x cause).alink.state = x := by
  unfold State.linkTo
  dsimp only
  split <;> simp

@[simp] theorem State.failLink_state (s : State) (cause : Nat) : (s.failLink cause).alink.state = .failed := by
  simp [State.failLink]

@[simp] theorem State.failLink_cause (s : State) (cause : Nat) :
    (s.failLink cause).alink.failCause = BitVec.ofNat 4 cause := by
  simp [State.failLink]

/-! ### What a change of state leaves alone -/

/-- The parts that a change of the link's state may change: leaving ACTIVE abandons a frame, entering ACTIVE or LOOP forgets the
credit of the frames received, and a retrain or the end of a loop exposes the crossings. -/
def linkZones (old new : LinkState) : List Zone :=
  .link :: (if old = .active then [.counters, .contacts] else []) ++
    (if new = .active ∨ new = .loop then [.classifier] else []) ++
    (if old = .loop ∨ new = .lock ∧ (old = .active ∨ old = .failed) then [.tick] else [])

theorem aborted_ne_linkCtr (j : Nat) : ∀ c, burinCtr c 17 ≠ linkCtr j :=
  aborted_ne_of_le (by simp only [linkCtr, alAddr, addrOf]; omega)

namespace Frame

theorem abortFrame (h : Frame l m s t) (hl : ∀ p ∈ [Zone.link, .counters, .contacts], p ∈ l := by decide) :
    Frame l m s t.abortFrame := by
  have h1 : Frame l m s (t.fresh.2.modLink fun a => { a with sending := false }) := h.fresh.modLink (hl _ (by decide))
  exact h.ite (h1.ite ((h1.bump (aborted_ne_linkCtr 7) (hl _ (by decide))).emit (hl _ (by decide))))

theorem creditForget (h : Frame l m s t) (hl : .classifier ∈ l := by decide) : Frame l m s t.creditForget :=
  let forget (c : ClassSt) : ClassSt := { c with ingress := c.ingress.map fun p => { p with creditCh := none } }
  h.beside ((sameBut_modCls t forget).mono (m := l) (by simpa using hl)) rfl rfl fun _ => rfl

end Frame

theorem entered_frame (s : State) (x : LinkState) : Frame (linkZones s.alink.state x) [] s (s.entered x) := by
  unfold State.entered
  generalize s.alink.state = old
  extract_lets t u v
  have hlink : .link ∈ linkZones old x := by simp [linkZones]
  have ht : Frame (linkZones old x) [] s t := by
    refine Frame.modLink ?_ hlink
    split
    next ho => exact (Frame.refl s).abortFrame (by simp [linkZones, ho])
    next => exact .refl s
  have hu : Frame (linkZones old x) [] s u := by
    unfold u
    split
    next hx => exact ht.creditForget (by simp_all [linkZones])
    next => exact ht
  have hv : Frame (linkZones old x) [] s v := by
    unfold v
    split
    next hx => exact hu.bump (aborted_ne_linkCtr 10) (by simp_all [linkZones])
    next => exact hu
  split
  next hx => exact hv.expose (by simp_all [linkZones])
  next => exact hv

theorem setLink_frame (s : State) (x : LinkState) (cause : Nat) :
    Frame (linkZones s.alink.state x) [] s (s.setLink x cause) := by
  by_cases h : s.alink.state = x
  · rw [State.setLink, if_pos h]
    exact .refl s
  · obtain ⟨p, b, q, he⟩ := setLink_eq h cause
    rw [he]
    exact (entered_frame s x).raise.raiseIf

theorem linkTo_frame (s : State) (x : LinkState) (cause : Nat) :
    Frame (linkZones s.alink.state x) [] s (s.linkTo x cause) := by
  have h := setLink_frame s x cause
  have hlink : .link ∈ linkZones s.alink.state x := by simp [linkZones]
  unfold State.linkTo
  dsimp only
  split
  next hloop => exact (h.modLink hlink).raise.expose (by simp_all [linkZones])
  next => exact h

theorem failLink_frame (s : State) (cause : Nat) : Frame (linkZones s.alink.state .failed) [] s (s.failLink cause) :=
  ((linkTo_frame s .failed 0).modLink (by simp [linkZones])).raise

/-- A change of state in which nothing but the link and the contacts may change, with the ALIGN blocks that follow. -/
theorem sameBut_moved {u : State} (h : Frame (linkZones s.alink.state x) [] s u) (hl : ∀ p ∈ linkZones s.alink.state x, p ∈ l)
    (hc : ∀ p ∈ [Zone.link, .contacts], p ∈ l := by decide) : SameBut l s u.aligned :=
  (h.zones.mono hl).trans ((sameBut_aligned u).mono hc)

/-! ### Table ALINK-3 -/

theorem completes_arxcValid (hst : s.alink.state = .clock) (hf : s.fault.clockGroups.getLsbD 5 = false) :
    Completes .arxcValid s fun t => t.alink.state = .adapt ∧ SameBut [.link, .contacts] s t :=
  have he : (if s.alink.state = .clock && !s.fault.clockGroups.getLsbD 5 then s.linkTo .adapt 0 else s) = s.linkTo .adapt 0 :=
    if_pos (by rw [hst, hf]; rfl)
  .of_eq (congrArg State.aligned he) ⟨by simp, sameBut_moved (linkTo_frame s .adapt 0) (by rw [hst]; decide)⟩

theorem clockLost_eq (hd : s.alink.state ≠ .down) (hc : s.alink.state ≠ .clock)
    (hf : s.alink.state = .failed → s.cfgF (alAddr 0) 12 12 ≠ 0) : s.clockLost = s.linkTo .clock 0 := by
  unfold State.clockLost
  split
  next h => exact absurd h hd
  next h => exact absurd h hc
  next h => exact if_neg (hf h)
  next => rfl

theorem completes_arxcLoss (hd : s.alink.state ≠ .down) (hc : s.alink.state ≠ .clock)
    (hf : s.alink.state = .failed → s.cfgF (alAddr 0) 12 12 ≠ 0) : Completes .arxcLoss s fun t =>
    t.alink.state = .clock ∧ t.alink.rxUse = none ∧ t.alink.txUse = none ∧ t.alink.request = none ∧
    SameBut [.link, .tick, .counters, .contacts] s t := by
  refine .of_eq (congrArg State.aligned (clockLost_eq hd hc hf)) ?_
  obtain ⟨a, ha⟩ := aligned_alink (s.linkTo .clock 0)
  obtain ⟨b, k, hb⟩ := linkTo_alink hc 0
  refine ⟨by simp, ?_, ?_, ?_, sameBut_moved (linkTo_frame s .clock 0) (by cases s.alink.state <;> decide)⟩
  all_goals rw [ha, hb]; rfl

/-- A timer of a state that runs out (Table ALINK-3). -/
theorem linkTimeout_eq (hst : s.alink.state = x) (cause : Nat) : s.linkTimeout x cause = s.failLink cause := if_pos hst

/-- Entry to FAILED with its cause, from a state in which no frame passes. -/
theorem failLink_aligned (cause : Nat) (hq : linkZones s.alink.state .failed = [.link]) :
    (s.failLink cause).aligned.alink.state = .failed ∧ (s.failLink cause).aligned.alink.failCause = BitVec.ofNat 4 cause ∧
    SameBut [.link, .contacts] s (s.failLink cause).aligned := by
  obtain ⟨a, ha⟩ := aligned_alink (s.failLink cause)
  refine ⟨by simp, ?_, sameBut_moved (failLink_frame s cause) (by rw [hq]; decide)⟩
  rw [ha]
  exact State.failLink_cause s cause

theorem completes_clockStateTimeout (hst : s.alink.state = .clock) : Completes .clockStateTimeout s fun t =>
    t.alink.state = .failed ∧ t.alink.failCause = 1 ∧ SameBut [.link, .contacts] s t :=
  .of_eq (congrArg State.aligned (linkTimeout_eq hst 1)) (failLink_aligned 1 (by rw [hst]; decide))

theorem completes_deskewTimeout (hst : s.alink.state = .deskew) : Completes .deskewTimeout s fun t =>
    t.alink.state = .failed ∧ t.alink.failCause = 3 ∧ SameBut [.link, .contacts] s t :=
  .of_eq (congrArg State.aligned (linkTimeout_eq hst 3)) (failLink_aligned 3 (by rw [hst]; decide))

theorem completes_waitPeerTimeout (hst : s.alink.state = .waitPeer) : Completes .waitPeerTimeout s fun t =>
    t.alink.state = .failed ∧ t.alink.failCause = 4 ∧ SameBut [.link, .contacts] s t :=
  .of_eq (congrArg State.aligned (linkTimeout_eq hst 4)) (failLink_aligned 4 (by rw [hst]; decide))

theorem completes_adaptDone (hst : s.alink.state = .adapt) :
    Completes .adaptDone s fun t => t.alink.state = .lock ∧ SameBut [.link, .contacts] s t :=
  .of_eq (congrArg State.aligned (if_pos hst)) ⟨by simp, sameBut_moved (linkTo_frame s .lock 0) (by rw [hst]; decide)⟩

theorem completes_failedRetry (hst : s.alink.state = .failed) (hr : s.cfgF (alAddr 0) 12 12 ≠ 0) :
    Completes .failedRetry s fun t => t.alink.state = .clock ∧ SameBut [.link, .contacts] s t :=
  have he : (if s.alink.state = .failed && s.cfgF (alAddr 0) 12 12 ≠ 0 then s.linkTo .clock 0 else s) = s.linkTo .clock 0 :=
    if_pos (by simp [hst, hr])
  .of_eq (congrArg State.aligned he) ⟨by simp, sameBut_moved (linkTo_frame s .clock 0) (by rw [hst]; decide)⟩

/-! ### The end of LOCK -/

@[simp] theorem State.deskewRequest_state (s : State) : s.deskewRequest.alink.state = s.alink.state := by
  unfold State.deskewRequest
  dsimp only
  split
  · rfl
  · split <;> rfl

theorem Frame.deskewRequest (h : Frame l m s t) (hl : .link ∈ l := by decide) : Frame l m s t.deskewRequest := by
  unfold State.deskewRequest
  dsimp only
  split
  · exact h
  · split
    exacts [h.modLink hl, h]

theorem completes_lockStateEnd (hst : s.alink.state = .lock) : Completes .lockStateEnd s fun t =>
    (8 ≤ ((List.range 9).filter fun n => (s.lane n).locked).length → t.alink.state = .deskew) ∧
    (((List.range 9).filter fun n => (s.lane n).locked).length < 8 → t.alink.state = .failed ∧ t.alink.failCause = 2) ∧
    SameBut [.link, .contacts] s t := by
  have hlock : ¬ s.alink.state ≠ .lock := not_not.2 hst
  by_cases h8 : 8 ≤ ((List.range 9).filter fun n => (s.lane n).locked).length
  · refine .of_eq (congrArg State.aligned ((if_neg hlock).trans (if_pos h8))) ?_
    have hframe := (linkTo_frame s .deskew 0).deskewRequest (by simp [linkZones])
    exact ⟨fun _ => by simp, fun h => absurd h8 (Nat.not_le.2 h), sameBut_moved hframe (by rw [hst]; decide)⟩
  · refine .of_eq (congrArg State.aligned ((if_neg hlock).trans (if_neg h8))) ?_
    obtain ⟨hfailed, hcause, hframe⟩ := failLink_aligned (s := s) 2 (by rw [hst]; decide)
    exact ⟨fun h => absurd h h8, fun _ => ⟨hfailed, hcause⟩, hframe⟩

/-! ### The end of DESKEW -/

theorem lane_of_lanes (h : t.alink.lanes = s.alink.lanes) (n : Nat) : t.lane n = s.lane n := by rw [State.lane, h, State.lane]

/-- The link in WAIT_PEER goes to ACTIVE, or stays there where no lane has RX_READY. -/
theorem readyCheck_waitPeer (hst : s.alink.state = .waitPeer) :
    (s.readyCheck = s.linkTo .active 0 ∧ ∃ n, (s.lane n).ready = true) ∨ s.readyCheck = s := by
  unfold State.readyCheck
  dsimp only
  split
  next h =>
    refine .inl ⟨rfl, ?_⟩
    simp only [Bool.and_eq_true, List.all_eq_true, List.any_eq_true, decide_eq_true_eq] at h
    obtain ⟨-, hall⟩ := h
    obtain ⟨n, -, ⟨-, hready⟩, -⟩ := hall 0 (by decide)
    exact ⟨n, hready⟩
  next => exact .inr (if_neg (by simp [hst]))

theorem completes_deskewDone (hst : s.alink.state = .deskew) (hup : s.lanesUp = 8) : Completes .deskewDone s fun t =>
    (t.alink.state = .waitPeer ∨ t.alink.state = .active) ∧
    ((∀ n, (s.lane n).ready = false) → t.alink.state = .waitPeer) ∧ SameBut [.link, .classifier, .contacts] s t := by
  have he : s.deskewEnds = (s.linkTo .waitPeer 0).readyCheck := if_pos (by simp [hst, hup])
  refine .of_eq (congrArg State.aligned he) ?_
  have hwait : (s.linkTo .waitPeer 0).alink.state = .waitPeer := State.linkTo_state ..
  have hlane : ∀ n, (s.linkTo .waitPeer 0).lane n = s.lane n := by
    obtain ⟨b, k, hb⟩ := linkTo_alink (s := s) (x := .waitPeer) (by rw [hst]; decide) 0
    exact lane_of_lanes (by rw [hb]; rfl)
  have h1 := (linkTo_frame s .waitPeer 0).mono (l := [.link, .classifier]) (m := []) (by rw [hst]; decide) (by simp)
  generalize s.linkTo .waitPeer 0 = u at hwait hlane h1 ⊢
  obtain ⟨hactive, n, hready⟩ | hstay := readyCheck_waitPeer hwait
  · rw [hactive]
    have h2 := h1.trans ((linkTo_frame u .active 0).mono (by rw [hwait]; decide) (by simp))
    refine ⟨.inr (by simp), fun hnone => ?_, (h2.zones.mono (by decide)).trans ((sameBut_aligned _).mono (by decide))⟩
    rw [hlane, hnone] at hready
    cases hready
  · rw [hstay]
    exact ⟨.inl (by simp [hwait]), fun _ => by simp [hwait],
      (h1.zones.mono (by decide)).trans ((sameBut_aligned _).mono (by decide))⟩

/-! ### AL_CFG and AL_CTL -/

/-- What the addresses of AL_CFG and AL_CTL name. -/
def alCfgFound : Found := ⟨.alCfg, 0, [], 1, 0xFFFFFF, 0x064183⟩
def alCtlFound : Found := ⟨.alCtl, 0, [], 1, 0x77, 0⟩

theorem nameOf_alCfg : nameOf (alAddr 0) = some (.word alCfgFound) := by decide +kernel
theorem nameOf_alCtl : nameOf (alAddr 1) = some (.word alCtlFound) := by decide +kernel

theorem computed_alCfg (s : State) : computed s (alAddr 0) alCfgFound = none := rfl
theorem computed_alCtl (s : State) : computed s (alAddr 1) alCtlFound = some 0 := rfl

/-- AL_CFG as a write of some of its bits leaves it. -/
def State.alWritten (s : State) (val mask : Word) : Word := s.newWord ⟨alAddr 0, val, mask⟩ alCfgFound

/-- The answer to a write, and the ALIGN blocks that follow it. -/
def State.alAnswered (s : State) : State := ((s.emit (.writeStatus 0)).finish).aligned

theorem alAnswered_alink (s : State) : ∃ a, s.alAnswered.alink = { s.alink with sentAlign := a } := by
  obtain ⟨a, ha⟩ := aligned_alink (s.emit (.writeStatus 0)).finish
  exact ⟨a, by rw [State.alAnswered, ha, State.finish_alink]; rfl⟩

@[simp] theorem State.alAnswered_state (s : State) : s.alAnswered.alink.state = s.alink.state := by
  obtain ⟨a, ha⟩ := alAnswered_alink s
  rw [ha]

theorem sameBut_alAnswered (s : State) : SameBut [.link, .contacts] s s.alAnswered :=
  ((Frame.refl (m := []) s).emit (l := [.link, .contacts])).finish.zones.trans (sameBut_aligned _)

/-- An accepted write of AL_CTL has the effect of the bits written. -/
theorem hostWords_alCtl {val : Word} (hm : s.hostMay) (hc : s.writeCheck .twi [⟨alAddr 1, val, all32⟩] = 0) :
    (s.hostWords (alAddr 1) [val]).aligned = (applyAl s alCtlFound (s.cfg (alAddr 1)) (val &&& 0x77)).alAnswered := by
  have hnew : s.newWord ⟨alAddr 1, val, all32⟩ alCtlFound = val &&& 0x77 := by
    have hmask : alCtlFound.mask &&& all32 = 0x77 := by decide
    rw [State.newWord, computed_alCtl, hmask]
    rfl
  refine (congrArg State.aligned (hostBits_eq hm hc (by decide))).trans ?_
  rw [writeApply_one nameOf_alCtl (by decide) rfl rfl, State.wordStored, computed_alCtl, hnew]
  rfl

/-- An accepted write of AL_CFG stores the word and has its effect. -/
theorem hostBits_alCfg {val mask : Word} (hm : s.hostMay) (hc : s.writeCheck .twi [⟨alAddr 0, val, mask⟩] = 0) :
    (s.hostBits (alAddr 0) val mask).aligned = (applyAl (s.putCfg (alAddr 0) (s.alWritten val mask)) alCfgFound
      (s.cfg (alAddr 0)) (s.alWritten val mask)).alAnswered := by
  refine (congrArg State.aligned (hostBits_eq hm hc (by decide))).trans ?_
  rw [writeApply_one nameOf_alCfg (by decide) rfl rfl, State.wordStored, computed_alCfg]
  rfl

/-! ### RETRAIN, REPAIR and RESTORE (R309, R310) -/

theorem abortFrame_counters (s : State) :
    s.abortFrame.counters = s.counters ∨ s.abortFrame.counters = (s.bump (linkCtr 7) 1).counters := by
  unfold State.abortFrame
  split
  · exact .inl rfl
  · dsimp only
    split
    exacts [.inl rfl, .inr rfl]

/-- An abandoned frame leaves the count of retrains as it is, and the counters in order. -/
theorem abortFrame_ctr (hs : SMap.wf (0 : BitVec 64) s.counters.now = true) :
    s.abortFrame.ctr (linkCtr 10) = s.ctr (linkCtr 10) ∧ SMap.wf (0 : BitVec 64) s.abortFrame.counters.now = true := by
  obtain h | h := abortFrame_counters s
  · exact ⟨ctr_of_counters h _, h ▸ hs⟩
  · exact ⟨(ctr_of_counters h _).trans (State.ctr_bump_other s _ _ _ (by decide)), h ▸ mput_wf _ _ hs⟩

/-- What an entry to LOCK has of the tick and of the counts, past its reports. -/
theorem setLink_beside (h : s.alink.state ≠ x) (cause : Nat) {a : Nat} (ha : sideCount a = false) :
    (s.setLink x cause).tick = (s.entered x).tick ∧ (s.setLink x cause).ctr a = (s.entered x).ctr a := by
  obtain ⟨p, b, q, he⟩ := setLink_eq h cause
  rw [he]
  exact ⟨by rw [State.raiseIf_tick, State.raise_tick], by rw [State.raiseIf_ctr _ ha, State.raise_ctr _ ha]⟩

theorem entered_lock_active (h : s.alink.state = .active) :
    s.entered .lock = ((s.abortFrame.modLink (·.entered .lock)).bump (linkCtr 10) 1).expose 4 := by
  unfold State.entered
  rw [h]
  rfl

theorem entered_lock_failed (h : s.alink.state = .failed) : s.entered .lock = (s.modLink (·.entered .lock)).expose 4 := by
  unfold State.entered
  rw [h]
  rfl

/-- A retrain by the host, and the frame of one. -/
structure Retrained (s t : State) : Prop where
  state : t.alink.state = .lock
  count : t.ctr (linkCtr 10) = s.ctr (linkCtr 10) + 1
  suspect : t.tick.suspect.getLsbD 4 = true
  zones : SameBut [.link, .counters, .tick, .contacts] s t

theorem retrained_active (hs : SMap.wf (0 : BitVec 64) s.counters.now = true) (h : s.alink.state = .active) (cause : Nat) :
    Retrained s (s.setLink .lock cause) := by
  obtain ⟨htick, hctr⟩ := setLink_beside (s := s) (x := .lock) (by rw [h]; decide) cause (a := linkCtr 10) (by decide)
  obtain ⟨habort, hwf⟩ := abortFrame_ctr hs
  rw [entered_lock_active h] at htick hctr
  refine ⟨by simp, ?_, ?_, (setLink_frame s .lock cause).zones.mono (by rw [h]; decide)⟩
  · rw [hctr, State.expose_ctr, State.ctr_bump (s := s.abortFrame.modLink _) hwf, State.modLink_ctr, habort]
    rfl
  · rw [htick]
    exact suspect_expose (by decide)

theorem retrained_failed (hs : SMap.wf (0 : BitVec 64) s.counters.now = true) (h : s.alink.state = .failed) (cause : Nat) :
    Retrained s ((s.bump (linkCtr 10) 1).setLink .lock cause) := by
  have hbump : (s.bump (linkCtr 10) 1).alink.state = .failed := h
  obtain ⟨htick, hctr⟩ := setLink_beside (x := .lock) (by rw [hbump]; decide) cause (a := linkCtr 10) (by decide)
  rw [entered_lock_failed hbump] at htick hctr
  have hframe := ((Frame.refl (m := []) s).bump (n := 1) (aborted_ne_linkCtr 10)).zones.trans
    ((setLink_frame (s.bump (linkCtr 10) 1) .lock cause).zones.mono (m := [.link, .counters, .tick, .contacts])
      (by rw [hbump]; decide))
  refine ⟨by simp, ?_, ?_, hframe⟩
  · rw [hctr, State.expose_ctr, State.modLink_ctr, State.ctr_bump hs]
    rfl
  · rw [htick]
    exact suspect_expose (by decide)

theorem applyAl_retrain (hs : SMap.wf (0 : BitVec 64) s.counters.now = true)
    (hst : s.alink.state = .active ∨ s.alink.state = .failed) (old : Word) :
    Retrained s (applyAl s alCtlFound old (1 &&& 0x77)) := by
  have h0 : bit (1 &&& 0x77) 0 = true := by decide
  have h1 : bit (1 &&& 0x77) 1 = false := by decide
  have h2 : bit (1 &&& 0x77) 2 = false := by decide
  obtain h | h := hst
  all_goals simp only [applyAl, alCtlFound, h0, h1, h2, if_true, Bool.false_eq_true, if_false, h]
  exacts [retrained_active hs h 3, retrained_failed hs h 3]

theorem completes_alinkRetrain (hs : s.canonical) (hm : s.hostMay) (hc : s.writeCheck .twi [⟨alAddr 1, 1, all32⟩] = 0)
    (hst : s.alink.state = .active ∨ s.alink.state = .failed) : Completes .alinkRetrain s fun t =>
    t.alink.state = .lock ∧ t.ctr (linkCtr 10) = s.ctr (linkCtr 10) + 1 ∧
    t.tick.suspect.getLsbD 4 = true ∧ SameBut [.link, .counters, .tick, .contacts] s t := by
  obtain ⟨hlock, hcount, hsuspect, hzones⟩ := applyAl_retrain hs.counters hst (s.cfg (alAddr 1))
  have hanswer := sameBut_alAnswered (applyAl s alCtlFound (s.cfg (alAddr 1)) (1 &&& 0x77))
  refine .of_eq (hostWords_alCtl hm hc) ⟨(State.alAnswered_state _).trans hlock, ?_, ?_,
    hzones.trans (hanswer.mono (by decide))⟩
  · exact (hanswer .counters (by decide) _ (by decide)).trans hcount
  · rw [show _ = _ from hanswer .tick (by decide)]
    exact hsuspect

/-- The bits of a REPAIR write (Table ALINK-8). -/
theorem repair_bits (k : BitVec 3) : let v : Word := BitVec.ofNat 32 (2 + 16 * k.toNat) &&& 0x77
    bit v 0 = false ∧ bit v 1 = true ∧ bit v 2 = false ∧ BitVec.ofNat 3 (fld v 4 3) = k := by
  revert k
  decide

theorem completes_alinkRepair {k : BitVec 3} (hm : s.hostMay)
    (hc : s.writeCheck .twi [⟨alAddr 1, BitVec.ofNat 32 (2 + 16 * k.toNat), all32⟩] = 0) :
    Completes (.alinkRepair k) s fun t =>
    t.alink.request = some k ∧ t.alink.commanded = true ∧ t.alink.state = s.alink.state ∧ SameBut [.link, .contacts] s t := by
  obtain ⟨h0, h1, h2, hk⟩ := repair_bits k
  refine .of_eq (hostWords_alCtl hm hc) ?_
  simp only [applyAl, alCtlFound, h0, h1, h2, if_true, Bool.false_eq_true, if_false, hk]
  obtain ⟨a, ha⟩ := alAnswered_alink (s.modLink fun a => { a with request := some k, commanded := true })
  refine ⟨congrArg AlinkSt.request ha, congrArg AlinkSt.commanded ha, (congrArg AlinkSt.state ha).trans rfl, ?_⟩
  exact ((Frame.refl (m := []) s).modLink (l := [.link, .contacts])).zones.trans (sameBut_alAnswered _)

theorem completes_alinkRestore (hm : s.hostMay) (hc : s.writeCheck .twi [⟨alAddr 1, 4, all32⟩] = 0) :
    Completes .alinkRestore s fun t =>
    t.alink.request = s.alink.rxUse ∧ t.alink.commanded = true ∧ SameBut [.link, .contacts] s t := by
  have h0 : bit (4 &&& 0x77) 0 = false := by decide
  have h1 : bit (4 &&& 0x77) 1 = false := by decide
  have h2 : bit (4 &&& 0x77) 2 = true := by decide
  refine .of_eq (hostWords_alCtl hm hc) ?_
  simp only [applyAl, alCtlFound, h0, h1, h2, if_true, Bool.false_eq_true, if_false]
  obtain ⟨a, ha⟩ := alAnswered_alink (s.modLink fun a => { a with request := a.rxUse, commanded := true })
  refine ⟨congrArg AlinkSt.request ha, congrArg AlinkSt.commanded ha, ?_⟩
  exact ((Frame.refl (m := []) s).modLink (l := [.link, .contacts])).zones.trans (sameBut_alAnswered _)

/-! ### ENABLE and HOLD (R310) -/

theorem bit_alWritten (s : State) (val mask : Word) (i : Nat) :
    bit (s.alWritten val mask) i = if (alCfgFound.mask &&& mask).getLsbD i then bit val i else bit (s.cfg (alAddr 0)) i :=
  bit_newWord (computed_alCfg s) i

/-- A link whose ENABLE and HOLD let it run leaves DOWN, and else stays where it is. -/
theorem linkSettle_up (h0 : s.cfgB (alAddr 0) 0 = true) (h2 : s.cfgB (alAddr 0) 2 = false) (hd : s.domOn 9 = true) :
    s.linkSettle = if s.alink.state = .down then s.setLink .clock 0 else s := by
  simp [State.linkSettle, h0, h2, hd]

theorem linkSettle_held (h : s.cfgB (alAddr 0) 0 = false ∨ s.cfgB (alAddr 0) 2 = true) :
    s.linkSettle = if s.alink.state = .down then s else s.fresh.2.linkTo .down s.fresh.1 := by
  obtain h | h := h <;> simp [State.linkSettle, h]

theorem adaptLanes_state (k : List Nat) (s : State) : (adaptLanes k s).alink.state = s.alink.state := by
  induction k generalizing s with
  | nil => rfl
  | cons n r ih =>
    rw [adaptLanes, ih]
    unfold State.laneAdapt
    split
    iterate 3 rfl
    split <;> rfl

theorem Frame.adaptLanes {k : List Nat} (h : Frame l m s t) (hl : .link ∈ l := by decide) :
    Frame l m s (adaptLanes k t) := by
  induction k generalizing t with
  | nil => exact h
  | cons n r ih =>
    refine ih ?_
    unfold State.laneAdapt
    split
    iterate 3 exact h
    exact h.ite (h.fresh.fresh.modLink hl)

/-- The state in which a word of AL_CFG takes effect: the coefficients that DFE_FREEZE holds are those of the moment. -/
def State.alStored (s : State) (v : Word) : State :=
  if bit (s.cfg (alAddr 0)) 3 then s.putCfg (alAddr 0) v
  else (adaptLanes (List.range 9) ((s.putCfg (alAddr 0) v).putCfg (alAddr 0) (s.cfg (alAddr 0)))).putCfg (alAddr 0) v

theorem applyAl_alCfg (s : State) (v : Word) :
    applyAl (s.putCfg (alAddr 0) v) alCfgFound (s.cfg (alAddr 0)) v = (s.alStored v).linkSettle := rfl

theorem alStored_spec (hs : SMap.wfBy resetWord s.words = true) (v : Word) :
    (s.alStored v).cfg (alAddr 0) = v ∧ (s.alStored v).power = s.power ∧ (s.alStored v).alink.state = s.alink.state ∧
    SameBut [.link, .words] s (s.alStored v) := by
  have hput := (Frame.refl (m := []) s).putCfg (a := alAddr 0) (v := v) (l := [.link, .words])
  unfold State.alStored
  split
  · exact ⟨cfg_putCfg_same _ _ hs, rfl, rfl, hput.zones⟩
  · refine ⟨cfg_putCfg_same _ _ ?_, by simp, adaptLanes_state _ _, hput.putCfg.adaptLanes.putCfg.zones⟩
    rw [adaptLanes_words]
    exact mput_wfBy _ _ (mput_wfBy _ _ hs)

/-- The parts that ENABLE and HOLD may change. -/
def settleZones : List Zone := [.link, .tick, .counters, .contacts]

theorem linkSettle_state_up (h0 : s.cfgB (alAddr 0) 0 = true) (h2 : s.cfgB (alAddr 0) 2 = false) (hd : s.domOn 9 = true) :
    s.linkSettle.alink.state = (if s.alink.state = .down then .clock else s.alink.state) ∧
    SameBut settleZones s s.linkSettle := by
  rw [linkSettle_up h0 h2 hd]
  split
  next h => exact ⟨by simp, (setLink_frame s .clock 0).zones.mono (by rw [h]; decide)⟩
  next => exact ⟨rfl, .refl _ s⟩

theorem linkSettle_state_held (h : s.cfgB (alAddr 0) 0 = false ∨ s.cfgB (alAddr 0) 2 = true) :
    s.linkSettle.alink.state = .down ∧ SameBut settleZones s s.linkSettle := by
  rw [linkSettle_held h]
  split
  next hdown => exact ⟨hdown, .refl _ s⟩
  next =>
    have hzones := (linkTo_frame s.fresh.2 .down s.fresh.1).zones.mono (m := settleZones)
      (by cases s.fresh.2.alink.state <;> decide)
    exact ⟨by simp, (Frame.refl (m := []) s).fresh.zones.trans hzones⟩

theorem completes_alinkEnableWrite {enable hold : Bool} (hs : s.canonical) (hm : s.hostMay) (hd : s.domOn 9 = true)
    (hc : s.writeCheck .twi [⟨alAddr 0, BitVec.ofNat 32 (b2n enable + 4 * b2n hold), 5⟩] = 0) :
    Completes (.alinkEnableWrite enable hold) s fun t =>
    (enable = true → hold = false → t.alink.state = (if s.alink.state = .down then .clock else s.alink.state)) ∧
    (enable = false ∨ hold = true → t.alink.state = .down) ∧ SameBut [.link, .words, .tick, .counters, .contacts] s t := by
  refine .of_eq ((hostBits_alCfg hm hc).trans (congrArg State.alAnswered (applyAl_alCfg s _))) ?_
  have h0 : bit (s.alWritten (BitVec.ofNat 32 (b2n enable + 4 * b2n hold)) 5) 0 = enable := by
    rw [bit_alWritten, if_pos (by decide)]
    cases enable <;> cases hold <;> decide
  have h2 : bit (s.alWritten (BitVec.ofNat 32 (b2n enable + 4 * b2n hold)) 5) 2 = hold := by
    rw [bit_alWritten, if_pos (by decide)]
    cases enable <;> cases hold <;> decide
  generalize s.alWritten _ 5 = v at h0 h2 ⊢
  obtain ⟨hcfg, hpower, hstate, hstored⟩ := alStored_spec hs.words v
  generalize s.alStored v = u at hcfg hpower hstate hstored ⊢
  have hu0 : u.cfgB (alAddr 0) 0 = enable := by rw [State.cfgB, hcfg, h0]
  have hu2 : u.cfgB (alAddr 0) 2 = hold := by rw [State.cfgB, hcfg, h2]
  have hframe (hz : SameBut settleZones u u.linkSettle) :
      SameBut [.link, .words, .tick, .counters, .contacts] s u.linkSettle.alAnswered :=
    ((hstored.mono (by decide)).trans (hz.mono (by decide))).trans ((sameBut_alAnswered _).mono (by decide))
  rw [State.alAnswered_state]
  by_cases hup : enable = true ∧ hold = false
  · obtain ⟨rfl, rfl⟩ := hup
    obtain ⟨hto, hz⟩ := linkSettle_state_up hu0 hu2 ((domOn_of_power hpower 9).trans hd)
    exact ⟨fun _ _ => by rw [hto, hstate], fun h => by simp at h, hframe hz⟩
  · have hheld : enable = false ∨ hold = true := by cases enable <;> cases hold <;> simp_all
    obtain ⟨hto, hz⟩ := linkSettle_state_held (s := u) (by rwa [hu0, hu2])
    exact ⟨fun he hh => absurd ⟨he, hh⟩ hup, fun _ => hto, hframe hz⟩

/-! ### The statement -/

/-- Settles O30, a row of Table ALINK-3 and an order of the host at a time. -/
theorem linkStates : Obligations.LinkStates := fun _ hs =>
  ⟨completes_arxcValid, completes_arxcLoss, completes_clockStateTimeout, completes_adaptDone, completes_lockStateEnd,
    completes_deskewDone, completes_deskewTimeout, completes_waitPeerTimeout, completes_failedRetry, fun hm =>
      ⟨completes_alinkRetrain hs hm, fun _ => completes_alinkRepair hm, completes_alinkRestore hm,
        fun _ _ => completes_alinkEnableWrite hs hm⟩⟩

end Sys2Proof.Machine
end

section
/-! What the Alanov Link sends as credit allows (O31). A CREDIT block and a calendar round let replies and CES frames go that have
waited. `Sends` says what such sending leaves: of a channel's credit only CONSUMED moves, and what has left the device before
stays ahead of what leaves now. -/

namespace Sys2Proof.Machine
set_option Elab.async false
variable {s t u : State} {ch : Nat}

/-! ### A channel's credit -/

theorem credit_setCredit_same (hs : SMap.wf (none : Option Credit) s.alink.credits = true) (ch : Nat) (x : Credit) :
    (s.setCredit ch x).credit ch = x := by
  have h : mget none (s.setCredit ch x).alink.credits ch = some x := mget_mput_same _ _ _ _ (keys_sorted hs)
  rw [State.credit, h]
  rfl

theorem credit_setCredit_other {c : Nat} (h : ch ≠ c) (x : Credit) : (s.setCredit c x).credit ch = s.credit ch := by
  have hget : mget none (s.setCredit c x).alink.credits ch = mget none s.alink.credits ch := mget_mput_other _ _ _ _ _ h
  rw [State.credit, hget]
  rfl

theorem setCredit_wf (hs : SMap.wf (none : Option Credit) s.alink.credits = true) (ch : Nat) (x : Credit) :
    SMap.wf (none : Option Credit) (s.setCredit ch x).alink.credits = true := mput_wf _ _ hs

/-- Credit reads the same where its map and the configuration are the same. -/
theorem credit_congr (hw : t.words = s.words) (hc : t.alink.credits = s.alink.credits) (ch : Nat) :
    t.credit ch = s.credit ch := by
  have hadv : advertise t ch = advertise s ch := by rw [advertise, State.cfgF, cfg_of_words hw, advertise, State.cfgF]
  rw [State.credit, hc, hadv, State.credit]

theorem sameBut_setCredit (s : State) (ch : Nat) (x : Credit) : SameBut [.link] s (s.setCredit ch x) :=
  (Frame.refl (m := []) s).modLink.zones

/-! ### Sending -/

/-- The parts that sending may change. -/
def sendZones : List Zone := [.link, .counters, .commands, .contacts]

/-- `t` comes of `s` by sending frames that have waited for credit. -/
structure Sends (s t : State) : Prop where
  zones : SameBut sendZones s t
  wf : SMap.wf (none : Option Credit) t.alink.credits = true
  credit : ∀ ch, ∃ c, t.credit ch = { s.credit ch with consumed := c }
  lossRun : t.alink.lossRun = s.alink.lossRun
  wait : t.cmd.wait = s.cmd.wait
  out : ∃ more, t.out = s.out ++ more

namespace Sends

theorem refl (hs : SMap.wf (none : Option Credit) s.alink.credits = true) : Sends s s :=
  ⟨.refl _ s, hs, fun ch => ⟨(s.credit ch).consumed, rfl⟩, rfl, rfl, [], (List.append_nil _).symm⟩

theorem limit (h : Sends s t) (ch : Nat) : (t.credit ch).limit = (s.credit ch).limit := by
  obtain ⟨c, hc⟩ := h.credit ch
  rw [hc]

theorem peerLimit (h : Sends s t) (ch : Nat) : (t.credit ch).peerLimit = (s.credit ch).peerLimit := by
  obtain ⟨c, hc⟩ := h.credit ch
  rw [hc]

/-- What changes neither credit nor the order of what has left. -/
theorem beside (h : Sends s t) (hz : SameBut sendZones t u) (hc : u.alink.credits = t.alink.credits)
    (hl : u.alink.lossRun = t.alink.lossRun) (hw : u.cmd.wait = t.cmd.wait) (ho : ∃ more, u.out = t.out ++ more) : Sends s u := by
  obtain ⟨more, hmore⟩ := h.out
  obtain ⟨more', hmore'⟩ := ho
  refine ⟨h.zones.trans hz, hc ▸ h.wf, fun ch => ?_, hl.trans h.lossRun, hw.trans h.wait, more ++ more', ?_⟩
  · rw [credit_congr (hz .words (by decide)) hc]
    exact h.credit ch
  · rw [hmore', hmore, List.append_assoc]

theorem bump {a n : Nat} (h : Sends s t) : Sends s (t.bump a n) :=
  h.beside ((Frame.refl (m := [.aborted]) t).bumpAny.zones) rfl rfl rfl ⟨[], (List.append_nil _).symm⟩

theorem bumpIf {b : Bool} {a n : Nat} (h : Sends s t) : Sends s (t.bumpIf b a n) := by
  unfold State.bumpIf
  split
  exacts [h.bump, h]

theorem fresh (h : Sends s t) : Sends s t.fresh.2 :=
  h.beside ((Frame.refl (m := []) t).fresh.zones) rfl rfl rfl ⟨[], (List.append_nil _).symm⟩

theorem emit {o : Output} (h : Sends s t) : Sends s (t.emit o) :=
  h.beside ((Frame.refl (m := []) t).emit.zones) rfl rfl rfl ⟨[o], rfl⟩

theorem modLink {f : AlinkSt → AlinkSt} (h : Sends s t) (hc : (f t.alink).credits = t.alink.credits := by rfl)
    (hl : (f t.alink).lossRun = t.alink.lossRun := by rfl) : Sends s (t.modLink f) :=
  h.beside ((Frame.refl (m := []) t).modLink.zones) hc hl rfl ⟨[], (List.append_nil _).symm⟩

theorem commands {x : CmdSt} (h : Sends s t) (hw : x.wait = t.cmd.wait := by rfl) : Sends s { t with cmd := x } :=
  h.beside ((Frame.refl (m := []) t).commands.zones) rfl rfl hw ⟨[], (List.append_nil _).symm⟩

theorem consume {c : BitVec 12} (h : Sends s t) : Sends s (t.setCredit ch { t.credit ch with consumed := c }) := by
  refine ⟨h.zones.trans ((sameBut_setCredit t ch _).mono (by decide)), setCredit_wf h.wf .., fun k => ?_, h.lossRun, h.wait,
    h.out⟩
  by_cases hk : k = ch
  · obtain ⟨c', hc'⟩ := h.credit k
    rw [hk] at hc' ⊢
    rw [credit_setCredit_same h.wf, hc']
    exact ⟨c, rfl⟩
  · rw [credit_setCredit_other hk]
    exact h.credit k

theorem spoilt (h : Sends s t) (hs : s.spoilt 4 1 = false) : t.spoilt 4 1 = false := by
  rw [State.spoilt, h.zones .tick (by decide)]
  exact hs

/-- One frame that no FIFO fault has spoilt. -/
theorem sendFrame {colour : Nat} {d : List Byte} (h : Sends s t) (hs : s.spoilt 4 1 = false)
    (he : t.sendFrame ch colour d = some u) : Sends s u := by
  unfold State.sendFrame at he
  split at he
  · cases he
  · extract_lets x c v w at he
    have hv : Sends s v := h.consume
    rw [if_neg (by rw [hv.spoilt hs]; decide)] at he
    obtain rfl := Option.some.inj he
    exact hv.bump.bump.modLink.emit

theorem sendReplies {l : List Reply} (h : Sends s t) (hs : s.spoilt 4 1 = false) : Sends s (sendReplies l t) := by
  induction l generalizing t with
  | nil => exact h
  | cons r l ih =>
    unfold Machine.sendReplies
    split
    · exact h
    next he => exact ih (h.sendFrame hs he).commands

theorem sendWaiting {l kept : List (BitVec 7 × List Byte)} (h : Sends s t) (hs : s.spoilt 4 1 = false) :
    Sends s (sendWaiting l kept t) := by
  induction l generalizing t kept with
  | nil => exact h.modLink
  | cons x l ih =>
    unfold Machine.sendWaiting
    split
    next he => exact ih (h.sendFrame hs he)
    · exact ih h

theorem creditBlocks {n g : Nat} (h : Sends s t) : Sends s (creditBlocks n g t) := by
  induction n generalizing t g with
  | zero => exact h
  | succ n ih => exact ih h.emit

/-- The replies and the CES frames that wait, where no reply that leaves ends a wait (R459). -/
theorem pumped (h : Sends s t) (hs : s.spoilt 4 1 = false) (hw : s.cmd.wait = none) : Sends s t.pump.pumpCes := by
  have hreplies : Sends s t.pumpReplies := h.sendReplies hs
  rw [State.pump, State.waitCheck_of_none (hreplies.wait.trans hw)]
  exact hreplies.sendWaiting hs

theorem finish (h : Sends s t) : Sends s t.finish :=
  h.beside (sameBut_finish _ t) (by rw [State.finish_alink]) (by rw [State.finish_alink]) (by rw [State.finish_cmd])
    ⟨[], by rw [State.finish_out, List.append_nil]⟩

end Sends

/-! ### A CREDIT block (R317) -/

/-- One LIMIT of a CREDIT block is noted. -/
def State.limitNoted (s : State) (ch : Nat) (v : BitVec 12) : State :=
  s.setCredit ch { s.credit ch with peerLimit := v }

/-- The LIMITs of a CREDIT block are noted. -/
def State.limitsNoted (s : State) (g : Nat) (l0 l1 l2 l3 : BitVec 12) : State :=
  (((s.limitNoted (4 * g) l0).limitNoted (4 * g + 1) l1).limitNoted (4 * g + 2) l2).limitNoted (4 * g + 3) l3

theorem limitNoted_other {c : Nat} (h : ch ≠ c) (v : BitVec 12) : (s.limitNoted c v).credit ch = s.credit ch :=
  credit_setCredit_other h _

theorem limitNoted_spec (hs : SMap.wf (none : Option Credit) s.alink.credits = true) (ch : Nat) (v : BitVec 12) :
    ((s.limitNoted ch v).credit ch).peerLimit = v ∧ SMap.wf (none : Option Credit) (s.limitNoted ch v).alink.credits = true ∧
    SameBut [.link] s (s.limitNoted ch v) :=
  ⟨congrArg Credit.peerLimit (credit_setCredit_same hs ch _), setCredit_wf hs .., sameBut_setCredit s ch _⟩

/-- What a CREDIT block's LIMITs make of the four channels of its group. -/
structure Limits (g : Nat) (l0 l1 l2 l3 : BitVec 12) (t : State) : Prop where
  first : (t.credit (4 * g)).peerLimit = l0
  second : (t.credit (4 * g + 1)).peerLimit = l1
  third : (t.credit (4 * g + 2)).peerLimit = l2
  fourth : (t.credit (4 * g + 3)).peerLimit = l3

variable {g : Nat} {l0 l1 l2 l3 : BitVec 12}

theorem Limits.congr (h : Limits g l0 l1 l2 l3 t) (hc : ∀ ch, (u.credit ch).peerLimit = (t.credit ch).peerLimit) :
    Limits g l0 l1 l2 l3 u := ⟨(hc _).trans h.first, (hc _).trans h.second, (hc _).trans h.third, (hc _).trans h.fourth⟩

theorem limitsNoted_spec (hs : SMap.wf (none : Option Credit) s.alink.credits = true) (g : Nat) (l0 l1 l2 l3 : BitVec 12) :
    Limits g l0 l1 l2 l3 (s.limitsNoted g l0 l1 l2 l3) ∧
    SMap.wf (none : Option Credit) (s.limitsNoted g l0 l1 l2 l3).alink.credits = true ∧
    SameBut [.link] s (s.limitsNoted g l0 l1 l2 l3) := by
  obtain ⟨h0, w0, z0⟩ := limitNoted_spec hs (4 * g) l0
  obtain ⟨h1, w1, z1⟩ := limitNoted_spec w0 (4 * g + 1) l1
  obtain ⟨h2, w2, z2⟩ := limitNoted_spec w1 (4 * g + 2) l2
  obtain ⟨h3, w3, z3⟩ := limitNoted_spec w2 (4 * g + 3) l3
  refine ⟨⟨?_, ?_, ?_, h3⟩, w3, ((z0.trans z1).trans z2).trans z3⟩
  · rw [State.limitsNoted, limitNoted_other (by omega), limitNoted_other (by omega), limitNoted_other (by omega), h0]
  · rw [State.limitsNoted, limitNoted_other (by omega), limitNoted_other (by omega), h1]
  · rw [State.limitsNoted, limitNoted_other (by omega), h2]

/-- A CREDIT block noted: its group's run of losses is at an end, and the rounds missed since the last four are counted (R318). -/
def State.creditNoted (s : State) (g : Nat) (l0 l1 l2 l3 : BitVec 12) : State :=
  let u := s.limitsNoted g l0 l1 l2 l3
  (u.fresh.2.bumpIf (u.alink.lossRun = [g]) (linkCtr 9) (u.fresh.1 % 4)).modLink fun a =>
    { a with lossRun := without a.lossRun g }

theorem creditIn_eq (hg : g ≤ 161) (hst : s.alink.state = .active) :
    s.creditIn g l0 l1 l2 l3 = (s.creditNoted g l0 l1 l2 l3).pump.pumpCes :=
  if_neg (by simp [hst, hg])

theorem creditNoted_spec (hs : SMap.wf (none : Option Credit) s.alink.credits = true) (g : Nat) (l0 l1 l2 l3 : BitVec 12) :
    Limits g l0 l1 l2 l3 (s.creditNoted g l0 l1 l2 l3) ∧ (s.creditNoted g l0 l1 l2 l3).alink.lossRun.contains g = false ∧
    SMap.wf (none : Option Credit) (s.creditNoted g l0 l1 l2 l3).alink.credits = true ∧
    SameBut sendZones s (s.creditNoted g l0 l1 l2 l3) ∧ (s.creditNoted g l0 l1 l2 l3).cmd = s.cmd := by
  obtain ⟨hlimits, hwf, hzones⟩ := limitsNoted_spec hs g l0 l1 l2 l3
  unfold State.creditNoted
  generalize s.limitsNoted g l0 l1 l2 l3 = v at hlimits hwf hzones ⊢
  have h : Sends v (v.fresh.2.bumpIf (v.alink.lossRun = [g]) (linkCtr 9) (v.fresh.1 % 4)) := (Sends.refl hwf).fresh.bumpIf
  have hcmd : (v.fresh.2.bumpIf (v.alink.lossRun = [g]) (linkCtr 9) (v.fresh.1 % 4)).cmd = s.cmd := by
    rw [← show v.cmd = s.cmd from hzones .commands (by decide), State.bumpIf]
    split <;> rfl
  dsimp only
  generalize v.fresh.2.bumpIf _ _ _ = w at h hcmd ⊢
  refine ⟨hlimits.congr h.peerLimit, ?_, h.wf,
    ((hzones.mono (by decide)).trans h.zones).trans (Frame.refl (m := []) w).modLink.zones, hcmd⟩
  simp [State.modLink, without]

theorem completes_creditBlockReceived (hs : s.canonical) (hg : g ≤ 161) (hst : s.alink.state = .active)
    (hw : s.cmd.wait = none) (hsp : s.spoilt 4 1 = false) : Completes (.creditBlockReceived g l0 l1 l2 l3) s fun t =>
    (t.credit (4 * g)).peerLimit = l0 ∧ (t.credit (4 * g + 1)).peerLimit = l1 ∧ (t.credit (4 * g + 2)).peerLimit = l2 ∧
    (t.credit (4 * g + 3)).peerLimit = l3 ∧ t.alink.lossRun.contains g = false ∧
    SameBut [.link, .counters, .commands, .contacts] s t := by
  refine .of_eq (congrArg State.finish (creditIn_eq hg hst)) ?_
  obtain ⟨hlimits, hrun, hwf, hzones, hcmd⟩ := creditNoted_spec hs.credits g l0 l1 l2 l3
  have hsp' : (s.creditNoted g l0 l1 l2 l3).spoilt 4 1 = false := by
    rw [State.spoilt, hzones .tick (by decide)]
    exact hsp
  generalize s.creditNoted g l0 l1 l2 l3 = u at hlimits hrun hwf hzones hcmd hsp' ⊢
  have ht := ((Sends.refl hwf).pumped hsp' (hcmd ▸ hw)).finish
  obtain ⟨h0, h1, h2, h3⟩ := hlimits.congr ht.peerLimit
  exact ⟨h0, h1, h2, h3, ht.lossRun ▸ hrun, hzones.trans ht.zones⟩

/-! ### A calendar round (R317) -/

/-- A round over the channels below `n`: each takes its new LIMIT, and the others are as before. -/
theorem roundFrom_spec (hs : SMap.wf (none : Option Credit) s.alink.credits = true) (hst : s.alink.state ≠ .loop) (n : Nat) :
    let u := roundFrom n s
    SMap.wf (none : Option Credit) u.alink.credits = true ∧ SameBut [.link] s u ∧
    ∀ ch, u.credit ch = if ch < n then creditRound (advertise s ch) (s.credit ch) else s.credit ch := by
  induction n generalizing s with
  | zero => exact ⟨hs, .refl _ s, fun ch => rfl⟩
  | succ n ih =>
    obtain ⟨hwf, hzones, hcredit⟩ := ih (s := s.setCredit n (creditRound (advertise s n) (s.credit n)))
      (setCredit_wf hs ..) hst
    have hstep : roundFrom (n + 1) s = roundFrom n (s.setCredit n (creditRound (advertise s n) (s.credit n))) := by
      rw [roundFrom, if_neg hst]
    rw [hstep]
    refine ⟨hwf, (sameBut_setCredit s n _).trans hzones, fun ch => ?_⟩
    rw [hcredit ch]
    obtain hlt | rfl | hgt := Nat.lt_trichotomy ch n
    · rw [if_pos hlt, if_pos (by omega), credit_setCredit_other hlt.ne]
      rfl
    · rw [if_neg (by omega), if_pos (by omega), credit_setCredit_same hs]
    · rw [if_neg (by omega), if_neg (by omega), credit_setCredit_other hgt.ne']

/-- The CREDIT block of a group. -/
def State.creditBlock (s : State) (g : Nat) : Output :=
  .credit g ((List.range 4).map fun i => (s.credit (4 * g + i)).limit)

theorem creditBlocks_eq (n g : Nat) (s : State) :
    creditBlocks n g s = { s with out := s.out ++ (List.range' g n).map s.creditBlock } := by
  induction n generalizing g s with
  | zero => simp [creditBlocks]
  | succ n ih =>
    rw [creditBlocks, ih]
    simp only [State.emit, List.range'_succ, List.map_cons, List.append_assoc, List.singleton_append]
    rfl

theorem completes_calendarRound (hs : s.canonical) (hst : s.alink.state = .active) (hw : s.cmd.wait = none)
    (hsp : s.spoilt 4 1 = false) : Completes .calendarRound s fun t =>
    (∀ ch, ch < 648 → (t.credit ch).limit = (creditRound (advertise s ch) (s.credit ch)).limit) ∧
    (∃ more, t.out = s.out ++ ((List.range 162).map fun g =>
      .credit g ((List.range 4).map fun i => (creditRound (advertise s (4 * g + i)) (s.credit (4 * g + i))).limit)) ++ more) ∧
    SameBut [.link, .counters, .commands, .contacts] s t := by
  have he : s.creditCalendar = (creditBlocks 162 0 (roundFrom 648 s)).pump.pumpCes :=
    if_neg (by simp [State.linkCarries, hst])
  refine .of_eq (congrArg State.finish he) ?_
  obtain ⟨hwf, hzones, hcredit⟩ := roundFrom_spec hs.credits (by rw [hst]; decide) 648
  generalize roundFrom 648 s = u at hwf hzones hcredit ⊢
  have hv : Sends u (creditBlocks 162 0 u) := (Sends.refl hwf).creditBlocks
  have hout : (creditBlocks 162 0 u).out = s.out ++ (List.range 162).map u.creditBlock := by
    rw [creditBlocks_eq, ← show u.out = s.out from hzones .contacts (by decide), List.range_eq_range']
  have hsp' : u.spoilt 4 1 = false := by
    rw [State.spoilt, hzones .tick (by decide)]
    exact hsp
  have hwait : u.cmd.wait = none := by rw [show u.cmd = s.cmd from hzones .commands (by decide), hw]
  generalize creditBlocks 162 0 u = v at hv hout ⊢
  have ht := ((Sends.refl hv.wf).pumped (hv.spoilt hsp') (hv.wait.trans hwait)).finish
  have hlimit (ch : Nat) (hch : ch < 648) : (u.credit ch).limit = (creditRound (advertise s ch) (s.credit ch)).limit := by
    rw [hcredit, if_pos hch]
  refine ⟨fun ch hch => ?_, ?_, ((hzones.mono (by decide)).trans hv.zones).trans ht.zones⟩
  · rw [ht.limit, hv.limit, hlimit ch hch]
  · obtain ⟨more, hmore⟩ := ht.out
    refine ⟨more, ?_⟩
    rw [hmore, hout]
    congr 2
    refine List.map_congr_left fun g hg => congrArg (Output.credit g) (List.map_congr_left fun i hi => hlimit _ ?_)
    have hg' := List.mem_range.1 hg
    have hi' := List.mem_range.1 hi
    omega

/-! ### Losses (R318, R320) -/

theorem completes_creditLoss (hs : s.canonical) (hg : g ≤ 161) (hst : s.alink.state = .active) :
    Completes (.creditLoss g) s fun t =>
    t.alink.lossRun.contains g = true ∧ t.alink.credits = s.alink.credits ∧
    (s.alink.lossRun = [] ∨ s.alink.lossRun.head? = some g → t.ctr (linkCtr 9) = s.ctr (linkCtr 9) + 4) ∧
    (s.alink.lossRun ≠ [] → s.alink.lossRun.head? ≠ some g → t.ctr (linkCtr 9) = s.ctr (linkCtr 9)) ∧
    SameBut [.link, .counters] s t := by
  have hruns : ¬ (decide (g > 161) || decide (s.alink.state ≠ .active)) = true := by simp [hst, hg]
  have hcount : (s.bump (linkCtr 9) 4).ctr (linkCtr 9) = s.ctr (linkCtr 9) + 4 := State.ctr_bump hs.counters _ 4
  have hbump : SameBut [.link, .counters] s (s.bump (linkCtr 9) 4) := (Frame.refl (m := [.aborted]) s).bumpAny.zones
  refine ⟨s.creditLost g, rfl, ?_⟩
  rw [State.creditLost, if_neg hruns]
  split_ifs with hnil hhead hmem
  · refine ⟨by simp, by simp, fun _ => ?_, fun h => absurd hnil h, ?_⟩
    · rw [State.raise_ctr _ (by decide)]
      exact hcount
    · exact (hbump.trans (Frame.refl (m := []) _).modLink.zones).raise _ _
  · refine ⟨?_, rfl, fun _ => hcount, fun _ h => absurd hhead h, hbump⟩
    rw [State.bump_alink, List.contains_iff_mem]
    exact List.mem_of_head? hhead
  · exact ⟨hmem, rfl, fun h => (h.elim hnil hhead).elim, fun _ _ => rfl, .refl _ s⟩
  · exact ⟨by simp, rfl, fun h => (h.elim hnil hhead).elim, fun _ _ => rfl, (Frame.refl (m := []) s).modLink.zones⟩

theorem dropFirst_append {k : BitVec 7} {d : List Byte} {before after : List (BitVec 7 × List Byte)}
    (h : ∀ x ∈ before, x.1 ≠ k) : dropFirst k (before ++ (k, d) :: after) = before ++ after := by
  induction before with
  | nil => simp [dropFirst]
  | cons x r ih =>
    rw [List.cons_append, dropFirst, if_neg (h x List.mem_cons_self), ih fun y hy => h y (List.mem_cons_of_mem x hy)]
    rfl

theorem completes_cesLateDrop {k : BitVec 7} {d : List Byte} {before after : List (BitVec 7 × List Byte)} (hs : s.canonical)
    (hq : s.alink.cesWait = before ++ (k, d) :: after) (hbefore : ∀ x ∈ before, x.1 ≠ k) : Completes (.cesLateDrop k) s fun t =>
    t.alink.cesWait = before ++ after ∧ t.ctr (linkCtr 8) = s.ctr (linkCtr 8) + 1 ∧ SameBut [.link, .counters] s t := by
  have hany : (s.alink.cesWait.any fun x => x.1 = k) = true := by simp [hq]
  refine .of_eq (if_pos hany) ⟨?_, State.ctr_bump (s := s.modLink _) hs.counters _ 1, ?_⟩
  · exact (congrArg (dropFirst k) hq).trans (dropFirst_append hbefore)
  · exact (Frame.refl (m := [.aborted]) s).modLink.bumpAny.zones

end Sys2Proof.Machine
end

section
/-! Frames of the Alanov Link and their checks (O31). A frame whose DESC is good is described first, and then meets the checks of
R315 in order; a frame for a data port takes a cell of its own before its bytes are judged. -/

namespace Sys2Proof.Machine
set_option Elab.async false
variable {s t u v : State} {f : AlFrame} {ch p k : Nat} {data : List Byte} {cls : BitVec 6} {b : Bool}

/-! ### A cell for a frame -/

/-- `t` comes of `s` by a cell's grant: of the counters only those of the pools have moved. -/
structure CellGranted (s t : State) : Prop where
  zones : SameBut poolZones s t
  sorted : (s.counters.now.map (·.1)).Pairwise (· < ·) → (t.counters.now.map (·.1)).Pairwise (· < ·)
  counts : ∀ a, sideCount a = false → a / 2 ^ 24 ≠ 0x40 → t.ctr a = s.ctr a

theorem poolCtr_block (hp : p ≤ 11) (hk : k ≤ 15) : poolCtr p k / 2 ^ 24 = 0x40 := by
  simp only [poolCtr, addrOf]
  omega

theorem grantCell_granted (h7 : p ≠ 7) (hp : p ≤ 11) (hs : s.poolServes p = true) (hf : s.freeCells p ≠ 0) :
    CellGranted s (s.grantCell p cls b).2 := by
  refine ⟨(CellsOnly.refl s).grantCell.1, ?_, fun a ha hb => ?_⟩
  · rw [grantCell_eq h7 hs hf]
    exact (CountsBelow.refl s).same.bumpPool.poolChanged.sorted
  · rw [grantCell_eq h7 hs hf, poolChanged_ctr ha, State.ctr_bump_other]
    · rfl
    · rintro rfl
      exact hb (poolCtr_block hp (by decide))

/-- A pool that serves, has a free cell and carries no request gives a cell. -/
theorem takeCell_granted (h7 : p ≠ 7) (hp : p ≤ 11) (hs : s.poolServes p = true) (hf : s.freeCells p ≠ 0)
    (hc : (s.pool p).carried = []) : ∃ k v, s.takeCell p cls b = (some k, v) ∧ CellGranted s v := by
  obtain ⟨k, hk⟩ := Option.isSome_iff_exists.1 (takeCell_of_serves (k := cls) (b := b) h7 hs hf hc)
  refine ⟨k, _, Prod.ext hk rfl, ?_⟩
  have hup : s.poolCatchUp p = s := by simp [State.poolCatchUp, hc, State.serveCarried]
  rw [State.takeCell, hup]
  exact grantCell_granted h7 hp hs hf

theorem poolForSize_range {n : Nat} (h : poolForSize n = some p) : 1 ≤ p ∧ p ≤ 6 := by
  have hall : ∀ q ∈ [1, 2, 3, 4, 5, 6], 1 ≤ q ∧ q ≤ 6 := by decide
  exact hall p (List.mem_of_find?_eq_some h)

/-! ### The link's counters -/

theorem sideCount_of_link {a : Nat} (h : a / 2 ^ 24 = 0x48) : sideCount a = false := by
  have hlost : a ≠ addrOf 0x40 0x108 := by
    rintro rfl
    exact absurd h (by decide)
  have hpower : ¬ a / 2 ^ 24 = 0x70 := by
    rw [h]
    decide
  rw [sideCount, decide_eq_false hpower, decide_eq_false hlost]
  rfl

theorem chCtr_block (hch : ch < 512) (hk : k < 4) : chCtr ch k / 2 ^ 24 = 0x48 := by
  simp only [chCtr, alAddr, addrOf]
  omega

theorem CellGranted.linkCount (h : CellGranted s t) {a : Nat} (ha : a / 2 ^ 24 = 0x48) : t.ctr a = s.ctr a :=
  h.counts a (sideCount_of_link ha) (by rw [ha]; decide)

/-- A cell granted after the link's own part has moved. -/
theorem CellGranted.ctr_bump (h : CellGranted s t) (hs : SMap.wf (0 : BitVec 64) s.counters.now = true) {a : Nat}
    (ha : a / 2 ^ 24 = 0x48) (n : Nat) : (t.bump a n).ctr a = s.ctr a + BitVec.ofNat 64 n := by
  rw [State.ctr_bump_same _ _ _ (h.sorted (keys_sorted hs)), h.linkCount ha]

/-! ### Data blocks without a DESC, and a bad DESC (R315) -/

theorem alFrameIn_noDesc (hl : s.linkCarries = true) (hsp : s.spoilt 4 0 = false) (he : f.ending = .noDesc) :
    s.alFrameIn f = s.looseBlocks f.afterIdle := by
  simp [State.alFrameIn, hl, hsp, he]

theorem completes_looseBlocks (hs : s.canonical) (hl : s.linkCarries = true) (hsp : s.spoilt 4 0 = false)
    (he : f.ending = .noDesc) : Completes (.alanovFrameReceived f) s fun t =>
    t.alink.badRun = true ∧
    (s.alink.badRun = false ∨ f.afterIdle = true → t.ctr (linkCtr 5) = s.ctr (linkCtr 5) + 1) ∧
    (s.alink.badRun = true → f.afterIdle = false → t.ctr (linkCtr 5) = s.ctr (linkCtr 5)) ∧
    SameBut [.link, .counters] s t := by
  refine .of_eq (congrArg State.finish (alFrameIn_noDesc hl hsp he)) ?_
  rw [State.finish_alink, State.finish_ctr _ (by decide), State.looseBlocks]
  split_ifs with hrun
  · obtain ⟨hbad, hidle⟩ : s.alink.badRun = true ∧ f.afterIdle = false := by simpa using hrun
    exact ⟨hbad, by simp [hbad, hidle], fun _ _ => rfl, sameBut_finish _ s⟩
  · refine ⟨rfl, fun _ => State.ctr_bump hs.counters _ 1, fun hbad hidle => absurd (by simp [hbad, hidle]) hrun, ?_⟩
    exact (Frame.refl (m := [.aborted]) s).bumpAny.modLink.zones.finish

/-- A frame whose DESC is not trusted: the receiver discards up to the next DESC or IDLE block. -/
def State.distrusted (s : State) : State :=
  ((s.modLink fun a => { a with badRun := false }).bump (linkCtr 0) 1).modLink fun a => { a with badRun := true }

theorem alFrameIn_badDesc (hl : s.linkCarries = true) (hsp : s.spoilt 4 0 = false) (he : f.ending ≠ .noDesc)
    (hd : descOk f.desc = false) : s.alFrameIn f = s.distrusted := by
  simp [State.alFrameIn, hl, hsp, he, hd, State.distrusted]

theorem completes_badDesc (hs : s.canonical) (hl : s.linkCarries = true) (hsp : s.spoilt 4 0 = false)
    (he : f.ending ≠ .noDesc) (hd : descOk f.desc = false) : Completes (.alanovFrameReceived f) s fun t =>
    t.ctr (linkCtr 0) = s.ctr (linkCtr 0) + 1 ∧ t.alink.credits = s.alink.credits ∧ SameBut [.link, .counters] s t := by
  refine .of_eq (congrArg State.finish (alFrameIn_badDesc hl hsp he hd)) ?_
  rw [State.finish_alink, State.finish_ctr _ (by decide)]
  exact ⟨State.ctr_bump (s := s.modLink _) hs.counters _ 1, rfl,
    (Frame.refl (m := [.aborted]) s).modLink.bumpAny.modLink.zones.finish⟩

/-! ### A good DESC -/

/-- The state in which the frame of a good DESC for channel `ch` is checked: its CONSUMED is noted (R318). -/
def State.described (s : State) (ch : Nat) (f : AlFrame) : State :=
  let u := s.modLink fun a => { a with badRun := false }
  u.setCredit ch { u.credit ch with seen := BitVec.ofNat 12 (descField f.desc 26 12) }

/-- A frame for a data port whose DESC is good (Table ALINK-5): its channel, its length, and a colour that is one. -/
structure Described (f : AlFrame) (ch len : Nat) : Prop where
  ending : f.ending ≠ .noDesc
  desc : descOk f.desc = true
  channel : descField f.desc 0 10 = ch
  data : ch < 512
  length : descField f.desc 10 14 = len
  colour : descField f.desc 24 2 ≠ 3

theorem alFrameIn_described {len : Nat} (hl : s.linkCarries = true) (hsp : s.spoilt 4 0 = false) (h : Described f ch len) :
    s.alFrameIn f = (s.described ch f).frameChecks ch len (descField f.desc 24 2) f := by
  obtain ⟨he, hd, hch, hdata, hlen, hcol⟩ := h
  have hlt : ch < 648 := by omega
  simp [State.alFrameIn, hl, hsp, he, hd, hch, hlt, hlen, hcol, State.described]

theorem described_spec (hs : s.canonical) (ch : Nat) (f : AlFrame) :
    (s.described ch f).credit ch = { s.credit ch with seen := BitVec.ofNat 12 (descField f.desc 26 12) } ∧
    SMap.wf (none : Option Credit) (s.described ch f).alink.credits = true ∧ SameBut [.link] s (s.described ch f) := by
  have hwf : SMap.wf (none : Option Credit) (s.modLink fun a => { a with badRun := false }).alink.credits = true := hs.credits
  exact ⟨credit_setCredit_same hwf ch _, setCredit_wf hwf ch _,
    (Frame.refl (m := []) s).modLink.zones.trans (sameBut_setCredit _ ch _)⟩

/-- A frame that passed every check is counted, with its bytes. -/
def State.frameCounted (s : State) (ch len : Nat) : State := (s.bump (chCtr ch 0) 1).bump (chCtr ch 1) len

/-- A frame within its length, its channel's credit and its pool has a cell, and its bytes are judged. -/
theorem frameChecks_judged {len colour : Nat} (hch : ch < 512) (hmin : 14 ≤ len) (hmax : len ≤ 16000)
    (hcredit : (u.credit ch).held.toNat + creditUnits len ≤ (u.credit ch).adv.toNat) (hp : poolForSize len = some p)
    (htake : u.takeCell p 0x05 false = (some k, v)) (he : f.ending = .whole) (hlen : len + 4 ≤ f.bytes.length) :
    u.frameChecks ch len colour f =
      if slice f.bytes len 4 ≠ crcTrailer (f.bytes.take len) then (v.bump (linkCtr 6) 1).freeAll 0x05 [(p, k)]
      else (v.frameCounted ch len).frameTo ch colour (f.bytes.take len) [(p, k)] := by
  have hchan : ¬ (decide (ch ≥ 642) || (decide (u.alink.state = .loop) && decide (ch ≥ 640))) = true := by
    simp [show ¬ 642 ≤ ch by omega, show ¬ 640 ≤ ch by omega]
  have hlength : lengthOk ch len = true := by simp [lengthOk, hch, hmin, hmax]
  have hcell : u.frameCell ch len = (some [(p, k)], v) := by
    rw [State.frameCell, if_neg (show ¬ 640 ≤ ch by omega)]
    simp only [hp, htake]
  have hwhole : ¬ (decide (f.ending ≠ .whole) || decide (f.bytes.length < len + 4)) = true := by simp [he, hlen]
  rw [State.frameChecks]
  simp only [hlength, hcell]
  rw [if_neg hchan, if_neg (by simp), if_neg (by omega), if_neg hwhole]
  rfl

/-! ### A frame that reaches the check of its CRC (R315) -/

/-- A frame for a data port that only its CRC can still fail: it is whole, within its length and its channel's credit, and its
pool has a cell. -/
structure Admitted (s : State) (f : AlFrame) (data : List Byte) (ch p : Nat) : Prop where
  carries : s.linkCarries = true
  intact : s.spoilt 4 0 = false
  whole : f.ending = .whole
  described : Described f ch data.length
  long : 14 ≤ data.length
  short : data.length ≤ 16000
  credit : (s.credit ch).held.toNat + creditUnits data.length ≤ (s.credit ch).adv.toNat
  pool : poolForSize data.length = some p
  serves : s.poolServes p = true
  free : s.freeCells p ≠ 0
  carried : (s.pool p).carried = []

/-- An admitted frame has a cell, and its CRC is judged. -/
theorem Admitted.judged {crc : List Byte} (h : Admitted s f data ch p) (hs : s.canonical) (hb : f.bytes = data ++ crc)
    (hcrc : crc.length = 4) : ∃ k v, CellGranted (s.described ch f) v ∧ s.alFrameIn f =
      if crc ≠ crcTrailer data then (v.bump (linkCtr 6) 1).freeAll 0x05 [(p, k)]
      else (v.frameCounted ch data.length).frameTo ch (descField f.desc 24 2) data [(p, k)] := by
  obtain ⟨hseen, -, -⟩ := described_spec hs ch f
  have hpool : (s.described ch f).pool p = s.pool p := pool_of_bpm rfl p
  obtain ⟨hlow, hhigh⟩ := poolForSize_range h.pool
  obtain ⟨k, v, htake, hv⟩ := takeCell_granted (s := s.described ch f) (cls := 0x05) (b := false) (show p ≠ 7 by omega)
    (by omega) ((poolServes_congr rfl hpool).trans h.serves) (by rw [freeCells_of_pool hpool]; exact h.free)
    (by rw [hpool]; exact h.carried)
  refine ⟨k, v, hv, ?_⟩
  have hjudged := frameChecks_judged (colour := descField f.desc 24 2) h.described.data h.long h.short
    (by rw [hseen]; exact h.credit) h.pool htake h.whole (by simp [hb, hcrc])
  have htrailer : slice f.bytes data.length 4 = crc := by simp [slice, hb, ← hcrc]
  have hdata : f.bytes.take data.length = data := by simp [hb]
  rw [alFrameIn_described h.carries h.intact h.described, hjudged, htrailer, hdata]

theorem finish_credit (s : State) (ch : Nat) : s.finish.credit ch = s.credit ch :=
  credit_congr (by simp) (by simp) ch

theorem CellGranted.described_link (h : CellGranted (s.described ch f) v) : v.alink = (s.described ch f).alink :=
  h.zones .link (by decide)

theorem CellGranted.wf (h : CellGranted (s.described ch f) v) (hs : s.canonical) :
    SMap.wf (none : Option Credit) v.alink.credits = true := by
  rw [h.described_link]
  exact (described_spec hs ch f).2.1

theorem CellGranted.described_zones (h : CellGranted (s.described ch f) v) (hs : s.canonical) :
    SameBut [.link, .queues, .pools, .bursts, .counters] s v :=
  ((described_spec hs ch f).2.2.mono (by decide)).trans (h.zones.mono (by decide))

/-- What the credit of a frame's channel is once the frame has its cell. -/
theorem CellGranted.credit (h : CellGranted (s.described ch f) v) (hs : s.canonical) :
    v.credit ch = { s.credit ch with seen := BitVec.ofNat 12 (descField f.desc 26 12) } := by
  rw [credit_congr (h.zones .words (by decide)) (congrArg AlinkSt.credits h.described_link)]
  exact (described_spec hs ch f).1

/-- A frame of a data port waits at the classifier, and its units stay held. -/
theorem frameTo_data {colour : Nat} {cells : List (Nat × Nat)} (hs : SMap.wf (none : Option Credit) s.alink.credits = true)
    (hch : ch < 512) :
    let t := s.frameTo ch colour data cells
    (∃ pk : Packet, t.cls.ingress = s.cls.ingress ++ [pk] ∧ pk.bytes = data ∧ pk.index.toNat = ch ∧ pk.cells = cells) ∧
    t.credit ch = { s.credit ch with held := (s.credit ch).held + BitVec.ofNat 12 (creditUnits data.length) } ∧
    t.counters = s.counters ∧ SameBut [.link, .classifier] s t := by
  rw [State.frameTo, if_pos hch]
  refine ⟨⟨_, rfl, rfl, Nat.mod_eq_of_lt hch, rfl⟩, credit_setCredit_same hs ch _, rfl, ?_⟩
  exact ((sameBut_setCredit s ch _).mono (by decide)).trans ((sameBut_modCls _ fun c => { c with ingress := _ }).mono (by decide))

/-- A frame with a good CRC goes to the classifier. -/
theorem completes_goodFrame (h : Admitted s f data ch p) (hs : s.canonical) (hb : f.bytes = data ++ crcTrailer data) :
    Completes (.alanovFrameReceived f) s fun t =>
    (∃ pk : Packet, t.cls.ingress = s.cls.ingress ++ [pk] ∧ pk.bytes = data ∧ pk.index.toNat = ch ∧ pk.cells.length = 1) ∧
    (t.credit ch).held = (s.credit ch).held + BitVec.ofNat 12 (creditUnits data.length) ∧
    (t.credit ch).seen.toNat = descField f.desc 26 12 ∧ t.ctr (chCtr ch 0) = s.ctr (chCtr ch 0) + 1 ∧
    SameBut [.link, .classifier, .queues, .pools, .bursts, .counters] s t := by
  obtain ⟨k, v, hv, he⟩ := h.judged hs hb (length_crcTrailer data)
  have hch := h.described.data
  rw [if_neg (fun hne => hne rfl)] at he
  refine .of_eq (congrArg State.finish he) ?_
  have hcls : (v.frameCounted ch data.length).cls = s.cls := hv.zones .classifier (by decide)
  have hcredit : (v.frameCounted ch data.length).credit ch = _ := hv.credit hs
  have hctr : (v.frameCounted ch data.length).ctr (chCtr ch 0) = s.ctr (chCtr ch 0) + 1 :=
    (State.ctr_bump_other _ _ _ _ (by simp [chCtr, alAddr, addrOf])).trans
      (hv.ctr_bump (s := s.described ch f) hs.counters (chCtr_block hch (by decide)) 1)
  have hzones : SameBut [.link, .queues, .pools, .bursts, .counters] s (v.frameCounted ch data.length) :=
    (hv.described_zones hs).trans (Frame.refl (m := [.aborted]) v).bumpAny.bumpAny.zones
  have hwf : SMap.wf (none : Option Credit) (v.frameCounted ch data.length).alink.credits = true := hv.wf hs
  generalize v.frameCounted ch data.length = w at hcls hcredit hctr hzones hwf ⊢
  obtain ⟨⟨pk, hin, hbytes, hindex, hcells⟩, hheld, hcount, hto⟩ :=
    frameTo_data (colour := descField f.desc 24 2) (data := data) (cells := [(p, k)]) hwf hch
  generalize w.frameTo ch _ data [(p, k)] = t at hin hheld hcount hto ⊢
  rw [hcredit] at hheld
  refine ⟨⟨pk, ?_, hbytes, hindex, by rw [hcells]; rfl⟩, ?_, ?_, ?_,
    ((hzones.mono (by decide)).trans (hto.mono (by decide))).finish⟩
  · rw [State.finish_cls, hin, hcls]
  · rw [finish_credit, hheld]
  · rw [finish_credit, hheld]
    exact Nat.mod_eq_of_lt (Nat.mod_lt _ (by decide))
  · rw [State.finish_ctr _ (sideCount_of_link (chCtr_block hch (by decide))), ctr_of_counters hcount, hctr]

/-- A frame with a bad CRC is counted, and its cell is free again. -/
theorem completes_badFrame {crc : List Byte} (h : Admitted s f data ch p) (hs : s.canonical) (hb : f.bytes = data ++ crc)
    (hlen : crc.length = 4) (hbad : crc ≠ crcTrailer data) : Completes (.alanovFrameReceived f) s fun t =>
    t.cls.ingress = s.cls.ingress ∧ (t.credit ch).held = (s.credit ch).held ∧
    t.ctr (linkCtr 6) = s.ctr (linkCtr 6) + 1 ∧ SameBut [.link, .queues, .pools, .bursts, .counters] s t := by
  obtain ⟨k, v, hv, he⟩ := h.judged hs hb hlen
  rw [if_pos hbad] at he
  refine .of_eq (congrArg State.finish he) ?_
  have hfree : CellsOnly (v.bump (linkCtr 6) 1) ((v.bump (linkCtr 6) 1).freeAll 0x05 [(p, k)]) := (CellsOnly.refl _).freeAll
  have hctr : (v.bump (linkCtr 6) 1).ctr (linkCtr 6) = s.ctr (linkCtr 6) + 1 :=
    hv.ctr_bump (s := s.described ch f) hs.counters (by decide) 1
  have hpool : ∀ e ∈ [(p, k)], ∀ j < 11, linkCtr 6 ≠ poolCtr e.1 j := by
    obtain ⟨-, hp⟩ := poolForSize_range h.pool
    intro e he j hj heq
    obtain rfl := List.mem_singleton.1 he
    exact absurd (poolCtr_block (show p ≤ 11 by omega) (show j ≤ 15 by omega)) (heq ▸ by decide)
  have hcredit : ((v.bump (linkCtr 6) 1).freeAll 0x05 [(p, k)]).credit ch = v.credit ch :=
    credit_congr (hfree.1 .words (by decide)) (congrArg AlinkSt.credits (hfree.1 .link (by decide))) ch
  have hzones : SameBut [.link, .queues, .pools, .bursts, .counters] s (v.bump (linkCtr 6) 1) :=
    (hv.described_zones hs).trans (Frame.refl (m := [.aborted]) v).bumpAny.zones
  have hcls : ((v.bump (linkCtr 6) 1).freeAll 0x05 [(p, k)]).cls = s.cls :=
    (hfree.1 .classifier (by decide)).trans (hv.zones .classifier (by decide))
  refine ⟨?_, ?_, ?_, (hzones.trans (hfree.1.mono (by decide))).finish⟩
  · rw [State.finish_cls, hcls]
  · rw [finish_credit, hcredit, hv.credit hs]
  · rw [State.finish_ctr _ (by decide), freeAll_ctr (by decide) (by decide) hpool, hctr]

/-- Settles O31: the receiver's checks branch by branch, the frames that meet the check of their CRC by `Admitted.judged`, and
CREDIT blocks and calendar rounds by what sending leaves (`Sends`). -/
theorem framesAndCredit : Obligations.FramesAndCredit := fun s hs =>
  ⟨fun f data ch p hl hsp =>
    ⟨completes_looseBlocks hs hl hsp, completes_badDesc hs hl hsp,
      fun hw hd hch hlt hlen hcol hmin hmax hcredit hp hserves hfree hcarried =>
      have h : Admitted s f data ch p :=
        ⟨hl, hsp, hw, ⟨by rw [hw]; decide, hd, hch, hlt, hlen, hcol⟩, hmin, hmax, hcredit, hp, hserves, hfree, hcarried⟩
      ⟨completes_goodFrame h hs, fun _ => completes_badFrame h hs⟩⟩,
    fun _ _ _ _ _ => completes_creditBlockReceived hs, completes_calendarRound hs, fun _ => completes_creditLoss hs,
    fun _ _ _ _ => completes_cesLateDrop hs⟩

end Sys2Proof.Machine
end

section
/-! PD_ETH ON and isolated at a write of KR4 (O32). The words of the Ethernet block lie in PD_MGMT, so that KR4 can be written
while PD_ETH is not on. The write brings the ports up to date first and the domains after them (log 21, 105); where PD_ETH is
ON, isolated and without need, settling begins its quiesce, which counts as on until isolation is applied (R445, R450). The
statement asks of the state the canonical form alone, and judges the ports by the state after the write. -/

namespace Sys2Proof.Machine

/-- Ready with E0 enabled at FEC 2, and PD_ETH, the only domain without a vote, ON and isolated. -/
def ethIsolated : State :=
  { State.reset with
    phase := .ready
    words := [(ethAddr 0 0, 0x39)]
    power := { PowerSt.reset with doms := (List.range 13).map fun d =>
      (d, { Dom.off with st := .on, votes := if d = 10 then 0 else 3, isolated := d = 10 }) } }

theorem ethIsolated_canonical : ethIsolated.canonical := State.canonical_of (by decide +kernel)

theorem ethIsolated_hostMay : ethIsolated.hostMay := ⟨by decide +kernel, rfl, by decide +kernel⟩

theorem ethIsolated_check : ethIsolated.writeCheck .twi [⟨addrOf 0x50 0, BitVec.ofNat 32 (b2n true), 1⟩] = 0 := by
  decide +kernel

/-- What a write of 1 to KR4 makes of it. -/
def ethGrouped : State := ethIsolated.hostBits (addrOf 0x50 0) (BitVec.ofNat 32 (b2n true)) 1

/-- E0 may run, and is DOWN. -/
theorem ethGrouped_port :
    ethGrouped.ethMayRun 0 = true ∧ (ethPort ethGrouped 0).state = .down ∧ ethIsolated.ethStart 0 = .an := by decide +kernel

/-- Refutes O32: after the write of KR4 on `ethIsolated`, E0 may run and has not left DOWN. -/
theorem not_ethernetPorts : ¬ Obligations.EthernetPorts := by
  intro h
  obtain ⟨-, -, -, -, -, -, hhost⟩ := h ethIsolated 0 ethIsolated_canonical
  obtain ⟨-, -, hkr4, -⟩ := hhost ethIsolated_hostMay
  obtain ⟨t, ht, -, -, hports, -⟩ := hkr4 true (by decide +kernel) ethIsolated_check
  obtain rfl : ethGrouped = t := Host.Outcome.next.inj ht
  obtain ⟨hruns, hdown, hstart⟩ := ethGrouped_port
  have h0 := hports 0 (by decide)
  rw [hdown, if_pos hruns, hstart] at h0
  exact absurd h0 (by decide)

end Sys2Proof.Machine
end

section
/-! A PAUSE hold whose end lets a spoilt LLDPDU go (O34). An LLDPDU that waits for a hold goes out at its end, by way of the MAC
(R339, R343); where a FIFO fault has spoilt the next frame of the stream that crosses to the port, the LLDPDU is the one that
is discarded, and the crossings, a part of the tick, change (R25, log 127). The frames that the statement gives the end of a
hold, and a PAUSE frame that ends one, leave the tick out. -/

namespace Sys2Proof.Machine

/-- E1 UP and held, an LLDPDU of its agent waiting for the hold to end, and the next frame that the port sends spoilt. -/
def heldLldp : State :=
  { spoiltLink with
    tick := { TickSt.reset with started := true, number := 100000, transit := [(5, 5)] }
    eth := { ports := [(1, { EthPort.reset with state := .up, paused := true, lldpDue := true })] } }

theorem heldLldp_canonical : heldLldp.canonical := State.canonical_of (by decide +kernel)

theorem heldLldp_unspoils : (heldLldp.holdEnds 1 none).tick.transit = [] := by decide +kernel

/-- Refutes O34: the LLDPDU that goes at the end of the hold of `heldLldp` is the frame that is lost, and its fault is gone. -/
theorem not_pauseAndPriorities : ¬ Obligations.PauseAndPriorities := by
  intro h
  obtain ⟨-, hexpiry, -⟩ := h heldLldp 1 heldLldp_canonical
  exact false_of_unspoils (hexpiry rfl) heldLldp_unspoils fun _ ⟨_, _, _, hframe⟩ => hframe

end Sys2Proof.Machine
end

section
/-! What the operations on an Ethernet port leave alone (O33, O35). Each stays within some parts of the state, and leaves the
power domains, the order of the maps that it writes, and the port's counters that the statements follow as they are
(`AtPort`); the operations have one lemma each. What becomes of the port itself is said apart, an equation for each. -/

namespace Sys2Proof.Machine
set_option Elab.async false
variable {s t u : State} {e : BitVec 2} {l : List Zone}

/-! ### Reading a port -/

theorem ethPort_of_eth (h : t.eth = s.eth) (j : Nat) : ethPort t j = ethPort s j := by rw [ethPort, h, ethPort]

theorem ethPort_modEth (hs : SMap.wf EthPort.reset s.eth.ports = true) (j : Nat) (f : EthPort → EthPort) :
    ethPort (s.modEth j f) j = f (ethPort s j) := mget_mput_same _ _ _ _ (keys_sorted hs)

theorem wf_modEth (hs : SMap.wf EthPort.reset s.eth.ports = true) (j : Nat) (f : EthPort → EthPort) :
    SMap.wf EthPort.reset (s.modEth j f).eth.ports = true := mput_wf _ _ hs

theorem bumpEth_eth (s : State) (j k n : Nat) : (s.bumpEth j k n).eth = s.eth := rfl

/-- The frame in transmission has left the port; in a loop it is among those that return. -/
theorem ethPort_txDone (hs : SMap.wf EthPort.reset s.eth.ports = true) (j : Nat) :
    ∃ r, ethPort (s.txDone j) j = { ethPort s j with txFrame := none, returned := r } := by
  unfold State.txDone
  split
  next h => exact ⟨(ethPort s j).returned, by rw [← h]⟩
  next d _ =>
    dsimp only
    rw [ethPort_of_eth (State.emit_eth ..), ethPort_of_eth (bumpEth_eth ..), ethPort_of_eth (bumpEth_eth ..), ethPort_modEth hs]
    exact ⟨_, rfl⟩

/-- The wake times are read from the configuration, the rate and what the partner asks. -/
theorem wakeTimes_congr {j : Nat} (hw : t.words = s.words) (hr : (ethPort t j).rateActive = (ethPort s j).rateActive)
    (hp : (ethPort t j).partnerTw = (ethPort s j).partnerTw) : t.wakeTimes j = s.wakeTimes j := by
  simp only [State.wakeTimes, State.cfgF, State.cfgB, cfg_of_words hw, hr, hp]
  rfl

theorem ethPort_eeeResolve (hs : SMap.wf EthPort.reset s.eth.ports = true) (j : Nat) :
    ethPort (s.eeeResolve j) j = { ethPort s j with txTw := (s.wakeTimes j).1, rxTw := (s.wakeTimes j).2 } := by
  unfold State.eeeResolve
  dsimp only
  split
  next h =>
    simp only [Bool.and_eq_true, decide_eq_true_eq] at h
    rw [← h.1, ← h.2]
  next => rw [ethPort_of_eth (State.raise_eth ..), ethPort_modEth hs]

/-! ### The port's counters -/

/-- A counter of a port and its accumulation (R350). -/
def State.ethCounts (s : State) (e k : Nat) : BitVec 64 × BitVec 64 := (s.ctr (ethRc e k), s.ctr (ethAcc e k))

/-- The counters of a port that the statements follow. -/
def followed : List Nat := [0, 4, 5, 6, 7, 24, 25, 34]

theorem ethRc_block (e : BitVec 2) {k : Nat} (hk : k < 512) : ethRc e.toNat k / 2 ^ 24 = 0x50 ∧ ethAcc e.toNat k / 2 ^ 24 = 0x50 := by
  simp only [ethRc, ethAcc, ethAddr, addrOf]
  omega

theorem sideCount_of_block {a : Nat} (h : a / 2 ^ 24 = 0x50) : sideCount a = false := by
  have hlost : a ≠ addrOf 0x40 0x108 := by
    rintro rfl
    exact absurd h (by decide)
  rw [sideCount, h, decide_eq_false hlost]
  rfl

theorem ethRc_ne {e j k : Nat} (hj : j < 512) (hk : k < 512) : ethRc e k ≠ ethAcc e j ∧ (k ≠ j → ethRc e k ≠ ethRc e j) ∧
    ethAcc e k ≠ ethRc e j ∧ (k ≠ j → ethAcc e k ≠ ethAcc e j) := by
  simp only [ethRc, ethAcc, ethAddr, addrOf]
  omega

theorem ethCounts_bumpEth (hs : (s.counters.now.map (·.1)).Pairwise (· < ·)) (e : Nat) {k : Nat} (hk : k < 512) (n : Nat) :
    (s.bumpEth e k n).ethCounts e k =
      ((s.ethCounts e k).1 + BitVec.ofNat 64 n, (s.ethCounts e k).2 + BitVec.ofNat 64 n) := by
  obtain ⟨hra, -, har, -⟩ := ethRc_ne (e := e) hk hk
  refine Prod.ext ?_ ?_
  · exact (State.ctr_bump_other _ _ _ _ hra).trans (State.ctr_bump_same s _ n hs)
  · refine (State.ctr_bump_same (s.bump _ n) _ n (pairwise_keys_mput hs)).trans ?_
    rw [State.ctr_bump_other _ _ _ _ har]
    rfl

theorem ethCounts_bumpEth_other (e : Nat) {j k : Nat} (hj : j < 512) (hk : k < 512) (h : k ≠ j) (n : Nat) :
    (s.bumpEth e j n).ethCounts e k = s.ethCounts e k := by
  obtain ⟨hra, hr, har, ha⟩ := ethRc_ne (e := e) hj hk
  refine Prod.ext ?_ ?_
  · exact (State.ctr_bump_other _ _ _ _ hra).trans (State.ctr_bump_other _ _ _ _ (hr h))
  · exact (State.ctr_bump_other _ _ _ _ (ha h)).trans (State.ctr_bump_other _ _ _ _ har)

/-! ### One port -/

/-- `t` differs from `s` in the parts of `l` only, and in none of the followed counters of port `e`; its power domains are the
same, and the maps of ports and counters still in order. -/
structure AtPort (l : List Zone) (e : BitVec 2) (s t : State) : Prop where
  zones : SameBut l s t
  power : t.power = s.power
  counts : ∀ k ∈ followed, t.ethCounts e.toNat k = s.ethCounts e.toNat k
  ports : SMap.wf EthPort.reset s.eth.ports = true → SMap.wf EthPort.reset t.eth.ports = true
  sorted : (s.counters.now.map (·.1)).Pairwise (· < ·) → (t.counters.now.map (·.1)).Pairwise (· < ·)

theorem lt_of_followed {k : Nat} (hk : k ∈ followed) : k < 512 := (by decide : ∀ k ∈ followed, k < 512) k hk

namespace AtPort
variable {l' : List Zone}

theorem refl (s : State) : AtPort l e s s := ⟨.refl l s, rfl, fun _ _ => rfl, id, id⟩

theorem trans (h : AtPort l e s t) (k : AtPort l e t u) : AtPort l e s u :=
  ⟨h.zones.trans k.zones, k.power.trans h.power, fun j hj => (k.counts j hj).trans (h.counts j hj), k.ports ∘ h.ports,
    k.sorted ∘ h.sorted⟩

theorem mono (h : AtPort l' e s t) (hl : ∀ p ∈ l', p ∈ l) : AtPort l e s t := { h with zones := h.zones.mono hl }

theorem ite {b : Prop} [Decidable b] (h : AtPort l e s t) (k : AtPort l e s u) : AtPort l e s (if b then t else u) := by
  split <;> assumption

theorem snd {α : Type} {p : α × State} {a : α} (h : AtPort l e s p.2) (he : p = (a, t)) : AtPort l e s t := by
  rw [he] at h
  exact h

/-- An operation that leaves the ports, the counters and the power domains alone. -/
theorem beside (h : AtPort l e s t) (k : SameBut l t u) (he : u.eth = t.eth := by simp) (hp : u.power = t.power := by simp)
    (hc : u.counters = t.counters := by simp) : AtPort l e s u := by
  refine h.trans ⟨k, hp, fun j _ => ?_, fun hs => he ▸ hs, fun hs => hc ▸ hs⟩
  rw [State.ethCounts, ctr_of_counters hc, ctr_of_counters hc, State.ethCounts]

theorem fresh (h : AtPort l e s t) : AtPort l e s t.fresh.2 := h.beside (Frame.refl (m := []) t).fresh.zones

theorem instant (h : AtPort l e s t) : AtPort l e s t.instant.2 := h.beside (Frame.refl (m := []) t).instant.zones

theorem emit {o} (h : AtPort l e s t) (hl : .contacts ∈ l := by decide) : AtPort l e s (t.emit o) :=
  h.beside ((Frame.refl (m := []) t).emit hl).zones

theorem unspoil {g k} (h : AtPort l e s t) (hl : .tick ∈ l := by decide) : AtPort l e s (t.unspoil g k) :=
  h.beside ((Frame.refl (m := []) t).unspoil hl).zones

theorem modTime {f} (h : AtPort l e s t) (hl : .time ∈ l := by decide) : AtPort l e s (t.modTime f) :=
  h.beside ((Frame.refl (m := []) t).modTime hl).zones

theorem modCls {f} (h : AtPort l e s t) (hl : .classifier ∈ l := by decide) : AtPort l e s (t.modCls f) :=
  h.beside ((sameBut_modCls t f).mono (by simpa using hl)) rfl rfl rfl

theorem queues {x : QSt} (h : AtPort l e s t) (hl : .queues ∈ l := by decide) : AtPort l e s { t with qs := x } :=
  h.beside (fun p hp => by cases p <;> simp_all [Zone.same]; exact fun _ _ => rfl) rfl rfl rfl

theorem setPool {p x} (h : AtPort l e s t) (hl : .pools ∈ l := by decide) : AtPort l e s (t.setPool p x) :=
  h.beside ((Frame.refl (m := []) t).setPool hl).zones

theorem modEth {f} (h : AtPort l e s t) (hl : .ethernet ∈ l := by decide) : AtPort l e s (t.modEth e.toNat f) :=
  h.trans ⟨((Frame.refl (m := []) t).modEth hl).zones, rfl, fun _ _ => rfl, fun hs => wf_modEth hs _ f, id⟩

/-- A counter outside the block of the ports. -/
theorem bump {a n} (h : AtPort l e s t) (ha : a / 2 ^ 24 ≠ 0x50) (hl : .counters ∈ l := by decide) :
    AtPort l e s (t.bump a n) := by
  refine h.trans ⟨((Frame.refl (m := [.aborted]) t).bumpAny hl).zones, rfl, fun k hk => ?_, id, pairwise_keys_mput⟩
  obtain ⟨hr, hacc⟩ := ethRc_block e (lt_of_followed hk)
  exact Prod.ext (State.ctr_bump_other t _ a n fun hb => ha (hb ▸ hr)) (State.ctr_bump_other t _ a n fun hb => ha (hb ▸ hacc))

/-- A counter of the port that is not among those followed. -/
theorem bumpEth {k n} (h : AtPort l e s t) (hl : .counters ∈ l := by decide) (hk : k < 512 ∧ k ∉ followed := by decide) :
    AtPort l e s (t.bumpEth e.toNat k n) := by
  obtain ⟨hlt, hmem⟩ := hk
  refine h.trans ⟨((Frame.refl (m := [.aborted]) t).bumpEth hl).zones, rfl, fun j hj => ?_, id,
    fun hs => pairwise_keys_mput (pairwise_keys_mput hs)⟩
  exact ethCounts_bumpEth_other _ hlt (lt_of_followed hj) (fun hjk => hmem (hjk ▸ hj)) n

theorem raise {code p} (h : AtPort l e s t) : AtPort l e s (t.raise code p) := by
  refine h.trans ⟨sameBut_raise l t code p, State.raise_power .., fun k hk => ?_, fun hs => by rwa [State.raise_eth],
    (CountsBelow.refl t).raise.sorted⟩
  obtain ⟨hr, hacc⟩ := ethRc_block e (lt_of_followed hk)
  exact Prod.ext (State.raise_ctr t (sideCount_of_block hr) code p) (State.raise_ctr t (sideCount_of_block hacc) code p)

theorem raiseIf {b code p} (h : AtPort l e s t) : AtPort l e s (t.raiseIf b code p) := h.raise.ite h

/-- The parts that a frame's leaving may change. -/
def leaveZones : List Zone := [.ethernet, .counters, .contacts]

theorem txDone (h : AtPort l e s t) (hl : ∀ p ∈ leaveZones, p ∈ l := by decide) : AtPort l e s (t.txDone e.toNat) := by
  unfold State.txDone
  split
  · exact h
  · exact (((h.modEth (hl _ (by decide))).bumpEth (hl _ (by decide))).bumpEth (hl _ (by decide))).emit (hl _ (by decide))

theorem eeeResolve (h : AtPort l e s t) (hl : .ethernet ∈ l := by decide) : AtPort l e s (t.eeeResolve e.toNat) :=
  h.ite (h.modEth hl).raise

/-- A followed counter counts, after what leaves it alone. -/
theorem counted {k n} (h : AtPort l e s t) (hs : (s.counters.now.map (·.1)).Pairwise (· < ·))
    (hk : k ∈ followed := by decide) (hl : .counters ∈ l := by decide) :
    (t.bumpEth e.toNat k n).ethCounts e.toNat k =
      ((s.ethCounts e.toNat k).1 + BitVec.ofNat 64 n, (s.ethCounts e.toNat k).2 + BitVec.ofNat 64 n) ∧
    SameBut l s (t.bumpEth e.toNat k n) := by
  refine ⟨?_, h.zones.trans ((Frame.refl (m := [.aborted]) t).bumpEth hl).zones⟩
  rw [ethCounts_bumpEth (h.sorted hs) _ (lt_of_followed hk), h.counts k hk]

/-! ### Time-stamps (R364 to R366) -/

theorem tsQueue {d} (h : AtPort l e s t) (ht : .time ∈ l := by decide) (hc : .counters ∈ l := by decide) :
    AtPort l e s (t.tsQueue d) := ((h.modTime ht).bump (by decide) hc).raiseIf.ite (h.modTime ht)

theorem stamp {k rx x raw xgem vonu} (h : AtPort l e s t) (ht : .time ∈ l := by decide) (hc : .counters ∈ l := by decide) :
    AtPort l e s (t.stamp k rx x raw xgem vonu) := h.ite ((h.bump (by cases rx <;> decide) hc).tsQueue ht hc)

theorem stampEth {rx frame raw} (h : AtPort l e s t) (ht : .time ∈ l := by decide) (hc : .counters ∈ l := by decide) :
    AtPort l e s (t.stampEth e.toNat rx frame raw) := by
  unfold State.stampEth
  split
  · exact (h.stamp ht hc).ite h
  · exact h

end AtPort

end Sys2Proof.Machine
end

section
/-! Low-power idle and the LLDP agent (O35). Each row is written as an equation for the state that it answers; the port is then
read from its operations, and the frame is the chain of theirs. -/

namespace Sys2Proof.Machine
set_option Elab.async false
variable {s t : State} {e : BitVec 2}

/-! ### Low-power idle (R341) -/

theorem lpiEnter_eq {j : Nat} (hup : (ethPort s j).state = .up) (hen : s.cfgB (ethAddr j 6) 0 = true)
    (hl : (ethPort s j).lpiTx = false)
    (hidle : (s.domOn 6 && (s.txDone j).instant.2.nodeEligible (8704 + j) (s.txDone j).instant.1) = false) :
    s.lpiEnter j = ((s.txDone j).instant.2.modEth j fun x => { x with lpiTx := true }).bumpEth j 24 1 := by
  rw [← domOn_of_power (t := (s.txDone j).instant.2) (by simp)] at hidle
  unfold State.lpiEnter
  rw [if_neg (by simp [hup, hen, hl])]
  exact if_neg (Bool.eq_false_iff.1 hidle)

theorem completes_lpiEntry (hs : s.canonical) (hup : (ethPort s e.toNat).state = .up)
    (hen : s.cfgB (ethAddr e.toNat 6) 0 = true) (hl : (ethPort s e.toNat).lpiTx = false)
    (hidle : (s.domOn 6 &&
      (s.txDone e.toNat).instant.2.nodeEligible (8704 + e.toNat) (s.txDone e.toNat).instant.1) = false) :
    Completes (.lpiEntry e) s fun t =>
    (ethPort t e.toNat).lpiTx = true ∧ t.ctr (ethRc e.toNat 24) = s.ctr (ethRc e.toNat 24) + 1 ∧
    SameBut [.ethernet, .counters, .contacts] s t := by
  refine .of_eq (lpiEnter_eq hup hen hl hidle) ?_
  have hsent : AtPort [.ethernet, .counters, .contacts] e s (s.txDone e.toNat).instant.2 := (AtPort.refl s).txDone.instant
  obtain ⟨hcount, hzones⟩ := (hsent.modEth (f := fun x => { x with lpiTx := true })).counted (k := 24) (n := 1) (keys_sorted hs.counters)
  refine ⟨?_, congrArg Prod.fst hcount, hzones⟩
  rw [ethPort_of_eth (bumpEth_eth ..), ethPort_modEth (hsent.ports hs.ports)]

theorem lpiReceive_eq {j : Nat} {v : Bool} (hup : (ethPort s j).state = .up) (hen : s.cfgB (ethAddr j 6) 0 = true)
    (hv : (ethPort s j).lpiRx ≠ v) :
    s.lpiReceive j v = (s.modEth j fun x => { x with lpiRx := v }).bumpEth j 25 (b2n v) := by
  unfold State.lpiReceive
  exact if_neg (by simp [hup, hen, hv])

theorem completes_receiveLpiChange {v : Bool} (hs : s.canonical) (hup : (ethPort s e.toNat).state = .up)
    (hen : s.cfgB (ethAddr e.toNat 6) 0 = true) (hv : (ethPort s e.toNat).lpiRx ≠ v) :
    Completes (.receiveLpiChange e v) s fun t =>
    (ethPort t e.toNat).lpiRx = v ∧ (v = true → t.ctr (ethRc e.toNat 25) = s.ctr (ethRc e.toNat 25) + 1) ∧
    SameBut [.ethernet, .counters] s t := by
  refine .of_eq (lpiReceive_eq hup hen hv) ?_
  have hmod : AtPort [.ethernet, .counters] e s (s.modEth e.toNat fun x => { x with lpiRx := v }) := (AtPort.refl s).modEth
  obtain ⟨hcount, hzones⟩ := hmod.counted (k := 25) (n := b2n v) (keys_sorted hs.counters)
  refine ⟨?_, ?_, hzones⟩
  · rw [ethPort_of_eth (bumpEth_eth ..), ethPort_modEth hs.ports]
  · rintro rfl
    exact congrArg Prod.fst hcount

theorem completes_lpiExit (hs : s.canonical) (hl : (ethPort s e.toNat).lpiTx = true) :
    Completes (.lpiExit e) s fun t => (ethPort t e.toNat).lpiTx = false ∧ SameBut [.ethernet] s t := by
  have he : s.lpiLeave e.toNat = s.modEth e.toNat fun x => { x with lpiTx := false } := if_pos hl
  exact .of_eq he ⟨by rw [ethPort_modEth hs.ports], (AtPort.refl s).modEth.zones⟩

/-! ### An LLDPDU of the partner (R343) -/

theorem completes_lldpduReceived (hs : s.canonical) (hup : (ethPort s e.toNat).state = .up)
    (hen : s.cfgB (ethAddr e.toNat 6) 1 = true) (tw : BitVec 16) : Completes (.lldpduReceived e tw) s fun t =>
    (ethPort t e.toNat).partnerTw = tw ∧ ((ethPort t e.toNat).txTw, (ethPort t e.toNat).rxTw) = t.wakeTimes e.toNat ∧
    SameBut [.ethernet] s t := by
  have he : s.lldpIn e.toNat tw = (s.modEth e.toNat fun x => { x with partnerTw := tw }).eeeResolve e.toNat :=
    if_pos (by simp [hup, hen])
  refine .of_eq he ?_
  have hmod : AtPort [.ethernet] e s (s.modEth e.toNat fun x => { x with partnerTw := tw }) := (AtPort.refl s).modEth
  have hpartner : (ethPort (s.modEth e.toNat fun x => { x with partnerTw := tw }) e.toNat).partnerTw = tw := by
    rw [ethPort_modEth hs.ports]
  generalize s.modEth e.toNat _ = u at hmod hpartner ⊢
  have hport := ethPort_eeeResolve (hmod.ports hs.ports) e.toNat
  have htimes : (u.eeeResolve e.toNat).wakeTimes e.toNat = u.wakeTimes e.toNat :=
    wakeTimes_congr (State.eeeResolve_words ..) (by rw [hport]) (by rw [hport])
  refine ⟨by rw [hport, hpartner], ?_, hmod.eeeResolve.zones⟩
  rw [htimes, hport]

/-! ### An LLDPDU of the agent (R335, R343) -/

theorem length_padded (b : List Byte) : (padded b).length + 4 = maxN 64 (b.length + 4) := by
  rw [padded, List.length_append, List.length_replicate, maxN]
  split <;> omega

section
variable {j : Nat} {b : List Byte} (hp : s.cfgB (ethAddr j 0x40) 0 = false) (hsp : s.spoilt 5 (4 + j) = false)
include hp hsp

/-- The MAC sends an unprotected frame that is no longer than the port's largest, and counts a longer one. -/
theorem macSend_eq (now : BitVec 64) : s.macSend j b now =
    if maxN 64 (b.length + 4) ≤ s.cfgF (ethAddr j 3) 0 14 then
      ((s.txDone j).modEth j fun x => { x with txFrame := some (padded b), lpiTx := false }).stampEth j false b
        ((s.txDone j).timeAt now)
    else (s.txDone j).bumpEth j 22 1 := by
  have hcfg (a : Nat) : (s.txDone j).cfg a = s.cfg a := cfg_of_words (by simp) a
  have hp' : (s.txDone j).cfgB (ethAddr j 0x40) 0 = false := by rw [State.cfgB, hcfg, ← State.cfgB, hp]
  have hsp' : (s.txDone j).spoilt 5 (4 + j) = false := by simpa [State.spoilt] using hsp
  have hlong : (padded b).length + 0 + 4 > (s.txDone j).cfgF (ethAddr j 3) 0 14 ↔
      ¬ maxN 64 (b.length + 4) ≤ s.cfgF (ethAddr j 3) 0 14 := by
    rw [State.cfgF, hcfg, ← State.cfgF, Nat.add_zero, length_padded, Nat.not_le]
  simp only [State.macSend, hsp', macsecExpansion, State.secTx, hp', Bool.false_and, Bool.not_false, Bool.true_or, if_true,
    Bool.false_eq_true, if_false, hlong, ite_not]
end

theorem stampEth_eth (s : State) (e : BitVec 2) (rx : Bool) (b : List Byte) (raw : BitVec 96) :
    (s.stampEth e.toNat rx b raw).eth = s.eth :=
  ((AtPort.refl (l := [.time, .counters]) s).stampEth (e := e)).zones .ethernet (by decide)

/-- The agent's LLDPDU (R343). -/
def State.agentLldpdu (s : State) (j : Nat) : List Byte :=
  lldpdu (leBytes 6 ((s.cfg (ethAddr j 0x10)).toNat + 2 ^ 32 * s.cfgF (ethAddr j 0x11) 0 16)) j (ethPort s j).txTw
    (ethPort s j).rxTw (ethPort s j).partnerTw

/-- No LLDPDU waits any more for a hold of the port, at the moment at which one goes. -/
def State.lldpGoes (s : State) (j : Nat) : State := (s.modEth j fun x => { x with lldpDue := false }).instant.2

theorem lldpSend_eq {j : Nat} (hup : (ethPort s j).state = .up) (hen : s.cfgB (ethAddr j 6) 1 = true)
    (hfree : (ethPort s j).paused = false) : ∃ now, s.lldpSend j = (s.lldpGoes j).macSend j (s.agentLldpdu j) now := by
  unfold State.lldpSend
  extract_lets x mac
  rw [if_neg (by simp [x, hup, hen]), if_neg (by simp [x, hfree])]
  exact ⟨_, rfl⟩

theorem completes_lldpTransmit (hs : s.canonical) (hup : (ethPort s e.toNat).state = .up)
    (hen : s.cfgB (ethAddr e.toNat 6) 1 = true) (hfree : (ethPort s e.toNat).paused = false)
    (hp : s.cfgB (ethAddr e.toNat 0x40) 0 = false) (hsp : s.spoilt 5 (4 + e.toNat) = false) :
    Completes (.lldpTransmit e) s fun t =>
    (maxN 64 ((s.agentLldpdu e.toNat).length + 4) ≤ s.cfgF (ethAddr e.toNat 3) 0 14 →
      (ethPort t e.toNat).txFrame = some (padded (s.agentLldpdu e.toNat)) ∧ (ethPort t e.toNat).lpiTx = false) ∧
    (ethPort t e.toNat).lldpDue = false ∧ SameBut [.ethernet, .counters, .time, .contacts] s t := by
  obtain ⟨now, he⟩ := lldpSend_eq hup hen hfree
  refine .of_eq (he.trans (macSend_eq (s := s.lldpGoes e.toNat) hp hsp now)) ?_
  have hgoes : AtPort [.ethernet, .counters, .time, .contacts] e s (s.lldpGoes e.toNat) := (AtPort.refl s).modEth.instant
  have hdue : (ethPort (s.lldpGoes e.toNat) e.toNat).lldpDue = false := by
    rw [State.lldpGoes, ethPort_of_eth (State.instant_eth _), ethPort_modEth hs.ports]
  have hsent := hgoes.txDone
  obtain ⟨r, hr⟩ := ethPort_txDone (hgoes.ports hs.ports) e.toNat
  have hmax : (s.lldpGoes e.toNat).cfgF (ethAddr e.toNat 3) 0 14 = s.cfgF (ethAddr e.toNat 3) 0 14 := rfl
  rw [hmax]
  split
  next hfits =>
    rw [ethPort_of_eth (stampEth_eth ..), ethPort_modEth (hsent.ports hs.ports), hr]
    exact ⟨fun _ => ⟨rfl, rfl⟩, hdue, hsent.modEth.stampEth.zones⟩
  next hlong =>
    rw [ethPort_of_eth (bumpEth_eth ..), hr]
    exact ⟨fun hfits => absurd hfits hlong, hdue, hsent.bumpEth.zones⟩

theorem completes_lldpTransmit_held (hs : s.canonical) (hup : (ethPort s e.toNat).state = .up)
    (hen : s.cfgB (ethAddr e.toNat 6) 1 = true) (hheld : (ethPort s e.toNat).paused = true) :
    Completes (.lldpTransmit e) s fun t =>
    ethPort t e.toNat = { ethPort s e.toNat with lldpDue := true } ∧ SameBut [.ethernet] s t := by
  have he : s.lldpSend e.toNat = s.modEth e.toNat fun x => { x with lldpDue := true } :=
    (if_neg (by simp [hup, hen])).trans (if_pos hheld)
  exact .of_eq he ⟨ethPort_modEth hs.ports _ _, (AtPort.refl s).modEth.zones⟩

/-- Settles O35, a row at a time. -/
theorem idleAndLldp : Obligations.IdleAndLldp := fun _ _ hs hup =>
  ⟨fun hen => ⟨completes_lpiEntry hs hup hen, fun _ => completes_receiveLpiChange hs hup hen⟩, completes_lpiExit hs,
    fun hen => ⟨completes_lldpduReceived hs hup hen,
      fun _ hd hfree hp hsp => hd ▸ completes_lldpTransmit hs hup hen hfree hp hsp,
      completes_lldpTransmit_held hs hup hen⟩⟩

end Sys2Proof.Machine
end

section
/-! Frames that a port receives (O33). A frame passes the checks of the MAC one by one, each with an equation for the frames
that it ends; one whose length and FCS are good is counted and time-stamped first (`State.taken`), and what is done with it
then leaves that count alone. A frame for the classifier takes its cells from P0. -/

namespace Sys2Proof.Machine
set_option Elab.async false
variable {s t u : State} {e : BitVec 2} {b : List Byte} {count : BitVec 64} {good : Bool} {l : List Zone} {n : Nat}

/-! ### Counts of a port -/

/-- Counter k of a port and its accumulation have counted one. -/
def Counted (e k : Nat) (s t : State) : Prop :=
  t.ctr (ethRc e k) = s.ctr (ethRc e k) + 1 ∧ t.ctr (ethAcc e k) = s.ctr (ethAcc e k) + 1

theorem counted_iff {e k : Nat} :
    Counted e k s t ↔ t.ethCounts e k = ((s.ethCounts e k).1 + BitVec.ofNat 64 1, (s.ethCounts e k).2 + BitVec.ofNat 64 1) :=
  ⟨fun h => Prod.ext h.1 h.2, fun h => ⟨congrArg Prod.fst h, congrArg Prod.snd h⟩⟩

/-- A frame that is counted at once. -/
theorem AtPort.countedOne {k : Nat} (h : AtPort l e s t) (hs : s.canonical) (hk : k ∈ followed := by decide)
    (hl : .counters ∈ l := by decide) : Counted e.toNat k s (t.bumpEth e.toNat k 1) ∧ SameBut l s (t.bumpEth e.toNat k 1) := by
  obtain ⟨hcount, hzones⟩ := h.counted (n := 1) (keys_sorted hs.counters) hk hl
  exact ⟨counted_iff.2 hcount, hzones⟩

/-- `s` with one more frame received with a good FCS. -/
def State.received (s : State) (e : Nat) : State := s.bumpEth e 0 1

theorem received_counted (hs : s.canonical) (e : Nat) : Counted e 0 s (s.received e) :=
  counted_iff.2 (ethCounts_bumpEth (keys_sorted hs.counters) e (by decide) 1)

theorem sameBut_received (s : State) (e : Nat) (hl : .counters ∈ l := by decide) : SameBut l s (s.received e) :=
  ((Frame.refl (m := [.aborted]) s).bumpEth hl).zones

/-- What a port does with a frame past its count leaves the count alone. -/
theorem AtPort.took (h : AtPort l e (s.received e.toNat) t) (hs : s.canonical) (hl : .counters ∈ l := by decide) :
    Counted e.toNat 0 s t ∧ SameBut l s t := by
  refine ⟨counted_iff.2 ?_, (sameBut_received s _ hl).trans h.zones⟩
  rw [h.counts 0 (by decide)]
  exact counted_iff.1 (received_counted hs _)

/-- The same, where it ends at another count. -/
theorem AtPort.tookOne {k : Nat} (h : AtPort l e (s.received e.toNat) t) (hs : s.canonical) (hk : k ∈ followed := by decide)
    (h0 : k ≠ 0 := by decide) (hl : .counters ∈ l := by decide) :
    Counted e.toNat 0 s (t.bumpEth e.toNat k 1) ∧ Counted e.toNat k s (t.bumpEth e.toNat k 1) ∧
    SameBut l s (t.bumpEth e.toNat k 1) := by
  have hlt := lt_of_followed hk
  obtain ⟨hzero, -⟩ := h.took hs hl
  obtain ⟨hcount, hzones⟩ := h.counted (n := 1) (pairwise_keys_mput (pairwise_keys_mput (keys_sorted hs.counters))) hk hl
  refine ⟨counted_iff.2 ?_, counted_iff.2 (hcount.trans ?_), (sameBut_received s _ hl).trans hzones⟩
  · rw [ethCounts_bumpEth_other _ hlt (by decide) h0.symm]
    exact counted_iff.1 hzero
  · rw [State.received, ethCounts_bumpEth_other _ (by decide) hlt h0]

/-! ### The checks of the MAC (R335, R336) -/

theorem sizeCounter_unfollowed (n : Nat) : sizeCounter n < 512 ∧ sizeCounter n ∉ followed := by
  unfold sizeCounter
  split_ifs <;> decide

theorem AtPort.countRx (h : AtPort l e u (s.received e.toNat)) (hl : .counters ∈ l := by decide) :
    AtPort l e u (s.countRx e.toNat n b) := by
  have h1 := h.bumpEth (k := 1) (n := n) hl
  have h2 := (h1.bumpEth (k := 2) (n := 1) hl).ite h1 (b := isBcast b = true)
  exact (((h2.bumpEth (k := 3) (n := 1) hl).ite h2 (b := isMcast b = true))).bumpEth hl (sizeCounter_unfollowed n)

/-- A frame whose length and FCS are good has been counted and time-stamped. -/
def State.taken (s : State) (e : Nat) (b : List Byte) (count : BitVec 64) : State :=
  (s.countRx e (b.length + 4) b).stampEth e true b (s.timeAt count)

theorem taken_atPort (s : State) (e : BitVec 2) (b : List Byte) (count : BitVec 64) :
    AtPort [.counters, .time] e (s.received e.toNat) (s.taken e.toNat b count) := (AtPort.refl _).countRx.stampEth

theorem ethFrame_up (hup : (ethPort s e.toNat).state = .up) :
    s.ethFrame e.toNat b good count = s.ethTake e.toNat b good count := if_neg (not_not.2 hup)

section
variable {j : Nat} (hsp : s.spoilt 5 j = false)
include hsp

theorem ethTake_short (h : b.length + 4 < 64) : s.ethTake j b good count = s.bumpEth j 5 1 :=
  (if_neg (by simp [hsp])).trans (if_pos h)

theorem ethTake_long (hmin : 64 ≤ b.length + 4) (h : s.cfgF (ethAddr j 3) 0 14 < b.length + 4) :
    s.ethTake j b good count = s.bumpEth j 6 1 :=
  (if_neg (by simp [hsp])).trans ((if_neg (Nat.not_lt.2 hmin)).trans (if_pos h))

theorem ethTake_badFcs (hmin : 64 ≤ b.length + 4) (hmax : b.length + 4 ≤ s.cfgF (ethAddr j 3) 0 14) :
    s.ethTake j b false count = s.bumpEth j 4 1 :=
  (if_neg (by simp [hsp])).trans ((if_neg (Nat.not_lt.2 hmin)).trans ((if_neg (Nat.not_lt.2 hmax)).trans (if_pos rfl)))

theorem ethTake_good (hmin : 64 ≤ b.length + 4) (hmax : b.length + 4 ≤ s.cfgF (ethAddr j 3) 0 14) :
    s.ethTake j b true count = (s.taken j b count).ethAccept j b :=
  (if_neg (by simp [hsp])).trans ((if_neg (Nat.not_lt.2 hmin)).trans ((if_neg (Nat.not_lt.2 hmax)).trans
    (if_neg (by decide))))

end

theorem completes_frame_notUp (h : (ethPort s e.toNat).state ≠ .up) :
    Completes (.ethFrameReceived e b good count) s fun t => t = s := .of_eq (if_pos h) rfl

theorem completes_frame_spoilt (hs : s.canonical) (hup : (ethPort s e.toNat).state = .up) (hsp : s.spoilt 5 e.toNat = true) :
    Completes (.ethFrameReceived e b good count) s fun t =>
    Counted e.toNat 4 s t ∧ t.tick.transit = s.tick.transit.erase (5, e.toNat) ∧ SameBut [.counters, .tick] s t := by
  refine .of_eq ((ethFrame_up hup).trans (if_pos hsp)) ?_
  obtain ⟨hcount, hzones⟩ := ((AtPort.refl (l := [.counters, .tick]) s).unspoil (g := 5) (k := e.toNat)).countedOne (k := 4) hs
  exact ⟨hcount, rfl, hzones⟩

theorem completes_frame_short (hs : s.canonical) (hup : (ethPort s e.toNat).state = .up) (hsp : s.spoilt 5 e.toNat = false)
    (h : b.length + 4 < 64) : Completes (.ethFrameReceived e b good count) s fun t =>
    Counted e.toNat 5 s t ∧ SameBut [.counters] s t :=
  .of_eq ((ethFrame_up hup).trans (ethTake_short hsp h)) ((AtPort.refl s).countedOne hs)

theorem completes_frame_long (hs : s.canonical) (hup : (ethPort s e.toNat).state = .up) (hsp : s.spoilt 5 e.toNat = false)
    (hmin : 64 ≤ b.length + 4) (h : s.cfgF (ethAddr e.toNat 3) 0 14 < b.length + 4) :
    Completes (.ethFrameReceived e b good count) s fun t => Counted e.toNat 6 s t ∧ SameBut [.counters] s t :=
  .of_eq ((ethFrame_up hup).trans (ethTake_long hsp hmin h)) ((AtPort.refl s).countedOne hs)

/-- A frame that a port takes whole: the port is UP, no fault has spoilt the frame, and its length is good. -/
structure Arrives (s : State) (e : BitVec 2) (b : List Byte) : Prop where
  up : (ethPort s e.toNat).state = .up
  unspoilt : s.spoilt 5 e.toNat = false
  long : 64 ≤ b.length + 4
  short : b.length + 4 ≤ s.cfgF (ethAddr e.toNat 3) 0 14

theorem completes_frame_badFcs (h : Arrives s e b) (hs : s.canonical) :
    Completes (.ethFrameReceived e b false count) s fun t => Counted e.toNat 4 s t ∧ SameBut [.counters] s t :=
  .of_eq ((ethFrame_up h.up).trans (ethTake_badFcs h.unspoilt h.long h.short)) ((AtPort.refl s).countedOne hs)

theorem Arrives.frame_eq (h : Arrives s e b) :
    s.ethFrame e.toNat b true count = (s.taken e.toNat b count).ethAccept e.toNat b :=
  (ethFrame_up h.up).trans (ethTake_good h.unspoilt h.long h.short)

/-! ### Frames that go no further (R336 to R338, R345) -/

theorem ethPasses_congr {j : Nat} (hw : t.words = s.words) : t.ethPasses j b = s.ethPasses j b := by
  simp only [State.ethPasses, State.cfgF, State.cfgB, cfg_of_words hw]
  rfl

theorem taken_words (s : State) (e : BitVec 2) (b : List Byte) (count : BitVec 64) :
    (s.taken e.toNat b count).words = s.words := (taken_atPort s e b count).zones .words (by decide)

theorem taken_cls (s : State) (e : BitVec 2) (b : List Byte) (count : BitVec 64) : (s.taken e.toNat b count).cls = s.cls :=
  (taken_atPort s e b count).zones .classifier (by decide)

theorem taken_eth (s : State) (e : BitVec 2) (b : List Byte) (count : BitVec 64) : (s.taken e.toNat b count).eth = s.eth :=
  (taken_atPort s e b count).zones .ethernet (by decide)

theorem taken_passes (s : State) (e : BitVec 2) (b : List Byte) (count : BitVec 64) :
    (s.taken e.toNat b count).ethPasses e.toNat b = s.ethPasses e.toNat b := ethPasses_congr (taken_words ..)

theorem taken_cfgB (s : State) (e : BitVec 2) (b : List Byte) (count : BitVec 64) (a i : Nat) :
    (s.taken e.toNat b count).cfgB a i = s.cfgB a i := by rw [State.cfgB, cfg_of_words (taken_words ..), State.cfgB]

theorem completes_frame_filtered (h : Arrives s e b) (hs : s.canonical) (hpass : s.ethPasses e.toNat b = false) :
    Completes (.ethFrameReceived e b true count) s fun t =>
    Counted e.toNat 0 s t ∧ Counted e.toNat 7 s t ∧ t.cls.ingress = s.cls.ingress ∧ SameBut [.counters, .time] s t := by
  refine .of_eq (h.frame_eq.trans (if_pos (by simp [taken_passes, hpass]))) ?_
  obtain ⟨hzero, hcount, hzones⟩ := (taken_atPort s e b count).tookOne (k := 7) hs
  exact ⟨hzero, hcount, congrArg ClassSt.ingress (hzones .classifier (by decide)), hzones⟩

/-- A MAC control frame that is neither PAUSE nor PFC does nothing. -/
theorem macControl_other {j : Nat} (h1 : beNat (slice b 14 2) ≠ 0x0001) (h2 : beNat (slice b 14 2) ≠ 0x0101) :
    s.macControl j b = s := by
  unfold State.macControl
  split
  next h => exact absurd h h1
  next h => exact absurd h h2
  next => rfl

theorem completes_frame_control (h : Arrives s e b) (hs : s.canonical) (hpass : s.ethPasses e.toNat b = true)
    (hmac : isMacControl b = true) (h1 : beNat (slice b 14 2) ≠ 0x0001) (h2 : beNat (slice b 14 2) ≠ 0x0101) :
    Completes (.ethFrameReceived e b true count) s fun t =>
    Counted e.toNat 0 s t ∧ t.cls.ingress = s.cls.ingress ∧ SameBut [.counters, .time] s t := by
  have haccept : (s.taken e.toNat b count).ethAccept e.toNat b = s.taken e.toNat b count :=
    (if_neg (by simp [taken_passes, hpass])).trans ((if_pos hmac).trans (macControl_other h1 h2))
  refine .of_eq (h.frame_eq.trans haccept) ?_
  obtain ⟨hzero, hzones⟩ := (taken_atPort s e b count).took hs
  exact ⟨hzero, congrArg ClassSt.ingress (hzones .classifier (by decide)), hzones⟩

theorem completes_frame_required (h : Arrives s e b) (hs : s.canonical) (hpass : s.ethPasses e.toNat b = true)
    (hmac : isMacControl b = false) (hreq : s.cfgB (ethAddr e.toNat 0x40) 1 = true) (htag : hasSecTag b = false)
    (heap : isEapol b = false) : Completes (.ethFrameReceived e b true count) s fun t =>
    Counted e.toNat 0 s t ∧ Counted e.toNat 34 s t ∧ t.cls.ingress = s.cls.ingress ∧ SameBut [.counters, .time] s t := by
  have haccept : (s.taken e.toNat b count).ethAccept e.toNat b = (s.taken e.toNat b count).bumpEth e.toNat 34 1 :=
    (if_neg (by simp [taken_passes, hpass])).trans ((if_neg (by simp [hmac])).trans
      (if_pos (by simp [taken_cfgB, hreq, htag, heap])))
  refine .of_eq (h.frame_eq.trans haccept) ?_
  obtain ⟨hzero, hcount, hzones⟩ := (taken_atPort s e b count).tookOne (k := 34) hs
  exact ⟨hzero, hcount, congrArg ClassSt.ingress (hzones .classifier (by decide)), hzones⟩


/-! ### Cells of P0 for a frame (R286) -/

/-- A part that is the same need not stand among those that may differ. -/
theorem SameBut.drop {l' : List Zone} {z : Zone} (h : SameBut l' s t) (hz : z.same s t) (hl : ∀ p ∈ l', p = z ∨ p ∈ l) :
    SameBut l s t := fun p hp => by
  by_cases hpz : p = z
  · exact hpz ▸ hz
  · exact h p fun hmem => (hl p hmem).elim hpz hp

/-- Only P8's free cells are BURIN's. -/
theorem poolChanged_burin {p : Nat} (h : p ≠ 8) : (s.poolChanged p).burin = s.burin := by
  simp [State.poolChanged, State.poolGuards, h]

theorem grantCell_burin {b : Bool} {p : Nat} {cls : BitVec 6} (h7 : p ≠ 7) (h8 : p ≠ 8) (hs : s.poolServes p = true)
    (hf : s.freeCells p ≠ 0) : (s.grantCell p cls b).2.burin = s.burin := by
  rw [grantCell_eq h7 hs hf, poolChanged_burin h8]
  rfl

theorem grantCell_pool {b : Bool} {p : Nat} {cls : BitVec 6} (hpools : SMap.wf Pool.none s.bpm.pools = true) (h7 : p ≠ 7)
    (hs : s.poolServes p = true) (hf : s.freeCells p ≠ 0) : ∃ k c water empty low, (s.grantCell p cls b).2.pool p =
      { s.pool p with cells := mput Cell.free (s.pool p).cells k c, lowWater := water, emptyRun := empty, lowRun := low } := by
  rw [grantCell_eq h7 hs hf]
  obtain ⟨w, e, l, hb⟩ := poolChanged_bpm ((s.cellTaken p cls).bump (poolCtr p 0) 1) p
  have htaken : ((s.cellTaken p cls).bump (poolCtr p 0) 1).pool p = (s.cellTaken p cls).pool p := rfl
  refine ⟨(s.pickCell p).1, { state := 1, owner := cls, refs := 0 }, w, e, l, ?_⟩
  rw [pool_of_bpm hb, pool_setPool_same (mput_wf _ _ hpools), htaken, State.cellTaken, State.setCell,
    pool_setPool_same (s := s.fresh.2) hpools]
  rfl

/-- P0 serves, carries no request and has `n` cells to give. -/
structure Gives (s : State) (n : Nat) : Prop where
  pools : SMap.wf Pool.none s.bpm.pools = true
  cells : SMap.wf Cell.free (s.pool 0).cells = true
  serves : s.poolServes 0 = true
  carried : (s.pool 0).carried = []
  free : n ≤ s.freeCells 0

theorem Gives.congr (h : Gives s n) (hb : t.bpm = s.bpm) (hp : t.power = s.power) : Gives t n := by
  have hpool := pool_of_bpm hb 0
  refine ⟨hb ▸ h.pools, hpool ▸ h.cells, (poolServes_congr hp hpool).trans h.serves, hpool ▸ h.carried, ?_⟩
  rw [freeCells_of_pool hpool]
  exact h.free

/-- The parts that a frame's cells may change. -/
def cellZones : List Zone := [.queues, .pools, .counters]

theorem Gives.takeCell {cls : BitVec 6} (h : Gives s (n + 1)) :
    ∃ k v, s.takeCell 0 cls false = (some k, v) ∧ Gives v n ∧ AtPort cellZones e s v := by
  have hf : s.freeCells 0 ≠ 0 := by have := h.free; omega
  obtain ⟨k, v, htake, hv⟩ := takeCell_granted (cls := cls) (b := false) (by decide) (by decide) h.serves hf h.carried
  have hup : s.poolCatchUp 0 = s := by simp [State.poolCatchUp, h.carried, State.serveCarried]
  have hgrant : (s.grantCell 0 cls false).2 = v := by
    rw [State.takeCell, hup] at htake
    exact congrArg Prod.snd htake
  have hpower : v.power = s.power := hgrant ▸ (CellsOnly.refl s).grantCell.2
  obtain ⟨c, x, w, em, lo, hpool⟩ := hgrant ▸ grantCell_pool (cls := cls) (b := false) h.pools (by decide) h.serves hf
  refine ⟨k, v, htake, ⟨?_, ?_, ?_, ?_, ?_⟩, ?_⟩
  · rw [← hgrant, grantCell_eq (by decide) h.serves hf]
    exact poolChanged_wf (mput_wf _ _ h.pools) 0
  · rw [hpool]
    exact mput_wf _ _ h.cells
  · rw [← h.serves]
    simp only [State.poolServes, hpool, domOn_of_power hpower]
  · rw [hpool]
    exact h.carried
  · have hfree := cellTaken_freeCells (cls := cls) h.pools h.cells hf
    have hjudged : v.freeCells 0 = (s.cellTaken 0 cls).freeCells 0 := by
      rw [← hgrant, grantCell_eq (by decide) h.serves hf]
      exact poolChanged_freeCells (mput_wf _ _ h.pools) 0
    have := h.free
    omega
  · refine ⟨hv.zones.drop (z := .bursts) (hgrant ▸ grantCell_burin (by decide) (by decide) h.serves hf) (by decide), hpower, fun j hj => ?_,
      fun hs => (hv.zones .ethernet (by decide)) ▸ hs, hv.sorted⟩
    obtain ⟨hr, ha⟩ := ethRc_block e (lt_of_followed hj)
    exact Prod.ext (hv.counts _ (sideCount_of_block hr) (by omega)) (hv.counts _ (sideCount_of_block ha) (by omega))

theorem Gives.takeChain {cls : BitVec 6} {got : List (Nat × Nat)} (h : Gives s n) :
    ∃ cs v, State.takeChain 0 cls n got s = (some cs, v) ∧ cs.length = got.length + n ∧ AtPort cellZones e s v := by
  induction n generalizing s got with
  | zero => exact ⟨_, _, rfl, by simp, .refl s⟩
  | succ n ih =>
    obtain ⟨k, u, htake, hu, hsu⟩ := h.takeCell (e := e) (cls := cls)
    obtain ⟨cs, v, hchain, hlen, huv⟩ := ih (got := (0, k) :: got) hu
    refine ⟨cs, v, ?_, ?_, hsu.trans huv⟩
    · rw [State.takeChain, htake]
      exact hchain
    · rw [hlen, List.length_cons]
      omega

/-- A frame within its limit gets its chain. -/
theorem Gives.buildChain {cls : BitVec 6} {limit : Nat} (h : Gives s n) (hn : n ≤ limit) :
    ∃ cs v, State.buildChain 0 cls limit n [] s = (some cs, v) ∧ cs.length = n ∧ AtPort cellZones e s v := by
  obtain ⟨cs, v, hchain, hlen, hv⟩ := h.takeChain (e := e) (cls := cls) (got := [])
  have hmin : minN n limit - ([] : List (Nat × Nat)).length = n := by
    rw [minN, List.length_nil]
    split <;> omega
  refine ⟨cs, v, ?_, by simpa using hlen, hv⟩
  rw [State.buildChain, hmin, hchain]
  exact if_neg (Nat.not_lt.2 hn)

/-! ### A frame queued for its first pass (R337, R340) -/

theorem AtPort.sendPause {q : Nat} (h : AtPort l e s t) (hl : ∀ p ∈ leaveZones, p ∈ l := by decide) :
    AtPort l e s (t.sendPause e.toNat q) :=
  ((h.txDone hl).modEth (hl _ (by decide))).bumpEth (hl _ (by decide)) (by split <;> decide) |>.emit (hl _ (by decide))

theorem AtPort.fcCheck (h : AtPort l e s t) (hl : ∀ p ∈ leaveZones, p ∈ l := by decide) :
    AtPort l e s (t.fcCheck e.toNat) := by
  have heth := hl .ethernet (by decide)
  have h1 : AtPort l e s (if t.cfgB (ethAddr e.toNat 4) 2 && t.cfgF (ethAddr e.toNat 4) 0 2 ≠ 0 then t
      else t.modEth e.toNat fun x => { x with xoffSent := false }) := h.ite (h.modEth heth)
  exact h1.ite (((h1.modEth heth).sendPause hl).ite (((h1.modEth heth).sendPause hl).ite h1))

theorem fcCheck_cls (s : State) (e : BitVec 2) : (s.fcCheck e.toNat).cls = s.cls :=
  ((AtPort.refl (l := AtPort.leaveZones) (e := e) s).fcCheck).zones .classifier (by decide)

/-- A frame from port e waits for its first pass, behind those that waited. -/
def Queued (e : BitVec 2) (b : List Byte) (s t : State) : Prop :=
  ∃ pk : Packet, t.cls.ingress = s.cls.ingress ++ [pk] ∧ pk.bytes = b ∧ pk.kind = 3 ∧ pk.index.toNat = e.toNat ∧
    pk.cells.length = (b.length + 2047) / 2048

/-- A frame of port e with its cells. -/
def ethPacket (e : BitVec 2) (b : List Byte) (cells : List (Nat × Nat)) : Packet :=
  { kind := 3, index := BitVec.ofNat 9 e.toNat, xgemPort := 0, colour := 0, bytes := b, cells, creditCh := none, flow := none }

/-- The parts that a frame's queueing may change. -/
def queueZones : List Zone := [.ethernet, .classifier, .queues, .pools, .counters, .time, .contacts]

theorem cfgF_modEth (s : State) (j a i w : Nat) (f : EthPort → EthPort) : (s.modEth j f).cfgF a i w = s.cfgF a i w := rfl

theorem ethQueue_queued (hw : s.ethWaiting e.toNat + b.length ≤ 262144)
    (hlimit : (b.length + 2047) / 2048 ≤ s.cfgF (addrOf 0x40 0) 0 4) (hg : Gives s ((b.length + 2047) / 2048)) :
    Queued e b s (s.ethQueue e.toNat b) ∧ AtPort queueZones e s (s.ethQueue e.toNat b) := by
  have h0 := (AtPort.refl (l := queueZones) (e := e) s).modEth (f := fun x => { x with overflowRun := false })
  obtain ⟨cs, v, hchain, hlen, hv⟩ := (hg.congr (t := s.modEth e.toNat fun x => { x with overflowRun := false }) rfl rfl).buildChain
    (e := e) (cls := 0x04) hlimit
  have hsv := h0.trans (hv.mono (by decide))
  have hcls : v.cls = s.cls := hv.zones .classifier (by decide)
  have heq : s.ethQueue e.toNat b = (v.modCls fun x => { x with ingress := x.ingress ++ [ethPacket e b cs] }).fcCheck e.toNat := by
    rw [State.ethQueue, if_neg (Nat.not_lt.2 hw)]
    dsimp only
    rw [cfgF_modEth, hchain]
    rfl
  rw [heq]
  refine ⟨⟨ethPacket e b cs, ?_, rfl, rfl, ?_, hlen⟩, (hsv.modCls).fcCheck⟩
  · rw [fcCheck_cls, State.modCls, hcls]
  · exact Nat.mod_eq_of_lt (e.isLt.trans (by decide))

theorem ethWaiting_of_cls (h : t.cls = s.cls) (j : Nat) : t.ethWaiting j = s.ethWaiting j := by
  rw [State.ethWaiting, h, State.ethWaiting]

theorem completes_frame_queued (h : Arrives s e b) (hs : s.canonical) (hpass : s.ethPasses e.toNat b = true)
    (hmac : isMacControl b = false)
    (hreq : s.cfgB (ethAddr e.toNat 0x40) 1 = false ∨ hasSecTag b = true ∨ isEapol b = true)
    (hlldp : isLldp b = false ∨ s.cfgB (ethAddr e.toNat 6) 1 = false) (hw : s.ethWaiting e.toNat + b.length ≤ 262144)
    (hlimit : (b.length + 2047) / 2048 ≤ s.cfgF (addrOf 0x40 0) 0 4) (hg : Gives s ((b.length + 2047) / 2048)) :
    Completes (.ethFrameReceived e b true count) s fun t => Counted e.toNat 0 s t ∧ Queued e b s t ∧ SameBut queueZones s t := by
  have htaken := taken_atPort s e b count
  have hcls := taken_cls s e b count
  have hup : (ethPort (s.taken e.toNat b count) e.toNat).state = .up := by
    rw [ethPort_of_eth (taken_eth ..)]
    exact h.up
  have hopen : ¬ ((s.taken e.toNat b count).cfgB (ethAddr e.toNat 0x40) 1 && !hasSecTag b && !isEapol b) = true := by
    rw [taken_cfgB]
    obtain h | h | h := hreq <;> simp [h]
  have hdata : ¬ (isLldp b && ((s.taken e.toNat b count).cfgB (ethAddr e.toNat 6) 1 ||
      (ethPort (s.taken e.toNat b count) e.toNat).state = .loop)) = true := by
    rw [taken_cfgB, hup]
    obtain h | h := hlldp <;> simp [h]
  have haccept : (s.taken e.toNat b count).ethAccept e.toNat b = (s.taken e.toNat b count).ethQueue e.toNat b :=
    (if_neg (by simp [taken_passes, hpass])).trans ((if_neg (by simp [hmac])).trans ((if_neg hopen).trans (if_neg hdata)))
  have hgives := hg.congr (t := s.taken e.toNat b count) (htaken.zones .pools (by decide)) htaken.power
  obtain ⟨hqueued, hport⟩ := ethQueue_queued (s := s.taken e.toNat b count) (by rwa [ethWaiting_of_cls hcls])
    (by rwa [State.cfgF, cfg_of_words (taken_words ..)]) hgives
  refine .of_eq (h.frame_eq.trans haccept) ?_
  obtain ⟨hzero, hzones⟩ := ((htaken.mono (by decide)).trans hport).took hs
  rw [Queued, hcls] at hqueued
  exact ⟨hzero, hqueued, hzones⟩

/-- Settles O33, check by check of the MAC. -/
theorem ethernetReceive : Obligations.EthernetReceive := by
  unfold Obligations.EthernetReceive
  intro s e b count hs
  refine ⟨fun good hn => completes_frame_notUp hn, fun hup hsp good => completes_frame_spoilt hs hup hsp, fun hup hsp =>
    ⟨fun good h => completes_frame_short hs hup hsp h, fun good h => completes_frame_long hs hup hsp h, fun hmin hmax => ?_⟩⟩
  have h : Arrives s e b := ⟨hup, hsp, hmin, hmax⟩
  refine ⟨completes_frame_badFcs h hs, completes_frame_filtered h hs, completes_frame_control h hs,
    completes_frame_required h hs, ?_⟩
  intro hpass hmac hreq hlldp hw hlimit hserves hfree hcarried
  exact completes_frame_queued h hs hpass hmac hreq hlldp hw hlimit ⟨hs.pools, hs.cells 0, hserves, hcarried, hfree⟩

end Sys2Proof.Machine
end
